-- ==== Sys2Proof/Word.lean ====
section
/-! DEFINITION. The words of the device and their plainest arithmetic: a register is 32 bits wide unless its
header says 64 (00_scope.md R8), and no counter wraps (R15, R16). -/

namespace Sys2Proof

abbrev Byte := BitVec 8
abbrev Word32 := BitVec 32
abbrev Word64 := BitVec 64

/-- The saturated value of a counter of `w` bits (R15). -/
def satMax (w : Nat) : Nat := 2 ^ w - 1

/-- An event that adds `n` to a counter of `w` bits (R16). -/
def satAdd (w v n : Nat) : Nat := min (v + n) (satMax w)

/-- Bits `lo + len - 1` to `lo` of a number. -/
def bitsOf (x lo len : Nat) : Nat := x / 2 ^ lo % 2 ^ len

/-- Bit `i` of a number. -/
def bitAt (x i : Nat) : Bool := x / 2 ^ i % 2 == 1

/-- 1 for a set flag, 0 for a clear one. -/
def b2n (b : Bool) : Nat := if b then 1 else 0

/-- Two 16-bit halves as one 32-bit value, the high half first (R22). -/
def pair16 (hi lo : Nat) : Nat := hi % 65536 * 65536 + lo % 65536

/-- The number a list of bytes spells, little-endian (R7). -/
def leNat : List Byte → Nat
  | [] => 0
  | b :: bs => b.toNat + 256 * leNat bs

/-- The first `n` little-endian bytes of a number (R7). -/
def leBytes : Nat → Nat → List Byte
  | 0, _ => []
  | n + 1, x => BitVec.ofNat 8 x :: leBytes n (x / 256)

/-- A two's complement field of `w` bits read as an integer. -/
def toSigned (w x : Nat) : Int :=
  if x % 2 ^ w < 2 ^ (w - 1) then (x % 2 ^ w : Nat) else ((x % 2 ^ w : Nat) : Int) - (2 ^ w : Nat)

/-- An integer as a two's complement field of `w` bits. -/
def ofSigned (w : Nat) (i : Int) : Nat := (i % (2 ^ w : Nat)).toNat

end Sys2Proof
end

