-- ==== Sys2Proof/Syntax.lean ====
section
/-! DEFINITION. The commands of the block: one constructor of `Instr` per row of spec/opcode_table.json, with the
operands the outside world supplies (an address, a value, a line's level, what a sensor or a partner delivers). -/

namespace Sys2Proof

/-- Access paths to registers; the Hazel path is seen from either pair (00 R18, R29; 05 R287). -/
inductive Path where
  | pcie | hazelA | hazelB | pip | smbus
  deriving DecidableEq, Repr

/-- The targets of the interrupt controller (05 R287). -/
inductive Target where
  | hazelA | hazelB | pip | host
  deriving DecidableEq, Repr

/-- The rail groups behind EN_MAIN, EN_SRD and EN_DRAM (02 R80). -/
inductive Rail where
  | main | srd | dram
  deriving DecidableEq, Repr

/-- The phase-locked loops (02 R90). -/
inductive Pll where
  | fabric | hazel | core | quad (q : Fin 4) | phy | vtc
  deriving DecidableEq, Repr

/-- What a 10 ms retry asks for again (02 R93, R924; 12 R926, R618). -/
inductive RetryTarget where
  | pll (p : Pll) | stack (n : Fin 2)
  deriving DecidableEq, Repr

/-- The kinds of heavy operation, with the codes of 03 R143. -/
inductive PacKind where
  | fabricPll | hazelPll | corePll | quadPll | phyPll | vtcPll
  | pipeJob | pipeSelftest | laneEnable | dramWake | memSelftest | mramBurst
  deriving DecidableEq, Repr

/-- A requester of the PAC: a kind and an instance (03 R143, R145). -/
structure Requester where
  kind : PacKind
  inst : Nat
  deriving DecidableEq, Repr

/-- A block that a block reset reaches (06 R354; 01 R57; 12 R628). -/
inductive Block where
  | pipe (n : Fin 4) | lane (n : Fin 16) | stack (n : Fin 2) | channel (n : Fin 16)
  | vtc | ptp | scheduler | scrubber | lfs | bankD | dmaEngine
  deriving DecidableEq, Repr

/-- A block whose clock can gate (02 R96). -/
inductive Clocked where
  | pipe (n : Fin 4) | lane (n : Fin 16) | stack (n : Fin 2)
  | fabric | lfs | bankD | dma | scrubber | hazelA | hazelB | vtc | pcie
  deriving DecidableEq, Repr

/-- What can wake the Husk (02 R71, R129). -/
inductive WakeSource where
  | wakeIn | hpEn | smbus | alarm
  deriving DecidableEq, Repr

/-- A mailbox (05 R264). -/
inductive Mailbox where
  | h2d (k : Fin 16) | d2h (k : Fin 16) | hz2pip | pip2hz
  deriving DecidableEq, Repr

/-- The budgeted rails (03 R140). -/
inductive BudgetRail where
  | vcore | vsram | vserdes | vdram
  deriving DecidableEq, Repr

/-- One access to configuration space (04 R209). -/
structure ConfigAccess where
  offset : Nat
  /-- `none` for a read. -/
  write : Option Word32
  deriving DecidableEq, Repr

/-- The status of a completion of an upstream request (04 R228; 12 R651). -/
inductive CplStatus where
  | success | unsupported | abort | poisoned
  deriving DecidableEq, Repr

/-- An SMBus write transaction as it ends (17 R883, R886). -/
inductive Pec where
  | good | bad | missing
  deriving DecidableEq, Repr

/-- What lies under the MAC of a received frame, as the parser of 13 R706 to R708 finds it. -/
inductive L3 where
  /-- ARP, NDP, ICMP, ICMPv6, IGMP, MLD or PTP: for Hazel-B (13 R707). -/
  | hazelB
  /-- Anything that is neither of those nor IP, and IPv6 with an extension header. -/
  | other
  /-- An IP packet with UDP directly in it. -/
  | udp
  deriving DecidableEq, Repr

/-- A received Ethernet frame as the lane delivers it to the MAC (13 R701 to R708; 14 R733, R745). -/
structure EthFrame where
  /-- Length from the destination address through the FCS. -/
  len : Nat
  fcsBad : Bool
  fecBad : Bool
  macControl : Bool
  /-- One 802.1Q tag with TPID 0x8100: its VLAN ID. -/
  vlan : Option Nat
  /-- TPID 0x88A8 or two tags. -/
  doubleTag : Bool
  /-- Addressed to the port, to broadcast or to a multicast address. -/
  accepted : Bool
  l3 : L3
  ipv6 : Bool
  ipCsumBad : Bool
  fragment : Bool
  udpCsumBad : Bool
  /-- The IP destination is the port's own unicast address. -/
  ownUnicast : Bool
  srcAddr : Nat
  dstAddr : Nat
  srcPort : Nat
  dstPort : Nat
  /-- RTP: SSRC, payload type, sequence number, timestamp; `none` for a payload without RTP. -/
  rtp : Option (Nat × Nat × Nat × Nat)
  /-- A transport-stream continuity gap on the video PID in this packet. -/
  tsGap : Bool
  /-- PTP event message on port 319 or 320: messageType and sequenceId (13 R710). -/
  ptpEvent : Option (Nat × Nat)
  /-- FEC codewords corrected in the frame. -/
  fecCorrected : Nat
  /-- The stream bytes that the packet carries under its payload format (13 R709): access-unit bytes, or pgroups. -/
  payload : List Byte
  /-- For ST 2110-20: the line of the frame and the sample in it that the sample row data header names. -/
  row : Nat
  rowOffset : Nat
  /-- The frame's bytes from the destination MAC address, for capture. -/
  bytes : List Byte
  deriving DecidableEq, Repr

/-- One received SDI line (13 R696 to R699). -/
structure SdiLine where
  /-- The expected EAV position holds a valid EAV. -/
  eavOk : Bool
  yCrcBad : Bool
  cCrcBad : Bool
  lineNumberBad : Bool
  trsError : Bool
  /-- The line could not be written to its slot in time (R697). -/
  late : Bool
  /-- Index of the active line, `none` outside the active picture. -/
  active : Option Nat
  /-- The first line of a frame. -/
  frameStart : Bool
  /-- A received ST 352 payload ID. -/
  payloadId : Option Nat
  /-- The format found from the TRS spacing (code of R693, 0 for none) and its family. -/
  detected : Nat
  family : Bool
  samples : List Byte
  deriving DecidableEq, Repr

/-- A received ST 291 packet (13 R700). -/
structure AncPacket where
  line : Nat
  sample : Nat
  chroma : Bool
  csumBad : Bool
  words : List Nat
  deriving DecidableEq, Repr

/-- A JTAG token as Pip finds it (17 R900, R901). -/
structure JtagToken where
  serial : Nat
  nonce : Nat
  scope : Nat
  reservedZero : Bool
  bytes : List Byte
  deriving DecidableEq, Repr

/-- What a unit of a pipe, or firmware, delivers that the standards behind it define and this manual does not. -/
structure PipeRef where
  pipe : Fin 4
  thread : Fin 64
  deriving DecidableEq, Repr

/-- The commands of the block, in the order of spec/opcode_table.json. -/
inductive Instr where
  -- register accesses (00 R9 to R30)
  | registerWrite (p : Path) (addr : Nat) (v : Word32)
  | rcRead (p : Path) (addr : Nat)
  | counterLowHalfRead (p : Path) (addr : Nat)
  | counterHighHalfRead (p : Path) (addr : Nat)
  | counter64Read (p : Path) (addr : Nat)
  -- power-on, resets (01 R57, 02 R66)
  | powerOnResetRelease (strap : Fin 4) (hpEn wakeIn : Bool)
  | vaonFall
  | chipReset
  | hazelReset
  | pipReset
  | blockReset (b : Block)
  -- the Husk (02)
  | dormantEntry (coincident : Option WakeSource)
  | wakeInEdge (rising : Bool)
  | hpEnRise
  | smbusWakeMatch
  | alarm
  | pipTimer
  | pipStop
  | mainOn
  | mainOff
  | goDormant
  | mainOffAnswer
  | mainOffTimeout
  | mainOffSelfRefresh
  | pgRise (r : Rail)
  | enSrdRaise
  | pgTimeout (r : Rail)
  | pgFall (r : Rail)
  | railEnableLower
  | hpEnFall
  | pipRemovalRecord
  | thermalCrit
  | xt32Qualified
  | xt32QualifyTimeout
  | xt32EdgeLoss
  | xoSettleExpiry
  | xoLoss (early : Bool)
  -- PLLs, gating, VTC (02)
  | pllLock (p : Pll)
  | pllLockTimeout (p : Pll)
  | pllLossOfLock (p : Pll)
  | pllIdleStop (p : Pll)
  | pllRetry (t : RetryTarget)
  | clockGate (b : Clocked)
  | vtcLocked
  | vtcSourceLoss
  | vtcHoldExpiry
  | vtcReacquire
  -- firmware start (02)
  | pipBoot
  | hazelStart
  | hazelImageStart
  -- power admission (03)
  | pacLoad
  | pacRequest (r : Requester) (cls : Fin 3)
  | pacGrant
  | pacRelease (r : Requester)
  | pacWithdraw (r : Requester)
  | pacTimeout (r : Requester)
  | pacThermalSample (tj : Int)
  | clampSet
  | pacBudgetWrite (r : BudgetRail) (v : Word32)
  -- host link (04)
  | linkTrainingL0
  | linkDown
  | hotReset
  | perstNAssert
  | perstNDeassert (sris : Bool)
  | flrInitiate
  | flrComplete
  | configRequest (a : ConfigAccess)
  | d3hotEntry
  | d0Return
  | bar2Read (offset len : Nat)
  | bar2Write (offset : Nat) (data : List (Option Byte)) (ep : Bool)
  | bar2WakeTimeout (n : Fin 2)
  | upstreamCompletion (tag : Nat) (st : CplStatus) (data : List Byte)
  | completionTimeout (tag : Nat)
  | tlpReplay (rollover : Bool)
  | msixUnmask (v : Fin 64)
  -- mailboxes and interrupts (05)
  | mbxDataLoWrite (m : Mailbox) (v : Word32)
  | mbxDataHiWrite (m : Mailbox) (hi : Word32) (lo : Option Word32)
  | mbxDataHiRead (m : Mailbox)
  | fwServicePass
  | icuEdgeRequest (src : Fin 256)
  | icuLevelChange (src : Fin 256) (level : Bool)
  | icuClaim (t : Target) (v : Fin 64)
  | icuComplete (t : Target) (id : Fin 256)
  | icuPendWrite (t : Target) (i : Fin 8) (v : Word32)
  | icuSwiSet (t : Target) (v : Byte)
  | waitForInterrupt (t : Target) (coincident : Option (Fin 256))
  | coreWake (t : Target)
  -- Lomod commands (06): the next command of a queue
  | identify (q : Fin 16)
  | getVersions (q : Fin 16)
  | nop (q : Fin 16)
  | queueConfig (q : Fin 16)
  | queueStatus (q : Fin 16)
  | powerState (q : Fin 16)
  | reset (q : Fin 16)
  | deferredReset
  | sessionOpen (q : Fin 16)
  | sessionClose (q : Fin 16)
  | sessionQuery (q : Fin 16)
  | sessionSet (q : Fin 16)
  | sessionSize (q : Fin 16)
  | podLoad (q : Fin 16)
  | podUnload (q : Fin 16)
  | podStore (q : Fin 16)
  | podDelete (q : Fin 16)
  | jobEncode (q : Fin 16)
  | jobDecode (q : Fin 16)
  | jobLoopback (q : Fin 16)
  | jobMeasure (q : Fin 16)
  | jobCancel (q : Fin 16)
  | portConfig (q : Fin 16)
  | portQuery (q : Fin 16)
  | flowAdd (q : Fin 16)
  | flowRemove (q : Fin 16)
  | flowBind (q : Fin 16)
  | schedConfig (q : Fin 16)
  | vtcConfig (q : Fin 16)
  | ptpConfig (q : Fin 16)
  | mcast (q : Fin 16)
  | memCopy (q : Fin 16)
  | memFill (q : Fin 16)
  | memPin (q : Fin 16)
  | userRead (q : Fin 16)
  | userWrite (q : Fin 16)
  | scrubConfig (q : Fin 16)
  | counterRead (q : Fin 16)
  | counterClear (q : Fin 16)
  | faultConfig (q : Fin 16)
  | faultLogRead (q : Fin 16)
  | faultInject (q : Fin 16)
  | faultClear (q : Fin 16)
  | selftest (q : Fin 16)
  | fwStage (q : Fin 16)
  | fwCommit (q : Fin 16)
  | commandTimeout (q : Fin 16) (seq : Word32)
  -- pipes (07)
  | pipeJobStart (n : Fin 4)
  | pipeJobEnd (n : Fin 4) (session : Fin 64)
  | pageFetchComplete (n : Fin 4)
  | threadDeadlock (n : Fin 4) (session : Fin 64)
  | unitResultReturn (r : PipeRef)
  | threadWaitRelease (r : PipeRef)
  | periodicSelftest (n : Fin 4)
  | pipeSelftestEnd (n : Fin 4) (failCode : BitVec 16)
  | pipeSelftestAbort (n : Fin 4)
  | selftestWaitExpired (n : Fin 4)
  | memorySelftestEnd (i : Fin 3) (failCode : BitVec 16)
  -- Pod steps (08): the next step of a thread
  | add (r : PipeRef) | sub (r : PipeRef) | mul (r : PipeRef)
  | divu (r : PipeRef) | divs (r : PipeRef) | remu (r : PipeRef)
  | and (r : PipeRef) | or (r : PipeRef) | xor (r : PipeRef)
  | shl (r : PipeRef) | shru (r : PipeRef) | shrs (r : PipeRef)
  | min (r : PipeRef) | max (r : PipeRef) | mov (r : PipeRef)
  | cmp (r : PipeRef) | tstb (r : PipeRef) | ext (r : PipeRef) | ins (r : PipeRef)
  | ldc (r : PipeRef) | clz (r : PipeRef) | wlen (r : PipeRef) | sel (r : PipeRef)
  | nopStep (r : PipeRef) | br (r : PipeRef) | brx (r : PipeRef)
  | call (r : PipeRef) | ret (r : PipeRef) | endStep (r : PipeRef)
  | waitCnt (r : PipeRef) | waitUnit (r : PipeRef) | signal (r : PipeRef)
  | emit (r : PipeRef)
  | fetch (r : PipeRef) | list (r : PipeRef) | grid (r : PipeRef) | predict (r : PipeRef)
  | interp (r : PipeRef) | sad (r : PipeRef) | sse (r : PipeRef) | satd (r : PipeRef)
  | rate (r : PipeRef) | fwdQ (r : PipeRef) | deqInv (r : PipeRef)
  | deblock (r : PipeRef) | sao (r : PipeRef) | alf (r : PipeRef) | cdef (r : PipeRef)
  | stats (r : PipeRef) | encode (r : PipeRef) | decode (r : PipeRef) | init (r : PipeRef)
  | flush (r : PipeRef) | startUnit (r : PipeRef) | endUnit (r : PipeRef) | raw (r : PipeRef)
  | inject (r : PipeRef) | sseSums (r : PipeRef) | ssimSums (r : PipeRef) | compare (r : PipeRef)
  | rcStep (r : PipeRef) | hrdStep (r : PipeRef) | refAlloc (r : PipeRef) | refFree (r : PipeRef)
  | picOut (r : PipeRef) | flowRead (r : PipeRef) | timeNow (r : PipeRef) | portFill (r : PipeRef)
  -- analysis records (11)
  | aruPartialWrite (n : Fin 4)
  | aruReadIdxReread (n : Fin 4)
  -- memory (12)
  | dramTrained (n : Fin 2)
  | dramInitDone (n : Fin 2)
  | lfsInitDone
  | dramSelfRefreshEntry (n : Fin 2)
  | dramSelfRefreshExit (n : Fin 2)
  | dramReread (word : Nat) (recovered : Bool)
  | correctionWriteBack (word : Nat)
  | scrubBurst
  | scrubCatchUp (n : Fin 2)
  | mramBurstEnd
  | fabTimeout (port : Fin 16)
  | start (n : Fin 16)
  | abort (n : Fin 16)
  | clear (n : Fin 16)
  | dmaEndOfCount (n : Fin 16)
  | dmaErrorStop (n : Fin 16)
  -- lanes, SDI, Ethernet, PTP (13)
  | laneLock (n : Fin 16)
  | laneLockLoss (n : Fin 16)
  | relockAttemptFailed (n : Fin 16)
  | laneWatchdog (n : Fin 16)
  -- the line that is due: its data has arrived by its SAV; it starts a frame; its number; its place in the active picture
  | sdiLineTransmit (n : Fin 16) (arrived : Bool) (frameStart : Bool) (line : Nat) (active : Option Nat)
  | sdiLineReceive (n : Fin 16) (l : SdiLine)
  | ancPacketReceive (n : Fin 16) (p : AncPacket)
  | ethFrameReceive (n : Fin 16) (f : EthFrame)
  | ethFrameTransmit (n : Fin 16)
  | egressFetch (n : Fin 16)
  | linkFault (n : Fin 16) (remote : Bool)
  | ptpLoss
  | runSet | runClr | step | lossSet | lossClr | lockSet | lockClr
  | ptpNsRead (p : Path) (addr : Nat)
  | ptpTsFifoPop
  | ptpTarget
  | ppsIn
  | fsyncIn
  | ppsOut (rising : Bool)
  | fsyncOut (rising : Bool)
  -- flows (14)
  | flowEntryAgeOut (e : Fin 4096)
  | captureFlush (n : Fin 16)
  | packetiserResume (flow : Fin 1024)
  | eventFifoRead (i : Fin 3)
  -- faults (15)
  | faultReport (src : Fin 128) (detail : Word32)
  | conditionEnd (src : Fin 128)
  | quietExpiry (src : Fin 128)
  | fltActiveClear (src : Fin 128)
  | causeReopen
  | comparatorProof (pairB detected : Bool)
  | hazelWdog (pairB : Bool)
  | pipWdog
  | logReinit
  | lrClear
  | errForceSet
  | errForceClr
  | persistentEntryWrite
  -- SMBus, configuration, JTAG (17)
  | smbusWrite (addr : Nat) (v : Word32) (pec : Pec)
  | smbusRead (addr : Nat)
  | smbusClockTimeout
  | alertResponse
  | cfgKey (v : Word32)
  | stage
  | commit
  | cfgCommitEnd (ok : Bool)
  | read
  | discard
  | jtagUnlock (t : JtagToken)
  | jtagTokenDecision
  | mramBankDReady
  | linkFaultCleared (n : Fin 16) (remote : Bool)
  deriving DecidableEq, Repr

end Sys2Proof
end

