-- ==== Sys2Proof/Config.lean ====
section
/-! DEFINITION. What one part fixes, and the values the spec leaves open. An opaque constant has no body: nothing
in Lean can say what it is, so a claim about it holds whatever it is. Free values are marked in the assumption log. -/

namespace Sys2Proof

/-- DEV_REV.GRADE as fused: 0 for PFB-7640-C, 1 for PFB-7640-X (01 R51). DESIGN CHOICE (log 5): the C code. -/
def Config.grade : Nat := 0

/-- DEV_REV.SILICON_REV (00 R1). -/
def Config.siliconRev : Nat := 0xB0

/-- The header of a firmware image (02 R107), as the boot ROM finds it, with the outcome of its two checks. -/
structure ImageHeader where
  formatOk : Bool := false
  signatureOk : Bool := false
  silicon : List Nat := []
  /-- The image's own version: major, minor, patch, one byte each. -/
  version : Nat := 0
  /-- Pip interface version a Pip image serves; major in the high byte. -/
  pipIf : Nat := 0
  ifLo : Nat := 0
  ifHi : Nat := 0
  tested : List Nat := []
  podLo : Nat := 0
  podHi : Nat := 0
  lomodAbi : Nat := 0
  deriving DecidableEq, Repr, Inhabited

/-- The next value of a quantity the spec leaves open; the step applies it to the counter `State.free`. -/
opaque Config.freeWord : Nat → Word64

/-- A byte the spec leaves open. -/
opaque Config.freeByte : Nat → Byte

/-- The header an image's bytes hold. The spec does not lay an image out (02 R106, R107). -/
opaque Config.imageOf : List Byte → ImageHeader

/-- The images of the Ndoxus Pod library, entries 0 to 15 (06 R362; 09 R512). -/
opaque Config.libraryPod : Nat → List Byte

/-- Bytes of the 2 MiB Pod library that entries 0 to 15 take (06 R361, R362). -/
opaque Config.libraryTaken : Nat

/-- The bytes that a unit reads or writes from an offset of a byte-addressed window, for a unit, a function and its first
operand: the spec does not lay samples, coefficients or statistics out in such a window (08 R478). -/
opaque Config.unitSpan : Nat → Nat → Nat → Nat

/-- round(6 * log2(num / den)) as the 256-entry table of 10 R545 gives it. -/
opaque Config.rateLog : Nat → Nat → Int

/-- The largest CPB in bits of a codec, level and tier (10 R534), which its standard defines. -/
opaque Config.levelCpb : Nat → Nat → Nat → Nat

/-- The share of BITRATE that a picture's target takes from the weights 4 : 2 : 1 over the GOP (10 R544), in bits: BFRAMES
and GOP_LEN, the picture type, and the mean bits of a picture. -/
opaque Config.gopTarget : Nat → Nat → Nat → Nat → Nat

/-- Whether a JTAG token's ECDSA signature verifies (17 R900, R901). -/
opaque Config.tokenSignature : List Byte → Bool

/-- The fused die identifier (04 R209; 06 R352). -/
opaque Config.serial : Word64

/-- The session work area a configuration needs, beyond the parts the spec gives (06 R355). -/
opaque Config.workArea : List Nat → Nat

/-- The versions of the Hazel (0) and Pip (1) boot ROMs (06 R352). -/
opaque Config.romVersion : Nat → Word32

/-- A picture-coding result that the codec standards, and not this spec, determine (07 R399). -/
opaque Config.unitResult : Nat → Word64

/-- Factory calibration words of bank M whose content the spec does not lay out (17 R905, items 0x0100 to 0x01FF). -/
opaque Config.calibration : Nat → Word32

/-- Configuration-space words of the listed structures whose content the base specification, and not this spec, gives
(04 R209). -/
opaque Config.cfgWord : Nat → Word32

/-- The IGMPv3 or MLDv2 report that firmware sends for a group and source block, as a frame: the port's block, the group
block, and LEAVE. The block's layout and the report are not this spec's (06 R372). -/
opaque Config.groupReport : List Byte → List Byte → Bool → List Byte

/-- The RTP or UDP payloads that a payload format makes of an access unit: kind, codec, PID, most bytes in a payload, a
free value for what the format carries beside the unit, and the unit. The formats are those of the standards of 13 R709. -/
opaque Config.payloads : Nat → Nat → Nat → Nat → Nat → List Byte → List (List Byte)

/-- TROdefault of ST 2110-21 for an SDI_FORMAT code, in ns (14 R729). -/
opaque Config.troDefault : Nat → Nat

/-- The payload ID that ST 352 defines for an SDI_FORMAT code (13 R699). -/
opaque Config.payloadId : Nat → Nat

/-- The SDI_FORMAT code that a received ST 352 payload ID declares (13 R698, R699). -/
opaque Config.payloadFormat : Nat → Nat

/-- Words of ancillary data that fit in a line's stream, for an SDI_FORMAT code, for a line in vertical blanking or not,
with the payload ID inserted or not (14 R751); the rasters are the standards' of 13 R692. -/
opaque Config.ancRoom : Nat → Bool → Bool → Nat

end Sys2Proof
end

