-- ==== Sys2Proof/Machine/Table.lean ====
section
/-! DEFINITION. Sparse data keyed by a number, in one canonical form: keys strictly rising and no entry equal to
what an unlisted key reads as. Memory, register files and the device's tables of like things are all held so. -/

namespace Sys2Proof.Machine

variable {α : Type} [DecidableEq α]

/-- What key `k` reads as; `d` is what an unlisted key reads as. -/
def Table.get (d : α) : List (Nat × α) → Nat → α
  | [], _ => d
  | (j, v) :: t, k => if j = k then v else Table.get d t k

/-- Put `v` at key `k`, keeping the canonical form. -/
def Table.set (d : α) : List (Nat × α) → Nat → α → List (Nat × α)
  | [], k, v => if v = d then [] else [(k, v)]
  | (j, w) :: t, k, v =>
    if k < j then (if v = d then (j, w) :: Table.set d t k v else (k, v) :: (j, w) :: t)
    else if j = k then (if v = d then Table.set d t k v else (k, v) :: t)
    else (j, w) :: Table.set d t k v

/-- Change the value at key `k`. -/
def Table.modify (d : α) (t : List (Nat × α)) (k : Nat) (f : α → α) : List (Nat × α) :=
  Table.set d t k (f (Table.get d t k))

/-- Every key of the table lies above `lo`, keys rise strictly, and no entry equals the default. -/
def Table.wfFrom (d : α) : Option Nat → List (Nat × α) → Bool
  | _, [] => true
  | lo, (j, v) :: t =>
    (match lo with | none => true | some l => decide (l < j)) && decide (v ≠ d) && Table.wfFrom d (some j) t

/-- The canonical form. -/
def Table.wf (d : α) (t : List (Nat × α)) : Bool := Table.wfFrom d none t

/-- Keep the entries whose key satisfies `p`. -/
def Table.keep (p : Nat → Bool) (t : List (Nat × α)) : List (Nat × α) := t.filter fun e => p e.1

/-- Apply `f` to every entry, dropping those that become the default. -/
def Table.mapVals (d : α) (f : α → α) : List (Nat × α) → List (Nat × α)
  | [] => []
  | (j, v) :: t => if f v = d then Table.mapVals d f t else (j, f v) :: Table.mapVals d f t

/-- `f` at every key below `n`, from 0 upward. -/
def foldRange {σ : Type} (f : Nat → σ → σ) : Nat → σ → σ
  | 0, s => s
  | n + 1, s => f n (foldRange f n s)

end Sys2Proof.Machine
end

