-- ==== Sys2Proof/Machine/HostState.lean ====
section
/-! DEFINITION. The state of the management and control planes: Husk, Pip, PLLs, VTC, PAC, PCI Express endpoint,
mailboxes, interrupt controller, fault collector, SMBus, configuration and JTAG registers, bank M. Every default
value is the field's reset value. -/

namespace Sys2Proof.Machine

/-- DEV_RST_CAUSE in bit order (01 R52). -/
inductive Cause where
  | por | mainLoss | thermal | fault | command | hpRemoval | mainOff
  deriving DecidableEq, Repr

/-- The Husk's power state (02 R66); `held` before power-on reset is released. -/
inductive Power where
  | held | dormant | idle | awake | mainOn
  deriving DecidableEq, Repr

/-- Why the main rails are being removed (02 R70, R83, R84, R85, R131; 04 R243). -/
inductive Removal where
  | orderly | hpFall | thermal | xoFail | loss
  deriving DecidableEq, Repr

/-- What runs on Pip (02 R104, R105, R925). -/
inductive PipMode where
  | boot | rom | firmware
  deriving DecidableEq, Repr

/-- The Husk and Pip (02). -/
structure Husk where
  power : Power := .held
  vaon : Bool := true
  strap : Nat := 0
  hpEn : Bool := false
  wakeIn : Bool := false
  pgMain : Bool := false
  pgSrd : Bool := false
  pgDram : Bool := false
  enMain : Bool := false
  enSrd : Bool := false
  enDram : Bool := false
  xtFail : Bool := false
  slowSrc : Bool := false
  pipRun : Bool := false
  pipMode : PipMode := .boot
  pipVersion : Nat := 0
  pipIf : Nat := 0
  pipSlotB : Bool := false
  /-- HSK_CTRL has been written since Pip last stopped (R67). -/
  ctrlWritten : Bool := false
  /-- Requests of HSK_CTRL that Pip has not acted on yet: MAIN_ON, MAIN_OFF, GO_DORMANT. -/
  ctrl : BitVec 3 := 0
  timerExpired : Bool := false
  /-- HSK_CFG (R117), factory value. -/
  cfg : Nat := 0x80000780
  xoSettle : Nat := 2048
  pgTimeout : Nat := 655
  /-- HSK_WAKE_CAUSE (R120). -/
  wakeCause : BitVec 5 := 0
  /-- The causes on which Pip has acted and whose bits it has not cleared yet (R67). -/
  causeSeen : BitVec 5 := 0
  /-- HSK_ALARM as last written, and when (R121). -/
  alarm : Nat := 0
  alarmAt : Nat := 0
  xoFail : Bool := false
  earlyCount : Nat := 0
  monOk : Bool := false
  settled : Bool := false
  xoOn : Bool := false
  /-- When the XO_SETTLE count that runs ends (R86, R135). -/
  settleDue : Nat := 0
  /-- When power-on reset was last released (15 R804). -/
  porAt : Nat := 0
  /-- The junction temperature the sensors read (03 R165). -/
  tj : Int := 25
  /-- When the XO bit last set, for the log's TIME (15 R804). -/
  xoSetAt : Nat := 0
  /-- HSK_RAIL_FAULT (R123). -/
  railFault : BitVec 7 := 0
  rstCause : Cause := .por
  /-- An orderly main-off has been requested and not yet answered, and who asked (R70). -/
  mainOff : Bool := false
  mainOffAt : Nat := 0
  removal : Option Removal := none
  /-- A main-rail request kept until the removal ends (R70). -/
  keptOn : Bool := false
  goDormant : Bool := false
  /-- THERMAL_CRIT holds EN_MAIN down (R85). -/
  thermalHold : Bool := false
  /-- EN_SRD is due one slow tick after PG_MAIN (R80). -/
  srdDue : Bool := false
  /-- The MRAM write gate is closed (04 R243). -/
  gateClosed : Bool := false
  /-- A removal record is due once HP_EN has been low for 10 ms (04 R244). -/
  removalDue : Bool := false
  hpFellAt : Nat := 0
  /-- A chip reset that a fault reaction or a command asked for: its cause and the source to reopen (15 R788, R789). -/
  resetDue : Option (Cause × Option Nat) := none
  /-- Sources whose records reopen in the first slow tick after the chip reset, with their DETAIL (15 R788). -/
  reopen : List (Nat × Nat) := []
  /-- Bring-up and periodic self-test requests retried because of the core PLL (02 R93). -/
  bistRetries : Nat := 0
  deriving DecidableEq, Repr

/-- One PLL (02 R90 to R95, R923, R924). -/
inductive PllState where
  | stopped | requested | starting | locked
  /-- Failed or refused: asked again after 10 ms while a consumer waits. -/
  | retrying
  deriving DecidableEq, Repr

/-- VTC_STATUS.MODE in its encoding (02 R127). -/
inductive VtcMode where
  | acquiring | locked | holdover | freeRun
  deriving DecidableEq, Repr

/-- The video timing clock (02 R98 to R103, R125 to R128). -/
structure Vtc where
  configured : Bool := false
  reacqMode : Bool := false
  revert : Bool := true
  family : Bool := false
  srcSel : Nat := 17
  holdLimit : Nat := 10000
  activeSrc : Nat := 17
  mode : VtcMode := .freeRun
  freeRuns : Nat := 0
  losses : Nat := 0
  deriving DecidableEq, Repr

/-- One amount per budgeted rail, in 0.1 A (03 R140). -/
structure Amps where
  core : Nat := 0
  sram : Nat := 0
  serdes : Nat := 0
  dram : Nat := 0
  deriving DecidableEq, Repr

/-- A queued request (03 R155). -/
structure PacReq where
  who : Requester
  cls : Nat
  at_ : Nat
  /-- PAC_TIMEOUT as it stood at arrival (R196), and the moment from which it counts (R158; 02 R922). -/
  timeoutMs : Nat
  from_ : Nat
  deriving DecidableEq, Repr

/-- The Power Admission Controller (03). -/
structure Pac where
  timeout : Nat := 50
  slot : Nat := 20
  throttlePct : Nat := 75
  warnC : Nat := 105
  tj : Int := 0
  warn : Bool := false
  /-- CLAMP_SET held by the Husk until the PAC loads (R175). -/
  clampHeld : Bool := false
  clamped : Bool := false
  budget : Amps := ⟨1200, 200, 90, 140⟩
  step : Amps := ⟨280, 40, 20, 70⟩
  safe : Amps := ⟨600, 100, 60, 140⟩
  safeStep : Amps := ⟨280, 40, 20, 70⟩
  chargeSel : Nat := 0
  lastDeny : Nat := 0
  denyTimeout : Nat := 0
  denyFit : Nat := 0
  grants : Nat := 0
  waitMax : Nat := 0
  queue : List PacReq := []
  held : List Requester := []
  /-- When the spacing after the last grant ends (R153, R196). -/
  slotEnd : Nat := 0
  deriving DecidableEq, Repr

/-- One MSI-X table entry (04 R231). -/
structure MsixEntry where
  addr : Nat := 0
  data : Nat := 0
  masked : Bool := true
  deriving DecidableEq, Repr

/-- An outstanding upstream read of a DMA channel (04 R224; 12 R651). -/
structure UpReq where
  tag : Nat
  chan : Nat
  len : Nat
  dst : Nat
  /-- The request has timed out, or a reset has passed (04 R228, R255). -/
  late : Bool := false
  dropped : Bool := false
  deriving DecidableEq, Repr

/-- A BAR2 request that a stack in self-refresh holds (04 R219). -/
structure HeldReq where
  stack : Nat
  offset : Nat
  len : Nat
  data : List (Option Byte)
  write : Bool
  ep : Bool
  deriving DecidableEq, Repr

/-- The PCI Express endpoint (04). -/
structure Pcie where
  perstN : Bool := false
  sris : Bool := false
  /-- PHY calibrated since power-up (R234). -/
  linkUp : Bool := false
  flr : Bool := false
  d3 : Bool := false
  bar2Closed : Bool := false
  mse : Bool := false
  bme : Bool := false
  /-- Command bits that the base specification stores beside MSE and BME, and the cache-line size. -/
  cmdRest : Nat := 0
  cacheLine : Nat := 0
  bar0 : Nat := 0
  bar2 : Nat := 0
  msixEnable : Bool := false
  msixMask : Bool := false
  devCtl : Nat := 0x2810
  devCtl2 : Nat := 0
  linkCtl : Nat := 0
  subsys : Nat := 0x00011F5C
  uncStatus : Nat := 0
  uncMask : Nat := 0x00400000
  uncSev : Nat := 0x00462030
  corStatus : Nat := 0
  corMask : Nat := 0x0000E000
  msix : List (Nat × MsixEntry) := []
  pba : BitVec 64 := 0
  up : List UpReq := []
  heldReqs : List HeldReq := []
  discardBar2 : Nat := 0
  discardBar0 : Nat := 0
  abortPoison : Nat := 0
  abortOther : Nat := 0
  lateTimeout : Nat := 0
  lateReset : Nat := 0
  surprise : Nat := 0
  exits : Nat := 0
  replays : Nat := 0
  deriving DecidableEq, Repr

/-- One mailbox (05 R266). -/
structure Mbx where
  lo : Nat := 0
  hi : Nat := 0
  full : Bool := false
  overrun : Bool := false
  overruns : Nat := 0
  discards : Nat := 0
  /-- DATA_LO has been written without DATA_HI (R277). -/
  half : Bool := false
  deriving DecidableEq, Repr

/-- The interrupt controller's state for one target (05 R287). -/
structure IcuTgt where
  /-- Pending bits of the edge sources; those of level sources follow the request (R288, R289). -/
  pend : BitVec 256 := 0
  en : BitVec 256 := 0
  thresh : Nat := 0
  svc : BitVec 256 := 0
  line : Bool := false
  notified : Bool := false
  spurious : Nat := 0
  badComplete : Nat := 0
  sleepAborted : Bool := false
  asleep : Bool := false
  deriving DecidableEq, Repr

/-- The interrupt controller (05). -/
structure Icu where
  hazelA : IcuTgt := {}
  hazelB : IcuTgt := {}
  pip : IcuTgt := {}
  host : IcuTgt := {}
  vlines : BitVec 64 := 0
  vnotified : BitVec 64 := 0
  /-- Requests of level sources that the environment drives (log 12). -/
  ext : BitVec 256 := 0
  /-- Requests of level sources as they stand. -/
  level : BitVec 256 := 0
  /-- Priority bits 0, 1 and 2 of every source (R313); reset 1 for the assigned sources 1 to 103. -/
  prio0 : BitVec 256 := BitVec.ofNat 256 (2 ^ 104 - 2)
  prio1 : BitVec 256 := 0
  prio2 : BitVec 256 := 0
  /-- Vector of every source that the host has changed, plus 1 (R314); an unlisted source keeps its number mod 64. -/
  vmap : List (Nat × Nat) := []
  deriving DecidableEq, Repr

/-- One fault source (15 R783 to R788). -/
structure FltSrc where
  open_ : Bool := false
  mask : Nat := 0
  detail : Nat := 0
  standing : Bool := false
  causeFlag : Bool := false
  last : Nat := 0
  cnt : Nat := 0
  recov : Nat := 0
  deriving DecidableEq, Repr

/-- Three copies of a configuration word (15 R799). -/
structure Trip where
  a : Nat := 0
  b : Nat := 0
  c : Nat := 0
  deriving DecidableEq, Repr

/-- One 16-byte entry of the fault log (15 R804). -/
structure LogEntry where
  time : Nat := 0
  kind : Nat := 0
  source : Nat := 0
  slow : Bool := false
  cnt : Nat := 0
  mask : Nat := 0
  detail : Nat := 0
  deriving DecidableEq, Repr

/-- One persistent entry (15 R808). -/
structure PEntry where
  seq : Nat := 0
  epoch : Nat := 0
  kind : Nat := 0
  source : Nat := 0
  time : Nat := 0
  slowTime : Bool := false
  detail : Nat := 0
  cnt : Nat := 0
  cause : Nat := 0
  tj : Int := 0
  deriving DecidableEq, Repr

/-- The fault collector (15). -/
structure Flt where
  src : List (Nat × FltSrc) := []
  react : List (Nat × Trip) := []
  quiet : Trip := ⟨3277, 3277, 3277⟩
  log : List (Nat × LogEntry) := []
  head : Nat := 0
  wrapped : Bool := false
  logInvalid : Bool := false
  overwritten : Nat := 0
  lr : List LogEntry := []
  lrLost : Nat := 0
  errForced : Bool := false
  degradedA : Bool := false
  degradedB : Bool := false
  nmiValid : Bool := false
  nmiSource : Nat := 0
  nmiPending : Bool := false
  proofA : Nat := 0
  proofB : Nat := 0
  dropped : Nat := 0
  /-- Husk-section entries waiting for the main section (R805), oldest first. -/
  waiting : List LogEntry := []
  suppressed : Nat := 0
  plogSel : Nat := 0
  /-- Events that call for a persistent entry, in order (R808). -/
  plogDue : List PEntry := []
  deriving DecidableEq, Repr

/-- SMBus, configuration and JTAG registers (17). -/
structure Board where
  pecFail : Bool := false
  cfgDone : Bool := false
  cfgError : Bool := false
  jtagEvent : Bool := false
  pecCount : Nat := 0
  abandoned : Nat := 0
  cfgOpen : Bool := false
  cfgBusy : Bool := false
  cfgErr : Bool := false
  cfgCode : Nat := 0
  cfgItem : Nat := 0
  cfgData : Nat := 0
  staged : List (Nat × Nat) := []
  /-- A CFG_CMD held until Pip runs (R906): its bits. -/
  cfgHeld : Nat := 0
  committing : Bool := false
  unlocked : Bool := false
  scopes : Nat := 0
  jtagBusy : Bool := false
  jtagReason : Nat := 0
  nonce : Word64 := 0
  token : Option JtagToken := none
  deriving DecidableEq, Repr

/-- MRAM bank M, kept across every reset (01 R32, R57). -/
structure BankM where
  /-- Committed configuration items (17 R905); an unlisted item holds its factory value. -/
  items : List (Nat × Option Nat) := []
  /-- Stored charges that differ from the typical ones: key kind * 256 + instance * 4 + rail; value and check (03 R142). -/
  charges : List (Nat × Option (Nat × Bool)) := []
  /-- Stored safe budgets and steps: rail for a budget, 4 + rail for a step. -/
  safe : List (Nat × Option Nat) := []
  epoch : Nat := 0
  pipB : Bool := false
  hazelB : Bool := false
  slotPipA : ImageHeader := {}
  slotPipB : ImageHeader := {}
  slotHazelA : ImageHeader := {}
  slotHazelB : ImageHeader := {}
  /-- The persistent fault ring, oldest first, at most 2048 (15 R808). -/
  ring : List PEntry := []
  plogSeq : Nat := 0
  /-- Last persistent write of a source, plus 1 ns, and the writes of the running hour (15 R809). -/
  plogLast : List (Nat × Nat) := []
  plogHour : List Nat := []
  deriving DecidableEq, Repr

/-- How Hazel runs (02 R109 to R111). -/
inductive HazelMode where
  | stopped
  /-- Waits for the handover (R920). -/
  | boot
  | normal | compat | recovery
  deriving DecidableEq, Repr

/-- What an access returned. -/
inductive Answer where
  | none
  | data (v : Word64)
  | bytes (l : List Byte)
  /-- Completions for the bytes before a poisoned word, then Completer Abort (04 R221). -/
  | bytesAbort (l : List Byte)
  /-- Completer Abort and Unsupported Request (04 R212, R236). -/
  | abort | unsupported
  /-- SMBus: not acknowledged; a register write accepted. -/
  | nack | ack
  deriving DecidableEq, Repr

/-- A line that an SDI transmitter sends with EAV, SAV and line CRCs (13 R695, R699; 14 R751). -/
structure SdiSent where
  /-- The line, and the line number words sent for it: 0 with LN_OFF. -/
  line : Nat
  lineNumber : Nat
  crcInverted : Bool
  /-- The ST 352 payload ID inserted in it. -/
  payloadId : Option Nat
  /-- Ancillary packets inserted in it: the stream, and the DID, SDID, DC and user data words. -/
  anc : List (Nat × List Nat)
  /-- Active luma samples, then CbCr samples, as 16-bit values. -/
  samples : List Byte
  deriving DecidableEq, Repr

/-- What leaves the device in the course of one command. -/
inductive Out where
  | msix (v addr data : Nat)
  | hostWrite (addr : Nat) (data : List Byte)
  | frame (port : Nat) (bytes : List Byte)
  | line (lane : Nat) (sent : SdiSent)
  deriving DecidableEq, Repr

end Sys2Proof.Machine
end

