-- ==== Sys2Proof/Machine/CodecState.lean ====
section
/-! DEFINITION. The state of Hazel firmware (queues, job table, sessions, Pods) and of the codec pipes. -/

namespace Sys2Proof.Machine

/-- One Lomod queue (06 R330, R340, R350). -/
structure Queue where
  depth : Nat := 64
  doorbell : Nat := 0
  /-- The expected SEQ; `none` while unset. -/
  seq : Option Nat := none
  badNotices : Nat := 0
  seqGaps : Nat := 0
  deriving DecidableEq, Repr

/-- How far a command of the job table has come (06 R330, R335, R346, R385). -/
inductive Phase where
  /-- Taken, checks 1 to 7 passed. -/
  | accepted
  /-- Started; its work has not ended. -/
  | running
  /-- Its status is known; its record waits for earlier ones (R346). -/
  | ended
  /-- Record written; its notice has not been sent. -/
  | written
  /-- Its notice is in the device-to-host mailbox. -/
  | noticed
  deriving DecidableEq, Repr

/-- One entry of the job table (06 R331, R333, R336). -/
structure Cmd where
  queue : Nat := 0
  opcode : Nat := 0
  flags : Nat := 0
  epoch : Nat := 0
  seq : Nat := 0
  complAddr : Nat := 0
  tag : Nat := 0
  timeout : Nat := 0
  a0 : Nat := 0
  a1 : Nat := 0
  a2 : Nat := 0
  bodyLen : Nat := 0
  /-- The reserved fields of the header at 0x07 and 0x24. -/
  res07 : Nat := 0
  res24 : Nat := 0
  body : List Byte := []
  /-- The address of the first poisoned word that the body met, plus 1. -/
  bodyPoison : Nat := 0
  phase : Phase := .accepted
  status : Nat := 0
  detail : Nat := 0
  result : Nat := 0
  seqGap : Bool := false
  preempted : Bool := false
  /-- The grant the command waits for (03 R164). -/
  wait : Option Requester := none
  /-- Data still to be written to bank D, and where (03 R148; 12 R631). -/
  rest : List Byte := []
  dst : Nat := 0
  taken : Nat := 0
  /-- The job runs on its pipes. -/
  onPipe : Bool := false
  /-- The moment from which a job waits for a self-test, plus 1 (07 R426). -/
  waitFrom : Nat := 0
  /-- The firmware DMA channel that a command uses (06 R375). -/
  chan : Nat := 0
  /-- Pipes a running job uses, as a mask. -/
  pipes : Nat := 0
  /-- The session's body in force for a job (06 R355). -/
  params : List Byte := []
  /-- A host-side reset has passed: no notice is sent (06 R384). -/
  silent : Bool := false
  deriving DecidableEq, Repr

/-- What firmware does once the host has taken a notice (06 R354, R378, R381). -/
inductive Deferred where
  | hazel | chip | pip
  | inject (src detail : Nat)
  deriving DecidableEq, Repr

/-- Staging of one firmware target (06 R380). -/
structure Stage where
  active : Bool := false
  /-- The chunk that ends the image has been staged: its length was no multiple of 8. -/
  ended : Bool := false
  bytes : List Byte := []
  deriving DecidableEq, Repr

/-- A loaded Pod (06 R361; 07 R437; 08 R447 to R453): its image as loaded, the library entry it came from plus 1, the
damage of R437, and the firmware version that R452 writes. -/
structure Pod where
  image : List Byte := []
  lib : Nat := 0
  /-- The address of the poisoned word that a page fetch met, plus 1 (R437). -/
  damaged : Nat := 0
  version : Nat := 0
  deriving DecidableEq, Repr

/-- SESSION_QUERY's STATE (06 R360). -/
inductive SessionMode where
  | closed | opened | closing
  deriving DecidableEq, Repr

/-- What firmware allotted to one Pod of a session on one pipe (07 R403; 08 R455): its threads' numbers in Pod order,
how many pipe scalars, counters, constants and gang counters, and the 4096-byte pages of pipe-local LFS in window order. -/
structure Allot where
  pipe : Nat
  handle : Nat
  /-- The Pod is the session's decode Pod. -/
  dec : Bool
  threads : List Nat
  pCount : Nat
  cCount : Nat
  kCount : Nat
  gCount : Nat
  pages : Nat
  lfs : List Nat
  deriving DecidableEq, Repr

/-- One analysis record staged by EMIT (08 R479). -/
structure Rec where
  order : Nat
  thread : Nat
  typ : Nat
  tag : Nat
  words : List Nat
  deriving DecidableEq, Repr

/-- Rate-control and decoder-model state of a session (10 R542 to R548, R559). The last QP, bytes and SATD of a picture
are kept by type * 8 + layer, the last QP and SSIM of a type by type. -/
structure RateState where
  /-- RC_MODE of the last call, plus 1. -/
  mode : Nat := 0
  /-- The encode block whose rates the tracker uses (10 R559). -/
  block : List Byte := []
  started : Bool := false
  /-- Fullness in bits just before the next removal, and the remainder of the arrival rate. -/
  fullness : Nat := 0
  carry : Nat := 0
  qpPrev : List (Nat × Nat) := []
  bPrev : List (Nat × Nat) := []
  satdPrev : List (Nat × Nat) := []
  qpLast : List (Nat × Nat) := []
  ssimLast : List (Nat × Nat) := []
  /-- The target of the last plan call, and its QP. -/
  target : Nat := 0
  qp : Nat := 0
  satd : Nat := 0
  deriving DecidableEq, Repr

/-- The job that a session runs (07 R404; 11 R597). -/
structure Run where
  queue : Nat := 0
  seq : Nat := 0
  opcode : Nat := 0
  started : Nat := 0
  /-- The session's body as it stood when the job was taken. -/
  body : List Byte := []
  /-- PTP time at the start, seconds in the high half. -/
  startPtp : Nat := 0
  recs : List Rec := []
  gapLost : Nat := 0
  records : Nat := 0
  /-- Output slots that PIC_OUT has bound. -/
  slots : Nat := 0
  /-- Reference slots that the job has been allotted. -/
  taken : List Nat := []
  /-- The job's access unit has gone to the packetiser (14 R748): its bytes, and whether OUT_SIZE was too small. -/
  fed : Option (Nat × Bool) := none
  deriving DecidableEq, Repr

/-- An analysis record ring (11 R593 to R596): where it lies, the ARU's index, READ_IDX as last read, LOST, and the
records lost since the last one written with the SEQ of their job. -/
structure Ring where
  addr : Nat := 0
  size : Nat := 0
  level : Nat := 0
  w : Nat := 0
  r : Nat := 0
  lost : Nat := 0
  gap : Nat := 0
  gapSeq : Nat := 0
  deriving DecidableEq, Repr

/-- One session (06 R355 to R360; 07 R403, R415). -/
structure Session where
  mode : SessionMode := .closed
  queue : Nat := 0
  a0 : Nat := 0
  a1 : Nat := 0
  work : Nat := 0
  workSize : Nat := 0
  /-- The 128-byte body of SESSION_OPEN with the SESSION_SET blocks in force. -/
  body : List Byte := []
  firstPipe : Nat := 0
  mask : Nat := 0
  allots : List Allot := []
  jobs : Nat := 0
  pictures : Nat := 0
  bytesOut : Nat := 0
  bytesIn : Nat := 0
  findings : Nat := 0
  concealed : Nat := 0
  lastSeq : Nat := 0
  /-- Jobs started since SESSION_OPEN (08 R457). -/
  started : Nat := 0
  /-- The next job is coded as a key picture, or resynchronises (R415). -/
  needsKey : Bool := false
  /-- Pictures held for reordering, pictures since the last key picture, pictures supplied (10 R536 to R539). -/
  held : Nat := 0
  since : Nat := 0
  shown : Nat := 0
  rate : RateState := {}
  run : Option Run := none
  /-- Pipe scalars saved at the end of a job (08 R456), by pipe * 512 + 256 for the decode Pod + number. -/
  saved : List (Nat × Nat) := []
  /-- Reference slots in the work area that are in use: offset and size. -/
  refs : List (Nat × Nat) := []
  /-- The record ring in force, and the one that the running job still writes to after a SESSION_SET (11 R608). -/
  ring : Ring := {}
  oldRing : Option Ring := none
  /-- Records that a block reset cut, and the SEQ of their job (11 R597). -/
  cut : Nat := 0
  cutSeq : Nat := 0
  deriving DecidableEq, Repr

/-- A unit request that a thread has outstanding (07 R401; 08 R477): R477's unit number, function, DST, and the result
with its RANGE and POISON bits. -/
structure UnitReq where
  unit : Nat
  fn : Nat
  dst : Nat
  result : Nat
  deriving DecidableEq, Repr

/-- What blocks a thread (08 R472, R474; 07 R411). -/
inductive Blocked where
  | free
  | counter (gang : Bool) (num val : Nat)
  | units (mask : Nat)
  /-- END waits for the thread's own requests. -/
  | ending
  /-- Its next step's page is being fetched. -/
  | page
  deriving DecidableEq, Repr

/-- One thread of a pipe (07 R402; 08 R456). -/
structure Thread where
  active : Bool := false
  session : Nat := 0
  /-- The thread runs the session's decode Pod. -/
  dec : Bool := false
  handle : Nat := 0
  /-- Pod-relative number. -/
  tid : Nat := 0
  pc : Nat := 0
  s : List (Nat × Nat) := []
  z : Bool := false
  n : Bool := false
  c : Bool := false
  v : Bool := false
  stack : List Nat := []
  block : Blocked := .free
  reqs : List UnitReq := []
  /-- Counters whose wait the thread has passed (07 R408). -/
  passed : List Nat := []
  deriving DecidableEq, Repr

/-- A pipe scalar as one SIGNAL published it (07 R408): the scalar, the counter, the value. -/
structure Pub where
  key : Nat
  counter : Nat
  value : Nat
  deriving DecidableEq, Repr

/-- Where a pipe is in a self-test (07 R422 to R430). -/
inductive Bist where
  | none | requested | running
  deriving DecidableEq, Repr

/-- One codec pipe (07). -/
structure Pipe where
  threads : List (Nat × Thread) := []
  lastIssued : Nat := 63
  /-- Pipe scalars as the owner sees them, by session * 512 + 256 for the decode Pod + number, and as published,
  newest first (R408). -/
  scalars : List (Nat × Nat) := []
  published : List Pub := []
  counters : List (Nat × Nat) := []
  gangCounters : List (Nat × Nat) := []
  /-- The step store by page slot: Pod handle (0 for none), page, and the turn in which a step was last issued from it
  (R410, R411). -/
  pages : List (Nat × (Nat × Nat × Nat)) := []
  fetches : List (Nat × Nat) := []
  fetchQueue : List (Nat × Nat) := []
  turn : Nat := 0
  bist : Bist := .none
  /-- The SELFTEST command that asked for the test. -/
  bistCmd : Option (Nat × Nat) := none
  bistAt : Nat := 0
  bistAborting : Bool := false
  /-- A test has failed and none has passed since (R428). -/
  failed : Bool := false
  lastTest : Nat := 0
  lastJob : Nat := 0
  /-- When the pipe's running jobs began to keep it busy, plus 1. -/
  busyFrom : Nat := 0
  /-- An aborted test is due again without the first condition of R424 (R427). -/
  waived : Bool := false
  /-- When the PAC last refused a self-test, plus 1 (R430). -/
  bistRefused : Nat := 0
  faultUnserved : Bool := false
  steps : Nat := 0
  busy : Nat := 0
  pageMisses : Nat := 0
  deadlocks : Nat := 0
  faults : Nat := 0
  bistAborted : Nat := 0
  bistFailed : Nat := 0
  waitExpired : Nat := 0
  waited : Nat := 0
  /-- A ring is at or above its threshold (11 R600). -/
  aruHigh : Bool := false
  /-- Records that the analysis record unit has gathered and not written: session, SEQ, whether a Pod emitted it, bytes. -/
  aruStaged : List (Nat × Nat × Bool × List Byte) := []
  deriving DecidableEq, Repr

/-- Hazel and its firmware (02 R107 to R111; 06). -/
structure Hazel where
  mode : HazelMode := .stopped
  epoch : Nat := 0
  image : ImageHeader := {}
  slotB : Bool := false
  /-- The handover of R108 as taken. -/
  pipVersion : Nat := 0
  pipIf : Nat := 0
  pipRom : Bool := false
  queues : List (Nat × Queue) := []
  jobs : List Cmd := []
  /-- POWER_STATE has stopped the taking of notices (R353). -/
  closed : Bool := false
  /-- What waits for the host to take a notice: queue, SEQ, the moment the command ended, and the work. -/
  deferred : List (Nat × Nat × Nat × Deferred) := []
  stageHazel : Stage := {}
  stagePip : Stage := {}
  sessions : List (Nat × Session) := []
  pods : List (Nat × Pod) := []
  deriving DecidableEq, Repr

end Sys2Proof.Machine
end

