-- ==== Sys2Proof/Machine/MediaState.lean ====
section
/-! DEFINITION. The state of memory, fabric, DMA, lanes, PTP, flows and the scheduler. -/

namespace Sys2Proof.Machine

/-- What the check bits of a stored 64-bit word say (12 R619 to R622). -/
inductive Mark where
  | clean
  | poison
  /-- One data bit, or one check bit, in error. -/
  | data | check
  /-- Two or more bits in error; a re-read does not help. -/
  | uncorrectable
  /-- Uncorrectable at the first read, clean at the re-read. -/
  | transient
  /-- Written above the watermark of R615. -/
  | written
  deriving DecidableEq, Repr

/-- FAB_DRAMs_STATUS.STATE in its encoding (12 R660). -/
inductive StackMode where
  | off | training | awake | entering | selfRefresh | leaving | selfTest
  deriving DecidableEq, Repr

/-- One DRAM stack (12 R614 to R618, R659 to R661, R668). -/
structure Stack where
  mode : StackMode := .off
  initDone : Bool := false
  hot : Bool := false
  pinFw : Bool := false
  pinRt : Nat := 0
  srIdle : Nat := 1000
  ueValid : Bool := false
  ueAddr : Nat := 0
  /-- A refused wake is asked for again after 10 ms (R926, R618). -/
  retrying : Bool := false
  cdata : Nat := 0
  ccheck : Nat := 0
  poisoned : Nat := 0
  transient : Nat := 0
  poisonReads : Nat := 0
  discards : Nat := 0
  refused : Nat := 0
  srEntries : Nat := 0
  bytes : Nat := 0
  deriving DecidableEq, Repr

/-- The Local Frame Store's registers and counters (12 R628, R661, R668). -/
structure Lfs where
  ueValid : Bool := false
  ueAddr : Nat := 0
  cdata : Nat := 0
  ccheck : Nat := 0
  poisoned : Nat := 0
  poisonReads : Nat := 0
  discards : Nat := 0
  deriving DecidableEq, Repr

/-- The patrol scrubber (12 R625 to R627, R662 to R664, R668). -/
structure Scrub where
  enable : Bool := true
  passHours : Nat := 8
  /-- Stacks behind schedule (R626). -/
  behind0 : Bool := false
  behind1 : Bool := false
  /-- Bursts of 256 bytes done in the pass: in DRAM0, DRAM1 and the LFS. -/
  pos0 : Nat := 0
  pos1 : Nat := 0
  posL : Nat := 0
  log : List (Nat × (Bool × Nat)) := []
  passes : Nat := 0
  overflows : Nat := 0
  found : Nat := 0
  ce : Nat := 0
  deriving DecidableEq, Repr

/-- A journal record not yet applied (12 R631). -/
structure JRec where
  region : Nat
  offset : Nat
  data : List Byte
  crcOk : Bool
  /-- A record of the configuration region: its items (17 R906). -/
  items : List (Nat × Nat) := []
  deriving DecidableEq, Repr

/-- The MRAM controllers: journals, wear, counters (12 R631 to R634, R665, R668). -/
structure Mram where
  journalM : List JRec := []
  journalD : List JRec := []
  wear : List (Nat × Nat) := []
  /-- User entries 16 to 63 of the Pod library: offset in its region and length (06 R362; log 60). -/
  library : List (Nat × (Nat × Nat)) := []
  /-- Regions whose MRAM_WEAR has been raised since chip reset. -/
  raised : List Nat := []
  torn : Nat := 0
  replayed : Nat := 0
  ue : Nat := 0
  ce : Nat := 0
  deriving DecidableEq, Repr

/-- Regulation and counters of a fabric port (12 R635, R657, R658, R668); `none` while a field holds its reset value. -/
structure FabPort where
  target : Option Nat := none
  prio : Option Nat := none
  otLimit : Option Nat := none
  requests : Nat := 0
  held : Nat := 0
  latMax : Nat := 0
  aged : Nat := 0
  deriving DecidableEq, Repr

/-- DMA_STATUS.STATE in its encoding (12 R644). -/
inductive DmaMode where
  | idle | running | error
  deriving DecidableEq, Repr

/-- One DMA channel (12 R643 to R652, R666 to R668). -/
structure Dma where
  src : Nat := 0
  dst : Nat := 0
  count : Nat := 0
  cfg : Nat := 0
  desc : Nat := 0
  mode : DmaMode := .idle
  err : Nat := 0
  descIdx : Nat := 0
  done : Nat := 0
  errAddr : Nat := 0
  /-- The transfer that runs came from a descriptor, and the next descriptor. -/
  chained : Bool := false
  next : Nat := 0
  /-- Bytes of the transfer that host completions have delivered. -/
  moved : Nat := 0
  /-- An error has been met and the stop of R652 is due: its code and address. -/
  failing : Option (Nat × Nat) := none
  bytes : Nat := 0
  stops : Nat := 0
  descs : Nat := 0
  deriving DecidableEq, Repr

/-- One entry of the timestamp FIFO (13 R711, R716). -/
structure Stamp where
  ns : Nat
  sec : Nat
  port : Nat
  tx : Bool
  msg : Nat
  seqId : Nat
  deriving DecidableEq, Repr

/-- The PTP block (13 R710 to R716). -/
structure Ptp where
  configured : Bool := false
  block : List Byte := []
  run : Bool := false
  locked : Bool := false
  loss : Bool := false
  sec : Nat := 0
  ns : Nat := 0
  /-- The part of a nanosecond that the clock holds beyond `ns`, in 1 / (256 * 10^9). -/
  frac : Nat := 0
  stepNs : Nat := 0
  stepSec : Nat := 0
  freq : Nat := 0
  targetNs : Nat := 0
  targetSec : Nat := 0
  armed : Bool := false
  ppsNs : Nat := 0
  ppsSec : Nat := 0
  fsyncNs : Nat := 0
  fsyncSec : Nat := 0
  fifo : List Stamp := []
  ppsOut : Bool := false
  fsyncOut : Bool := false
  deriving DecidableEq, Repr

/-- A frame that the egress reader has fetched (14 R753): its flow, its bytes from the destination MAC address through
the FCS, and the PTP time in ns at which a paced frame is eligible. An empty frame is a slot that stays empty (10 R552). -/
structure Frame where
  flow : Nat
  bytes : List Byte
  due : Option Nat
  deriving DecidableEq, Repr

/-- One lane and the port that rides it (13 R681 to R718). -/
structure Lane where
  mode : Nat := 0
  capture : Bool := false
  realtime : Bool := false
  /-- The port block in force (R691). -/
  block : List Byte := []
  /-- Granted and its quad PLL locked. -/
  enabled : Bool := false
  relocking : Bool := false
  /-- Firmware's watchdog has declared the port down: the next relock is discarded (R689). -/
  watchdog : Bool := false
  localFault : Bool := false
  remoteFault : Bool := false
  /-- TRS present (R698). -/
  trs : Bool := false
  /-- Consecutive valid EAVs since TRS loss (R698). -/
  eavs : Nat := 0
  freqOffset : Int := 0
  txFrame : Nat := 0
  rxFrame : Nat := 0
  payloadId : Option Nat := none
  detected : Nat := 0
  family : Bool := false
  ctle : Nat := 0
  rxFrames : Nat := 0
  txFrames : Nat := 0
  rxUnits : Nat := 0
  txUnits : Nat := 0
  /-- The two-counter words +0x20, +0x24, +0x28 and +0x2C: upper and lower halves (R717). -/
  w20h : Nat := 0
  w20l : Nat := 0
  w24h : Nat := 0
  w24l : Nat := 0
  w28h : Nat := 0
  w28l : Nat := 0
  w2ch : Nat := 0
  w2cl : Nat := 0
  w30 : Nat := 0
  relockFails : Nat := 0
  lockLosses : Nat := 0
  events : BitVec 6 := 0
  /-- The ancillary ring (R700). -/
  anc : Ring := {}
  /-- A frame is being sent, and being received. -/
  txOn : Bool := false
  rxOn : Bool := false
  /-- Active lines of that frame that have been received. -/
  rxLines : List Nat := []
  /-- Whole frames in the egress FIFO (14 R753). -/
  fifo : List Frame := []
  /-- Frames of Hazel-B for the CONTROL band, and when the next of them may start (14 R754). -/
  control : List (List Byte) := []
  controlAt : Nat := 0
  /-- When the line is free again. -/
  lineFree : Nat := 0
  /-- The scheduler session that deficit round robin visits, and whether the visit has begun (14 R755). -/
  turn : Nat := 0
  visiting : Bool := false
  /-- Group and source blocks that MCAST has joined (06 R372). -/
  groups : List (List Byte) := []
  unclassified : Nat := 0
  capNoRing : Nat := 0
  capLost : Nat := 0
  capFrames : Nat := 0
  deriving DecidableEq, Repr

/-- FLOW_STATUS state in its encoding (14 R766). -/
inductive FlowMode where
  | unused | active | idle | removing
  deriving DecidableEq, Repr

/-- One flow (14 R727 to R763, R766). -/
structure Flow where
  mode : FlowMode := .unused
  egress : Bool := false
  port : Nat := 0
  /-- The 128-byte flow block with defaults applied (R729). -/
  block : List Byte := []
  session : Option Nat := none
  entry : Nat := 0xFFF
  /-- Policing buckets, in 2^-16 bytes, and when they were last filled (R738). -/
  committed : Nat := 0
  peak : Nat := 0
  filled : Nat := 0
  lastDrop : Option Nat := none
  /-- Packets queued for sending, as whole frames, head first (R748), and the packets that the access units at the head
  of the queue still have. -/
  queue : List (List Byte) := []
  aus : List Nat := []
  /-- Packets of the access unit at the head of the queue, the frame number in which it is sent, and its next packet
  (R758); of an ST2110_20 flow, the frame and packet that are read next. -/
  auSize : Nat := 0
  frameNo : Nat := 0
  pktNo : Nat := 0
  /-- The RTP sequence number sent next. -/
  seqOut : Nat := 0
  /-- CINST of ST 2110-21 in 2^-16 packets, and when it was last measured (R759). -/
  cinst : Nat := 0
  cinstAt : Nat := 0
  /-- FLOW_REMOVE was taken then (R775). -/
  removedAt : Nat := 0
  /-- Ingress access-unit bytes in the LFS buffer, and the positions of discontinuities (R740). -/
  buffer : List Byte := []
  gaps : List Nat := []
  expected : Option Nat := none
  stamp : Option Nat := none
  slot : Nat := 0
  /-- Pgroups of each line that the slot has received (R742). -/
  lines : List (Nat × Nat) := []
  /-- Packets the packetiser could not queue yet (R749). -/
  waiting : List (List Byte) := []
  bpSince : Nat := 0
  learned : Nat := 0
  /-- Shaper credit in 1 / 8 000 000 bytes, and deficit in bytes (R755, R757). -/
  credit : Int := 0
  deficit : Nat := 0
  shapedAt : Nat := 0
  /-- Reserved rate of R761 in bit/s. -/
  reserved : Nat := 0
  /-- The capture ring, and the slots that the capture writer has gathered and not written (R746); of an SDI_ANC flow, the
  entries read for the next line (R751). -/
  ring : Ring := {}
  staged : List (List Byte) := []
  packets : Nat := 0
  bytes : Nat := 0
  w10 : Nat := 0
  w14 : Nat := 0
  w18h : Nat := 0
  w18l : Nat := 0
  w1ch : Nat := 0
  w1cl : Nat := 0
  w20h : Nat := 0
  w20l : Nat := 0
  maxLate : Nat := 0
  deriving DecidableEq, Repr

/-- One flow-table entry (14 R734, R735, R737, R768). -/
structure Entry where
  valid : Bool := false
  learned : Bool := false
  idle : Bool := false
  ipv6 : Bool := false
  flow : Nat := 0
  port : Nat := 0
  vlan : Option Nat := none
  dstAddr : Nat := 0
  dstPort : Nat := 0
  exact : Bool := false
  srcPort : Nat := 0
  srcAddr : Nat := 0
  ssrc : Nat := 0
  hitAt : Nat := 0
  packets : Nat := 0
  deriving DecidableEq, Repr

/-- One scheduler session of a port (14 R755, R756, R765). -/
structure Sched where
  quantum : Nat := 1538
  cir : Nat := 0
  cbs : Nat := 1538
  pir : Nat := 0
  pbs : Nat := 1538
  /-- The buckets in 1 / 8 000 000 bytes, and when they were last filled. -/
  committed : Int := 12304000000
  peak : Int := 12304000000
  filled : Nat := 0
  deficit : Nat := 0
  /-- The flow that the inner round robin visits, and whether the visit has begun. -/
  turn : Nat := 0
  visiting : Bool := false
  deriving DecidableEq, Repr

/-- One 64-entry event FIFO (14 R769). -/
structure Events where
  q : List Nat := []
  lost : Bool := false
  deriving DecidableEq, Repr

end Sys2Proof.Machine
end

