-- ==== Sys2Proof/Machine/State.lean ====
section
/-! DEFINITION. The whole state of the device, its state right after power is applied, and the reasons a step can
stop. -/

namespace Sys2Proof.Machine

/-- The device. Every field's default is its value at reset; the registers behind each field are listed in
INVENTORY.md under '## State'. -/
structure State where
  /-- The commands that wait, first in first out (the model's own). -/
  pending : List Instr := []
  /-- The model's clock in ns (log 2). -/
  now : Nat := 0
  /-- Free values used so far (log 3): no statement rests on it. -/
  free : Nat := 0
  /-- What the last command's access returned (log 4). -/
  answer : Answer := .none
  /-- What left the device in the course of the last command (log 4). -/
  outs : List Out := []
  /-- RDY_MAP (01 R44). -/
  rdy : BitVec 40 := 0
  /-- The RDY_MAP bits that have set since chip reset (06 R335, check 11). -/
  ever : BitVec 40 := 0
  /-- RDY_FELL (01 R55). -/
  fell : BitVec 40 := 0
  /-- Husk and Pip (02). -/
  husk : Husk := {}
  /-- The nine PLLs (02 R90), by `Pll.idx`. -/
  plls : List (Nat × PllState) := []
  /-- The video timing clock (02 R98). -/
  vtc : Vtc := {}
  /-- Power admission (03). -/
  pac : Pac := {}
  /-- The PCI Express endpoint (04). -/
  pcie : Pcie := {}
  /-- The 34 mailboxes: host to device 0 to 15, device to host 16 to 31, HZ2PIP 32, PIP2HZ 33 (05 R264). -/
  mbx : List (Nat × Mbx) := []
  /-- MBX_RST_CNT (05 R283). -/
  rstCnt : Nat := 0
  /-- Device-to-host writes are discarded after a host-side reset (05 R278). -/
  mbxClosed : Bool := false
  /-- The interrupt controller (05). -/
  icu : Icu := {}
  /-- The fault collector (15). -/
  flt : Flt := {}
  /-- SMBus, configuration and JTAG registers (17). -/
  board : Board := {}
  /-- MRAM bank M. -/
  bankM : BankM := {}
  /-- High halves of 64-bit counters latched by a low-half read (00 R18): key address * 8 + path. -/
  latches : List (Nat × Nat) := []
  /-- Hazel firmware: queues, job table, sessions, Pods (06). -/
  hazel : Hazel := {}
  /-- Memory by device address: DRAM, Local Frame Store, bank D (12 R612). -/
  mem : List Host.Cell := []
  /-- What the check bits of each 64-bit word say, by word number (12 R619). -/
  marks : List (Nat × Mark) := []
  /-- The two DRAM stacks. -/
  dram : List (Nat × Stack) := []
  lfs : Lfs := {}
  scrub : Scrub := {}
  mram : Mram := {}
  /-- The sixteen fabric ports (12 R635). -/
  fab : List (Nat × FabPort) := []
  /-- The sixteen DMA channels (12 R643). -/
  dma : List (Nat × Dma) := []
  /-- The four codec pipes (07). -/
  pipes : List (Nat × Pipe) := []
  ptp : Ptp := {}
  /-- The sixteen lanes and their ports (13). -/
  lanes : List (Nat × Lane) := []
  /-- The 1024 flows (14). -/
  flows : List (Nat × Flow) := []
  /-- The 4096 flow-table entries (14 R734). -/
  entries : List (Nat × Entry) := []
  /-- Scheduler sessions: key port * 64 + session (14 R755). -/
  sched : List (Nat × Sched) := []
  /-- The event FIFOs (14 R769). -/
  events : List (Nat × Events) := []
  deriving DecidableEq, Repr

/-- The faults of the model. Every command of this device has an effect that the spec describes, so no command raises
one: the constructor is there for the host's interface. -/
inductive Fault where
  /-- Raised by no command (safe). -/
  | halted
  deriving DecidableEq, Repr

/-- The refusals of the model. -/
inductive Refusal where
  /-- Raised by an arm of `exec` whose command has no meaning yet; no arm is left so (safe). -/
  | notModelled (mnemonic : String)
  deriving DecidableEq, Repr

/-- The Pip image the factory programs in slot A (log 6). -/
def factoryPip : ImageHeader :=
  { formatOk := true, signatureOk := true, silicon := [0xB0], version := 0x010402, pipIf := 0x0102, lomodAbi := 0x24 }

/-- The Hazel image the factory programs in slot A (log 6). -/
def factoryHazel : ImageHeader :=
  { formatOk := true, signatureOk := true, silicon := [0xB0], version := 0x030100, ifLo := 0x0102, ifHi := 0x0102
    tested := [0x010402], podLo := 0x0100, podHi := 0x0103, lomodAbi := 0x24 }

/-- The device as power is applied: the Husk held in power-on reset, bank M as the factory programs it (log 6). -/
def State.reset : State :=
  { bankM := { slotPipA := factoryPip, slotHazelA := factoryHazel } }

end Sys2Proof.Machine
end

