-- ==== Sys2Proof/WellFormed.lean ====
section
/-! DEFINITION. Which operands the outside world can supply: a register access names an aligned word of the 4 MiB
window (04 R212, R214), a requester names an instance of its kind (03 R143), a configuration access an aligned word of
the 4 KiB space (04 R209), a BAR2 access a range of the window (04 R217). -/

namespace Sys2Proof

/-- An aligned 32-bit word of BAR0's 4 MiB. -/
def wordAddr (a : Nat) : Bool := a % 4 == 0 && a < 0x400000

/-- Instances of a kind (03 R143). -/
def PacKind.instances : PacKind → Nat
  | .quadPll | .pipeJob | .pipeSelftest => 4
  | .laneEnable => 16
  | .dramWake => 2
  | .memSelftest => 3
  | _ => 1

/-- The requester exists (03 R143). -/
def Requester.wf (r : Requester) : Bool := r.inst < r.kind.instances

/-- A range of BAR2's 16 GiB window (04 R217). -/
def bar2Range (offset len : Nat) : Bool := 0 < len && len ≤ 4096 && offset + len ≤ 2 ^ 34

/-- The operands of a command are ones that the outside world can supply. -/
def Instr.wf : Instr → Bool
  | .registerWrite _ a _ | .rcRead _ a | .counterLowHalfRead _ a | .counterHighHalfRead _ a => wordAddr a
  | .counter64Read _ a => wordAddr a && a % 8 == 0
  | .pacRequest r _ | .pacRelease r | .pacWithdraw r | .pacTimeout r => r.wf
  | .configRequest a => a.offset % 4 == 0 && a.offset < 4096
  | .bar2Read o n => bar2Range o n
  | .bar2Write o d _ => bar2Range o d.length
  | .upstreamCompletion t _ d => t < 1024 && d.length ≤ 512
  | .completionTimeout t => t < 1024
  | .ptpNsRead _ a => wordAddr a
  | .smbusWrite a _ _ | .smbusRead a => a % 4 == 0 && a < 0x10000
  | .sdiLineReceive _ l => l.samples.length ≤ 0x10000
  | .ethFrameReceive _ f => f.payload.length ≤ f.len && f.bytes.length ≤ f.len
  | _ => true

end Sys2Proof
end

