-- ==== Sys2Proof/Machine/Ops.lean ====
section
/-! DEFINITION. The named operations that every family shares: readiness bits, interrupt requests, MSI-X messages,
free values, time, and the small accessors of the tables State holds. -/

namespace Sys2Proof

/-! ### PLLs and PAC requesters (02 R90; 03 R143) -/

/-- The place of a PLL in the table of PLLs. -/
def Pll.idx : Pll → Nat
  | .fabric => 0 | .hazel => 1 | .core => 2 | .quad q => 3 + q.val | .phy => 7 | .vtc => 8

/-- The requester that a PLL start is. -/
def Pll.who : Pll → Requester
  | .fabric => ⟨.fabricPll, 0⟩ | .hazel => ⟨.hazelPll, 0⟩ | .core => ⟨.corePll, 0⟩
  | .quad q => ⟨.quadPll, q.val⟩ | .phy => ⟨.phyPll, 0⟩ | .vtc => ⟨.vtcPll, 0⟩

/-- The PLL that a requester starts, as its place in the table. -/
def Requester.pll? (r : Requester) : Option Nat :=
  match r.kind with
  | .fabricPll => some 0 | .hazelPll => some 1 | .corePll => some 2
  | .quadPll => some (3 + r.inst % 4) | .phyPll => some 7 | .vtcPll => some 8
  | _ => none

/-- Kind codes of R143. -/
def PacKind.code : PacKind → Nat
  | .fabricPll => 0x01 | .hazelPll => 0x02 | .corePll => 0x03 | .quadPll => 0x04 | .phyPll => 0x05 | .vtcPll => 0x06
  | .pipeJob => 0x10 | .pipeSelftest => 0x11 | .laneEnable => 0x18 | .dramWake => 0x20 | .memSelftest => 0x21
  | .mramBurst => 0x28

end Sys2Proof

namespace Sys2Proof.Machine

/-! ### Time and free values -/

/-- `n` slow ticks of 1/32768 s, in ns, rounded down (02 R75). -/
def ticksNs (n : Nat) : Nat := n * 1953125 / 64

/-- The frequency offset in force, in 1/256 ppb, within 500 ppm (13 R716). -/
def Ptp.offset (p : Ptp) : Int := max (-128000000) (Min.min 128000000 (toSigned 32 p.freq))

/-- PTP time over `d` ns of the XO while RUN is 1 (13 R716). -/
def Ptp.advance (p : Ptp) (d : Nat) : Ptp :=
  if p.run then
    let acc := p.frac + d * (256000000000 + p.offset).toNat
    let ns := p.ns + acc / 256000000000
    { p with frac := acc % 256000000000, ns := ns % 1000000000, sec := (p.sec + ns / 1000000000) % 2 ^ 48 }
  else p

/-- `d` ns pass. -/
def State.advance (s : State) (d : Nat) : State := { s with now := s.now + d, ptp := s.ptp.advance d }

/-- The moment an interval that ends at `due` ends: time never runs back (log 2). -/
def State.until (s : State) (due : Nat) : State := s.advance (due - s.now)

/-- An empty queue: one cycle of the 50 MHz XO passes (log 1). -/
def State.idle (s : State) : State := s.advance 20

/-- Slow ticks since power-on reset (15 R804). -/
def State.slowTicks (s : State) : Nat := (s.now - s.husk.porAt) * 64 / 1953125

/-- The next free value (log 3). -/
def State.freeVal (s : State) : Nat := (Config.freeWord s.free).toNat

/-- Use up a free value. -/
def State.tookFree (s : State) : State := { s with free := s.free + 1 }

/-! ### Readiness bits (01 R44 to R56) -/

/-- The mask of one bit. -/
def rdyBit (i : Nat) : BitVec 40 := BitVec.ofNat 40 (2 ^ i)

def State.ready (s : State) (i : Nat) : Bool := s.rdy.getLsbD i

def State.setReady (s : State) (i : Nat) : State := { s with rdy := s.rdy ||| rdyBit i, ever := s.ever ||| rdyBit i }

/-- Clear the bits of `m`; each that falls sets its RDY_FELL bit (R55). -/
def State.dropReady (s : State) (m : BitVec 40) : State :=
  { s with rdy := s.rdy &&& ~~~m, fell := s.fell ||| (s.rdy &&& m) }

/-- Clear the bits of `m` at a reset that itself clears RDY_FELL (R56). -/
def State.clearReady (s : State) (m : BitVec 40) : State := { s with rdy := s.rdy &&& ~~~m }

/-- The main rails are up (02 R66). -/
def State.mainOn (s : State) : Bool := s.husk.power == .mainOn

/-- A host access reaches the endpoint's windows: link up, D0, memory space enabled, no FLR (04 R207, R236). -/
def State.hostUp (s : State) : Bool := s.pcie.linkUp && !s.pcie.d3 && s.pcie.mse && !s.pcie.flr

/-! ### Tables of like things -/

def State.pll (s : State) (p : Nat) : PllState := Table.get .stopped s.plls p
def State.setPll (s : State) (p : Nat) (x : PllState) : State := { s with plls := Table.set .stopped s.plls p x }

def State.box (s : State) (m : Nat) : Mbx := Table.get {} s.mbx m
def State.setBox (s : State) (m : Nat) (x : Mbx) : State := { s with mbx := Table.set {} s.mbx m x }

def State.fltSrc (s : State) (i : Nat) : FltSrc := Table.get {} s.flt.src i
def State.setFltSrc (s : State) (i : Nat) (x : FltSrc) : State :=
  { s with flt := { s.flt with src := Table.set {} s.flt.src i x } }

def State.stack (s : State) (i : Nat) : Stack := Table.get {} s.dram i
def State.setStack (s : State) (i : Nat) (x : Stack) : State := { s with dram := Table.set {} s.dram i x }

def State.chan (s : State) (i : Nat) : Dma := Table.get {} s.dma i
def State.setChan (s : State) (i : Nat) (x : Dma) : State := { s with dma := Table.set {} s.dma i x }

def State.port16 (s : State) (i : Nat) : FabPort := Table.get {} s.fab i
def State.setPort16 (s : State) (i : Nat) (x : FabPort) : State := { s with fab := Table.set {} s.fab i x }

def State.queue (s : State) (k : Nat) : Queue := Table.get {} s.hazel.queues k
def State.setQueue (s : State) (k : Nat) (x : Queue) : State :=
  { s with hazel := { s.hazel with queues := Table.set {} s.hazel.queues k x } }

def State.pipe (s : State) (n : Nat) : Pipe := Table.get {} s.pipes n
def State.setPipe (s : State) (n : Nat) (x : Pipe) : State := { s with pipes := Table.set {} s.pipes n x }

def State.lane (s : State) (n : Nat) : Lane := Table.get {} s.lanes n
def State.setLane (s : State) (n : Nat) (x : Lane) : State := { s with lanes := Table.set {} s.lanes n x }

def State.flow (s : State) (f : Nat) : Flow := Table.get {} s.flows f
def State.setFlow (s : State) (f : Nat) (x : Flow) : State := { s with flows := Table.set {} s.flows f x }

def State.entry (s : State) (e : Nat) : Entry := Table.get {} s.entries e
def State.setEntry (s : State) (e : Nat) (x : Entry) : State := { s with entries := Table.set {} s.entries e x }

def State.session (s : State) (i : Nat) : Session := Table.get {} s.hazel.sessions i
def State.setSession (s : State) (i : Nat) (x : Session) : State :=
  { s with hazel := { s.hazel with sessions := Table.set {} s.hazel.sessions i x } }

def State.pod (s : State) (h : Nat) : Pod := Table.get {} s.hazel.pods h
def State.setPod (s : State) (h : Nat) (x : Pod) : State :=
  { s with hazel := { s.hazel with pods := Table.set {} s.hazel.pods h x } }

/-! ### Interrupt requests (05 R286 to R293) -/

/-- The level sources: DMA_ERR, PIPE_FAULT, ARU_RING to PTP_TS, DEV_RDY_FELL, FLT_IRQ, SCRUB_EVT and PCIE_EVT. -/
def icuLevels : BitVec 256 :=
  BitVec.ofNat 256 ((2 ^ 16 - 1) * 2 ^ 17 + 15 * 2 ^ 37 + (2 ^ 40 - 1) * 2 ^ 45 + 7 * 2 ^ 89 + 2 ^ 93)

/-- The assigned sources, 1 to 103. -/
def icuAssigned : BitVec 256 := BitVec.ofNat 256 (2 ^ 104 - 2)

def icuBit (i : Nat) : BitVec 256 := BitVec.ofNat 256 (2 ^ i)

/-- Set the pending bits of `m` at one target. -/
def IcuTgt.edge (t : IcuTgt) (m : BitVec 256) : IcuTgt := { t with pend := t.pend ||| m }

/-- An edge of every source of `m`, at all four targets; lost while the ICU is in reset (R288, R326). -/
def State.edges (s : State) (m : BitVec 256) : State :=
  if s.ready 14 then
    { s with icu := { s.icu with hazelA := s.icu.hazelA.edge m, hazelB := s.icu.hazelB.edge m
                                 pip := s.icu.pip.edge m, host := s.icu.host.edge m } }
  else s

def State.edge (s : State) (i : Nat) : State := s.edges (icuBit i &&& icuAssigned &&& ~~~icuLevels)

/-- Pending sources of a target: the latched edges and the standing requests (R288, R289). -/
def Icu.pending (u : Icu) (t : IcuTgt) : BitVec 256 := (t.pend &&& ~~~icuLevels) ||| (u.level &&& icuLevels)

/-- The sources whose priority is greater than `th` (R290); priority 0 is never eligible. -/
def Icu.above (u : Icu) (th : Nat) : BitVec 256 :=
  match th with
  | 0 => u.prio0 ||| u.prio1 ||| u.prio2
  | 1 => u.prio1 ||| u.prio2
  | 2 => (u.prio1 &&& u.prio0) ||| u.prio2
  | 3 => u.prio2
  | 4 => u.prio2 &&& (u.prio1 ||| u.prio0)
  | 5 => u.prio2 &&& u.prio1
  | 6 => u.prio2 &&& u.prio1 &&& u.prio0
  | _ => 0

/-- The eligible sources of a target (R290). -/
def Icu.eligible (u : Icu) (t : IcuTgt) : BitVec 256 := u.pending t &&& t.en &&& u.above t.thresh &&& ~~~t.svc

/-- The MSI-X vector of a source at the host target (R314). -/
def Icu.vector (u : Icu) (i : Nat) : Nat :=
  match Table.get 0 u.vmap i with
  | 0 => i % 64
  | v + 1 => v

/-- The sources 0 to `n - 1` mapped to vector `v`. -/
def Icu.mapped (u : Icu) (v : Nat) : Nat → BitVec 256
  | 0 => 0
  | n + 1 => (if u.vector n = v then icuBit n else 0) ||| Icu.mapped u v n

/-- The vectors of the sources below `n` in `e`, as a mask. -/
def Icu.vectorsOf (u : Icu) (e : BitVec 256) : Nat → BitVec 64
  | 0 => 0
  | n + 1 => (if e.getLsbD n then BitVec.ofNat 64 (2 ^ u.vector n) else 0) ||| Icu.vectorsOf u e n

/-- The priority of a source (R313). -/
def Icu.prio (u : Icu) (i : Nat) : Nat :=
  b2n (u.prio0.getLsbD i) + 2 * b2n (u.prio1.getLsbD i) + 4 * b2n (u.prio2.getLsbD i)

/-- The eligible source below `n` of highest priority, the lowest ID among equals (R294). -/
def Icu.best (u : Icu) (e : BitVec 256) : Nat → Option Nat
  | 0 => none
  | n + 1 =>
    match Icu.best u e n with
    | none => if e.getLsbD n then some n else none
    | some b => if e.getLsbD n && u.prio b < u.prio n then some n else some b

/-! ### MSI-X messages (04 R225, R226, R231) -/

/-- The endpoint may send the message of vector `v` now. -/
def Pcie.canSend (p : Pcie) (v : Nat) : Bool :=
  p.linkUp && !p.flr && !p.d3 && p.bme && p.msixEnable && !p.msixMask && !(Table.get {} p.msix v).masked

/-- Send the message of vector `v`, or set its PBA bit. -/
def State.message (s : State) (v : Nat) : State :=
  if s.pcie.canSend v then
    let e := Table.get {} s.pcie.msix v
    { s with outs := s.outs ++ [.msix v e.addr e.data],
             pcie := { s.pcie with pba := s.pcie.pba &&& ~~~(BitVec.ofNat 64 (2 ^ v)) } }
  else { s with pcie := { s.pcie with pba := s.pcie.pba ||| BitVec.ofNat 64 (2 ^ v) } }

/-- Send the messages of the vectors of `m` below `n`, the lowest first. -/
def State.messages (s : State) (m : BitVec 64) : Nat → State
  | 0 => s
  | n + 1 => let t := State.messages s m n; if m.getLsbD n then t.message n else t

/-- Send every pending message that may now be sent. -/
def State.flushMsix (s : State) : State :=
  foldRange (fun v t => if t.pcie.pba.getLsbD v && t.pcie.canSend v then t.message v else t) 64 s

/-! ### The fault log's clock -/

/-- XO cycles of 20 ns since the XO bit last set (15 R804). -/
def State.logTime (s : State) : Nat := (s.now - s.husk.xoSetAt) / 20

/-- The bitwise majority of the three copies (15 R799). -/
def Trip.vote (t : Trip) : Nat := (t.a &&& t.b) ||| (t.a &&& t.c) ||| (t.b &&& t.c)

def Trip.of (v : Nat) : Trip := ⟨v, v, v⟩

def Trip.agree (t : Trip) : Bool := t.a == t.b && t.b == t.c

/-! ### Bank M configuration (02 R114; 17 R905) -/

/-- The value of a configuration item and whether the stored one was invalid: `legal` says which values are legal and
`dflt` is the bracketed factory value. -/
def BankM.item (b : BankM) (i dflt : Nat) (legal : Nat → Bool) : Nat × Bool :=
  match Table.get none b.items i with
  | none => (dflt, false)
  | some v => if legal v then (v, false) else (dflt, true)

/-- Legal values of FLT_QUIET, XO_SETTLE and PG_TIMEOUT. -/
def legal16 (v : Nat) : Bool := 1 ≤ v && v ≤ 65535

/-- A field of `w` bits at `lo` of a register value replaced by `v`. -/
def putField (x lo w v : Nat) : Nat := x - bitsOf x lo w * 2 ^ lo + v % 2 ^ w * 2 ^ lo

end Sys2Proof.Machine
end

