-- ==== Sys2Proof/Machine/Pac.lean ====
section
/-! DEFINITION. Power admission (03): charges, budgets, the request protocol, and what a grant, a refusal and a
release do to the requester. -/

namespace Sys2Proof.Machine

def Amps.add (a b : Amps) : Amps := ⟨a.core + b.core, a.sram + b.sram, a.serdes + b.serdes, a.dram + b.dram⟩

/-- At most, on every rail. -/
def Amps.le (a b : Amps) : Bool := a.core ≤ b.core && a.sram ≤ b.sram && a.serdes ≤ b.serdes && a.dram ≤ b.dram

def Amps.min (a b : Amps) : Amps :=
  ⟨Nat.min a.core b.core, Nat.min a.sram b.sram, Nat.min a.serdes b.serdes, Nat.min a.dram b.dram⟩

/-- The typical charges of R143, in 0.1 A. -/
def typicalCharge (k : PacKind) (inst : Nat) : Amps :=
  match k with
  | .fabricPll => ⟨60, 10, 0, 0⟩
  | .hazelPll => ⟨30, 5, 0, 0⟩
  | .corePll => ⟨30, 0, 0, 0⟩
  | .quadPll => ⟨0, 0, 4, 0⟩
  | .phyPll => ⟨0, 0, 12, 0⟩
  | .vtcPll => ⟨2, 0, 0, 0⟩
  | .pipeJob => ⟨190, 25, 0, 0⟩
  | .pipeSelftest => ⟨230, 30, 0, 0⟩
  | .laneEnable => ⟨4, 0, 3, 0⟩
  | .dramWake => ⟨20, 0, 0, 50⟩
  | .memSelftest => if inst = 0 then ⟨20, 30, 0, 0⟩ else ⟨10, 0, 0, 20⟩
  | .mramBurst => ⟨8, 0, 0, 0⟩

/-- The baselines of kind 0x00 (R143). -/
def baselineTypical : Amps := ⟨90, 20, 6, 5⟩

/-- 15 % above the typical value, rounded up to 0.1 A: the charge ceiling (R143). -/
def ceiling (typ : Nat) : Nat := (typ * 115 + 99) / 100

/-- The charge that bank M stores for one kind, instance and rail, and whether it passes its check (R142). -/
def BankM.charge (b : BankM) (code inst rail typ : Nat) : Nat × Bool :=
  match Table.get none b.charges (code * 256 + inst * 4 + rail) with
  | none => (typ, true)
  | some (v, ok) => if ok && v ≤ ceiling typ then (v, true) else (ceiling typ, false)

/-- The four charges of a kind and instance as the PAC uses them. -/
def BankM.charges4 (b : BankM) (code inst : Nat) (t : Amps) : Amps :=
  ⟨(b.charge code inst 0 t.core).1, (b.charge code inst 1 t.sram).1, (b.charge code inst 2 t.serdes).1,
   (b.charge code inst 3 t.dram).1⟩

/-- Every stored charge of a kind and instance passes its check. -/
def BankM.chargesOk (b : BankM) (code inst : Nat) (t : Amps) : Bool :=
  (b.charge code inst 0 t.core).2 && (b.charge code inst 1 t.sram).2 && (b.charge code inst 2 t.serdes).2
    && (b.charge code inst 3 t.dram).2

def State.chargeOf (s : State) (r : Requester) : Amps :=
  s.bankM.charges4 r.kind.code r.inst (typicalCharge r.kind r.inst)

def State.baselines (s : State) : Amps := s.bankM.charges4 0 0 baselineTypical

/-- The baseline of each rail whose enable is high (R144). -/
def State.baselineUse (s : State) : Amps :=
  let b := s.baselines
  ⟨if s.husk.enMain then b.core else 0, if s.husk.enMain then b.sram else 0,
   if s.husk.enSrd then b.serdes else 0, if s.husk.enDram then b.dram else 0⟩

/-- The use of each rail (R151). -/
def State.pacUse (s : State) : Amps :=
  s.pac.held.foldl (fun a r => a.add (s.chargeOf r)) s.baselineUse

/-- The standing budget and step (R149). -/
def Pac.standing (p : Pac) : Amps := if p.clamped then p.budget.min p.safe else p.budget
def Pac.standingStep (p : Pac) : Amps := if p.clamped then p.step.min p.safeStep else p.step

/-- The effective budget (R150). -/
def Pac.effective (p : Pac) : Amps :=
  let b := p.standing
  if p.warn then ⟨b.core * p.throttlePct / 100, b.sram * p.throttlePct / 100, b.serdes * p.throttlePct / 100,
    b.dram * p.throttlePct / 100⟩
  else b

/-- A request fits (R152). -/
def State.pacFits (s : State) (r : Requester) : Bool :=
  (s.chargeOf r).le s.pac.standingStep && (s.pacUse.add (s.chargeOf r)).le s.pac.effective

/-- The refusal a request meets on arrival, and after a write or a clamp: 2 STEP, 3 NEVER_FITS (R162). -/
def State.pacBars (s : State) (r : Requester) : Option Nat :=
  if !(s.chargeOf r).le s.pac.standingStep then some 2
  else if !(s.baselines.add (s.chargeOf r)).le s.pac.standing then some 3
  else none

/-- The request next in line: the head of the highest class that has one (R159, R160). -/
def pacHead (q : List PacReq) : Option PacReq :=
  match q.find? (·.cls == 2) with
  | some r => some r
  | none =>
    match q.find? (·.cls == 1) with
    | some r => some r
    | none => q.find? (·.cls == 0)

/-- The head may be granted, the spacing of R153 apart (R155, R166; 02 R922). -/
def State.pacGrantable (s : State) (q : PacReq) : Bool :=
  s.ready 3 && s.pacFits q.who && !(s.pac.warn && q.cls == 0) && (s.ready 2 || q.who.pll?.isNone)

/-! ### Who waits, and what a refusal does to the requester (R164, R200; 02 R93, R924) -/

/-- A requester gives its grant back (R157). -/
def State.release (s : State) (r : Requester) : State :=
  { s with pac := { s.pac with held := s.pac.held.filter (· != r) } }

/-- A requester withdraws its request, and gives back a grant it holds (R155, R191). -/
def State.withdraw (s : State) (r : Requester) : State :=
  { s with pac := { s.pac with held := s.pac.held.filter (· != r), queue := s.pac.queue.filter (·.who != r) } }

/-- Reclaim every grant and withdraw every request of the requesters that `p` names (R42). -/
def State.reclaim (s : State) (p : Requester → Bool) : State :=
  { s with pac := { s.pac with held := s.pac.held.filter (!p ·), queue := s.pac.queue.filter (!p ·.who) } }

/-- The opcode is a job that uses a pipe (06 R363). -/
def isJob (op : Nat) : Bool := 0x0301 ≤ op && op ≤ 0x0304

/-- The command's work has not ended. -/
def Cmd.live (c : Cmd) : Bool := c.phase == .accepted || c.phase == .running

/-- End a live command with a status. -/
def Cmd.finish (c : Cmd) (status detail result : Nat) : Cmd :=
  if c.live then { c with phase := .ended, status := status, detail := detail, result := result, wait := none, onPipe := false }
  else c

/-- End every live command that `p` selects. -/
def State.endJobs (s : State) (p : Cmd → Bool) (status detail : Nat) : State :=
  { s with hazel := { s.hazel with jobs := s.hazel.jobs.map fun c => if p c then c.finish status detail 0 else c } }

/-- Commands that wait on a requester end with a status (R164). -/
def State.endWaiting (s : State) (r : Requester) (status detail : Nat) : State :=
  s.endJobs (fun c => c.wait == some r) status detail

/-- A job that runs on a pipe, or has asked for its grant. -/
def Cmd.uses (c : Cmd) (n : Nat) : Bool :=
  c.phase == .running && isJob c.opcode && bitAt c.pipes n && (c.onPipe || c.wait.isSome)

/-- A job that has asked for its grants and has not started. -/
def Cmd.asked (c : Cmd) : Bool := c.phase == .running && isJob c.opcode && c.wait.isSome && !c.onPipe

/-- Some job runs on the pipe, or has asked for its grant. -/
def State.pipeBusy (s : State) (n : Nat) : Bool := s.hazel.jobs.any (·.uses n)

/-- The pipe-job grants and requests of pipes 0 to `n - 1` for which no job remains go (07 R404; 02 R93). -/
def State.releaseIdlePipes (s : State) : Nat → State
  | 0 => s
  | n + 1 =>
    let t := State.releaseIdlePipes s n
    if t.pipeBusy n then t
    else if t.pac.held.contains ⟨.pipeJob, n⟩ then (t.withdraw ⟨.pipeJob, n⟩).setPipe n { t.pipe n with lastJob := t.now }
    else t.withdraw ⟨.pipeJob, n⟩

/-- The lanes of a port in a mode (06 R373). -/
def portLanes (port mode : Nat) : List Nat := if mode = 8 then [port, port + 1, port + 2, port + 3] else [port]

/-- A PORT_CONFIG that waits for lane `n`. -/
def Cmd.portWaits (c : Cmd) (n : Nat) : Bool :=
  c.opcode == 0x401 && c.phase == .running && (portLanes (c.a0 % 16) (bitsOf c.a0 8 4)).contains n

/-- The PORT_CONFIG that waits for lane `n` ends, and its lanes' grants and requests go (R147). -/
def State.endPort (s : State) (n status : Nat) (detail : Nat → Nat) : State :=
  match s.hazel.jobs.find? (·.portWaits n) with
  | none => s
  | some c =>
    let t := s.endJobs (fun x => x.portWaits n) status (detail (c.a0 % 16))
    (portLanes (c.a0 % 16) (bitsOf c.a0 8 4)).foldl
      (fun u l => (u.withdraw ⟨.laneEnable, l⟩).setLane l { u.lane l with mode := 0, capture := false, realtime := false, block := [] }) t

/-- A running channel meets an error; the stop of 12 R652 is due. -/
def Dma.fail (d : Dma) (code addr : Nat) : Dma :=
  if d.mode == .running && d.failing.isNone then { d with failing := some (code, addr) } else d

/-- The stack that a channel's transfer touches. -/
def Dma.touches (d : Dma) (n : Nat) : Bool :=
  (!bitAt d.cfg 8 && d.src / 2 ^ 33 == n) || (!bitAt d.cfg 9 && d.dst / 2 ^ 33 == n)

/-- A wake of a stack has been refused (12 R617, R618, R678). -/
def State.wakeRefused (s : State) (n : Nat) : State :=
  let k := s.stack n
  let t := s.setStack n { k with refused := satAdd 16 k.refused 1, retrying := true }
  foldRange (fun i v => let d := v.chan i; if d.touches n then v.setChan i (d.fail 7 d.src) else v) 16 t

/-- A self-test of a pipe will not run now. -/
def State.dropBist (s : State) (n : Nat) : State := s.setPipe n { s.pipe n with bist := .none, bistCmd := none }

/-- What becomes of the self-tests that wait for the core PLL (02 R93, R924). -/
def State.bistsLater (s : State) : State :=
  let t := foldRange (fun n u => if (u.pipe n).bistCmd.isSome && (u.pipe n).bist == .requested then u.dropBist n else u) 4 s
  if (List.range 4).any (fun n => (t.pipe n).bist == .requested) then
    if t.husk.bistRetries < 8 then t.setPll 2 .retrying
    else (foldRange (fun n u => if (u.pipe n).bist == .requested then u.dropBist n else u) 4 t).setPll 2 .stopped
  else t.setPll 2 .stopped

/-- The work that waits on a requester is settled: the status, and its DETAIL from the number of the pipe, lane or
function that it names. -/
def State.settleWork (s : State) (r : Requester) (status : Nat) (detail : Nat → Nat) : State :=
  match r.kind with
  | .corePll =>
    let js := s.hazel.jobs.map fun c =>
      if c.asked || c.wait == some r then
        c.finish status (detail (16 + match c.wait with
          | some ⟨.pipeJob, n⟩ => n
          | _ => bitsOf c.a0 8 8)) 0
      else c
    (({ s with hazel := { s.hazel with jobs := js } }).releaseIdlePipes 4).bistsLater
  | .pipeJob =>
    (s.endJobs (fun c => c.asked && bitAt c.pipes r.inst) status (detail (16 + r.inst))).releaseIdlePipes 4
  | .quadPll =>
    (foldRange (fun l t => t.endPort (4 * r.inst + l) status fun p => detail (24 + p)) 4 s).setPll (3 + r.inst % 4) .stopped
  | .laneEnable => s.endPort r.inst status fun p => detail (24 + p)
  | .vtcPll => (s.endWaiting r status (detail 20)).setPll 8 (if s.vtc.configured then .retrying else .stopped)
  | .fabricPll => s.setPll 0 .retrying
  | .hazelPll => s.setPll 1 .retrying
  | .phyPll => s.setPll 7 .retrying
  | .dramWake => (s.endWaiting r status (detail (6 + r.inst))).wakeRefused r.inst
  | .pipeSelftest =>
    let t := (s.endWaiting r status (detail (16 + r.inst))).dropBist r.inst
    t.setPipe r.inst { t.pipe r.inst with bistRefused := t.now + 1 }
  | .memSelftest => s.endWaiting r status (detail (5 + r.inst))
  | .mramBurst => s.endWaiting r status (detail 8)

/-- What a refusal does to the requester. -/
def State.onRefuse (s : State) (r : Requester) : State :=
  s.settleWork r 0x0203 fun _ => s.pac.lastDeny % 2 ^ 18

/-- Refuse a request (R162, R163): registers, PAC_EVT, and the requester learns. -/
def State.refuse (s : State) (q : PacReq) (code : Nat) : State :=
  let late := code == 1 || code == 4
  let p := s.pac
  let p' := { p with queue := p.queue.filter (·.who != q.who)
                     lastDeny := q.who.kind.code + q.who.inst % 16 * 2 ^ 8 + code * 2 ^ 12 + q.cls * 2 ^ 16
                     denyTimeout := if late then satAdd 16 p.denyTimeout 1 else p.denyTimeout
                     denyFit := if late then p.denyFit else satAdd 16 p.denyFit 1
                     waitMax := max p.waitMax (min ((s.now - q.at_) / 1000) (satMax 32)) }
  (({ s with pac := p' }).edge 95).onRefuse q.who

/-- Refuse every queued request that no longer passes the STEP or NEVER_FITS test (R162, R170, R193). -/
def State.retest (s : State) : State :=
  s.pac.queue.foldl (fun t q => match t.pacBars q.who with | some c => t.refuse q c | none => t) s

/-- Insert a request in order of arrival; requests of one moment go by kind code and instance (R160). -/
def pacInsert (q : PacReq) : List PacReq → List PacReq
  | [] => [q]
  | r :: l =>
    if r.at_ < q.at_ || (r.at_ == q.at_ && (r.who.kind.code < q.who.kind.code
        || (r.who.kind.code == q.who.kind.code && r.who.inst ≤ q.who.inst))) then r :: pacInsert q l
    else q :: r :: l

/-- A request reaches the PAC (R145, R146, R155, R158, R162). -/
def State.request (s : State) (r : Requester) (cls : Nat) : State :=
  if s.pac.held.contains r then s
  else if s.pac.queue.any (·.who == r) then
    { s with pac := { s.pac with queue := s.pac.queue.map fun q =>
        if q.who = r then { q with cls := max q.cls cls } else q } }
  else
    let q : PacReq := ⟨r, cls, s.now, s.pac.timeout, s.now⟩
    match s.ready 3, s.pacBars r with
    | true, some c => s.refuse q c
    | _, _ => { s with pac := { s.pac with queue := pacInsert q s.pac.queue } }

/-- Ask for a PLL start: nothing is asked of a PLL that runs, starts or has been asked for (02 R91, R95). -/
def State.startPll (s : State) (p : Pll) (cls : Nat) : State :=
  match s.pll p.idx with
  | .stopped | .retrying => (s.setPll p.idx .requested).request p.who cls
  | .requested => s.request p.who cls
  | _ => s

/-- Ask for the wake of a DRAM stack (12 R617). -/
def State.wakeStack (s : State) (n cls : Nat) : State :=
  let k := s.stack n
  match k.mode with
  | .off | .selfRefresh | .entering => (s.setStack n { k with retrying := false }).request ⟨.dramWake, n⟩ cls
  | _ => s

end Sys2Proof.Machine
end

