-- ==== Sys2Proof/Machine/Resets.lean ====
section
/-! DEFINITION. What each reset reaches (01 R57), and how it settles the commands taken before it (06 R384). -/

namespace Sys2Proof.Machine

/-! ### Settling commands -/

/-- Stop every thread of a session on one pipe. -/
def Pipe.stopThreads (p : Pipe) (sess : Nat) : Pipe :=
  { p with threads := p.threads.filter fun e => e.2.session != sess }

/-- A session's job is cut: what it had staged is lost, and the next job starts afresh (07 R415; 11 R597). -/
def Session.halt (x : Session) : Session :=
  match x.run with
  | none => x
  | some r =>
    { x with run := none, oldRing := none, needsKey := true
             cut := x.cut + r.recs.length, cutSeq := if r.recs.isEmpty then x.cutSeq else r.seq
             refs := x.refs.filter fun e => !r.taken.contains e.1 }

/-- Halt the job of a session: its threads stop and it leaves its pipes. -/
def State.haltRun (s : State) (sess : Nat) : State :=
  let t := s.setSession sess (s.session sess).halt
  foldRange (fun n u => u.setPipe n ((u.pipe n).stopThreads sess)) 4 t

/-- Halt the job of every session below `n` that `p` selects. -/
def State.haltRuns (s : State) (p : Session → Bool) : Nat → State
  | 0 => s
  | n + 1 =>
    let t := State.haltRuns s p n
    if p (t.session n) && (t.session n).run.isSome then t.haltRun n else t

/-! ### Block resets -/

def Block.pipeReq (n : Nat) (r : Requester) : Bool :=
  (r.kind == .pipeJob || r.kind == .pipeSelftest) && r.inst == n

/-- A codec pipe: its jobs and a SELFTEST of it end RESET_ABORTED; the failed mark stays (07 R428). -/
def State.resetPipe (s : State) (n : Nat) : State :=
  let k := s.pipe n
  let t := s.haltRuns (fun x => bitAt x.mask n) 64
  let t := t.endJobs (fun c => c.phase == .running && bitAt c.pipes n) 0x0301 1
  let t := t.endJobs (fun c => k.bistCmd == some (c.queue, c.seq)) 0x0301 1
  let t := t.reclaim (Block.pipeReq n)
  let t := t.setPipe n { failed := k.failed, lastTest := k.lastTest, lastJob := k.lastJob, bistRefused := k.bistRefused }
  let t := (t.dropReady (rdyBit (16 + n))).releaseIdlePipes 4
  if s.ever.getLsbD (16 + n) && !k.failed then t.setReady (16 + n) else t

/-- A lane: its registers take their reset values, and its lane-enable grant is reclaimed. -/
def State.resetLane (s : State) (n : Nat) : State :=
  let t := s.endPort n 0x0301 fun _ => 1
  ((t.setLane n {}).reclaim fun r => r.kind == .laneEnable && r.inst == n).dropReady (rdyBit (24 + n))

/-- A channel's registers take their reset values; the counters are the engine's. -/
def Dma.reset (d : Dma) : Dma := { bytes := d.bytes, stops := d.stops, descs := d.descs }

/-- The memory range of a stack. -/
def inStack (n a : Nat) : Bool := a / 2 ^ 33 == n
def inLfs (a : Nat) : Bool := 0x800000000 ≤ a && a < 0x804000000
def inBankD (a : Nat) : Bool := 0x900000000 ≤ a && a < 0x900720000

/-- Forget the bytes and marks of the addresses that `p` selects. -/
def State.wipe (s : State) (p : Nat → Bool) : State :=
  { s with mem := Table.keep (fun a => !p a) s.mem, marks := Table.keep (fun w => !p (8 * w)) s.marks }

/-- A stack controller: contents undefined, the wake grant reclaimed, and a wake asked for at once (12 R926). -/
def State.resetStack (s : State) (n : Nat) : State :=
  let k := s.stack n
  let t := (s.wipe (inStack n)).setStack n
    { pinFw := k.pinFw, pinRt := k.pinRt, srIdle := k.srIdle }
  let t := t.endWaiting ⟨.memSelftest, n + 1⟩ 0x0301 1
  let t := t.endJobs (fun (c : Cmd) => c.phase == Phase.running && c.opcode == 0x503 && c.a0 % 2 == n) 0x0301 1
  let t := t.reclaim fun r => (r.kind == .dramWake && r.inst == n) || (r.kind == .memSelftest && r.inst == n + 1)
  let t := t.dropReady (rdyBit (6 + n))
  let t := if t.ready 6 || t.ready 7 then t else t.dropReady (rdyBit 23)
  if s.husk.enDram then t.wakeStack n 1 else t

/-- The VTC: stopped and unconfigured; a VTC_CONFIG that waits for its PLL ends (06 R384). -/
def State.resetVtc (s : State) : State :=
  let t := s.endWaiting ⟨.vtcPll, 0⟩ 0x0301 1
  let t := t.reclaim fun r => r.kind == .vtcPll
  let t := if t.vtc.mode == .freeRun then t else t.edge 88
  (({ t with vtc := {} }).setPll 8 .stopped).dropReady (rdyBit 20)

/-- One data-plane block (01 R57, R42). -/
def State.blockReset (s : State) (b : Block) : State :=
  match b with
  | .pipe n => s.resetPipe n
  | .lane n => s.resetLane n
  | .stack n => s.resetStack n
  | .channel n => (s.endJobs (fun (c : Cmd) => c.phase == Phase.running && c.chan == n.val && c.chan != 0) 0x0301 1).setChan n {}
  | .vtc => s.resetVtc
  | .ptp => ({ s with ptp := {} }).dropReady (rdyBit 21)
  | .scheduler =>
    let t := ({ s with sched := [] }).dropReady (rdyBit 22)
    if t.ready 10 then t.setReady 22 else t
  | .scrubber =>
    let k := s.scrub
    let t := ({ s with scrub := { enable := k.enable, passHours := k.passHours } }).dropReady (rdyBit 23)
    if t.ready 10 && k.enable && (t.ready 6 || t.ready 7) then t.setReady 23 else t
  | .lfs => (({ s with lfs := {}, hazel := { s.hazel with jobs := [] } }).wipe inLfs).dropReady (rdyBit 5)
  | .bankD => (s.reclaim fun r => r.kind == .mramBurst).dropReady (rdyBit 8)
  | .dmaEngine =>
    let u := s.endJobs (fun (c : Cmd) => c.phase == Phase.running && c.chan != 0) 0x0301 1
    let t := ({ u with dma := [] }).dropReady (rdyBit 13)
    if t.ready 4 then t.setReady 13 else t

/-! ### Host-side resets (04 R232 to R236; 05 R276, R277; 06 R384) -/

/-- A mailbox at a host-side reset. -/
def Mbx.discard (m : Mbx) : Mbx :=
  if m.full then { m with lo := 0, hi := 0, full := false, overrun := false, half := false, discards := satAdd 16 m.discards 1 }
  else if m.half then { m with lo := 0, hi := 0, half := false } else m

/-- The mailbox block at a host-side reset (R277). -/
def State.mailDiscard (s : State) : State :=
  let t := foldRange (fun i u => u.setBox i (u.box i).discard) 32 s
  ({ t with rstCnt := satAdd 16 t.rstCnt 1, mbxClosed := true }).edge 94

/-- A channel that was moving data leaves its destination range undefined (04 R255): free values, `n` of them. -/
def State.scramble (s : State) (a : Nat) : Nat → State
  | 0 => s
  | n + 1 =>
    let t := State.scramble s a n
    ({ t with mem := Table.set 0 t.mem (a + n) (Config.freeByte t.free) }).tookFree

/-- CH0 to CH7 at an FLR or PERST_N (12 R654; 04 R255). -/
def State.resetHostChannels (s : State) : State :=
  foldRange (fun i t =>
    let d := t.chan i
    let u := if d.mode == .running && !bitAt d.cfg 9 then t.scramble d.dst d.count else t
    u.setChan i d.reset) 8 s

/-- The endpoint's function state at an FLR or PERST_N; `sticky` keeps the AER sticky fields. -/
def Pcie.resetFunction (p : Pcie) (sticky : Bool) : Pcie :=
  { perstN := p.perstN, sris := p.sris, linkUp := p.linkUp, bar2Closed := p.bar2Closed, subsys := p.subsys,
    uncStatus := if sticky then p.uncStatus else 0, uncMask := if sticky then p.uncMask else 0x00400000,
    uncSev := if sticky then p.uncSev else 0x00462030, corStatus := if sticky then p.corStatus else 0,
    corMask := if sticky then p.corMask else 0x0000E000,
    up := p.up.map fun u => { u with dropped := true },
    discardBar2 := p.discardBar2, discardBar0 := p.discardBar0, abortPoison := p.abortPoison,
    abortOther := p.abortOther, lateTimeout := p.lateTimeout, lateReset := p.lateReset, surprise := p.surprise,
    exits := p.exits, replays := p.replays }

/-- The link leaves L0, which is counted (04 R234, R253). -/
def State.linkLost (s : State) : State :=
  if s.pcie.linkUp then
    { s with pcie := { s.pcie with linkUp := false, flr := false, exits := satAdd 16 s.pcie.exits 1 } }
  else s

/-! ### Hazel reset (01 R57; 05 R325; 12 R654; 02 R920) -/

/-- A mailbox value that a reset discards and counts. -/
def Mbx.lose (m : Mbx) : Mbx :=
  if m.full then { m with lo := 0, hi := 0, full := false, overrun := false, discards := satAdd 16 m.discards 1 } else m

def State.hazelReset (s : State) : State :=
  let t := foldRange (fun i u => if 8 ≤ i then u.setChan i (u.chan i).reset else u) 16 s
  let t := t.setBox 33 (t.box 33).lose
  let t := { t with icu := { t.icu with hazelA := {}, hazelB := {} }
                    flt := { t.flt with nmiPending := false }
                    hazel := { t.hazel with mode := .stopped, deferred := [], closed := false } }
  t.dropReady (rdyBit 9 ||| rdyBit 10 ||| rdyBit 11)

/-! ### Pip reset (01 R57; 02 R139) -/

def State.pipReset (s : State) : State :=
  let h := s.husk
  let h := { h with pipMode := .boot, pipRun := true, power := if h.power = Power.idle then Power.awake else h.power }
  ({ s with husk := h
            icu := { s.icu with pip := {} } }).dropReady (rdyBit 1)

/-! ### Chip reset (00 R14; 01 R57; 02 R114, R921, R925; 15 R788, R927) -/

/-- Legal values of HSK_CFG: reserved bits 0. -/
def legalHskCfg (v : Nat) : Bool := v < 2 ^ 32 && v &&& 0xE019 == 0

/-- The default reaction masks of the source table (15 R782). -/
def fltDefault (i : Nat) : Nat :=
  match i with
  | 0 | 1 => 0x11
  | 2 | 3 => 0x15
  | 4 | 5 => 0x01
  | 6 | 7 | 8 => 0x05
  | 10 => 0x18
  | 12 => 0x01
  | 13 | 14 | 15 | 16 => 0x10
  | 20 | 21 | 22 | 23 | 24 | 25 | 26 | 27 => 0x01
  | 31 => 0x03
  | 32 | 34 | 35 => 0x01
  | 36 | 37 | 38 | 39 => 0x05
  | 40 => 0x01
  | 41 => 0x05
  | 42 => 0x01
  | 44 => 0x11
  | 45 | 46 => 0x01
  | 56 => 0x11
  | _ => 0x00

/-- IDs 47 and 58 to 127 are reserved (R782). -/
def fltReserved (i : Nat) : Bool := i == 47 || 58 ≤ i

/-- Sources 0, 1 and 13 have fixed masks. -/
def fltFixed (i : Nat) : Bool := i == 0 || i == 1 || i == 13

/-- The sources of the Husk section; 26 and 45 are reported by either section. -/
def fltHusk (i : Nat) : Bool := i == 10 || i == 11 || (13 ≤ i && i ≤ 19)

/-- Condition sources. -/
def fltCondition (i : Nat) : Bool := i == 0 || i == 1 || i == 4 || i == 5 || i == 10 || i == 11 || i == 12

/-- The reaction mask that bank M gives a source; item 0x0040 + i / 4 holds four of them (17 R905). -/
def BankM.react (b : BankM) (i : Nat) : Nat :=
  match Table.get none b.items (0x40 + i / 4) with
  | none => fltDefault i
  | some v => bitsOf v (8 * (i % 4)) 5

/-- The triplicated reaction masks as loaded from bank M. -/
def BankM.reacts (b : BankM) : List (Nat × Trip) :=
  foldRange (fun i t => if fltReserved i then t else Table.set ({} : Trip) t i (Trip.of (b.react i))) 58 []

/-- Husk-island registers reloaded from bank M, HSK_XO_STATUS bits 8:4 kept (R57). -/
def Husk.reload (h : Husk) (b : BankM) : Husk :=
  { h with
    cfg := (b.item 0x0001 0x80000780 legalHskCfg).1
    xoSettle := (b.item 0x0002 2048 legal16).1
    pgTimeout := (b.item 0x0003 655 legal16).1
    xtFail := false, wakeCause := 0, causeSeen := 0, alarm := 0, railFault := 0, timerExpired := false
    ctrlWritten := false, ctrl := 0,
    resetDue := none, bistRetries := 0, mainOff := false }

/-- A record that a reset or a power loss cuts: whether it was written whole is a free value (15 R928; 17 R908). -/
def JRec.cut (w : Word64) (r : JRec) : JRec := { r with crcOk := r.crcOk && w.getLsbD r.region }

def State.chipReset (s : State) (c : Cause) (railsKept : Bool) : State :=
  let xo := railsKept && s.ready 2
  let h := s.husk.reload s.bankM
  let h := { h with
    rstCause := c, pipMode := .boot, pipRun := true
    power := if railsKept then .mainOn else .awake
    xoOn := railsKept, settled := xo, monOk := xo, srdDue := h.srdDue && railsKept
    settleDue := s.now + ticksNs h.xoSettle }
  { s with
    rdy := rdyBit 0 ||| (if xo then rdyBit 2 else 0)
    ever := rdyBit 0 ||| (if xo then rdyBit 2 else 0)
    fell := 0
    husk := h
    plls := [], vtc := {}, pac := {}
    pcie := { perstN := s.pcie.perstN, sris := s.pcie.sris,
              subsys := (s.bankM.item 0x0090 0x00011F5C fun v => v < 2 ^ 32).1 }
    mbx := [], rstCnt := 0, mbxClosed := false
    icu := { ext := s.icu.ext }
    flt := { react := s.bankM.reacts, quiet := Trip.of (s.bankM.item 0x0020 3277 legal16).1 }
    board := { nonce := Config.freeWord s.free }
    free := s.free + 2
    latches := [], hazel := {}
    mem := Table.keep inBankD s.mem
    marks := Table.keep (fun w => inBankD (8 * w)) s.marks
    dram := [], lfs := {}, scrub := {}
    mram := { journalM := s.mram.journalM.map (JRec.cut (Config.freeWord (s.free + 1))),
              journalD := s.mram.journalD.map (JRec.cut (Config.freeWord (s.free + 1))), wear := s.mram.wear, library := s.mram.library }
    fab := [], dma := [], pipes := [], ptp := {}, lanes := [], flows := [], entries := [], sched := [], events := [] }

end Sys2Proof.Machine
end

