-- ==== Sys2Proof/Machine/Faults.lean ====
section
/-! DEFINITION. The fault collector (15): records and episodes, reactions, the log, the persistent ring's due list,
and the chip reset as the Husk makes it, with the records that reopen after it. -/

namespace Sys2Proof.Machine

/-! ### The log (R804 to R807) -/

/-- A source's log entry as the main section writes it now. -/
def State.entryNow (s : State) (kind src : Nat) : LogEntry :=
  let r := s.fltSrc src
  { time := s.logTime, kind := kind, source := src, cnt := r.cnt, mask := r.mask, detail := r.detail }

/-- Write one entry: to the ring, or to the last-resort record while the ring is invalid (R806). -/
def Flt.write (f : Flt) (e : LogEntry) : Flt :=
  if f.logInvalid then
    if f.lr.length < 8 then { f with lr := f.lr ++ [e] } else { f with lrLost := satAdd 16 f.lrLost 1 }
  else
    let old := (Table.get {} f.log f.head).kind != 0
    { f with log := Table.set {} f.log f.head e, head := (f.head + 1) % 256, wrapped := f.wrapped || old,
             overwritten := if old then satAdd 16 f.overwritten 1 else f.overwritten }

/-- A Husk-section entry that arises while the main section is not running keeps slow ticks, and waits (R805). -/
def State.logEvent (s : State) (kind src : Nat) : State :=
  if s.ready 15 then { s with flt := s.flt.write (s.entryNow kind src) }
  else if fltHusk src || src == 26 || src == 45 || kind == 6 then
    let e := { s.entryNow kind src with time := s.slowTicks, slow := true }
    { s with flt := { s.flt with waiting := s.flt.waiting ++ [e] } }
  else s

/-- Insert in source order, after entries of the same source (R805). -/
def logInsert (e : LogEntry) : List LogEntry → List LogEntry
  | [] => [e]
  | x :: l => if x.source ≤ e.source then x :: logInsert e l else e :: x :: l

/-- The waiting Husk-section entries go to the log in source order (R805). -/
def State.flushLog (s : State) : State :=
  let es := s.flt.waiting.foldl (fun l e => logInsert e l) []
  { s with flt := es.foldl Flt.write { s.flt with waiting := [] } }

/-! ### The persistent ring (R808) -/

/-- DEV_RST_CAUSE as a mask (01 R52). -/
def Cause.bits : Cause → Nat
  | .por => 1 | .mainLoss => 2 | .thermal => 4 | .fault => 8 | .command => 16 | .hpRemoval => 32 | .mainOff => 64

/-- The persistent entry of an event, without its SEQ. -/
def State.pentry (s : State) (kind src : Nat) : PEntry :=
  let r := s.fltSrc src
  { epoch := s.bankM.epoch, kind := kind, source := src
    time := if s.ptp.locked then s.ptp.sec else s.slowTicks
    slowTime := !s.ptp.locked
    detail := r.detail, cnt := r.cnt, cause := s.husk.rstCause.bits, tj := s.husk.tj }

def State.plogDue (s : State) (kind src : Nat) : State :=
  { s with flt := { s.flt with plogDue := s.flt.plogDue ++ [s.pentry kind src] } }

/-! ### Reactions (R789 to R791) -/

/-- The reaction mask in force for a source (R799, R800). -/
def State.reactMask (s : State) (i : Nat) : Nat :=
  if i = 0 ∨ i = 1 then 0x11 else if i = 13 then 0x10
  else (Table.get ({} : Trip) s.flt.react i).vote

/-- The block-reset target of a source (R782); `none` beside Hazel's. -/
def fltBlock (i detail : Nat) : Option Block :=
  match i with
  | 21 => some .vtc
  | 22 => some (.stack (Fin.ofNat 2 detail))
  | 23 => some .scrubber
  | 33 | 34 => some (.pipe (Fin.ofNat 4 detail))
  | 36 => some (.pipe 0)
  | 37 => some (.pipe 1)
  | 38 => some (.pipe 2)
  | 39 => some (.pipe 3)
  | 41 => some .scheduler
  | _ => none

/-- Sources whose block-reset target is a Hazel reset. -/
def fltHazelReset (i : Nat) : Bool := i == 2 || i == 3 || i == 6 || i == 7 || i == 8

def fltHasTarget (i : Nat) : Bool := fltHazelReset i || (fltBlock i 0).isSome

/-- The Hazel pairs run, from the boot ROM on. -/
def State.hazelUp (s : State) : Bool := s.hazel.mode != .stopped

/-- A reaction aimed at a block that is unpowered or in reset (R791). -/
def State.dropReaction (s : State) (src : Nat) : State :=
  ({ s with flt := { s.flt with dropped := satAdd 32 s.flt.dropped 1 } }).logEvent 4 src

/-- NMI to both Hazel pairs. -/
def State.reactNmi (s : State) (src : Nat) : State :=
  if s.hazelUp then
    { s with flt := { s.flt with nmiValid := true, nmiSource := src, nmiPending := true } }
  else s.dropReaction src

/-- The reset of a source's block-reset target. -/
def State.reactBlock (s : State) (src detail : Nat) : State :=
  if fltHazelReset src then (if s.hazelUp then s.hazelReset else s.dropReaction src)
  else match fltBlock src detail with
    | none => s
    | some b => if s.mainOn then s.blockReset b else s.dropReaction src

/-- The reactions of an episode that opens; IRQ and ERR_PIN are levels that follow the open records. -/
def State.react (s : State) (src mask detail : Nat) : State :=
  let t := if bitAt mask 1 then s.reactNmi src else s
  if bitAt mask 3 then
    { t with husk := { t.husk with resetDue := some (t.husk.resetDue.getD (.fault, some src)) } }
  else if bitAt mask 2 then t.reactBlock src detail
  else t

/-! ### Records (R783 to R787) -/

/-- An event that calls for a persistent entry: CHIP_RESET or ERR_PIN in the mask, LOG_MEM. -/
def plogCalled (src mask : Nat) : Bool := bitAt mask 3 || bitAt mask 4 || src == 1

/-- A report to a source that its section can record (R783, R785). `stands` tells whether a condition source's
condition stands after the report (R378). -/
def State.record (s : State) (src detail : Nat) (stands : Bool) : State :=
  let r := s.fltSrc src
  if r.open_ then
    s.setFltSrc src { r with cnt := satAdd 16 r.cnt 1, last := s.now, standing := stands }
  else
    let m := s.reactMask src
    let t := s.setFltSrc src
      { r with open_ := true, mask := m, detail := detail, standing := stands, causeFlag := false, last := s.now,
               cnt := satAdd 16 r.cnt 1 }
    let u := t.logEvent 1 src
    let v := if plogCalled src m then u.plogDue 1 src else u
    v.react src m detail

/-- The section of a source can record now: the Husk section from power-on reset on, the main section while RDY_MAP
bit 15 is set (R805). -/
def State.canRecord (s : State) (src : Nat) (husk : Bool) : Bool :=
  !fltReserved src && (if fltHusk src || husk then s.husk.power != .held else s.ready 15)

/-- A report of the main section, or of the Husk section for a source marked H (R780). -/
def State.report (s : State) (src detail : Nat) : State :=
  if s.canRecord src false then s.record src (detail % 2 ^ 32) (fltCondition src) else s

/-- A report of the Husk section for a source that either section reports. -/
def State.reportHusk (s : State) (src detail : Nat) : State :=
  if s.canRecord src true then s.record src (detail % 2 ^ 32) (fltCondition src) else s

/-- Close a record with an EXIT_QUIET entry (R786). -/
def State.closeQuiet (s : State) (src : Nat) : State :=
  let r := s.fltSrc src
  (s.logEvent 2 src).setFltSrc src { r with open_ := false, causeFlag := false, recov := satAdd 16 r.recov 1 }

/-- Close a record with an EXIT_CLEAR entry, unless its condition stands (R787). -/
def State.closeClear (s : State) (src : Nat) : State :=
  let r := s.fltSrc src
  if r.open_ && !r.standing then (s.logEvent 3 src).setFltSrc src { r with open_ := false, causeFlag := false } else s

/-- A condition ends: the record's quiet period starts (R786). -/
def State.endCondition (s : State) (src : Nat) : State :=
  let r := s.fltSrc src
  if r.standing then s.setFltSrc src { r with standing := false, last := s.now } else s

/-- Source `i`'s record is open and its episode mask has bit `b`. -/
def State.openWith (s : State) (b : Nat) : Bool := s.flt.src.any fun e => e.2.open_ && bitAt e.2.mask b

/-- ERR_N is driven low (R793, R794). -/
def State.errLow (s : State) : Bool :=
  (s.openWith 4 || s.flt.errForced) && s.husk.power != .held && s.husk.power != .dormant

/-! ### The chip reset as the Husk makes it -/

/-- Report CFG_BAD for one item whose stored value is invalid (02 R114); `loader` is the loading block. -/
def State.cfgBad (s : State) (item loader : Nat) (bad : Bool) : State :=
  if bad then s.reportHusk 17 (item * 2 ^ 16 + loader) else s

/-- Legal values of a FLT_REACT item: reserved bits 0. -/
def legalReact (v : Nat) : Bool := v < 2 ^ 32 && v &&& 0xE0E0E0E0 == 0

/-- The Husk's and the collector's configuration items are checked as they are loaded. -/
def State.checkConfig (s : State) : State :=
  let b := s.bankM
  let t := s.cfgBad 1 0 (b.item 1 0 legalHskCfg).2
  let t := t.cfgBad 2 0 (b.item 2 0 legal16).2
  let t := t.cfgBad 3 0 (b.item 3 0 legal16).2
  let t := t.cfgBad 0x20 2 (b.item 0x20 0 legal16).2
  foldRange (fun i u => u.cfgBad (0x40 + i) 2 (b.item (0x40 + i) 0 legalReact).2) 32 t

/-- The regions of bank M and bank D in the row order of 12 R630: start of the home range; bank M's are offsets. -/
def regionBase : Nat → Nat
  | 0 => 0x000000 | 1 => 0x040000 | 2 => 0x080000 | 3 => 0x0C0000 | 4 => 0x0D0000
  | 5 => 0x900000000 | 6 => 0x900200000 | 7 => 0x900400000 | 8 => 0x900600000 | _ => 0x900700000

/-- Sizes in bytes of the regions. -/
def regionSize : Nat → Nat
  | 0 | 1 | 2 => 0x40000 | 3 | 4 => 0x10000
  | 5 | 6 | 7 => 0x200000 | 8 => 0x100000 | _ => 0x20000

/-- Write bytes of memory without any check. -/
def pokes (m : List Host.Cell) (a : Nat) : List Byte → List Host.Cell
  | [] => m
  | b :: bs => pokes (Table.set 0 m a b) (a + 1) bs

/-- Store configuration items in bank M (17 R906). -/
def BankM.store (b : BankM) (l : List (Nat × Nat)) : BankM :=
  { b with items := l.foldl (fun t e => Table.set none t e.1 (some e.2)) b.items }

/-- Apply one journal record to its home location, and mark it (12 R632). -/
def State.applyRecord (s : State) (r : JRec) : State :=
  { s with mem := if 5 ≤ r.region then pokes s.mem (regionBase r.region + r.offset) r.data else s.mem
           bankM := s.bankM.store r.items
           mram := { s.mram with replayed := satAdd 16 s.mram.replayed 1 } }

/-- Scan one journal: records whose CRC passes are written home, torn ones are discarded with MRAM_TORN (12 R632). -/
def State.scanJournal (s : State) (husk : Bool) : List JRec → State
  | [] => s
  | r :: l =>
    let t :=
      if r.crcOk then s.applyRecord r
      else
        let u := { s with mram := { s.mram with torn := satAdd 16 s.mram.torn 1 } }
        if husk then u.reportHusk 26 (r.region + r.offset * 16) else u.report 26 (r.region + r.offset * 16)
    State.scanJournal t husk l

/-- The main section starts: the ICU and the collector leave reset, and the Husk's entries reach the log (02 R86,
R112; 15 R805). -/
def State.mainStart (s : State) : State := ((s.setReady 14).setReady 15).flushLog

/-- Open a source's record again after the reset it caused, with the flag CAUSE (R788). -/
def State.reopenCause (s : State) (src detail : Nat) : State :=
  let m := s.reactMask src &&& 0x11
  let t := s.setFltSrc src
    { open_ := true, mask := m, detail := detail, causeFlag := true, last := s.now, cnt := satAdd 16 (s.fltSrc src).cnt 1,
      standing := src == 10 && !s.ready 2 }
  (t.logEvent 6 src).plogDue 6 src

/-- The chip reset of the Husk: state, configuration checks, the journal scan of bank M, and the main section's restart
when the XO bit stays set (R57, R788; 02 R921). `src` names the sources whose records reopen. -/
def State.fullChipReset (s : State) (c : Cause) (railsKept : Bool) (src : List Nat) : State :=
  let details := src.map fun i => (i, (s.fltSrc i).detail)
  let t := s.chipReset c railsKept
  let js := t.mram.journalM
  let t := ({ t with mram := { t.mram with journalM := [] } }).scanJournal true js
  let h := t.husk.reload t.bankM
  let t := { t with husk := { h with rstCause := c }
                    flt := { t.flt with react := t.bankM.reacts, quiet := Trip.of (t.bankM.item 0x0020 3277 legal16).1 } }
  let t := t.checkConfig
  let t := { t with husk := { t.husk with reopen := details } }
  if t.ready 2 then t.mainStart else t

end Sys2Proof.Machine
end

