-- ==== Sys2Proof/Machine/Memory.lean ====
section
/-! DEFINITION. Memory (12): what a read and a write of any range do to words, check bits, counters and fault
sources, and the MRAM journal. -/

namespace Sys2Proof.Machine

/-- Which memory a device address lies in (R612). -/
inductive Region where
  | dram (n : Nat) | lfs | bankD | outside
  deriving DecidableEq, Repr

def regionOf (a : Nat) : Region :=
  if a < 2 ^ 34 then .dram (a / 2 ^ 33) else if inLfs a then .lfs else if inBankD a then .bankD else .outside

def State.mark (s : State) (w : Nat) : Mark := Table.get .clean s.marks w
def State.setMark (s : State) (w : Nat) (m : Mark) : State := { s with marks := Table.set .clean s.marks w m }

/-- The outcome of reading one word (R619), for the check bits as they stand. -/
inductive WordRead where
  | clean | corrected (checkBit : Bool) | uncorrectable | transient | poison
  deriving DecidableEq, Repr

def Mark.outcome (m : Mark) (dram : Bool) : WordRead :=
  match m with
  | .clean | .written => .clean
  | .data => .corrected false
  | .check => .corrected true
  | .uncorrectable => .uncorrectable
  | .transient => if dram then .transient else .uncorrectable
  | .poison => .poison

/-- A DRAM word is poisoned in place, its address stored, and DRAM_UE raised (R621). -/
def State.poisonDram (s : State) (n w : Nat) : State :=
  let k := s.stack n
  ((s.setStack n { k with poisoned := satAdd 16 k.poisoned 1, ueValid := true, ueAddr := 8 * w }).setMark w .poison).report 22 n

/-- An uncorrectable LFS word is poisoned in place and LFS_UE is raised (R619, R621). -/
def State.poisonLfs (s : State) (w : Nat) : State :=
  (({ s with lfs := { s.lfs with poisoned := satAdd 16 s.lfs.poisoned 1, ueValid := true, ueAddr := 8 * w } }).setMark w
    .poison).report 24 0

/-- An uncorrectable bank D word is poisoned in place and MRAM_UE is raised. -/
def State.poisonMram (s : State) (w : Nat) : State :=
  (({ s with mram := { s.mram with ue := satAdd 16 s.mram.ue 1 } }).setMark w .poison).report 25 1

/-- What reading word `w` counts and changes (R619 to R622). -/
def State.touchWord (s : State) (w : Nat) : State :=
  match regionOf (8 * w) with
  | .dram n =>
    let k := s.stack n
    match (s.mark w).outcome true with
    | .clean => s
    | .corrected false => (s.setStack n { k with cdata := satAdd 32 k.cdata 1 }).report 28 n
    | .corrected true => (s.setStack n { k with ccheck := satAdd 32 k.ccheck 1 }).report 28 (n + 256)
    | .transient => (s.setStack n { k with transient := satAdd 16 k.transient 1 }).setMark w .clean
    | .uncorrectable => s.poisonDram n w
    | .poison => s.setStack n { k with poisonReads := satAdd 16 k.poisonReads 1 }
  | .lfs =>
    match (s.mark w).outcome false with
    | .clean | .transient => s
    | .corrected false => ({ s with lfs := { s.lfs with cdata := satAdd 32 s.lfs.cdata 1 } }).report 29 0
    | .corrected true => ({ s with lfs := { s.lfs with ccheck := satAdd 32 s.lfs.ccheck 1 } }).report 29 256
    | .uncorrectable => s.poisonLfs w
    | .poison => { s with lfs := { s.lfs with poisonReads := satAdd 16 s.lfs.poisonReads 1 } }
  | .bankD =>
    match (s.mark w).outcome false with
    | .clean | .transient | .poison => s
    | .corrected c => ({ s with mram := { s.mram with ce := satAdd 16 s.mram.ce 1 } }).report 30 (1 + 256 * b2n c)
    | .uncorrectable => s.poisonMram w
  | .outside => s

/-- Words `w` to `w + n - 1` are read in ascending order. -/
def State.touchWords (s : State) (w : Nat) : Nat → State
  | 0 => s
  | n + 1 => State.touchWords (s.touchWord w) (w + 1) n

/-- The first poisoned word of `n` words from `w`. -/
def State.firstPoison (s : State) (w : Nat) : Nat → Option Nat
  | 0 => none
  | n + 1 => if s.mark w = .poison then some w else State.firstPoison s (w + 1) n

/-- The number of 64-bit words that `n` bytes from `a` touch. -/
def wordsOf (a n : Nat) : Nat := if n = 0 then 0 else (a + n - 1) / 8 - a / 8 + 1

/-- The byte is unspecified: above the watermark of R615 and not yet written. -/
def State.unspecified (s : State) (a : Nat) : Bool :=
  match regionOf a with
  | .dram n => !(s.stack n).initDone && s.mark (a / 8) != .written
  | _ => false

/-- One byte as a master reads it; a poisoned word delivers 0 (08 R466), unspecified bytes are free values. -/
def State.byteAt (s : State) (a i : Nat) : Byte :=
  if s.mark (a / 8) = .poison then 0
  else if s.unspecified a then Config.freeByte (s.free + i)
  else Table.get 0 s.mem a

/-- `n` bytes from `a`. -/
def State.bytesAt (s : State) (a n : Nat) : List Byte := (List.range n).map fun i => s.byteAt (a + i) i

/-- What a read answers. -/
structure MemRead where
  data : List Byte
  /-- The device address of the first poisoned word. -/
  poison : Option Nat
  state : State
  deriving DecidableEq, Repr

/-- Transactions of at most 256 bytes (R636) are counted at the port, and bytes at the stack (R668). -/
def State.account (s : State) (port a n : Nat) : State :=
  let p := s.port16 port
  let t := s.setPort16 port { p with requests := satAdd 64 p.requests ((n + 255) / 256) }
  match regionOf a with
  | .dram k => t.setStack k { t.stack k with bytes := satAdd 64 (t.stack k).bytes n }
  | _ => t

/-- A fabric master at `port` reads `n` bytes from `a`. -/
def State.readMem (s : State) (port a n : Nat) : MemRead :=
  let t := (s.account port a n).touchWords (a / 8) (wordsOf a n)
  { data := t.bytesAt a n
    poison := (t.firstPoison (a / 8) (wordsOf a n)).map (8 * ·)
    state := { t with free := if s.unspecified a then t.free + n else t.free } }

/-- Discard a partial write to a poisoned word, and count it (R623). -/
def State.countDiscard (s : State) (a : Nat) : State :=
  match regionOf a with
  | .dram n => s.setStack n { s.stack n with discards := satAdd 16 (s.stack n).discards 1 }
  | .lfs => { s with lfs := { s.lfs with discards := satAdd 16 s.lfs.discards 1 } }
  | _ => s

/-- Store the bytes that are present. -/
def pokeSome (m : List Host.Cell) (a : Nat) : List (Option Byte) → List Host.Cell
  | [] => m
  | none :: bs => pokeSome m (a + 1) bs
  | some b :: bs => pokeSome (Table.set 0 m a b) (a + 1) bs

/-- The mark of a word after a write with valid check bits. -/
def State.writtenMark (s : State) (a : Nat) : Mark :=
  match regionOf a with
  | .dram n => if (s.stack n).initDone then .clean else .written
  | _ => .clean

/-- Free values for the bytes of an unspecified word that a partial write merges with (R615). -/
def State.fillUnspecified (s : State) (w : Nat) : State :=
  if s.unspecified (8 * w) then
    { s with mem := pokes s.mem (8 * w) ((List.range 8).map fun i => Config.freeByte (s.free + i)), free := s.free + 8 }
  else s

/-- A write within one word: `bs` from byte address `a`, `none` for a byte not enabled (R622, R623; 04 R217). -/
def State.writeWord (s : State) (a : Nat) (bs : List (Option Byte)) : State :=
  if bs.length = 8 ∧ bs.all Option.isSome then
    { s with mem := pokeSome s.mem a bs, marks := Table.set .clean s.marks (a / 8) (s.writtenMark a) }
  else if bs.all Option.isNone then s
  else
    let t := (s.touchWord (a / 8)).fillUnspecified (a / 8)
    if t.mark (a / 8) = .poison then t.countDiscard a
    else { t with mem := pokeSome t.mem a bs, marks := Table.set .clean t.marks (a / 8) (t.writtenMark a) }

/-- A write of any length, word by word, with `fuel` at least the number of words. -/
def State.writeWords (s : State) (a : Nat) (bs : List (Option Byte)) : Nat → State
  | 0 => s
  | fuel + 1 =>
    if bs.isEmpty then s
    else
      let k := 8 - a % 8
      State.writeWords (s.writeWord a (bs.take k)) (a + (bs.take k).length) (bs.drop k) fuel

/-- A fabric master at `port` writes to `a`. -/
def State.writeSome (s : State) (port a : Nat) (bs : List (Option Byte)) : State :=
  (s.account port a bs.length).writeWords a bs (bs.length + 1)

def State.writeMem (s : State) (port a : Nat) (bs : List Byte) : State := s.writeSome port a (bs.map some)

/-- A write with the EP bit set poisons every word that it writes to (R222, R622). -/
def State.poisonRange (s : State) (a n : Nat) : State :=
  foldRange (fun i t => t.setMark (a / 8 + i) .poison) (wordsOf a n) s

/-! ### Stacks as masters see them (R615 to R618) -/

/-- The stack can serve an access now. -/
def State.awake (s : State) (n : Nat) : Bool := s.ready (6 + n) && (s.stack n).mode == .awake

/-- The stack has been ready and sleeps. -/
def State.asleep (s : State) (n : Nat) : Bool :=
  s.ready (6 + n) && ((s.stack n).mode == .selfRefresh || (s.stack n).mode == .entering || (s.stack n).mode == .leaving)

/-- Every byte of `n` bytes from `a` lies in DRAM that is ready. -/
def State.dramReady (s : State) (a n : Nat) : Bool :=
  a + n ≤ 2 ^ 34 && (n == 0 || (s.ready (6 + a / 2 ^ 33) && s.ready (6 + (a + n - 1) / 2 ^ 33)))

/-! ### The MRAM journal (R631 to R634) -/

/-- The MRAM_WEAR threshold of a region: 95 % of ten million writes of each of its words (R630, R634). -/
def wearLimit (r : Nat) : Nat := regionSize r / 8 * 9500000

/-- Count `words` written into a region, and raise MRAM_WEAR once it has reached its threshold. -/
def State.wearBy (s : State) (r words : Nat) : State :=
  let v := satAdd 64 (Table.get 0 s.mram.wear r) words
  let t := { s with mram := { s.mram with wear := Table.set 0 s.mram.wear r v } }
  if wearLimit r ≤ v ∧ r ∉ t.mram.raised then
    ({ t with mram := { t.mram with raised := r :: t.mram.raised } }).report 27 r
  else t

/-- Words of a journal record over `n` data bytes: a 32-byte header, the data, a CRC-32 and the applied marker. -/
def recordWords (n : Nat) : Nat := 4 + (n + 7) / 8 + 2

/-- A record of bank D is applied: home data, marker, wear of the region and of its journal (R631, R634). -/
def State.applyBurst (s : State) (r : JRec) : State :=
  let a := regionBase r.region + r.offset
  let t := { s with mem := pokes s.mem a r.data
                    marks := Table.keep (fun w => !(a ≤ 8 * w && 8 * w < a + r.data.length)) s.marks
                    mram := { s.mram with journalD := s.mram.journalD.drop 1 } }
  (t.wearBy r.region ((r.data.length + 7) / 8)).wearBy 9 (recordWords r.data.length)

/-- A bank M record of `n` bytes has been written and applied. -/
def State.wearM (s : State) (r n : Nat) : State := (s.wearBy r ((n + 7) / 8)).wearBy 4 (recordWords n)

end Sys2Proof.Machine
end

