-- ==== Sys2Proof/Machine/Board.lean ====
section
/-! DEFINITION. Manufacturing configuration (17 R904 to R910), SMB_STATUS, and JTAG unlock (17 R899 to R902, R911). -/

namespace Sys2Proof.Machine

/-! ### Configuration items (17 R905) -/

def legalBudget (i v : Nat) : Bool :=
  let lim := match i with | 0x12 => 1200 | 0x13 => 200 | 0x14 => 90 | _ => 140
  1 ≤ v % 65536 && v % 65536 ≤ lim && 1 ≤ v / 65536 && v / 65536 ≤ lim

def legalTiming (v : Nat) : Bool :=
  v < 2 ^ 32 && 1 ≤ v / 65536 && bitsOf v 10 6 == 0 && 1 ≤ v % 1024 && v % 1024 ≤ 1000

def legalTherm (v : Nat) : Bool :=
  v < 2 ^ 15 && 25 ≤ v / 256 && v / 256 ≤ 100 && 60 ≤ v % 256 && v % 256 ≤ 115

/-- Factory calibration: read only. -/
def itemReadOnly (i : Nat) : Bool := 0x100 ≤ i && i ≤ 0x1FF

def itemKnown (i : Nat) : Bool :=
  (1 ≤ i && i ≤ 3) || (0x10 ≤ i && i ≤ 0x15) || i == 0x20 || (0x40 ≤ i && i ≤ 0x5F) || i == 0x80 || i == 0x81 || i == 0x90
    || itemReadOnly i

/-- The legal values of an item's register. -/
def itemLegal (i v : Nat) : Bool :=
  match i with
  | 0x01 => legalHskCfg v
  | 0x02 | 0x03 | 0x20 => legal16 v
  | 0x10 => legalTiming v
  | 0x11 => legalTherm v
  | 0x12 | 0x13 | 0x14 | 0x15 => legalBudget i v
  | 0x80 => v % 100 == 0 && 400 ≤ v && v ≤ 1600
  | 0x81 => v ≤ 168
  | 0x90 => v < 2 ^ 32
  | _ => legalReact v

/-- The factory value of an item (17 R905; 02 R117 to R119; 03 R177 to R180; 15 R782, R816). -/
def itemDefault (i : Nat) : Nat :=
  match i with
  | 0x01 => 0x80000780
  | 0x02 => 2048
  | 0x03 => 655
  | 0x10 => 50 * 65536 + 20
  | 0x11 => 75 * 256 + 105
  | 0x12 => 280 * 65536 + 1200
  | 0x13 => 40 * 65536 + 200
  | 0x14 => 20 * 65536 + 90
  | 0x15 => 70 * 65536 + 140
  | 0x20 => 3277
  | 0x80 => 1600
  | 0x81 => 24
  | 0x90 => 0x00011F5C
  | _ =>
    if 0x40 ≤ i ∧ i ≤ 0x5F then
      (List.range 4).foldl (fun x b => x + fltDefault (4 * (i - 0x40) + b) * 2 ^ (8 * b)) 0
    else (Config.calibration i).toNat

/-- An item's value as stored in bank M. -/
def BankM.stored (b : BankM) (i : Nat) : Nat := (Table.get none b.items i).getD (itemDefault i)

/-! ### CFG commands -/

def State.setBoard (s : State) (b : Board) : State := { s with board := b }

/-- The end of a CFG command: DONE, or an error code (R906). -/
def Board.cfgEnds (b : Board) (code : Nat) : Board :=
  if code = 0 then { b with cfgBusy := false, cfgDone := true }
  else { b with cfgBusy := false, cfgErr := true, cfgCode := code, cfgError := true }

/-- STAGE: the error code, 0 for none (R904, R906). -/
def Board.stageCode (b : Board) : Nat :=
  if !b.cfgOpen then 4
  else if !itemKnown b.cfgItem then 1
  else if itemReadOnly b.cfgItem then 3
  else if !itemLegal b.cfgItem b.cfgData then 2
  else if 64 ≤ b.staged.length && !(b.staged.any (·.1 == b.cfgItem)) then 5
  else 0

/-- STAGE holds the item; staged again, the newer value replaces the older. -/
def Board.stage (b : Board) : Board :=
  if b.stageCode = 0 then
    { b with staged := (b.staged.filter fun (e : Nat × Nat) => e.1 != b.cfgItem) ++ [(b.cfgItem, b.cfgData)], cfgErr := false, cfgCode := 0 }.cfgEnds 0
  else b.cfgEnds b.stageCode

def State.cfgStage (s : State) : State := s.setBoard s.board.stage

/-- READ loads CFG_DATA with the stored value. -/
def State.cfgRead (s : State) : State :=
  let b := s.board
  if !b.cfgOpen then s.setBoard (b.cfgEnds 4)
  else if !itemKnown b.cfgItem then s.setBoard (b.cfgEnds 1)
  else s.setBoard ({ b with cfgData := s.bankM.stored b.cfgItem % 2 ^ 32, cfgErr := false, cfgCode := 0 }.cfgEnds 0)

/-- DISCARD drops the staged items. -/
def State.cfgDiscard (s : State) : State :=
  let b := s.board
  if !b.cfgOpen then s.setBoard (b.cfgEnds 4)
  else s.setBoard ({ b with staged := [], cfgErr := false, cfgCode := 0 }.cfgEnds 0)

/-- COMMIT writes every staged item as one record of journal M; its end is CFG_COMMIT_END. -/
def State.cfgCommit (s : State) : State :=
  let b := s.board
  if !b.cfgOpen then s.setBoard (b.cfgEnds 4)
  else
    let r : JRec := { region := 2, offset := 0, data := [], crcOk := true, items := b.staged }
    { s.setBoard { b with committing := true, cfgBusy := true, cfgErr := false, cfgCode := 0 } with
      mram := { s.mram with journalM := s.mram.journalM ++ [r] } }

/-- Pip carries out a CFG command: the lowest bit set (R904). -/
def State.cfgDo (s : State) (c : Nat) : State :=
  if bitAt c 0 then s.cfgStage
  else if bitAt c 1 then s.cfgCommit
  else if bitAt c 2 then s.cfgRead
  else if bitAt c 3 then s.cfgDiscard
  else s

/-- Pip firmware or its boot-ROM service runs. -/
def State.pipWorks (s : State) : Bool :=
  s.husk.power != .held && s.husk.power != .dormant && s.husk.pipMode != .boot && s.husk.pipRun

/-- A write of CFG_CMD: ignored while BUSY, held until Pip runs (R906, R910). -/
def State.cfgCmd (s : State) (c : Nat) : State :=
  let b := s.board
  if s.husk.power == .held || s.husk.power == .dormant || c % 16 = 0 then s
  else if b.cfgBusy then s.setBoard { b with cfgErr := true, cfgCode := 6 }
  else if s.pipWorks then s.cfgDo (c % 16)
  else s.setBoard { b with cfgBusy := true, cfgHeld := c % 16 }

/-- Pip, once it runs, carries out a command held for it (R906). -/
def State.cfgPump (s : State) : State :=
  if s.board.cfgHeld ≠ 0 ∧ s.pipWorks then
    (s.setBoard { s.board with cfgHeld := 0, cfgBusy := false }).cfgDo s.board.cfgHeld
  else s

/-- A write of CFG_KEY (R904, R910). -/
def State.cfgKey (s : State) (v : Nat) : State :=
  if s.husk.power == .held || s.husk.power == .dormant then s
  else if v = 0xCF61 then s.setBoard { s.board with cfgOpen := true }
  else s.setBoard { s.board with cfgOpen := false, staged := [] }

end Sys2Proof.Machine
end

