-- ==== Sys2Proof/Machine/Settle.lean ====
section
/-! DEFINITION. What follows every command at once: level requests, interrupt lines and vectors (05 R288 to R292),
MSI-X messages, Pip's work (02 R67), and a configuration command that waits for Pip (17 R906). -/

namespace Sys2Proof.Machine

/-- A little-endian value in memory, read without side effect. -/
def State.raw (s : State) (a n : Nat) : Nat := leNat ((List.range n).map fun i => Table.get 0 s.mem (a + i))

/-- Byte `i` of a block of bytes, and a little-endian field of `n` bytes at `i`. -/
def blkByte (b : List Byte) (i : Nat) : Nat := (b.getD i 0).toNat
def blkField (b : List Byte) (i n : Nat) : Nat := leNat ((List.range n).map fun j => b.getD (i + j) 0)

/-- The record slots of a ring of `size` bytes (11 R594). -/
def ringSlots (size : Nat) : Nat := size / 64 - 1

/-- Entries of a ring not yet read; a READ_IDX above WRITE_IDX counts as equal to it (11 R595). -/
def State.ringUsed (s : State) (addr : Nat) : Nat :=
  let w := s.raw addr 8
  w - min (s.raw (addr + 8) 8) w

/-- A CAPTURE flow's ring is at least half full (14 R746). -/
def State.captureHigh (s : State) (f : Flow) : Bool :=
  f.mode != .unused && !f.egress && blkByte f.block 0 == 5
    && ringSlots (blkField f.block 0x68 4) ≤ 2 * s.ringUsed (blkField f.block 0x60 8)

/-- The requests of the level sources as the device's own state makes them (05 R286). -/
def State.levels (s : State) : BitVec 256 :=
  let m := s.dma.foldl (fun m e => if e.2.mode = DmaMode.error then m ||| icuBit (17 + e.1) else m) 0
  let m := s.pipes.foldl (fun m e => if e.2.faultUnserved then m ||| icuBit (37 + e.1) else m) m
  let m := s.pipes.foldl (fun m e => if e.2.aruHigh then m ||| icuBit (45 + e.1) else m) m
  let m := s.lanes.foldl (fun m e => if e.2.events = 0 then m else m ||| icuBit (49 + e.1)) m
  let m := s.flows.foldl (fun m e => if s.captureHigh e.2 then m ||| icuBit (65 + e.2.port % 16) else m) m
  let m := s.events.foldl (fun m e => if e.2.q.isEmpty then m else m ||| icuBit (81 + e.1 % 3)) m
  let m := if s.ptp.fifo.isEmpty then m else m ||| icuBit 84
  let m := if s.fell = 0 then m else m ||| icuBit 89
  let m := if s.openWith 0 then m ||| icuBit 90 else m
  let m := if s.scrub.log.any (fun e => e.2.1) then m ||| icuBit 91 else m
  if s.pcie.uncStatus = 0 ∧ s.pcie.corStatus = 0 then m else m ||| icuBit 93

/-- Pip has work (02 R67). -/
def State.pipWork (s : State) : Bool :=
  let h := s.husk
  h.wakeCause != 0 || h.ctrlWritten || s.icu.pip.line || !s.flt.plogDue.isEmpty || (s.box 32).full
    || (h.enMain && !h.pgMain) || (h.enSrd && !h.pgSrd) || (h.enDram && !h.pgDram) || h.timerExpired

/-- Pip starts when it has work (R66, R67). -/
def State.wakePip (s : State) : State :=
  match s.husk.power with
  | .idle => if s.pipWork then { s with husk := { s.husk with pipRun := true, power := .awake } } else s
  | .awake | .mainOn => if s.pipWork then { s with husk := { s.husk with pipRun := true } } else s
  | _ => s

/-- The line of a Hazel or Pip target, and its NOTIFIED state at a rise (R291). -/
def Icu.line (u : Icu) (t : IcuTgt) : IcuTgt :=
  let e := u.eligible t != 0
  { t with line := e, notified := t.notified || (e && !t.line) }

/-- Level requests, lines and vectors follow the state (R289 to R292). -/
def State.settleIcu (s : State) : State :=
  let u := { s.icu with level := if s.ready 14 then (s.levels ||| s.icu.ext) &&& icuLevels else 0 }
  let e := u.eligible u.host
  let vl := if e = 0 then 0 else u.vectorsOf e 256
  let rise := vl &&& ~~~u.vlines
  let t := { s with icu := { u with hazelA := u.line u.hazelA, hazelB := u.line u.hazelB, pip := u.line u.pip
                                    vlines := vl, vnotified := u.vnotified ||| rise } }
  if rise = 0 then t else t.messages rise 64

def State.settle (s : State) : State := s.settleIcu.wakePip.cfgPump

/-- A command begins: what left the device and what was answered before is gone (log 4). -/
def State.begin (s : State) : State := { s with outs := [], answer := .none }

/-- A command's meaning: its effect, then what follows at once. -/
def run (f : State → State) (s : State) : Host.Outcome State Fault Refusal := .next (f s.begin).settle

end Sys2Proof.Machine
end

