-- ==== Sys2Proof/Machine/Dma.lean ====
section
/-! DEFINITION. The DMA channels (12 R643 to R655, R676, R677). -/

namespace Sys2Proof.Machine

/-! ### A channel's transfer -/

def Dma.srcHost (d : Dma) : Bool := bitAt d.cfg 8
def Dma.dstHost (d : Dma) : Bool := bitAt d.cfg 9
def Dma.srcFix (d : Dma) : Bool := bitAt d.cfg 10
def Dma.dstFix (d : Dma) : Bool := bitAt d.cfg 11
def Dma.irq (d : Dma) : Bool := bitAt d.cfg 12
/-- Widths in bytes of the two sides (R667). -/
def Dma.srcWidth (d : Dma) : Nat := 2 ^ bitsOf d.cfg 0 3
def Dma.dstWidth (d : Dma) : Nat := 2 ^ bitsOf d.cfg 4 3

/-- The channel may reach `n` bytes from `a`: one range of R612, CH0 to CH7 only DRAM below the descriptor area. -/
def dmaMayReach (chan a n : Nat) (write : Bool) : Bool :=
  match regionOf a with
  | .dram k => a + n ≤ (k + 1) * 2 ^ 33 && (8 ≤ chan || a + n ≤ 0x3F0000000)
  | .lfs => 8 ≤ chan && (if a < 0x803000000 then (a - 0x800000000) / 0xC00000 == (a + n - 1 - 0x800000000) / 0xC00000
                         else a + n ≤ 0x804000000)
  | .bankD => 8 ≤ chan && !write && a + n ≤ 0x900720000
  | .outside => false

/-- Bytes a side's range covers: the whole count, or one width on a FIX side. -/
def Dma.srcSpan (d : Dma) : Nat := if d.srcFix then d.srcWidth else d.count
def Dma.dstSpan (d : Dma) : Nat := if d.dstFix then d.dstWidth else d.count

/-- The checks before a transfer (R646, R226): the error code of the first that fails. -/
def State.dmaCheck (s : State) (n : Nat) (d : Dma) : Option (Nat × Nat) :=
  if bitsOf d.cfg 0 3 = 7 ∨ bitsOf d.cfg 4 3 = 7 ∨ d.count = 0 ∨ bitAt d.cfg 3 ∨ bitAt d.cfg 7 ∨ bitsOf d.cfg 13 19 ≠ 0
      ∨ d.next % 32 ≠ 0 then some (3, d.src)
  else if d.src % d.srcWidth ≠ 0 ∨ d.dst % d.dstWidth ≠ 0 then some (3, d.src)
  else if (d.srcFix ∧ d.count % d.srcWidth ≠ 0) ∨ (d.dstFix ∧ d.count % d.dstWidth ≠ 0) then some (3, d.src)
  else if !d.srcHost && !dmaMayReach n d.src d.srcSpan false then some (2, d.src)
  else if !d.dstHost && !dmaMayReach n d.dst d.dstSpan true then some (2, d.dst)
  else if (d.srcHost || d.dstHost) && !s.pcie.bme then some (4, if d.srcHost then d.src else d.dst)
  else none

/-- Whether the memory behind `a` can serve an access: 0 now, 1 after a wake, 2 not (R617, R651). -/
def State.service (s : State) (a : Nat) : Nat :=
  match regionOf a with
  | .dram k => if s.awake k then 0 else if s.asleep k then 1 else 2
  | .lfs => if s.ready 5 then 0 else 2
  | .bankD => if s.ready 8 then 0 else 2
  | .outside => 2

/-- The service of both sides of a transfer. -/
def State.dmaService (s : State) (d : Dma) : Nat :=
  max (if d.srcHost then 0 else s.service d.src) (if d.dstHost then 0 else s.service d.dst)

/-- Ask for the wake of the stack behind `a` if it sleeps. -/
def State.wakeFor (s : State) (a cls : Nat) : State :=
  match regionOf a with
  | .dram k => if s.asleep k then s.wakeStack k cls else s
  | _ => s

/-- A tag that no outstanding request uses. -/
def Pcie.freshTag (p : Pcie) : Nat := ((List.range 512).find? fun t => p.up.all (·.tag != t)).getD 512

/-- Issue the next read of a host source (04 R224): at most Max_Read_Request_Size bytes, one request at a time. -/
def State.hostRead (s : State) (n : Nat) : State :=
  let d := s.chan n
  let mrrs := 128 * 2 ^ bitsOf s.pcie.devCtl 12 3
  if d.mode == .running && d.srcHost && d.moved < d.count && s.pcie.linkUp && !s.pcie.flr then
    { s with pcie := { s.pcie with up := s.pcie.up ++ [⟨s.pcie.freshTag, n, min (d.count - d.moved) (min mrrs 4096), d.moved, false, false⟩] } }
  else s

/-- Stop in ERROR with `k` bytes written (R651, R652). -/
def State.dmaStop (s : State) (n code addr k : Nat) : State :=
  let d := s.chan n
  s.setChan n { d with mode := .error, err := code, errAddr := addr, done := k, failing := none
                       stops := satAdd 16 d.stops 1, bytes := satAdd 64 d.bytes k }

/-- The transfer in a channel's registers starts: the checks, then the wakes and the first host read. -/
def State.dmaBegin (s : State) (n : Nat) : State :=
  let d := s.chan n
  match s.dmaCheck n d with
  | some (c, a) => s.dmaStop n c a 0
  | none =>
    let t := if d.srcHost then s else s.wakeFor d.src 1
    let t := if d.dstHost then t else t.wakeFor d.dst 1
    t.hostRead n

/-- Load the descriptor at `a` and begin its transfer (R644, R645). -/
def State.dmaLoad (s : State) (n a : Nat) : State :=
  if a % 32 ≠ 0 then s.dmaStop n 3 a 0
  else if !dmaMayReach n a 32 false || (match regionOf a with | .bankD => true | _ => false) then s.dmaStop n 2 a 0
  else
    let v := s.service a
    if v = 2 then s.dmaStop n 7 a 0
    else if v = 1 then (s.setChan n { s.chan n with next := a, moved := 0, chained := true, count := 0 }).wakeFor a 1
    else
      let r := s.readMem 4 a 32
      match r.poison with
      | some p => r.state.dmaStop n 1 p 0
      | none =>
        let d := r.state.chan n
        let f := blkField r.data
        (r.state.setChan n { d with src := f 0 8, dst := f 8 8, count := f 16 4, cfg := f 20 4, next := f 24 8
                                    chained := true, moved := 0 }).dmaBegin n

/-- The channel's owner can write its registers: the host for CH0 to CH7, firmware for CH8 to CH15 (R643). -/
def State.dmaOwner (s : State) (n : Nat) : Bool := s.ready 13 && (if n < 8 then s.hostUp else s.hazelUp)

/-- START (R644). -/
def State.dmaStart (s : State) (n : Nat) : State :=
  let d := s.chan n
  if d.mode == .idle then
    let t := s.setChan n { d with mode := .running, err := 0, errAddr := 0, descIdx := 0, done := 0, moved := 0
                                  chained := false, next := 0, failing := none }
    if d.desc = 0 then t.dmaBegin n else t.dmaLoad n d.desc
  else s

def execStart (n : Fin 16) (s : State) : Host.Outcome State Fault Refusal :=
  run (fun s => if s.dmaOwner n.val then s.dmaStart n.val else s) s

/-- ABORT while RUNNING: the stop of R652 is due, unless an error came first (R677). -/
def State.dmaAbort (s : State) (n : Nat) : State :=
  let d := s.chan n
  s.setChan n (d.fail 8 (d.src + d.moved))

def execAbort (n : Fin 16) (s : State) : Host.Outcome State Fault Refusal :=
  run (fun s => if s.dmaOwner n.val then s.dmaAbort n.val else s) s

/-- CLEAR: from ERROR to IDLE (R652, R676). -/
def State.dmaClear (s : State) (n : Nat) : State :=
  let d := s.chan n
  if d.mode == .error then s.setChan n { d with mode := .idle } else s

def execClear (n : Fin 16) (s : State) : Host.Outcome State Fault Refusal :=
  run (fun s => if s.dmaOwner n.val then s.dmaClear n.val else s) s

/-! ### Moving bytes (R647 to R650, R652) -/

/-- Source address of byte `i` of the transfer. -/
def Dma.srcAt (d : Dma) (i : Nat) : Nat := if d.srcFix then d.src + i % d.srcWidth else d.src + i
def Dma.dstAt (d : Dma) (i : Nat) : Nat := if d.dstFix then d.dst + i % d.dstWidth else d.dst + i

/-- Powers of two in a remainder (R649). -/
def pieces : Nat → Nat → Nat
  | 0, _ => 0
  | f + 1, n => n % 2 + pieces f (n / 2)

/-- Transactions of a side for `k` bytes (R647 to R649). -/
def Dma.txns (d : Dma) (w k : Nat) : Nat :=
  if d.srcWidth = 64 ∧ d.dstWidth = 64 ∧ !d.srcFix ∧ !d.dstFix then (k + 255) / 256 else k / w + pieces 7 (k % w)

/-- Count transactions at the DMA port and bytes at the stacks (R668). -/
def State.dmaCount (s : State) (a n tx : Nat) : State :=
  let p := s.port16 4
  let t := s.setPort16 4 { p with requests := satAdd 64 p.requests tx }
  match regionOf a with
  | .dram k => t.setStack k { t.stack k with bytes := satAdd 64 (t.stack k).bytes n }
  | _ => t

/-- The bytes of the source, the offset of the first poisoned byte in the transfer, and the state after the reads. -/
def State.dmaRead (s : State) (d : Dma) : MemRead :=
  let t := (s.dmaCount d.src d.count (d.txns d.srcWidth d.count)).touchWords (d.src / 8) (wordsOf d.src d.srcSpan)
  { data := (List.range d.count).map fun i => t.byteAt (d.srcAt i) (d.srcAt i - d.src)
    poison := t.firstPoison (d.src / 8) (wordsOf d.src d.srcSpan) |>.map (8 * ·)
    state := { t with free := if t.unspecified d.src then t.free + d.srcSpan else t.free } }

/-- Write the first bytes of a FIX side: the last width of bytes remains. -/
def lastWidth (w : Nat) (bs : List Byte) : List Byte := bs.drop (bs.length - w)

/-- Write `bs`, the transfer's bytes from offset `off`, to the destination. -/
def State.dmaWrite (s : State) (d : Dma) (off : Nat) (bs : List Byte) : State :=
  if bs.isEmpty then s
  else if d.dstHost then
    { s with outs := s.outs ++ [.hostWrite (d.dstAt off) bs] }
  else if d.dstFix then
    (s.dmaCount d.dst bs.length (d.txns d.dstWidth bs.length)).writeWords d.dst
      ((lastWidth d.dstWidth bs).map some) (d.dstWidth + 1)
  else
    (s.dmaCount (d.dst + off) bs.length (d.txns d.dstWidth bs.length)).writeWords (d.dst + off) (bs.map some) (bs.length + 1)

/-- How the running transfer stands. -/
inductive DmaFate where
  | pending
  | complete
  /-- An error: code, failing address, bytes that are written from the start. -/
  | stops (code addr upTo : Nat)
  deriving DecidableEq, Repr

/-- Bytes written before a failing point: whole accesses on a FIX side (R652). -/
def Dma.upTo (d : Dma) (k : Nat) : Nat := if d.dstFix then k - k % d.dstWidth else k

def State.dmaFate (s : State) (n : Nat) : DmaFate :=
  let d := s.chan n
  if d.mode != .running then .pending
  else match d.failing with
    | some (c, a) =>
      if c = 8 ∧ !d.srcHost then .stops 8 (d.src + d.upTo (s.freeVal % (d.count + 1))) (d.upTo (s.freeVal % (d.count + 1)))
      else .stops c a d.moved
    | none =>
      if d.count = 0 then .pending
      else if ((d.srcHost && d.moved != d.count) || d.dstHost) && !s.pcie.bme then .stops 4 (d.src + d.moved) d.moved
      else if d.dstHost && !s.pcie.linkUp then .pending
      else if d.srcHost then (if d.moved = d.count then .complete else .pending)
      else match s.dmaService d with
        | 2 => .stops 7 d.src 0
        | 1 => .pending
        | _ =>
          match (s.dmaRead d).poison with
          | some a => .stops 1 a (d.upTo (a - d.src))
          | none => .complete

/-- A descriptor whose stack has woken is loaded. -/
def State.dmaResume (s : State) (n : Nat) : State :=
  let d := s.chan n
  if d.mode == .running && d.count == 0 && d.failing.isNone then s.dmaLoad n d.next else s

/-- End of count (R650): the data is in place, DMA_DONE equals COUNT, and the chain goes on. -/
def State.dmaEnd (s : State) (n : Nat) : State :=
  let d := s.chan n
  let t := if d.srcHost then s else (s.dmaRead d).state.dmaWrite d 0 (s.dmaRead d).data
  let last := !d.chained || d.next == 0
  let e := t.chan n
  let t := t.setChan n { e with done := d.count, bytes := satAdd 64 e.bytes d.count
                                descIdx := if d.chained then satAdd 16 e.descIdx 1 else e.descIdx
                                descs := if d.chained then satAdd 16 e.descs 1 else e.descs
                                mode := if last then .idle else .running }
  let t := if last || d.irq then t.edge (1 + n) else t
  if last then t else t.dmaLoad n d.next

def execDmaEndOfCount (n : Fin 16) (s : State) : Host.Outcome State Fault Refusal :=
  run (fun s =>
    let t := s.dmaResume n.val
    match t.dmaFate n.val with
    | .complete => t.dmaEnd n.val
    | _ => t) s

/-- The stop of R652: the bytes before the failing point are written, and the rest of the range is undefined. -/
def State.dmaFails (s : State) (n code addr k : Nat) : State :=
  let d := s.chan n
  let t := if d.srcHost || k = 0 then s else s.dmaWrite d 0 ((s.dmaRead d).data.take k)
  let t := if d.dstHost || code = 7 then t
           else if d.dstFix then t.scramble d.dst d.dstWidth else t.scramble (d.dst + k) (d.count - k)
  (t.tookFree).dmaStop n code addr k

def execDmaErrorStop (n : Fin 16) (s : State) : Host.Outcome State Fault Refusal :=
  run (fun s =>
    match s.dmaFate n.val with
    | .stops c a k => s.dmaFails n.val c a k
    | _ => s) s

/-- Bytes of a completion reach a channel (04 R228). -/
def State.dmaDeliver (s : State) (n off : Nat) (bs : List Byte) : State :=
  let d := s.chan n
  (s.dmaWrite d off bs).setChan n { d with moved := d.moved + bs.length }

end Sys2Proof.Machine
end

