-- ==== Sys2Proof/Machine/Runs.lean ====
section
/-! DEFINITION. The end of a job's run on its pipes: the analysis record unit's batch (11 R590 to R600), the result
block (06 R367, R368), and how a host-side reset settles firmware. -/

namespace Sys2Proof.Machine

/-! ### Choices that firmware makes -/

/-- One of a list, where the spec leaves the choice to firmware: a free value chooses among several. -/
def State.choose (s : State) (l : List Nat) : Option Nat × State :=
  match l with
  | [] => (none, s)
  | [x] => (some x, s)
  | _ => (l[s.freeVal % l.length]?, s.tookFree)

/-! ### Sessions -/

/-- DIRECTION: 0 encode, 1 decode, 2 loopback (06 R356). -/
def Session.dir (x : Session) : Nat := bitsOf x.a0 8 2
def Session.codec (x : Session) : Nat := x.a0 % 256
def Session.gang (x : Session) : Nat := bitsOf x.a0 16 2
def Session.encPod (x : Session) : Nat := bitsOf x.a0 32 16
def Session.decPod (x : Session) : Nat := bitsOf x.a0 48 16
def Session.width (x : Session) : Nat := x.a1 % 65536
def Session.height (x : Session) : Nat := bitsOf x.a1 16 16
def Session.profile (x : Session) : Nat := bitsOf x.a1 32 8
def Session.level (x : Session) : Nat := bitsOf x.a1 40 8
def Session.chroma (x : Session) : Nat := bitsOf x.a1 48 2
def Session.tier (x : Session) : Nat := bitsOf x.a1 50 2
def Session.depth (x : Session) : Nat := bitsOf x.a1 52 4

/-- Every byte of a block is zero (06 R358). -/
def zeroBlock (b : List Byte) (o n : Nat) : Bool := (List.range n).all fun i => blkByte b (o + i) == 0

/-- BFRAMES and GOP_LEN in force; a block of zeros gives 3 and 64 (10 R532), and where the profile forbids that, the
value it permits (log 61). -/
def Session.noB (x : Session) : Bool :=
  (x.codec == 1 && (x.profile == 1 || x.profile == 6)) || (x.codec == 2 && x.profile == 3)
    || (x.codec == 3 && (x.profile == 3 || x.profile == 4))
def Session.stills (x : Session) : Bool := x.noB && !(x.codec == 1 && x.profile == 1)
def Session.bframes (x : Session) : Nat :=
  if zeroBlock x.body 0x20 64 then (if x.noB then 0 else 3) else blkByte x.body 0x21 % 8
def Session.gopLen (x : Session) : Nat :=
  if zeroBlock x.body 0x20 64 then (if x.stills then 1 else 64) else blkField x.body 0x22 2

/-! ### Rings (11 R590 to R597) -/

/-- The 64 bytes of an analysis record (R590). -/
def recordOf (typ sess thread order tag : Nat) (words : List Nat) : List Byte :=
  leBytes 1 typ ++ leBytes 1 words.length ++ leBytes 1 sess ++ leBytes 1 thread ++ leBytes 4 order ++ leBytes 8 tag
    ++ ((List.range 6).map fun i => leBytes 8 (words.getD i 0)).flatten

/-- A GAP record: records lost, cause, SEQ of the job of the first (R591). -/
def gapRecord (sess lost cause seq : Nat) : List Byte := recordOf 2 sess 0xFF 0 0 [lost, cause + seq * 2 ^ 32]

/-- The class mask of a ring, and whether it selects a record type (R592). -/
def Ring.mask (g : Ring) : Nat := if g.level % 65536 = 0 then 0x1D else g.level % 65536
def Ring.selects (g : Ring) (typ : Nat) : Bool :=
  bitAt g.mask (if typ < 0x20 then 0 else if typ < 0x30 then 1 else if typ < 0x40 then 2 else if typ < 0x50 then 3
    else if typ < 0x60 then 4 else if typ < 0x80 then 5 else 6)

/-- THRESHOLD in records (R592). -/
def Ring.threshold (g : Ring) : Nat :=
  if g.level / 65536 = 0 then ringSlots g.size / 2 else g.level / 65536

/-- A slot remains free after one more record (R596). -/
def Ring.room (g : Ring) : Bool := g.w - g.r + 1 < ringSlots g.size

/-- Write one record at the ring's index. -/
def State.ringPut (s : State) (n : Nat) (g : Ring) (b : List Byte) : State × Ring :=
  (s.writeMem n (g.addr + 64 + 64 * (g.w % ringSlots g.size)) b, { g with w := g.w + 1 })

/-- The ARU reads READ_IDX again; one above WRITE_IDX counts as equal to it (R595, R596). -/
def State.ringReread (s : State) (n : Nat) (g : Ring) : State × Ring :=
  let m := s.readMem n (g.addr + 8) 8
  (m.state, { g with r := min (leNat m.data) g.w })

/-- Write the GAP record of the losses since the last record (R596). -/
def State.ringGap (s : State) (n sess : Nat) (g : Ring) : State × Ring :=
  if g.gap = 0 then (s, g)
  else
    let x := s.ringPut n g (gapRecord sess g.gap 2 g.gapSeq)
    (x.1, { x.2 with gap := 0 })

/-- A record that finds no room is lost. -/
def Ring.lose (g : Ring) (seq : Nat) : Ring :=
  { g with gap := g.gap + 1, gapSeq := if g.gap = 0 then seq else g.gapSeq, lost := satAdd 64 g.lost 1 }

/-- One record reaches a ring: whether it was written (R596). -/
def State.ringRecord (s : State) (n sess seq : Nat) (g : Ring) (b : List Byte) : State × Ring × Bool :=
  let x := if g.room then (s, g) else s.ringReread n g
  if x.2.room then
    let y := x.1.ringGap n sess x.2
    if y.2.room then
      let z := y.1.ringPut n y.2 b
      (z.1, z.2, true)
    else (y.1, y.2.lose seq, false)
  else (x.1, x.2.lose seq, false)

/-- The ring that a session's running job writes to (R593, R608). -/
def Session.ringNow (x : Session) : Ring := x.oldRing.getD x.ring
def Session.putRing (x : Session) (g : Ring) : Session :=
  match x.oldRing with
  | some _ => { x with oldRing := some g }
  | none => { x with ring := g }

/-- A record is counted in the running job's RECORDS or GAP_LOST (R599). -/
def Session.counted (x : Session) (pod ok : Bool) : Session :=
  match x.run with
  | some r =>
    if pod then { x with run := some (if ok then { r with records := r.records + 1 } else { r with gapLost := r.gapLost + 1 }) }
    else x
  | none => x

/-- Write one gathered record. -/
def State.aruOne (s : State) (n : Nat) (e : Nat × Nat × Bool × List Byte) : State :=
  let x := s.session e.1
  let y := s.ringRecord n e.1 e.2.1 x.ringNow e.2.2.2
  y.1.setSession e.1 ((x.putRing y.2.1).counted e.2.2.1 y.2.2)

/-- WRITE_IDX and LOST of a session's ring (R594, R598). -/
def State.aruIndex (s : State) (n sess : Nat) : State :=
  let g := (s.session sess).ringNow
  if g.size = 0 then s else (s.writeMem n g.addr (leBytes 8 g.w)).writeMem n (g.addr + 0x10) (leBytes 8 g.lost)

/-- The ring's stack serves. -/
def State.ringAwake (s : State) (sess : Nat) : Bool :=
  let a := (s.session sess).ringNow.addr
  s.dramReady a 64 && !s.asleep (a / 2 ^ 33)

/-- ARU_RINGn's request (R600). -/
def State.aruLevel (s : State) (n : Nat) : State :=
  let high := s.hazel.sessions.any fun e =>
    e.2.firstPipe == n && e.2.ring.size != 0 && e.2.mode != .closed && e.2.ring.threshold ≤ e.2.ring.w - e.2.ring.r
  s.setPipe n { s.pipe n with aruHigh := high }

/-- The analysis record unit of a pipe writes what it has gathered, and then WRITE_IDX; a ring whose stack sleeps wakes
it and keeps its records (R598; 12 R617). -/
def State.aruFlush (s : State) (n : Nat) : State :=
  let l := (s.pipe n).aruStaged
  match l.find? fun e => !s.ringAwake e.1 with
  | some e => s.wakeStack ((s.session e.1).ringNow.addr / 2 ^ 33 % 2) 1
  | none =>
    let t := s.setPipe n { s.pipe n with aruStaged := [] }
    let t := l.foldl (fun u e => u.aruOne n e) t
    (l.foldl (fun u e => u.aruIndex n e.1) t).aruLevel n

/-- Insert in ascending order of ORDER, then thread; after its equals (08 R479). -/
def recInsert (r : Rec) : List Rec → List Rec
  | [] => [r]
  | x :: l =>
    if x.order < r.order || (x.order == r.order && x.thread ≤ r.thread) then x :: recInsert r l else r :: x :: l

def recSort (l : List Rec) : List Rec := l.foldl (fun m r => recInsert r m) []

/-- PTP time, seconds in the high half (R591). -/
def State.ptpWord (s : State) : Nat := s.ptp.sec % 2 ^ 32 * 2 ^ 32 + s.ptp.ns

/-- The batch of a job that ends with a status (R597). -/
def State.batchOf (s : State) (sess status : Nat) (x : Session) (r : Run) : List (Nat × Nat × Bool × List Byte) :=
  let job := recordOf 1 sess 0xFF 0 r.seq
    [r.opcode + r.queue * 2 ^ 16 + status / 256 * 2 ^ 24, r.startPtp, s.ptpWord, r.recs.length]
  (if x.cut = 0 then [] else [(sess, x.cutSeq, false, gapRecord sess x.cut 3 x.cutSeq)])
    ++ [(sess, r.seq, false, job)]
    ++ (recSort r.recs).map (fun (e : Rec) => (sess, r.seq, true, recordOf e.typ sess e.thread e.order e.tag e.words))
    ++ (if r.gapLost = 0 then [] else [(sess, r.seq, false, gapRecord sess r.gapLost 1 r.seq)])

/-- The ARU writes the batch of a session's job. -/
def State.batch (s : State) (sess status : Nat) : State :=
  let x := s.session sess
  match x.run with
  | none => s
  | some r =>
    let n := x.firstPipe
    let l := if x.ringNow.size = 0 then [] else s.batchOf sess status x r
    let t := s.setSession sess { x with cut := 0, run := some { r with recs := [] } }
    let t := t.setPipe n { t.pipe n with aruStaged := (t.pipe n).aruStaged ++ l }
    if l.isEmpty then t else t.aruFlush n

/-- The pipe scalars of a session are saved to its work area (08 R456): by pipe, Pod and number. -/
def State.saveScalars (s : State) (sess : Nat) : State :=
  let keep (n : Nat) : List (Nat × Nat) :=
    ((s.pipe n).scalars.filter fun e => e.1 / 512 == sess).map fun e => (n * 512 + e.1 % 512, e.2)
  s.setSession sess { s.session sess with saved := ((List.range 4).map keep).flatten }

/-- PCLK in MHz (07 R424; 17 R905). -/
def State.pclk (s : State) : Nat := (s.bankM.item 0x80 1600 fun v => v % 100 == 0 && 400 ≤ v && v ≤ 1600).1

/-- A pipe on which no session below 64 runs a job stops counting PIPE_CNT_BUSY (07 R435). -/
def State.countBusy (s : State) (n : Nat) : State :=
  let p := s.pipe n
  if p.busyFrom = 0 || s.hazel.sessions.any (fun e => e.2.run.isSome && bitAt e.2.mask n) then s
  else s.setPipe n { p with busyFrom := 0, busy := satAdd 64 p.busy ((s.now + 1 - p.busyFrom) * s.pclk / 1000) }

/-- The job of a session is halted, its batch being written first, and PIPE_JOB_END raised (11 R597, R598). -/
def State.endRun (s : State) (sess status : Nat) : State :=
  let t := foldRange (fun n u => u.countBusy n) 4 (((s.batch sess status).saveScalars sess).haltRun sess)
  t.edge (33 + (s.session sess).firstPipe)

/-- The jobs of the sessions below `n` are halted. -/
def State.endRuns (s : State) (status : Nat) : Nat → State
  | 0 => s
  | n + 1 =>
    let t := State.endRuns s status n
    if (t.session n).run.isSome then t.endRun n status else t

/-! ### The host-side reset of firmware's state -/

/-- Firmware's settlement of a host-side reset: jobs end, other commands run to their end without a notice, sessions
close, flows are unbound, queues return to their defaults. -/
def State.settleHost (s : State) : State :=
  let t := s.endRuns 0x0301 64
  let t := t.endJobs (fun c => isJob c.opcode) 0x0301 3
  let js := (t.hazel.jobs.filter fun c => c.phase != .written && c.phase != .noticed).map fun c => { c with silent := true }
  let qs := Table.mapVals ({} : Queue) (fun x => { x with depth := 64, doorbell := 0, seq := none }) t.hazel.queues
  let t := { t with hazel := { t.hazel with jobs := js, queues := qs, sessions := [] }
                    flows := Table.mapVals ({} : Flow) (fun x => { x with session := none }) t.flows }
  t.releaseIdlePipes 4

/-- The state that R57 marks for an FLR and for PERST_N, RDY_FELL apart (R56). -/
def State.hostReset (s : State) (sticky : Bool) : State :=
  let t := s.resetHostChannels
  let t := { t with pcie := t.pcie.resetFunction sticky
                    icu := { t.icu with host := {}, vlines := 0, vnotified := 0, vmap := [] } }
  t.mailDiscard.settleHost

end Sys2Proof.Machine
end

