-- ==== Sys2Proof/Machine/Husk.lean ====
section
/-! DEFINITION. The Husk (02): power states, wake sources, rail sequencing and removal, the slow clock and the XO. -/

namespace Sys2Proof.Machine

/-! ### Pip's requests (R70, R72, R80, R85, R116) -/

/-- The Husk serves its registers and pins: neither in power-on reset nor in Dormant. -/
def State.huskUp (s : State) : Bool := s.husk.power != .held && s.husk.power != .dormant

/-- Pip runs past its boot ROM's image checks. -/
def State.pipServes (s : State) : Bool := s.huskUp && s.husk.pipMode != .boot

/-- WARN_C: the PAC's register, or the item that it loads while it is not ready (03 R179). -/
def State.warnC (s : State) : Nat :=
  if s.ready 3 then s.pac.warnC
  else (s.bankM.item 0x0011 (105 + 75 * 256) fun v => 60 ≤ v % 256 && v % 256 ≤ 115).1 % 256

/-- The thermal hold of R85 bars a request made now. -/
def State.heldHot (s : State) : Bool := s.husk.thermalHold && decide (s.husk.tj > (s.warnC : Int) - 10)

/-- EN_SRD is due at the next slow tick, unless it is up (R80, R82). -/
def Husk.askSrd (h : Husk) : Husk := if h.enSrd then h else { h with srdDue := true }

/-- PG_MAIN has risen with EN_MAIN up: Main-on; the XO starts and EN_SRD follows (R66, R80, R86). -/
def State.mainRisen (s : State) : State :=
  { s with husk := { s.husk with power := .mainOn, xoOn := true, settled := false, monOk := false, srdDue := true
                                 settleDue := s.now + ticksNs s.husk.xoSettle } }

/-- Pip requests the main rails (R70, R72, R80, R82, R85). -/
def State.mainRequest (s : State) : State :=
  let h := s.husk
  if !h.hpEn || s.heldHot then s
  else
    let h := { h with thermalHold := false }
    if h.removal.isSome || h.mainOff then { s with husk := { h with keptOn := true } }
    else if h.power == .mainOn then { s with husk := h.askSrd }
    else if h.enMain then { s with husk := h }
    else
      let t := { s with husk := { h with enMain := true, goDormant := false, power := .awake, pipRun := true } }
      if h.pgMain then t.mainRisen else t

/-- The commands settle as an orderly main-off by HSK_CTRL or SMBus settles them (06 R384). -/
def State.settleMainOff (s : State) : State :=
  let t := s.endRuns 0x0301 64
  let t := t.endJobs (fun c => isJob c.opcode) 0x0301 4
  ({ t with hazel := { t.hazel with closed := true } }).releaseIdlePipes 4

/-- Pip passes a main-off request to Hazel through PIP2HZ; the spec gives no value for it (R70). -/
def State.tellHazelOff (s : State) : State :=
  let b := s.box 33
  if s.hazel.mode == .stopped || s.hazel.mode == .boot || b.full then s
  else (s.setBox 33 { b with lo := s.freeVal % 2 ^ 32, hi := s.freeVal / 2 ^ 32 % 2 ^ 32, full := true }).tookFree.settleMainOff

/-- An orderly main-off is requested (R70). -/
def State.offRequest (s : State) : State :=
  let h := s.husk
  if h.removal.isSome || h.mainOff then s
  else if h.power == .mainOn then ({ s with husk := { h with mainOff := true, mainOffAt := s.now } }).tellHazelOff
  else if h.enMain then { s with husk := { h with removal := some .orderly, srdDue := false } }
  else s

/-- GO_DORMANT: an orderly main-off if needed, and no DORMANT_DELAY (R116). -/
def State.dormantRequest (s : State) : State := ({ s with husk := { s.husk with goDormant := true } }).offRequest

/-- The wake causes that request the main rails (R72, R117). -/
def Husk.mainCauses (h : Husk) : BitVec 5 :=
  (if bitAt h.cfg 10 then 2 else 0) ||| (if bitAt h.cfg 11 then 1 else 0) ||| (if bitAt h.cfg 12 then 8 else 0)

/-- Pip acts on HSK_CTRL, on the wake causes it has not seen, and on a kept request whose removal has ended. -/
def State.pipActs (s : State) : State :=
  if s.pipServes then
    let c := s.husk.ctrl
    let new := s.husk.wakeCause &&& ~~~s.husk.causeSeen
    let kept := s.husk.keptOn && s.husk.removal.isNone && !s.husk.mainOff
    let t := { s with husk := { s.husk with ctrl := 0, causeSeen := s.husk.causeSeen ||| new
                                            keptOn := s.husk.keptOn && !kept } }
    let t := if c.getLsbD 2 then t.dormantRequest else t
    let t := if c.getLsbD 1 then t.offRequest else t
    if c.getLsbD 0 || new &&& t.husk.mainCauses != 0 || kept then t.mainRequest else t
  else s

/-- A write of HSK_CTRL: `c` holds MAIN_ON, MAIN_OFF and GO_DORMANT (R67, R116). -/
def State.writeCtrl (s : State) (c : BitVec 3) : State :=
  if s.huskUp then
    let h := s.husk
    let t := { s with husk := { h with ctrlWritten := true, ctrl := h.ctrl ||| c } }
    (t.wakePip).pipActs
  else s

/-! ### Wake sources (R71 to R74, R129) -/

def wakeBit : WakeSource → BitVec 5
  | .wakeIn => 1 | .hpEn => 2 | .smbus => 4 | .alarm => 8

/-- The source's enable in HSK_CFG (R71). -/
def Husk.wakeEnabled (h : Husk) : WakeSource → Bool
  | .wakeIn => bitsOf h.cfg 5 2 != 3
  | .hpEn => bitAt h.cfg 7
  | .smbus => bitAt h.cfg 8
  | .alarm => bitAt h.cfg 9

/-- Set a wake cause; a cause that fires again is acted on again (R67). -/
def Husk.cause (h : Husk) (b : BitVec 5) : Husk :=
  { h with wakeCause := h.wakeCause ||| b, causeSeen := h.causeSeen &&& ~~~b }

/-- A wake source fires (R71, R74). An SMBus match outside Dormant sets nothing (R120). -/
def State.wake (s : State) (w : WakeSource) : State :=
  match s.husk.power with
  | .held => s
  | .dormant =>
    if s.husk.wakeEnabled w then
      { s with husk := { s.husk.cause (wakeBit w) with power := .idle, pipMode := .boot } }
    else s
  | _ => if w = .smbus then s else ({ s with husk := s.husk.cause (wakeBit w) }).wakePip.pipActs

/-- The commit tick of the Dormant entry, with what fires in it (R66, R129). -/
def State.dormantCommit (s : State) (coincident : Option WakeSource) : State :=
  let h := s.husk
  if h.power == .idle && h.wakeCause == 0 && (h.goDormant || bitsOf h.cfg 16 16 != 0) then
    match coincident with
    | none => ({ s with husk := { h with power := .dormant, goDormant := false, pipMode := .boot, pipRun := false } }).dropReady (rdyBit 1)
    | some w =>
      let b := (if w = .smbus then 0 else wakeBit w) ||| 16
      ({ s with husk := { h.cause b with goDormant := false, alarm := if w = WakeSource.alarm then 0 else h.alarm } }).wakePip.pipActs
  else s

def execDormantEntry (coincident : Option WakeSource) (s : State) : Host.Outcome State Fault Refusal :=
  run (fun s => s.dormantCommit coincident) s

/-- WAKE_IN_EDGE selects an edge of this direction (R117). -/
def Husk.edgeSelected (h : Husk) (rising : Bool) : Bool :=
  match bitsOf h.cfg 5 2 with
  | 0 => rising
  | 1 => !rising
  | 2 => true
  | _ => false

def execWakeInEdge (rising : Bool) (s : State) : Host.Outcome State Fault Refusal :=
  run (fun s =>
    let t := { s with husk := { s.husk with wakeIn := rising } }
    if s.husk.edgeSelected rising then t.wake .wakeIn else t) s

/-- HP_EN rises: the MRAM write gate opens, and the wake cause sets (R71, R72; 04 R243, R244). -/
def execHpEnRise (s : State) : Host.Outcome State Fault Refusal :=
  run (fun s =>
    if s.husk.hpEn then s
    else ({ s with husk := { s.husk with hpEn := true, gateClosed := false, removalDue := false } }).wake .hpEn) s

def execSmbusWakeMatch (s : State) : Host.Outcome State Fault Refusal :=
  run (fun s =>
    if s.husk.power == .dormant then { s.wake .smbus with answer := .nack }
    else if s.huskUp then { s with answer := .ack } else s) s

/-- The moment HSK_ALARM reaches 0 (R121). -/
def Husk.alarmDue (h : Husk) : Nat := h.alarmAt + ticksNs h.alarm

def execAlarm (s : State) : Host.Outcome State Fault Refusal :=
  run (fun s =>
    if s.husk.alarm = 0 ∨ s.husk.power = .held then s
    else
      let t := s.until s.husk.alarmDue
      ({ t with husk := { t.husk with alarm := 0 } }).wake .alarm) s

def execPipTimer (s : State) : Host.Outcome State Fault Refusal :=
  run (fun s => if s.huskUp then { s with husk := { s.husk with timerExpired := true } } else s) s

/-- Pip clears the causes on which it has acted, and stops when it has no work left (R66, R67, R925). -/
def State.pipStops (s : State) : State :=
  if s.pipServes && s.husk.pipRun then
    let h := s.husk
    let t := { s with husk := { h with wakeCause := h.wakeCause &&& ~~~h.causeSeen, causeSeen := 0
                                       ctrlWritten := false, timerExpired := false } }
    if t.pipWork then t
    else { t with husk := { t.husk with pipRun := false, power := if h.power = .mainOn then .mainOn else .idle } }
  else s

def execPipStop (s : State) : Host.Outcome State Fault Refusal := run (fun s => s.pipStops) s

def execMainOn (s : State) : Host.Outcome State Fault Refusal := run (fun s => s.writeCtrl 1) s

def execMainOff (s : State) : Host.Outcome State Fault Refusal := run (fun s => s.writeCtrl 2) s

def execGoDormant (s : State) : Host.Outcome State Fault Refusal := run (fun s => s.writeCtrl 4) s

/-! ### Power-on reset -/

/-- VAON is lost: bank M, bank D's contents and the levels of pins remain (R842; 04 R246). -/
def State.powerLost (s : State) : State :=
  let h := s.husk
  { pending := s.pending, now := s.now, free := s.free + 1
    husk := { vaon := false, hpEn := h.hpEn, wakeIn := h.wakeIn, pgMain := h.pgMain, pgSrd := h.pgSrd
              pgDram := h.pgDram, tj := h.tj }
    pcie := { perstN := s.pcie.perstN, sris := s.pcie.sris }
    bankM := { s.bankM with plogLast := [], plogHour := [] }
    mem := Table.keep inBankD s.mem, marks := Table.keep (fun w => inBankD (8 * w)) s.marks
    icu := { ext := s.icu.ext }
    mram := { journalM := s.mram.journalM.map (JRec.cut (Config.freeWord s.free)),
              journalD := s.mram.journalD.map (JRec.cut (Config.freeWord s.free)), wear := s.mram.wear, library := s.mram.library } }

def execVaonFall (s : State) : Host.Outcome State Fault Refusal := run (fun s => s.powerLost) s

/-- Power-on reset releases after 64 LPRC ticks; Pip starts at once, and a high HP_EN gives it work (R66, R925). -/
def State.powerOn (s : State) (strap : Nat) (hpEn wakeIn : Bool) : State :=
  if s.husk.power == .held then
    let t := s.advance (ticksNs 64)
    let t := { t with husk := { t.husk with vaon := true, strap := strap, hpEn := hpEn, wakeIn := wakeIn, porAt := t.now } }
    let u := t.fullChipReset .por false []
    if hpEn then u.wake .hpEn else u
  else s

def execPowerOnResetRelease (strap : Fin 4) (hpEn wakeIn : Bool) (s : State) : Host.Outcome State Fault Refusal :=
  run (fun s => s.powerOn strap.val hpEn wakeIn) s

/-! ### Resets commanded to the Husk (01 R57) -/

/-- The chip reset that a reaction or a command has asked for (15 R789; 06 R354). -/
def execChipReset (s : State) : Host.Outcome State Fault Refusal :=
  run (fun s =>
    match s.husk.resetDue with
    | some (c, src) => s.fullChipReset c s.mainOn src.toList
    | none => s) s

def execHazelReset (s : State) : Host.Outcome State Fault Refusal :=
  run (fun s => if s.mainOn && s.hazelUp then s.hazelReset else s) s

def execPipReset (s : State) : Host.Outcome State Fault Refusal :=
  run (fun s => if s.huskUp then s.pipReset else s) s

def execBlockReset (b : Block) (s : State) : Host.Outcome State Fault Refusal :=
  run (fun s => if s.mainOn then s.blockReset b else s) s

/-! ### Rails (R80 to R85, R869) -/

/-- The endpoint requests the PHY PLL while its three conditions hold (04 R203). -/
def State.wantPhy (s : State) : State :=
  if s.pcie.perstN && s.husk.enSrd && s.husk.pgSrd && s.ready 3 then s.startPll .phy 1 else s

/-- VDRAM is up: every stack whose wake is granted begins training (12 R615). -/
def State.dramRisen (s : State) : State :=
  foldRange (fun n t =>
    if (t.stack n).mode == .off && t.pac.held.contains ⟨.dramWake, n⟩ then
      t.setStack n { t.stack n with mode := .training }
    else t) 2 s

/-- Raise EN_DRAM for a granted wake (R80, R82). -/
def State.raiseDram (s : State) : State :=
  if s.mainOn && !s.husk.enDram && s.husk.removal.isNone then
    let t := { s with husk := { s.husk with enDram := true } }
    if t.husk.pgDram then t.dramRisen else t
  else s

/-- A link that leaves L0 outside a PERST_N assertion or an FLR (04 R234). -/
def State.dropLink (s : State) (surprise : Bool) : State :=
  if s.pcie.linkUp then
    let t := s.linkLost.dropReady (rdyBit 12)
    let t := if surprise then ({ t with pcie := { t.pcie with surprise := satAdd 16 t.pcie.surprise 1 } }).report 42 0 else t
    t.hostReset true
  else s

/-- EN_DRAM falls: contents are lost, and the stacks' grants are reclaimed (01 R42, R49). -/
def State.lowerDram (s : State) : State :=
  let t := { s with husk := { s.husk with enDram := false } }
  let t := foldRange (fun n u => (u.wipe (inStack n)).setStack n
    { u.stack n with mode := .off, initDone := false, retrying := false }) 2 t
  (t.reclaim fun r => r.kind == .dramWake || (r.kind == .memSelftest && r.inst != 0)).dropReady (rdyBit 6 ||| rdyBit 7 ||| rdyBit 23)

/-- EN_SRD falls: the PHY and the lanes lose their supply (04 R203; 01 R42). -/
def State.lowerSrd (s : State) : State :=
  let t := (s.setPll 7 .stopped).withdraw ⟨.phyPll, 0⟩
  let t := foldRange (fun q u => u.setPll (3 + q) .stopped) 4 t
  let t := t.reclaim fun r => r.kind == .quadPll || r.kind == .laneEnable
  let t := { t with husk := { t.husk with enSrd := false, srdDue := false }
                    lanes := Table.mapVals ({} : Lane) (fun l => { l with enabled := false, relocking := false }) t.lanes }
  (t.dropReady (BitVec.ofNat 40 ((2 ^ 16 - 1) * 2 ^ 24))).dropLink (s.husk.removal != some .orderly)

/-- The cause that a removal records (01 R52; 02 R131, R137). -/
def Removal.cause : Removal → Cause
  | .orderly => .mainOff | .hpFall => .hpRemoval | .thermal => .thermal | .xoFail => .fault | .loss => .mainLoss

/-- A removal ends; a kept request is made again (R70). -/
def State.removalEnds (s : State) : State :=
  ({ s with husk := { s.husk with removal := none, goDormant := s.husk.goDormant && !s.husk.keptOn } }).pipActs

/-- EN_MAIN falls: the loss of the main rails is a chip reset (00 R14). Before Main-on there is nothing to lose. -/
def State.lowerMain (s : State) (r : Removal) : State :=
  let wasOn := s.mainOn
  let t := { s with husk := { s.husk with enMain := false } }
  let t := if wasOn then t.fullChipReset r.cause false (if r = .xoFail then [10] else [])
           else if r = .hpFall then { t with husk := { t.husk with rstCause := .hpRemoval } } else t
  if t.husk.pgMain then t else t.removalEnds

/-- The next step of a removal: the next enable falls, or the wait for PG_MAIN ends (R84; 04 R243). -/
def State.lowerNext (s : State) : State :=
  match s.husk.removal with
  | none => s
  | some r =>
    if s.husk.enDram then s.lowerDram
    else if s.husk.enSrd then s.lowerSrd
    else if s.husk.enMain then s.lowerMain r
    else s.removalEnds

def execRailEnableLower (s : State) : Host.Outcome State Fault Refusal := run (fun s => s.lowerNext) s

def Husk.setPg (h : Husk) (r : Rail) (v : Bool) : Husk :=
  match r with
  | .main => { h with pgMain := v } | .srd => { h with pgSrd := v } | .dram => { h with pgDram := v }

def Husk.pg (h : Husk) : Rail → Bool
  | .main => h.pgMain | .srd => h.pgSrd | .dram => h.pgDram

def Husk.en (h : Husk) : Rail → Bool
  | .main => h.enMain | .srd => h.enSrd | .dram => h.enDram

/-- The number of a rail in RAIL_PG_TIMEOUT's and RAIL_PG_FELL's DETAIL and in HSK_RAIL_FAULT (R123; 15 R782). -/
def railNo : Rail → Nat
  | .main => 0 | .srd => 1 | .dram => 2

/-- A power-good input rises; with its enable low it is ignored (R66, R80, R86, R869). -/
def State.pgRises (s : State) (r : Rail) : State :=
  let t := { s with husk := s.husk.setPg r true }
  if s.husk.power != .held && s.husk.en r && !s.husk.pg r && s.husk.removal.isNone then
    match r with
    | .main => t.mainRisen
    | .srd => t.wantPhy
    | .dram => t.dramRisen
  else t

def execPgRise (r : Rail) (s : State) : Host.Outcome State Fault Refusal := run (fun s => s.pgRises r) s

def execEnSrdRaise (s : State) : Host.Outcome State Fault Refusal :=
  run (fun s =>
    if s.husk.srdDue && s.mainOn && s.husk.removal.isNone then
      ({ s with husk := { s.husk with srdDue := false, enSrd := true } }).wantPhy
    else s) s

/-- A power-good input has not risen in time: only that enable falls (R82). -/
def State.pgLate (s : State) (r : Rail) : State :=
  if s.huskUp && s.husk.en r && !s.husk.pg r && s.husk.removal.isNone then
    let t := match r with
      | .main => { s with husk := { s.husk with enMain := false } }
      | .srd => s.lowerSrd
      | .dram => s.lowerDram
    let u := { t with husk := { t.husk with railFault := t.husk.railFault ||| BitVec.ofNat 7 (2 ^ railNo r) } }
    u.reportHusk 14 (2 ^ railNo r)
  else s

def execPgTimeout (r : Rail) (s : State) : Host.Outcome State Fault Refusal := run (fun s => s.pgLate r) s

/-- The record of a source that caused a chip reset is to reopen (15 R788). -/
def State.reopenAs (s : State) (src detail : Nat) : State :=
  { s with husk := { s.husk with reopen := s.husk.reopen ++ [(src, detail)] } }

/-- A power-good input falls while its enable is high: all enables fall, with a chip reset of cause MAIN_LOSS (R83). -/
def State.mainLost (s : State) (r : Rail) : State :=
  let t := { s with husk := { s.husk with enMain := false, enSrd := false, enDram := false } }
  let u := t.fullChipReset .mainLoss false []
  let u := { u with husk := { u.husk with railFault := u.husk.railFault ||| BitVec.ofNat 7 (2 ^ (4 + railNo r))
                                          removal := if u.husk.pgMain then some .loss else none, mainOff := false } }
  (u.reopenAs 15 (2 ^ railNo r)).pipActs

def State.pgFalls (s : State) (r : Rail) : State :=
  let t := { s with husk := s.husk.setPg r false }
  if s.husk.power == .held || !s.husk.pg r then t
  else if s.husk.removal.isSome then
    if r = .main ∧ !(s.husk.enMain || s.husk.enSrd || s.husk.enDram) then t.removalEnds else t
  else if s.husk.en r then t.mainLost r
  else t

def execPgFall (r : Rail) (s : State) : Host.Outcome State Fault Refusal := run (fun s => s.pgFalls r) s

/-- HP_EN falls: the write gate closes, pending rail requests are dropped, and the enables fall tick by tick (R136; 04 R243). -/
def State.hpFalls (s : State) : State :=
  let h := s.husk
  if !h.hpEn then s
  else
    let up := h.enMain || h.enSrd || h.enDram
    { s with husk := { h with
        hpEn := false, gateClosed := true, removalDue := true, hpFellAt := s.now, srdDue := false
        mainOff := h.mainOff && !up, keptOn := false
        removal := if up && h.removal != some .thermal then some .hpFall else h.removal } }

def execHpEnFall (s : State) : Host.Outcome State Fault Refusal := run (fun s => s.hpFalls) s

/-- THERMAL_CRIT while the main rails are up: every enable falls in one tick (R85, R137). -/
def State.thermalCrit (s : State) : State :=
  if s.husk.enMain then
    let c := if s.husk.hpEn then Cause.thermal else .hpRemoval
    let t := { s with husk := { s.husk with enMain := false, enSrd := false, enDram := false } }
    let t := t.fullChipReset c false []
    let t := { t with husk := { t.husk with thermalHold := true, mainOff := false
                                            removal := if t.husk.pgMain then some .thermal else none } }
    (t.plogDue 8 13).reopenAs 13 0
  else s

def execThermalCrit (s : State) : Host.Outcome State Fault Refusal := run (fun s => s.thermalCrit) s

/-! ### Orderly main-off (R70) -/

/-- The Husk starts to remove the rails. -/
def State.startRemoval (s : State) : State :=
  if s.husk.mainOff then { s with husk := { s.husk with mainOff := false, removal := some .orderly, srdDue := false } }
  else s

def execMainOffAnswer (s : State) : Host.Outcome State Fault Refusal := run (fun s => s.startRemoval) s

def execMainOffTimeout (s : State) : Host.Outcome State Fault Refusal :=
  run (fun s => if s.husk.mainOff then (s.until (s.husk.mainOffAt + 100000000)).startRemoval else s) s

/-! ### The slow clock (R75 to R78) -/

/-- XT32_MODE selects a crystal or an external clock (R117). -/
def Husk.xtSelected (h : Husk) : Bool := bitsOf h.cfg 1 2 < 2

def execXt32Qualified (s : State) : Host.Outcome State Fault Refusal :=
  run (fun s =>
    if s.husk.power != .held && s.husk.xtSelected then
      ({ s with husk := { s.husk with slowSrc := true } }).endCondition 11
    else s) s

/-- XT_FAIL sets, and XT32_FAIL is reported (R77, R78). -/
def State.xtFails (s : State) : State := ({ s with husk := { s.husk with slowSrc := false, xtFail := true } }).reportHusk 11 0

def execXt32QualifyTimeout (s : State) : Host.Outcome State Fault Refusal :=
  run (fun s =>
    if s.husk.power != .held && s.husk.xtSelected && !s.husk.slowSrc then (s.until (s.husk.porAt + 2000000000)).xtFails
    else s) s

def execXt32EdgeLoss (s : State) : Host.Outcome State Fault Refusal :=
  run (fun s => if s.husk.power != .held && s.husk.slowSrc then s.xtFails else s) s

/-! ### The XO (R86 to R88, R130 to R133, R921, R922) -/

/-- The XO bit sets; at a start from chip reset the XO-clocked blocks start (R86). -/
def State.xoSettles (s : State) : State :=
  if s.husk.xoOn && !s.ready 2 && s.mainOn then
    let t := s.until s.husk.settleDue
    let t := { t with husk := { t.husk with settled := true, monOk := true, xoSetAt := t.now } }
    let t := (t.setReady 2).endCondition 10
    let t := { t with pac := { t.pac with queue := t.pac.queue.map fun q =>
      if q.who.pll?.isSome then { q with from_ := t.now } else q } }
    if t.ready 15 then t else t.mainStart
  else s

def execXoSettleExpiry (s : State) : Host.Outcome State Fault Refusal := run (fun s => s.xoSettles) s

/-- A PLL start that uses the XO is abandoned; its consumers wait for the XO bit (R133). -/
def State.abandonStart (s : State) (p : Pll) : State :=
  if s.pll p.idx == .starting then ((s.withdraw p.who).setPll p.idx .requested).request p.who 1 else s

/-- The clock monitor declares XO loss; `early` tells that 256 slow ticks have not passed since the bit set. -/
def State.xoLost (s : State) (early : Bool) : State :=
  if s.ready 2 && s.mainOn then
    let t := { s with husk := { s.husk with settled := false, monOk := false
                                            settleDue := s.now + ticksNs s.husk.xoSettle } }
    let t := (t.dropReady (rdyBit 2)).reportHusk 10 0
    let t := (((t.abandonStart .fabric).abandonStart .hazel).abandonStart .core).abandonStart .vtc
    if early then
      let n := satAdd 4 t.husk.earlyCount 1
      let t := { t with husk := { t.husk with earlyCount := n, resetDue := none } }
      if n < 3 then t.fullChipReset .fault true [10]
      else { t with husk := { t.husk with xoFail := true, mainOff := false
                                          removal := some (t.husk.removal.getD .xoFail) } }
    else t
  else s

def execXoLoss (early : Bool) (s : State) : Host.Outcome State Fault Refusal := run (fun s => s.xoLost early) s

end Sys2Proof.Machine
end

