-- ==== Sys2Proof/Machine/Link.lean ====
section
/-! DEFINITION. The PCI Express endpoint (04): the link, its resets, configuration space, BAR2 and upstream requests. -/

namespace Sys2Proof.Machine

/-! ### AER (R229, R230) -/

/-- Log an uncorrectable error and report its fault source. -/
def State.aerUnc (s : State) (bit src : Nat) : State :=
  ({ s with pcie := { s.pcie with uncStatus := s.pcie.uncStatus ||| 2 ^ bit } }).report src 0

/-- Log a correctable error. -/
def State.aerCor (s : State) (bit : Nat) : State :=
  ({ s with pcie := { s.pcie with corStatus := s.pcie.corStatus ||| 2 ^ bit } }).report 57 0

/-- Answer a read with Completer Abort, counted as R251 states. -/
def State.completerAbort (s : State) : State :=
  { ({ s with pcie := { s.pcie with abortOther := satAdd 16 s.pcie.abortOther 1 } }).aerUnc 15 51 with answer := .abort }

/-- A request that finds the windows closed: no answer without a link, Unsupported Request otherwise (R207, R236, R247). -/
def State.rejectRead (s : State) : State :=
  if !s.pcie.linkUp then s
  else if s.pcie.flr then { s with answer := .unsupported }
  else { s.aerUnc 20 55 with answer := .unsupported }

/-! ### The link (R203 to R207, R232 to R236) -/

def execLinkTrainingL0 (s : State) : Host.Outcome State Fault Refusal :=
  run (fun s =>
    if s.pcie.perstN && s.husk.enSrd && s.husk.pgSrd && s.pll 7 == .locked && !s.pcie.linkUp then
      ({ s with pcie := { s.pcie with linkUp := true }, mbxClosed := false }).setReady 12
    else s) s

/-- A main-off is in progress (R234). -/
def State.offInProgress (s : State) : Bool := s.husk.mainOff || s.husk.removal == some .orderly

def execLinkDown (s : State) : Host.Outcome State Fault Refusal := run (fun s => s.dropLink (!s.offInProgress)) s

def execHotReset (s : State) : Host.Outcome State Fault Refusal := run (fun s => s.dropLink false) s

/-- PERST_N asserted: upstream requests stop, the link drops, the host-facing state resets, and the PHY is powered
down (R203, R232, R259). -/
def State.perstAssert (s : State) : State :=
  let t := { s with pcie := { s.pcie with perstN := false } }
  if s.pcie.perstN && s.mainOn then
    let t := (t.linkLost.clearReady (rdyBit 12)).hostReset false
    ({ t with fell := 0 }.setPll 7 .stopped).withdraw ⟨.phyPll, 0⟩
  else t

def execPerstNAssert (s : State) : Host.Outcome State Fault Refusal := run (fun s => s.perstAssert) s

def execPerstNDeassert (sris : Bool) (s : State) : Host.Outcome State Fault Refusal :=
  run (fun s =>
    if s.pcie.perstN then s else ({ s with pcie := { s.pcie with perstN := true, sris := sris } }).wantPhy) s

/-- An FLR is initiated (R235, R236). -/
def State.flrStart (s : State) : State :=
  if s.pcie.linkUp && !s.pcie.flr then
    let t := s.hostReset true
    { t with fell := 0, pcie := { t.pcie with flr := true } }
  else s

def execFlrInitiate (s : State) : Host.Outcome State Fault Refusal := run (fun s => s.flrStart) s

def execFlrComplete (s : State) : Host.Outcome State Fault Refusal :=
  run (fun s =>
    if s.pcie.flr then { s with pcie := { s.pcie with flr := false }, mbxClosed := false } else s) s

def State.enterD3 (s : State) : State := if s.pcie.linkUp then { s with pcie := { s.pcie with d3 := true } } else s
def State.leaveD3 (s : State) : State := ({ s with pcie := { s.pcie with d3 := false } }).flushMsix

def execD3hotEntry (s : State) : Host.Outcome State Fault Refusal := run (fun s => s.enterD3) s

def execD0Return (s : State) : Host.Outcome State Fault Refusal :=
  run (fun s => if s.pcie.linkUp && s.pcie.d3 then s.leaveD3 else s) s

/-! ### Configuration space (R209 to R211; the encodings of the base specification, log 20) -/

/-- A double word of configuration space. -/
def State.cfgSpace (s : State) (o : Nat) : Nat :=
  let p := s.pcie
  match o with
  | 0x000 => 0x76401F5C
  | 0x004 => 0x00100000 + p.cmdRest + 2 * b2n p.mse + 4 * b2n p.bme
  | 0x008 => 0x048000B0
  | 0x00C => p.cacheLine
  | 0x010 => p.bar0 % 2 ^ 32 + 4
  | 0x014 => p.bar0 / 2 ^ 32
  | 0x018 => p.bar2 % 2 ^ 32 + 0xC
  | 0x01C => p.bar2 / 2 ^ 32
  | 0x02C => p.subsys
  | 0x034 => 0x40
  | 0x040 => 0x00035001
  | 0x044 => 8 + 3 * b2n p.d3
  | 0x050 => 0x003F7011 + b2n p.msixMask * 2 ^ 30 + b2n p.msixEnable * 2 ^ 31
  | 0x054 => 0x000F0000
  | 0x058 => 0x000F0800
  | 0x070 => 0x00020010
  | 0x074 => 0x10008A22
  | 0x078 => p.devCtl + b2n (!p.up.isEmpty) * 2 ^ 21
  | 0x07C => 0x00420885
  | 0x080 => p.linkCtl + 0x00810000
  | 0x094 => 0x0003001E
  | 0x098 => p.devCtl2
  | 0x09C => 0x3E
  | 0x0A0 => 5
  | 0x100 => 0x14820001
  | 0x104 => p.uncStatus
  | 0x108 => p.uncMask
  | 0x10C => p.uncSev
  | 0x110 => p.corStatus
  | 0x114 => p.corMask
  | 0x148 => 0x15810003
  | 0x14C => Config.serial.toNat % 2 ^ 32
  | 0x150 => Config.serial.toNat / 2 ^ 32
  | 0x158 => 0x17810019
  | 0x178 => 0x1A810026
  | 0x1A8 => 0x1D010027
  | 0x1D0 => 0x0001002A
  | _ =>
    if (0x11C ≤ o ∧ o ≤ 0x128 ∧ p.uncStatus ≠ 0) ∨ (0x15C ≤ o ∧ o ≤ 0x170) ∨ (0x17C ≤ o ∧ o ≤ 0x19C)
        ∨ (0x1AC ≤ o ∧ o ≤ 0x1CC) ∨ (0x1D4 ≤ o ∧ o ≤ 0x1F4) then (Config.cfgWord o).toNat
    else 0

/-- A write of a double word of configuration space. -/
def State.cfgSpaceWrite (s : State) (o v : Nat) : State :=
  let p := s.pcie
  let put (q : Pcie) : State := { s with pcie := q }
  match o with
  | 0x004 => (put { p with cmdRest := v &&& 0x0540, mse := bitAt v 1, bme := bitAt v 2 }).flushMsix
  | 0x00C => put { p with cacheLine := v % 256 }
  | 0x010 => put { p with bar0 := p.bar0 / 2 ^ 32 * 2 ^ 32 + v / 2 ^ 22 * 2 ^ 22 }
  | 0x014 => put { p with bar0 := v * 2 ^ 32 + p.bar0 % 2 ^ 32 }
  | 0x01C => put { p with bar2 := v / 4 * 4 * 2 ^ 32 }
  | 0x044 => if v % 4 = 3 then s.enterD3 else if v % 4 = 0 ∧ p.d3 then s.leaveD3 else s
  | 0x050 => (put { p with msixMask := bitAt v 30, msixEnable := bitAt v 31 }).flushMsix
  | 0x078 => let t := put { p with devCtl := v &&& 0x7FFF }; if bitAt v 15 then t.flrStart else t
  | 0x080 => put { p with linkCtl := v &&& 0x00CB }
  | 0x098 => put { p with devCtl2 := v &&& 0x101F }
  | 0x104 => put { p with uncStatus := p.uncStatus - (p.uncStatus &&& v) }
  | 0x108 => put { p with uncMask := v &&& 0x0057F010 }
  | 0x10C => put { p with uncSev := v &&& 0x0057F010 }
  | 0x110 => put { p with corStatus := p.corStatus - (p.corStatus &&& v) }
  | 0x114 => put { p with corMask := v &&& 0x0000F1C1 }
  | _ => s

def execConfigRequest (a : ConfigAccess) (s : State) : Host.Outcome State Fault Refusal :=
  run (fun s =>
    if !s.pcie.linkUp then s
    else if s.pcie.flr then { s with answer := .unsupported }
    else match a.write with
      | none => { s with answer := .data (BitVec.ofNat 64 (s.cfgSpace a.offset)) }
      | some v => s.cfgSpaceWrite a.offset v.toNat) s

/-! ### BAR2 (R217 to R222, R242, R261) -/

/-- A BAR2 write is discarded and counted (R250). -/
def State.discardBar2 (s : State) : State :=
  { s with pcie := { s.pcie with discardBar2 := satAdd 16 s.pcie.discardBar2 1 } }

/-- A BAR2 request reaches its stack. -/
def State.bar2Do (s : State) (r : HeldReq) : State :=
  if r.write then
    if r.ep then s.poisonRange r.offset r.len else s.writeSome 5 r.offset r.data
  else
    let m := s.readMem 5 r.offset r.len
    match m.poison with
    | none => { m.state with answer := .bytes m.data }
    | some a =>
      let t := { m.state with pcie := { m.state.pcie with abortPoison := satAdd 16 m.state.pcie.abortPoison 1 } }
      { t.aerUnc 15 51 with answer := .bytesAbort (m.data.take (a - r.offset)) }

/-- A BAR2 request that is not served: Completer Abort, or a discard (R219, R220, R242). -/
def State.bar2Fail (s : State) (r : HeldReq) : State := if r.write then s.discardBar2 else s.completerAbort

/-- A BAR2 request as the endpoint handles it. -/
def State.bar2 (s : State) (r : HeldReq) : State :=
  if s.pcie.bar2Closed || !s.dramReady r.offset r.len then s.bar2Fail r
  else if s.asleep r.stack then
    ({ s with pcie := { s.pcie with heldReqs := s.pcie.heldReqs ++ [r] } }).wakeStack r.stack 1
  else if s.awake r.stack then s.bar2Do r
  else s.bar2Fail r

/-- The stack that offset `o` lies in. -/
def bar2Stack (o : Nat) : Nat := o / 2 ^ 33

def execBar2Read (offset len : Nat) (s : State) : Host.Outcome State Fault Refusal :=
  run (fun s =>
    if s.hostUp then s.bar2 ⟨bar2Stack offset, offset, len, [], false, false⟩ else s.rejectRead) s

/-- A write TLP that finds the windows closed (R236, R250). -/
def State.rejectWrite (s : State) (bar2 : Bool) : State :=
  if !s.pcie.linkUp then s
  else if s.pcie.flr then
    (if bar2 then s.discardBar2 else { s with pcie := { s.pcie with discardBar0 := satAdd 16 s.pcie.discardBar0 1 } })
  else s.aerUnc 20 55

def execBar2Write (offset : Nat) (data : List (Option Byte)) (ep : Bool) (s : State) :
    Host.Outcome State Fault Refusal :=
  run (fun s =>
    if s.hostUp then
      let t := if ep then s.aerUnc 12 49 else s
      t.bar2 ⟨bar2Stack offset, offset, data.length, data, true, ep⟩
    else s.rejectWrite true) s

/-- The requests held for a stack are taken from the endpoint. -/
def State.takeHeld (s : State) (n : Nat) : List HeldReq × State :=
  (s.pcie.heldReqs.filter (·.stack == n),
   { s with pcie := { s.pcie with heldReqs := s.pcie.heldReqs.filter (·.stack != n) } })

def execBar2WakeTimeout (n : Fin 2) (s : State) : Host.Outcome State Fault Refusal :=
  run (fun s => (s.takeHeld n.val).1.foldl State.bar2Fail (s.takeHeld n.val).2) s

/-- The requests held for a stack are served once it is awake. -/
def State.serveHeld (s : State) (n : Nat) : State := (s.takeHeld n).1.foldl State.bar2Do (s.takeHeld n).2

/-! ### Upstream requests (R224 to R228) -/

def State.dropUp (s : State) (tag : Nat) : State :=
  { s with pcie := { s.pcie with up := s.pcie.up.filter (·.tag != tag) } }

/-- A channel stops for a completion's sake. -/
def State.dmaFail (s : State) (n code : Nat) : State :=
  let d := s.chan n
  s.setChan n (d.fail code (d.src + d.moved))

/-- A completion of an outstanding request. -/
def State.completion (s : State) (r : UpReq) (st : CplStatus) (data : List Byte) : State :=
  let t := s.dropUp r.tag
  if r.late then
    ({ t with pcie := { t.pcie with lateTimeout := satAdd 16 t.pcie.lateTimeout 1 } }).report 43 0x100
  else if r.dropped then { t with pcie := { t.pcie with lateReset := satAdd 16 t.pcie.lateReset 1 } }
  else match st with
    | .unsupported | .abort => t.dmaFail r.chan 5
    | .poisoned => (t.aerUnc 12 49).dmaFail r.chan 1
    | .success =>
      let bs := data.take r.len
      let u := t.dmaDeliver r.chan r.dst bs
      if bs.length < r.len then
        { u with pcie := { u.pcie with up := u.pcie.up ++ [{ r with len := r.len - bs.length, dst := r.dst + bs.length }] } }
      else u.hostRead r.chan

def execUpstreamCompletion (tag : Nat) (st : CplStatus) (data : List Byte) (s : State) :
    Host.Outcome State Fault Refusal :=
  run (fun s =>
    if s.pcie.linkUp then
      match s.pcie.up.find? (·.tag == tag) with
      | some r => s.completion r st data
      | none => s.aerUnc 16 52
    else s) s

def execCompletionTimeout (tag : Nat) (s : State) : Host.Outcome State Fault Refusal :=
  run (fun s =>
    match s.pcie.up.find? (fun r => r.tag == tag && !r.late && !r.dropped) with
    | some r =>
      let t := { s with pcie := { s.pcie with up := s.pcie.up.map fun x => if x = r then { x with late := true } else x } }
      (t.aerUnc 14 50).dmaFail r.chan 6
    | none => s) s

def execTlpReplay (rollover : Bool) (s : State) : Host.Outcome State Fault Refusal :=
  run (fun s =>
    if s.pcie.linkUp then
      let t := { s with pcie := { s.pcie with replays := satAdd 32 s.pcie.replays 1 } }
      if rollover then t.aerCor 8 else t
    else s) s

/-- The vector's mask bit is written 0, and its pending message goes (R231). -/
def State.unmask (s : State) (v : Nat) : State :=
  ({ s with pcie := { s.pcie with msix := Table.modify {} s.pcie.msix v fun e => { e with masked := false } } }).flushMsix

def execMsixUnmask (v : Fin 64) (s : State) : Host.Outcome State Fault Refusal :=
  run (fun s => if s.hostUp then s.unmask v.val else s) s

end Sys2Proof.Machine
end

