-- ==== Sys2Proof/Machine/Mailbox.lean ====
section
/-! DEFINITION. Mailboxes (05 R264 to R285): sending, taking, overruns and discards. -/

namespace Sys2Proof.Machine

/-- The number of a mailbox in MBX_OVERRUN's DETAIL (15 R782). -/
def mbxIndex : Mailbox → Nat
  | .h2d k => k.val | .d2h k => 16 + k.val | .hz2pip => 32 | .pip2hz => 33

/-- Firmware writes to MBX_D2Hk are discarded after a host-side reset (R278). -/
def State.boxClosed (s : State) (m : Nat) : Bool := s.mbxClosed && 16 ≤ m && m < 32

/-- A sender write is discarded: an overrun (R268). -/
def State.overrun (s : State) (m : Nat) : State :=
  let b := s.box m
  (s.setBox m { b with overrun := true, overruns := satAdd 16 b.overruns 1 }).report 32 m

/-- A sender write of DATA_LO (R267, R268, R278). -/
def State.sendLo (s : State) (m v : Nat) : State :=
  let b := s.box m
  if s.boxClosed m then s.setBox m { b with discards := satAdd 16 b.discards 1 }
  else if b.full then s.overrun m
  else s.setBox m { b with lo := v % 2 ^ 32, half := true }

/-- A sender write of DATA_HI, or of both halves at once (R267, R268, R278). -/
def State.sendHi (s : State) (m hi : Nat) (lo : Option Nat) : State :=
  let b := s.box m
  if s.boxClosed m then s.setBox m { b with discards := satAdd 16 b.discards 1 }
  else if b.full then s.overrun m
  else s.setBox m { b with hi := hi % 2 ^ 32, lo := (lo.getD b.lo) % 2 ^ 32, full := true, half := false }

/-- The completion notice of queue `k` has been taken: its command is no longer in flight (06 R330). -/
def State.noticeTaken (s : State) (k : Nat) : State :=
  { s with hazel := { s.hazel with jobs := s.hazel.jobs.filter fun c => !(c.queue == k && c.phase == .noticed) } }

/-- A receiver read of DATA_HI (R269). -/
def State.takeHi (s : State) (m : Nat) : State :=
  let b := s.box m
  if b.full then
    let t := s.setBox m { b with full := false }
    if 16 ≤ m ∧ m < 32 then t.noticeTaken (m - 16) else t
  else s

/-- The stored 64-bit value. -/
def Mbx.value (b : Mbx) : Nat := b.hi * 2 ^ 32 + b.lo

/-- The status word (R282). -/
def Mbx.status (b : Mbx) : Nat := b2n b.full + 2 * b2n b.overrun + 4 * b2n (b.discards != 0)

/-- MBX_FULL_MAP (R284). -/
def State.fullMap (s : State) : Nat :=
  foldRange (fun k x => x + b2n (s.box k).full * 2 ^ (16 + k) + b2n (s.box (16 + k)).full * 2 ^ k) 16 0

/-- The mailbox block is out of reset: the XO has settled since the chip reset (02 R86). -/
def State.mbxUp (s : State) : Bool := s.ready 14

/-- The sender of a mailbox can reach it: the host, Hazel firmware or Pip firmware. -/
def State.senderUp (s : State) (m : Nat) : Bool :=
  s.mbxUp && (if m < 16 then s.hostUp else if m = 33 then s.husk.pipRun else s.hazelUp)

def execMbxDataLoWrite (m : Mailbox) (v : Word32) (s : State) : Host.Outcome State Fault Refusal :=
  run (fun s => if s.senderUp (mbxIndex m) then s.sendLo (mbxIndex m) v.toNat else s) s

def execMbxDataHiWrite (m : Mailbox) (hi : Word32) (lo : Option Word32) (s : State) : Host.Outcome State Fault Refusal :=
  run (fun s => if s.senderUp (mbxIndex m) then s.sendHi (mbxIndex m) hi.toNat (lo.map BitVec.toNat) else s) s

/-- The receiver of a mailbox can reach it. -/
def State.receiverUp (s : State) (m : Nat) : Bool :=
  s.mbxUp && (if m < 16 then s.hazelUp else if m < 32 then s.hostUp else if m = 32 then s.husk.pipRun else s.hazelUp)

def execMbxDataHiRead (m : Mailbox) (s : State) : Host.Outcome State Fault Refusal :=
  run (fun s =>
    if s.receiverUp (mbxIndex m) then
      { s.takeHi (mbxIndex m) with answer := .data (BitVec.ofNat 64 (s.box (mbxIndex m)).value) }
    else s) s

end Sys2Proof.Machine
end

