-- ==== Sys2Proof/Machine/Lomod.lean ====
section
/-! DEFINITION. How firmware serves Lomod queues (06): taking a descriptor, the checks of R335, running a command,
posting its completion; and what a grant or a lock does for the commands and lanes that wait on it. -/

namespace Sys2Proof.Machine

/-! ### Posting completions (R336, R337, R346) -/

/-- Hazel firmware runs: an image or the boot ROM's RECOVERY service, with its clock. -/
def State.fwUp (s : State) : Bool :=
  s.mainOn && s.hazel.mode != .stopped && s.hazel.mode != .boot && s.pll 1 == .locked

/-- CFLAGS of a completion. -/
def State.cflags (s : State) (c : Cmd) : Nat :=
  b2n (s.hazel.mode == .compat) + 2 * b2n (s.hazel.mode == .recovery) + 4 * b2n c.seqGap + 8 * b2n c.preempted

/-- The 32 bytes of a completion record. -/
def State.recordBytes (s : State) (c : Cmd) : List Byte :=
  leBytes 2 c.status ++ leBytes 2 c.opcode ++ leBytes 2 s.hazel.epoch ++ leBytes 1 c.queue ++ leBytes 1 (s.cflags c)
    ++ leBytes 4 c.seq ++ leBytes 4 c.detail ++ leBytes 8 c.tag ++ leBytes 8 c.result

/-- Replace the entry at place `i` of the job table. -/
def State.setJob (s : State) (i : Nat) (c : Cmd) : State :=
  { s with hazel := { s.hazel with jobs := s.hazel.jobs.set i c } }

/-- Remove the entry at place `i`. -/
def State.dropJob (s : State) (i : Nat) : State :=
  { s with hazel := { s.hazel with jobs := s.hazel.jobs.eraseIdx i } }

/-- The first entry of a queue whose notice has not gone. -/
def State.unposted (s : State) (k : Nat) : Option Nat :=
  s.hazel.jobs.findIdx? fun c => c.queue == k && c.phase != .noticed

/-- Send the notice of an entry whose record is written, and ring the queue's doorbell (R332, R337). -/
def State.notice (s : State) (i : Nat) (c : Cmd) : State :=
  let m := 16 + c.queue
  let d := (s.queue c.queue).doorbell
  let t := (s.sendHi m (c.complAddr / 2 ^ 32) (some c.complAddr)).setJob i { c with phase := .noticed }
  let t := if s.boxClosed m then t.dropJob i else t
  if d = 0 then t else t.edge (96 + d)

/-- QUEUE_CONFIG takes effect as its completion record is written (R350, R348). -/
def State.applyQueue (s : State) (c : Cmd) : State :=
  if c.opcode = 4 ∧ c.status = 0 ∧ !c.silent then
    s.setQueue c.queue { s.queue c.queue with depth := c.a0 % 512, doorbell := bitsOf c.a0 16 4, seq := none }
  else s

/-- Write the record of an ended entry; a record that cannot be written leaves its command without a notice. -/
def State.writeRecord (s : State) (i : Nat) (c : Cmd) : State :=
  if s.dramReady c.complAddr 32 then
    ((s.writeMem 6 c.complAddr (s.recordBytes c)).applyQueue c).setJob i { c with phase := .written }
  else s.dropJob i

/-- Post what can be posted of one queue, in submission order. -/
def State.postQueue (s : State) (k : Nat) : Nat → State
  | 0 => s
  | fuel + 1 =>
    match s.unposted k with
    | none => s
    | some i =>
      let c := s.hazel.jobs.getD i {}
      match c.phase with
      | .ended =>
        if s.asleep (bar2Stack c.complAddr) then s.wakeFor c.complAddr 1
        else State.postQueue (s.writeRecord i c) k fuel
      | .written =>
        if c.silent then State.postQueue (s.dropJob i) k fuel
        else if (s.box (16 + k)).full then s
        else State.postQueue (s.notice i c) k fuel
      | _ => s

/-- Post every queue's completions. -/
def State.post (s : State) : State :=
  if s.fwUp then foldRange (fun k t => t.postQueue k (2 * t.hazel.jobs.length + 1)) 16 s else s

/-! ### Taking a notice (R328 to R342) -/

/-- A range of DRAM that a command may name (R328, R329). -/
def hostRange (a n : Nat) : Bool := a + n ≤ 0x3F0000000

/-- Commands of a queue in flight (R330). -/
def State.inFlight (s : State) (k : Nat) : Nat := (s.hazel.jobs.filter (·.queue == k)).length

def knownOpcode (op : Nat) : Bool :=
  (1 ≤ op && op ≤ 7) || (0x101 ≤ op && op ≤ 0x105) || (0x201 ≤ op && op ≤ 0x204) || (0x301 ≤ op && op ≤ 0x305)
    || (0x401 ≤ op && op ≤ 0x409) || (0x501 ≤ op && op ≤ 0x506) || (0x601 ≤ op && op ≤ 0x606)
    || (0x701 ≤ op && op ≤ 0x703)

/-- Opcodes accepted in RECOVERY (R382). -/
def recoveryOpcode (op : Nat) : Bool := op == 1 || op == 2 || op == 7 || op == 0x702 || op == 0x703

/-- R341: whether a SEQ is accepted, and whether it leaves a gap. -/
def seqTest (expected : Option Nat) (seq : Nat) : Bool × Bool :=
  match expected with
  | none => (true, false)
  | some e =>
    let ahead := (seq + 2 ^ 32 - e) % 2 ^ 32
    (ahead < 2 ^ 31, ahead != 0 && ahead < 2 ^ 31)

/-- End an entry with a status. -/
def Cmd.ends (c : Cmd) (status detail result : Nat) : Cmd :=
  { c with phase := .ended, status := status, detail := detail, result := result, wait := none }

/-- Read a descriptor's fields from its header bytes. -/
def parseHeader (k now : Nat) (b : List Byte) : Cmd :=
  let f := blkField b
  { queue := k, opcode := f 0 2, flags := f 2 1, epoch := f 4 2, seq := f 8 4, bodyLen := f 12 4, complAddr := f 16 8
    tag := f 24 8, timeout := f 32 4, res07 := f 7 1, res24 := f 36 4, a0 := f 40 8, a1 := f 48 8, a2 := f 56 8
    taken := now }

/-- Checks 2 to 7 of R335, with the queue's expected SEQ (R338 to R342). -/
def State.takeIn (s : State) (k : Nat) (c : Cmd) (abi qfield : Nat) : State × Cmd :=
  let q := s.queue k
  let t := seqTest q.seq c.seq
  if abi / 16 ≠ 2 ∨ abi % 16 > 4 then (s, c.ends 0x0102 3 0)
  else if qfield ≠ k then (s, c.ends 0x0102 6 0)
  else if !(c.opcode == 1 || c.epoch == s.hazel.epoch || (c.opcode == 2 && c.epoch == 0)) then (s, c.ends 0x0103 c.epoch 0)
  else if !t.1 then (s, c.ends 0x0104 (q.seq.getD 0) 0)
  else
    let u := s.setQueue k { q with seq := some ((c.seq + 1) % 2 ^ 32)
                                   seqGaps := if t.2 then satAdd 16 q.seqGaps 1 else q.seqGaps }
    let c := { c with seqGap := t.2 }
    if !knownOpcode c.opcode then (u, c.ends 0x0101 c.opcode 0)
    else if s.hazel.mode == .recovery && !recoveryOpcode c.opcode then (u, c.ends 0x0405 c.opcode 0)
    else (u, c)

/-- Read the body of a descriptor, when its length is legal. -/
def State.readBody (s : State) (a : Nat) (c : Cmd) : State × Cmd :=
  if c.bodyLen = 0 ∨ c.bodyLen > 4032 ∨ c.bodyLen % 8 ≠ 0 ∨ !hostRange (a + 64) c.bodyLen then (s, c)
  else
    let r := s.readMem 6 (a + 64) c.bodyLen
    (r.state, { c with body := r.data, bodyPoison := match r.poison with | none => 0 | some p => p + 1 })

/-- A notice that names no descriptor Hazel can read: counted in BAD_NOTICES (check 1 of R335). -/
def State.badNotice (s : State) (k : Nat) : State :=
  s.setQueue k { s.queue k with badNotices := satAdd 16 (s.queue k).badNotices 1 }

/-- The body of an accepted command is read with its header. -/
def State.withBody (x : State × Cmd) (a : Nat) : State × Cmd :=
  if x.2.phase == .accepted then x.1.readBody a x.2 else x

/-- A command joins those that Hazel holds. -/
def State.pushJob (x : State × Cmd) : State :=
  { x.1 with hazel := { x.1.hazel with jobs := x.1.hazel.jobs ++ [x.2] } }

/-- The completion entry and the body lie where Hazel can reach them (check 1 of R335). -/
def Cmd.reachable (c : Cmd) (a : Nat) : Bool :=
  c.complAddr % 32 == 0 && hostRange c.complAddr 32 && hostRange (a + 64) (min c.bodyLen 4032)

/-- The header of the notice of queue `k` is read from address `a`. -/
def State.headerRead (r : MemRead) (k a now : Nat) : State :=
  match r.poison with
  | some _ => r.state.badNotice k
  | none =>
    let c := parseHeader k now r.data
    if c.reachable a then State.pushJob (State.withBody (r.state.takeIn k c (blkByte r.data 3) (blkByte r.data 6)) a)
    else r.state.badNotice k

/-- A notice with descriptor address `a`, taken from queue `k` (R330, R335, check 1). -/
def State.noticeAt (s : State) (k a : Nat) : State :=
  if a % 64 ≠ 0 ∨ !hostRange a 64 ∨ !s.dramReady a 64 then s.badNotice k
  else State.headerRead (s.readMem 6 a 64) k a s.now

/-- Take the notice of queue `k`. -/
def State.takeNotice (s : State) (k : Nat) : State := (s.takeHi k).noticeAt k (s.box k).value

/-- Poll one queue: take its notice while fewer than QDEPTH commands are in flight (R330, R382). -/
def State.pollQueue (s : State) (k : Nat) : State :=
  let depth := if s.hazel.mode == .recovery then 1 else (s.queue k).depth
  if (s.box k).full && s.inFlight k < depth then
    let a := (s.box k).value
    if a % 64 = 0 ∧ hostRange a 64 ∧ s.asleep (bar2Stack a) then s.wakeFor a 1 else s.takeNotice k
  else s

/-! ### Running a command -/

/-- The earlier commands of an entry's queue have ended, as FENCE, POWER_STATE and RESET with Hazel or chip scope
require (R345). -/
def State.fenceOpen (s : State) (i : Nat) (c : Cmd) : Bool :=
  !(bitAt c.flags 1 || c.opcode == 6 || (c.opcode == 7 && c.a0 % 4 != 0))
    || (s.hazel.jobs.take i).all fun x => x.queue != c.queue || !x.live

/-- The place of the command of queue `k` that starts next, if it is `op` (R345). JOB_CANCEL starts at once (R371). -/
def State.starts (s : State) (k op : Nat) : Option Nat :=
  match s.hazel.jobs.findIdx? fun c => c.queue == k && c.phase == .accepted && (op != 0x305 || c.opcode == 0x305) with
  | none => none
  | some i =>
    let c := s.hazel.jobs.getD i {}
    if c.opcode == op && s.fenceOpen i c then some i else none

/-- Byte offset of the lowest byte of `x` that is not 0. -/
def lowByte : Nat → Nat → Nat
  | 0, _ => 0
  | f + 1, x => if x % 256 = 0 then 1 + lowByte f (x / 256) else 0

/-- A reserved bit of the argument at `base` is set: its byte offset. -/
def resBits (base v mask : Nat) : Bool × Nat := (v - (v &&& mask) != 0, base + lowByte 8 (v - (v &&& mask)))

/-- The lowest byte offset among the fields that are bad. -/
def firstBad (l : List (Bool × Nat)) : Option Nat :=
  l.foldl (fun m e => if e.1 then some (match m with | none => e.2 | some x => min x e.2) else m) none

/-- The shape of a command: body length, legal bits of A0 to A2, addresses (byte offset of the field, value, length,
alignment) that the command names and touches. -/
structure Shape where
  bodyLen : Nat := 0
  m0 : Nat := 0
  m1 : Nat := 0
  m2 : Nat := 0
  bad : List (Bool × Nat) := []
  addrs : List (Nat × Nat × Nat × Nat) := []
  /-- Addresses that the command names without touching the memory. -/
  named : List (Nat × Nat × Nat × Nat) := []
  deriving DecidableEq, Repr

/-- Check 8: the lowest bad field (R335). -/
def Cmd.badField (c : Cmd) (h : Shape) : Option Nat :=
  firstBad ([(decide (c.flags > 3), 0x02), (c.res07 != 0, 0x07), (c.bodyLen != h.bodyLen, 0x0C), (decide (c.timeout > 600000), 0x20),
    (c.res24 != 0, 0x24), resBits 0x28 c.a0 h.m0, resBits 0x30 c.a1 h.m1, resBits 0x38 c.a2 h.m2] ++ h.bad)

/-- Check 9: the lowest bad address. -/
def Shape.badAddr (h : Shape) : Option Nat :=
  firstBad ((h.addrs ++ h.named).map fun e => (!hostRange e.2.1 e.2.2.1 || e.2.1 % e.2.2.2 != 0, e.1))

/-- A stack that a command touches and that sleeps. -/
def State.sleeping (s : State) (h : Shape) : Option Nat :=
  match h.addrs.find? fun e => e.2.2.1 != 0 && s.asleep (bar2Stack e.2.1) with
  | some e => some (bar2Stack e.2.1)
  | none => none

/-- A stack that a command touches and that is not ready: Hazel's port answers with a bus error. -/
def State.deadStack (s : State) (h : Shape) : Option Nat :=
  match (h.addrs ++ h.named).find? fun e => e.2.2.1 != 0 && !s.dramReady e.2.1 e.2.2.1 with
  | some e => some (6 + bar2Stack e.2.1)
  | none => none

/-- Serve the next command of queue `k`: the body's poison, checks 8 and 9, the state of the memory it touches, then
`f`, which answers the state and the entry after checks 10 and 11 and its work. -/
def State.serve (s : State) (k op : Nat) (shape : State → Cmd → Shape) (f : State → Cmd → State × Cmd) : State :=
  if s.fwUp then
    match s.starts k op with
    | none => s
    | some i =>
      let c := s.hazel.jobs.getD i {}
      let h := shape s c
      if c.bodyPoison ≠ 0 then (s.setJob i (c.ends 0x0303 0 (c.bodyPoison - 1))).post
      else match c.badField h, h.badAddr with
        | some o, _ => (s.setJob i (c.ends 0x0102 o 0)).post
        | none, some o => (s.setJob i (c.ends 0x0105 o 0)).post
        | none, none =>
          match s.deadStack h, s.sleeping h with
          | some b, _ => (s.setJob i (c.ends 0x0201 b 0)).post
          | none, some n => (s.wakeStack n 1).setJob i { c with wait := some ⟨.dramWake, n⟩ }
          | none, none =>
            let x := f s { c with wait := none }
            (x.1.setJob i x.2).post
  else s

/-- DONE at once. -/
def Cmd.done (c : Cmd) : Cmd := c.ends 0 0 0

/-- The command runs on, waiting for a grant. -/
def Cmd.awaits (c : Cmd) (r : Requester) : Cmd := { c with phase := .running, wait := some r }

/-- Ask the PAC on behalf of a command, which then waits; a refusal on arrival ends it (03 R164). -/
def State.ask (s : State) (c : Cmd) (r : Requester) (cls : Nat) : State × Cmd :=
  if s.pac.held.contains r then (s, { c with phase := .running, wait := none })
  else
    let t := s.request r cls
    if t.pac.queue.any (·.who == r) then (t, c.awaits r) else (t, c.ends 0x0203 (t.pac.lastDeny % 2 ^ 18) 0)

/-! ### What waits for a grant or a lock -/

/-- Every lane of the port has its grant, and the quad's PLL is locked. -/
def State.portGo (s : State) (port mode : Nat) : Bool :=
  (portLanes port mode).all (fun n => s.pac.held.contains ⟨.laneEnable, n⟩) && s.pll (3 + port / 4) == .locked

/-- A lane that only transmits SDI is ready as soon as its quad PLL is locked (13 R686). -/
def Lane.txOnly (l : Lane) : Bool := 1 ≤ l.mode && l.mode ≤ 4 && !bitAt (blkByte l.block 0) 1

/-- Enable the lanes of a port. -/
def State.enableLanes (s : State) (l : List Nat) : State :=
  l.foldl (fun t n =>
    let x := { t.lane n with enabled := true }
    let u := t.setLane n x
    if x.txOnly then u.setReady (24 + n) else u) s

/-- The pipes of a mask, lowest first. -/
def pipesOf (m : Nat) : List Nat := (List.range 4).filter (bitAt m)

/-- No earlier job of the entry's session has still to end (07 R404). -/
def State.firstOfSession (s : State) (i : Nat) (c : Cmd) : Bool :=
  (s.hazel.jobs.take i).all fun x => !(isJob x.opcode && x.live && x.a0 % 256 == c.a0 % 256)

/-- PAC class of a session's jobs (R356). -/
def Session.cls (x : Session) : Nat := bitsOf x.a0 10 2

/-- A pipe is in its self-test, and the test can still be aborted (07 R422, R444). -/
def State.inTest (s : State) (n : Nat) : Bool := (s.pipe n).bist == .running
def State.canAbort (s : State) (n : Nat) : Bool := s.inTest n && s.now < (s.pipe n).bistAt + 3400000

/-- A job takes the place of a self-test that waits for its grant (07 R425). -/
def State.yieldBist (s : State) (n : Nat) : State :=
  if (s.pipe n).bist == .requested then
    let t := s.withdraw ⟨.pipeSelftest, n⟩
    if (t.pipe n).bistCmd.isSome then t else t.dropBist n
  else s

/-- Ask for one grant of the job at place `i`, while no refusal has ended it. -/
def State.askFor (s : State) (i : Nat) (f : State → State) : State :=
  if (s.hazel.jobs.getD i {}).live then f s else s

/-- The job at place `i` becomes ready to start and asks for the core PLL and its pipes (R369; 07 R419, R425, R434). -/
def State.askJob (s : State) (i : Nat) (c : Cmd) (ps : List Nat) : State :=
  let cls := (s.session (c.a0 % 256)).cls
  let t := ps.foldl State.yieldBist s
  let t := t.setJob i { c with wait := some ⟨.pipeJob, ps.headD 0⟩, waitFrom := 0 }
  let t := t.askFor i fun u => u.startPll .core cls
  ps.foldl (fun u n => u.askFor i fun v => v.request ⟨.pipeJob, n⟩ cls) t

/-- A job waits for self-tests; an URGENT one aborts them (07 R426, R427, R445). -/
def State.waitJob (s : State) (i : Nat) (c : Cmd) (ps : List Nat) : State :=
  let urgent := bitAt c.flags 0
  let ab := ps.filter s.canAbort
  let t := if urgent then ab.foldl (fun u n => u.setPipe n { u.pipe n with bistAborting := true }) s else s
  let t := if c.waitFrom = 0 then
      (ps.filter s.inTest).foldl (fun u n => u.setPipe n { u.pipe n with waited := satAdd 16 (u.pipe n).waited 1 }) t
    else t
  t.setJob i { c with waitFrom := if c.waitFrom = 0 then s.now + 1 else c.waitFrom
                      preempted := c.preempted || (urgent && !ab.isEmpty) }

/-- A job that neither runs nor has asked for its grants goes on (R363, R369; 07 R426, R428). -/
def State.advanceJob (s : State) (i : Nat) (c : Cmd) : State :=
  if c.onPipe || c.wait.isSome || !s.firstOfSession i c then s
  else
    let ps := pipesOf c.pipes
    match ps.find? fun n => !s.ready (16 + n) && !s.inTest n with
    | some n => s.setJob i (c.ends 0x0201 (16 + n) 0)
    | none => if ps.any s.inTest then s.waitJob i c ps else s.askJob i c ps

/-- The command moves data with a firmware channel (R375). -/
def Cmd.moves (c : Cmd) : Bool := c.opcode == 0x501 || c.opcode == 0x502 || c.opcode == 0x504

/-- Where a firmware transfer begins: SRC of MEM_COPY, the channel's pattern word of MEM_FILL (log 70), the user region of
USER_READ; its destination and its length. -/
def Cmd.moveSrc (c : Cmd) : Nat :=
  if c.opcode = 0x502 then 0x803FFFFC0 + 8 * (c.chan - 8)
  else if c.opcode = 0x504 then regionBase 8 + c.a0 % 2 ^ 20 else c.a0
def Cmd.moveDst (c : Cmd) : Nat := if c.opcode = 0x502 then c.a0 else c.a1
def Cmd.moveLen (c : Cmd) : Nat := if c.opcode = 0x504 then c.a2 % 2 ^ 21 else c.a2 % 2 ^ 32

/-- Bytes from `a` to the end of its stack. -/
def toStackEnd (a : Nat) : Nat := if a < 2 ^ 34 then 2 ^ 33 - a % 2 ^ 33 else 2 ^ 33

/-- Bytes of the next transfer, which lies in one stack on each side (12 R646); `dst` counts the bytes done. -/
def Cmd.piece (c : Cmd) : Nat :=
  let n := min (c.moveLen - c.dst) (toStackEnd (c.moveDst + c.dst))
  if c.opcode = 0x502 then (if n = c.moveLen - c.dst then n else n / 8 * 8)
  else min n (toStackEnd (c.moveSrc + c.dst))

/-- The registers of the next transfer (12 R646, R667; log 70). -/
def Cmd.transfer (c : Cmd) (d : Dma) : Dma :=
  let fill := c.opcode == 0x502
  let src := if fill then c.moveSrc else c.moveSrc + c.dst
  let dst := c.moveDst + c.dst
  let w := if fill then (if dst % 8 = 0 then 0x433 else 0x403) else if src % 64 = 0 ∧ dst % 64 = 0 then 0x66 else 0
  { d with src := src, dst := dst, count := c.piece, cfg := w, desc := 0 }

/-- Start the next transfer of a command. A pattern word that lies across the boundary of the stacks is written by
firmware itself. -/
def State.startMove (s : State) (c : Cmd) : State × Cmd :=
  let x := if c.piece = 0 ∧ c.dst < c.moveLen then
      (s.writeMem 6 (c.moveDst + c.dst) (leBytes 8 c.a1), { c with dst := c.dst + 8 }) else (s, c)
  if x.2.dst = x.2.moveLen then (x.1, x.2.ends 0 0 0)
  else ((x.1.setChan x.2.chan (x.2.transfer (x.1.chan x.2.chan))).dmaStart x.2.chan, { x.2 with phase := .running, wait := none })

/-- The function that a firmware transfer could not reach (12 R653). -/
def copyBit (a : Nat) : Nat :=
  match regionOf a with
  | .dram n => 6 + n | .lfs => 5 | _ => 8

/-- A channel of firmware has ended a command's transfer: the next one starts, or the command ends with the status of
R653, and the channel is free again. -/
def State.advanceCopy (s : State) (i : Nat) (c : Cmd) : State :=
  let d := s.chan c.chan
  match d.mode with
  | .running => s
  | .idle =>
    let x := s.startMove { c with dst := c.dst + d.done }
    x.1.setJob i x.2
  | .error =>
    let t := s.dmaClear c.chan
    match d.err with
    | 1 => t.setJob i (c.ends 0x0303 (c.dst + d.done) d.errAddr)
    | 7 => if (s.stack (copyBit d.errAddr - 6)).retrying && d.errAddr < 2 ^ 34 then t.setJob i (c.ends 0x0203 (s.pac.lastDeny % 2 ^ 18) 0)
           else t.setJob i (c.ends 0x0201 (copyBit d.errAddr) 0)
    | _ => t.setJob i (c.ends 0x0105 (if d.errAddr = d.dst then 0x30 else 0x28) 0)

/-- Some earlier job of the session has still to complete (R359). -/
def State.sessionBusy (s : State) (i sess : Nat) : Bool :=
  (s.hazel.jobs.take i).any fun x => isJob x.opcode && x.a0 % 256 == sess && (x.live || x.phase == .ended)

/-- A session closes: its flows are unbound, and what it was allotted is free (R359; 07 R403). -/
def State.closeSession (s : State) (sess : Nat) : State :=
  let t := s.setSession sess {}
  { t with flows := Table.mapVals ({} : Flow) (fun f => if f.session = some sess then { f with session := none } else f) t.flows }

/-- An egress flow has nothing left to send. -/
def Flow.drained (f : Flow) : Bool := f.queue.isEmpty && f.waiting.isEmpty

/-- A flow's counters stay until FLOW_ADD uses its number again (14 R766). -/
def Flow.counters (f : Flow) : Flow :=
  { packets := f.packets, bytes := f.bytes, w10 := f.w10, w14 := f.w14, w18h := f.w18h, w18l := f.w18l, w1ch := f.w1ch
    w1cl := f.w1cl, w20h := f.w20h, w20l := f.w20l, maxLate := f.maxLate }

/-- Stacks in which the buffer of a REALTIME port's flow lies (12 R618). -/
def Flow.stacks (f : Flow) : List Nat :=
  let a := blkField f.block 0x60 8
  if a = 0 then [] else [a / 2 ^ 33]

/-- A flow is gone: its entries leave the table, and its pin is lowered (14 R772; 12 R618). -/
def State.dropFlow (s : State) (k : Nat) : State :=
  let f := s.flow k
  let t := if (s.lane f.port).realtime then
      f.stacks.foldl (fun u n => u.setStack n { u.stack n with pinRt := (u.stack n).pinRt - 1 }) s
    else s
  { t.setFlow k f.counters with entries := t.entries.filter fun e => !(e.2.valid && e.2.flow == k) }

/-- A PORT_CONFIG asks for its quad PLL and its lanes, in class 2 for a REALTIME port (R373; 03 R143, R147); lanes that run
already complete it at once. -/
def State.askPort (s : State) (i : Nat) (c : Cmd) : State :=
  let port := c.a0 % 16
  let mode := bitsOf c.a0 8 4
  let cls := if bitAt c.a0 17 then 2 else 1
  let t := s.setJob i { c with wait := some ⟨.laneEnable, port⟩ }
  let t := t.askFor i fun u => u.startPll (.quad (Fin.ofNat 4 (port / 4))) cls
  let t := (portLanes port mode).foldl (fun u n => u.askFor i fun v => v.request ⟨.laneEnable, n⟩ cls) t
  match t.hazel.jobs[i]? with
  | some c => if c.live && t.portGo port mode then (t.enableLanes (portLanes port mode)).setJob i (c.ends 0 0 0) else t
  | none => t

/-- The running commands that a lock, a grant or a channel completes: jobs, PORT_CONFIG, VTC_CONFIG, the memory
commands (R372, R373, R375; 13 R684). -/
def State.advanceCmd (s : State) (i : Nat) (c : Cmd) : State :=
  if c.phase != .running then s
  else if isJob c.opcode then s.advanceJob i c
  else if c.opcode = 0x102 then
    (if s.sessionBusy i (c.a0 % 256) then s else (s.closeSession (c.a0 % 256)).setJob i c.done)
  else if c.opcode = 0x401 then
    let port := c.a0 % 16
    let mode := bitsOf c.a0 8 4
    if c.wait.isNone then s.askPort i c else if s.portGo port mode then (s.enableLanes (portLanes port mode)).setJob i c.done else s
  else if c.opcode = 0x404 then (if (s.flow (c.a0 % 1024)).drained then (s.dropFlow (c.a0 % 1024)).setJob i c.done else s)
  else if c.opcode = 0x407 then (if s.pll 8 == .locked then s.setJob i c.done else s)
  else if c.moves then s.advanceCopy i c
  else if c.opcode = 0x503 then
    (if s.awake (c.a0 % 2) then s.setJob i c.done else s)
  else s

/-- The SELFTEST command of a pipe waits for `r`. -/
def State.bistWaits (s : State) (n : Nat) (r : Requester) : State :=
  let b := (s.pipe n).bistCmd
  { s with hazel := { s.hazel with jobs := s.hazel.jobs.map fun c =>
      if c.phase == .running && b == some (c.queue, c.seq) then { c with wait := some r } else c } }

/-- A self-test that firmware wants is requested once no job uses the pipe and the core PLL is locked (07 R424, R443). -/
def State.advanceBist (s : State) (n : Nat) : State :=
  if (s.pipe n).bist == .requested && !s.pipeBusy n then
    match s.pll 2 with
    | .locked => (s.bistWaits n ⟨.pipeSelftest, n⟩).request ⟨.pipeSelftest, n⟩ 0
    | .stopped => (s.bistWaits n ⟨.corePll, 0⟩).startPll .core 0
    | _ => s.bistWaits n ⟨.corePll, 0⟩
  else s

/-- Let every running command and every wanted self-test go on, and post what has ended. -/
def State.progress (s : State) : State :=
  if s.fwUp then
    let t := foldRange (fun i t => match t.hazel.jobs[i]? with | some c => t.advanceCmd i c | none => t) s.hazel.jobs.length s
    (foldRange (fun n u => u.advanceBist n) 4 t).post
  else s

/-! ### The service pass (R274; 06 R330) -/

/-- The scrubber runs once a stack is ready and Hazel-B runs (12 R625; 02 R112). -/
def State.scrubStart (s : State) : State :=
  if s.ready 10 && s.hazel.mode != .recovery && s.scrub.enable && (s.ready 6 || s.ready 7) && !s.ready 23 then s.setReady 23
  else s

/-- Firmware wants the self-test of a pipe. -/
def State.askBist (s : State) (n : Nat) : State := s.setPipe n { s.pipe n with bist := .requested }

/-- The command service starts: bring-up self-tests of the pipes that have never been ready (02 R112). -/
def State.serviceStart (s : State) : State :=
  if !s.ready 11 && s.ready 9 && s.ready 10 && (s.ready 6 || s.ready 7) then
    let t := s.setReady 11
    if t.hazel.mode == .recovery then t
    else foldRange (fun n u => if u.ever.getLsbD (16 + n) || (u.pipe n).bist != .none then u else u.askBist n) 4 t
  else s

/-- Firmware has served the faults of the pipes: PIPE_FAULTn is requested no longer (07 R413). -/
def State.serveFaults (s : State) : State := foldRange (fun n u => u.setPipe n { u.pipe n with faultUnserved := false }) 4 s

def execFwServicePass (s : State) : Host.Outcome State Fault Refusal :=
  run (fun s =>
    if s.fwUp then
      let t := s.serviceStart.scrubStart.serveFaults
      let t := if t.ready 11 && !t.hazel.closed then foldRange (fun k u => u.pollQueue k) 16 t else t
      t.progress
    else s) s

end Sys2Proof.Machine
end

