-- ==== Sys2Proof/Machine/Slots.lean ====
section
/-! DEFINITION. SDI formats and picture slots (13 R693, R694), and the accesses of the lanes' real-time ports (12 R635). -/

namespace Sys2Proof.Machine

/-! ### SDI formats (R693) -/

/-- A format: its MODE, width, active lines, total lines, interlaced, and frame rate as a fraction. -/
structure SdiFormat where
  mode : Nat
  w : Nat
  h : Nat
  total : Nat
  interlaced : Bool
  num : Nat
  den : Nat
  deriving DecidableEq, Repr

/-- Frame rates of the five 24 to 30 Hz codes, and of the three 50 to 60 Hz codes. -/
def rate5 (i : Nat) : Nat × Nat :=
  match i with | 0 => (24000, 1001) | 1 => (24, 1) | 2 => (25, 1) | 3 => (30000, 1001) | _ => (30, 1)
def rate3 (i : Nat) : Nat × Nat := match i with | 0 => (50, 1) | 1 => (60000, 1001) | _ => (60, 1)

/-- The codes of R693; total lines are those of the standards it names (log 75). -/
def sdiFormat (c : Nat) : Option SdiFormat :=
  if 1 ≤ c ∧ c ≤ 3 then
    let r := match c with | 1 => (25, 1) | 2 => (30000, 1001) | _ => (30, 1)
    some ⟨1, 1920, 1080, 1125, true, r.1, r.2⟩
  else if 4 ≤ c ∧ c ≤ 6 then some ⟨1, 1280, 720, 750, false, (rate3 (c - 4)).1, (rate3 (c - 4)).2⟩
  else if 7 ≤ c ∧ c ≤ 0xB then some ⟨1, 1920, 1080, 1125, false, (rate5 (c - 7)).1, (rate5 (c - 7)).2⟩
  else if 0x10 ≤ c ∧ c ≤ 0x12 then some ⟨2, 1920, 1080, 1125, false, (rate3 (c - 0x10)).1, (rate3 (c - 0x10)).2⟩
  else if 0x20 ≤ c ∧ c ≤ 0x24 then some ⟨3, 3840, 2160, 2250, false, (rate5 (c - 0x20)).1, (rate5 (c - 0x20)).2⟩
  else if 0x30 ≤ c ∧ c ≤ 0x32 then some ⟨4, 3840, 2160, 2250, false, (rate3 (c - 0x30)).1, (rate3 (c - 0x30)).2⟩
  else none

/-- Family 1 holds the /1.001 rates (R693). -/
def SdiFormat.family (f : SdiFormat) : Bool := f.den == 1001

/-- The distance of the slots of a picture ring (R694). -/
def slotSpan (pitch h : Nat) : Nat := pitch * 2 * h + 64 * ((h + 63) / 64)

/-- Offsets in a slot of a luma line, of a CbCr line, and of a line's status byte. -/
def lumaAt (pitch y : Nat) : Nat := y * pitch
def chromaAt (pitch h y : Nat) : Nat := (h + y) * pitch
def statusAt (pitch h y : Nat) : Nat := 2 * h * pitch + y

/-! ### Accesses of a lane's reader and writer (12 R612, R617, R635) -/

/-- A write of a real-time port; a stack that sleeps is woken in class 2, and one that is not in service takes nothing. -/
def State.rtWrite (s : State) (port a : Nat) (bs : List Byte) : State :=
  if s.dramReady a bs.length then
    (if s.asleep (a / 2 ^ 33) then s.wakeStack (a / 2 ^ 33) 2 else s).writeMem port a bs
  else s

/-- A read of a real-time port: the bytes, zeros where the stack is not in service, and whether a word of them is poisoned or
could not be read. -/
def State.rtGet (s : State) (port a n : Nat) : (List Byte × Bool) × State :=
  if s.dramReady a n then
    let m := (if s.asleep (a / 2 ^ 33) then s.wakeStack (a / 2 ^ 33) 2 else s).readMem port a n
    ((m.data, m.poison.isSome), m.state)
  else ((List.replicate n 0, true), s)

/-- The bytes read, or none where a word of them is poisoned or could not be read. -/
def State.rtRead (s : State) (port a n : Nat) : Option (List Byte) × State :=
  let m := s.rtGet port a n
  (if m.1.2 then none else some m.1.1, m.2)

/-! ### A lane's port and slots -/

def sdiMode (m : Nat) : Bool := 1 ≤ m && m ≤ 4

/-- The format, the pitch and the transmit and receive slots of an SDI lane's port block (13 R691). -/
def Lane.format (l : Lane) : SdiFormat := (sdiFormat (blkByte l.block 8)).getD ⟨1, 1920, 1080, 1125, false, 25, 1⟩
def Lane.pitch (l : Lane) : Nat := blkField l.block 0x20 4
def Lane.txSlot (l : Lane) : Nat := blkField l.block 0x10 8 + l.txFrame % blkByte l.block 0x24 * slotSpan l.pitch l.format.h
def Lane.rxSlot (l : Lane) : Nat := blkField l.block 0x18 8 + l.rxFrame % blkByte l.block 0x25 * slotSpan l.pitch l.format.h
def Lane.txEn (l : Lane) : Bool := sdiMode l.mode && bitAt (blkByte l.block 0) 0
def Lane.rxEn (l : Lane) : Bool := sdiMode l.mode && bitAt (blkByte l.block 0) 1

/-- The status byte of line `y` of the slot that is being received gains the bits of `v` (13 R696). -/
def State.lineStatus (s : State) (n y v : Nat) : State :=
  let l := s.lane n
  let a := l.rxSlot + statusAt l.pitch l.format.h y
  s.rtWrite (12 + n / 4) a [BitVec.ofNat 8 (s.raw a 1 ||| v)]

/-- Reception stops within a frame: its received lines are incomplete (13, worked case). -/
def State.rxCut (s : State) (n : Nat) : State :=
  let l := s.lane n
  if l.rxEn && l.rxOn then l.rxLines.foldl (fun t y => t.lineStatus n y 16) s else s

end Sys2Proof.Machine
end

