-- ==== Sys2Proof/Machine/Clocks.lean ====
section
/-! DEFINITION. PLLs (02 R90 to R97, R133, R134, R923, R924), clock gating, and the video timing clock (R98 to R103). -/

namespace Sys2Proof.Machine

/-! ### PLLs -/

/-- PLL_UNLOCK of a PLL: its kind and instance (R92; 15 R780). -/
def State.unlock (s : State) (p : Pll) : State := s.report 20 (p.who.kind.code + p.who.inst * 256)

/-- The VTC reaches the family's frequency and moves to its source (R99). -/
def Vtc.lock (v : Vtc) : Vtc :=
  { v with mode := if v.srcSel = 17 then .locked else .acquiring, activeSrc := v.srcSel }

/-- A change of VTC_STATUS.MODE raises VTC_EVT (05 R286). -/
def State.setVtc (s : State) (v : Vtc) : State :=
  let t := { s with vtc := v }
  if v.mode = s.vtc.mode then t else t.edge 88

/-- The wakes that the stacks make at bring-up (R112; 12 R926). -/
def State.wakeStacks (s : State) : State :=
  foldRange (fun n t => if (t.stack n).mode == .off && !t.ready (6 + n) then t.wakeStack n 1 else t) 2 s

/-- What a PLL's consumers do at its lock (R95, R112). -/
def State.locked (s : State) (p : Pll) : State :=
  match p with
  | .fabric => (((s.setReady 4).setReady 13).wakeStacks).progress
  | .vtc => ((s.setVtc s.vtc.lock).setReady 20).progress
  | _ => s.progress

def execPllLock (p : Pll) (s : State) : Host.Outcome State Fault Refusal :=
  run (fun s => if s.pll p.idx == .starting then (s.setPll p.idx .locked).locked p else s) s

/-- A PLL has not locked in time: it stops, its grant goes, and its work is settled (R92, R93). -/
def State.lockFails (s : State) (p : Pll) : State :=
  let t := ((s.setPll p.idx .stopped).withdraw p.who).unlock p
  (t.settleWork p.who 0x0201 id).progress

def execPllLockTimeout (p : Pll) (s : State) : Host.Outcome State Fault Refusal :=
  run (fun s => if s.pll p.idx == .starting then s.lockFails p else s) s

/-- The highest class among the sessions whose jobs use a pipe; 1 where none carries a class (03 R146). -/
def State.coreClass (s : State) : Nat :=
  let cs := (s.hazel.jobs.filter fun c => c.phase == .running && isJob c.opcode && (c.onPipe || c.wait.isSome)).map
    fun c => (s.session (c.a0 % 256)).cls
  if cs.isEmpty then (if (List.range 4).any s.inTest then 0 else 1) else cs.foldl Max.max 0

/-- The class of a quad's consumers: 2 with a REALTIME port (06 R373). -/
def State.quadClass (s : State) (q : Nat) : Nat :=
  if (List.range 4).any (fun l => (s.lane (4 * q + l)).realtime) then 2 else 1

/-- The class of a PLL's start request: its consumers' (03 R146). -/
def State.pllClass (s : State) (p : Pll) : Nat :=
  match p with
  | .core => s.coreClass
  | .quad q => s.quadClass q.val
  | _ => 1

/-- A lane loses lock and starts relocking (13 R687). -/
def State.laneLost (s : State) (n : Nat) : State :=
  let s := s.rxCut n
  let l := s.lane n
  (s.setLane n { l with relocking := true, trs := false, events := l.events ||| 1, lockLosses := satAdd 16 l.lockLosses 1, eavs := 0 }).dropReady
    (rdyBit (24 + n))

/-- The locked lanes of a quad lose lock. -/
def State.quadLost (s : State) (q : Nat) : State :=
  foldRange (fun l t => if t.ready (24 + 4 * q + l) then t.laneLost (4 * q + l) else t) 4 s

/-- A locked PLL loses lock (R923). -/
def State.lockLost (s : State) (p : Pll) : State :=
  let t := ((s.unlock p).setPll p.idx .stopped).withdraw p.who
  let t := match p with
    | .fabric => t.dropReady (rdyBit 4)
    | .quad q => t.quadLost q.val
    | .vtc => t.dropReady (rdyBit 20)
    | .phy => t.dropLink (!t.offInProgress)
    | _ => t
  match p with
  | .phy => t.wantPhy
  | _ => t.startPll p (t.pllClass p)

def execPllLossOfLock (p : Pll) (s : State) : Host.Outcome State Fault Refusal :=
  run (fun s => if s.pll p.idx == .locked && s.mainOn then s.lockLost p else s) s

/-- A stack is pinned (12 R618). -/
def Stack.pinned (k : Stack) : Bool := k.pinFw || decide (k.pinRt > 0)

/-- Every consumer's clock of a PLL has gated (R94, R96; 12 R618). -/
def State.pllUnused (s : State) (p : Pll) : Bool :=
  match p with
  | .core => !((List.range 4).any fun n => s.pipeBusy n || (s.pipe n).bist != .none)
  | .fabric =>
    !((List.range 2).any fun n => (s.stack n).pinned) && !(s.dma.any fun e => e.2.mode == .running)
      && !((List.range 4).any fun n => s.pipeBusy n || (s.pipe n).bist != .none) && s.pll 1 != .locked
      && !(s.lanes.any fun e => e.2.enabled)
  | .hazel => s.icu.hazelA.asleep && s.icu.hazelB.asleep && s.hazel.jobs.isEmpty
  | .quad q => !((List.range 4).any fun l => (s.lane (4 * q.val + l)).mode != 0)
  | .phy => !s.pcie.linkUp && !s.pcie.perstN
  | .vtc => !s.vtc.configured

def execPllIdleStop (p : Pll) (s : State) : Host.Outcome State Fault Refusal :=
  run (fun s =>
    if s.pll p.idx == .locked && s.pllUnused p then (s.setPll p.idx .stopped).withdraw p.who else s) s

/-- A request that failed or was refused is made again after 10 ms (R93, R924; 12 R926, R618). -/
def State.retry (s : State) (t : RetryTarget) : State :=
  match t with
  | .pll .core =>
    if s.pll 2 == .retrying then
      ({ s with husk := { s.husk with bistRetries := s.husk.bistRetries + 1 } }).startPll .core 0
    else s
  | .pll .phy => if s.pll 7 == .retrying then s.wantPhy else s
  | .pll p => if s.pll p.idx == .retrying then s.startPll p (s.pllClass p) else s
  | .stack n => if (s.stack n).retrying then s.wakeStack n.val (if (s.stack n).pinRt > 0 then 2 else 1) else s

def execPllRetry (t : RetryTarget) (s : State) : Host.Outcome State Fault Refusal := run (fun s => s.retry t) s

/-- A block's clock gates and restarts without any effect on results, counters, ordering or readiness (R96, R97). -/
def execClockGate (_b : Clocked) (s : State) : Host.Outcome State Fault Refusal := run (fun s => s) s

/-! ### The video timing clock -/

/-- A lane offers its recovered clock (13 R698). -/
def State.laneClock (s : State) (n : Nat) : Bool :=
  let l := s.lane n
  s.ready (24 + n) && 1 ≤ l.mode && l.mode ≤ 4 && bitAt (blkByte l.block 0) 1 && l.trs

/-- The selected source is present (R100, R127). -/
def State.vtcPresent (s : State) : Bool :=
  match s.vtc.srcSel with
  | 17 => true
  | 16 => s.ptp.locked && !s.ptp.loss
  | n => s.laneClock n

/-- The selected source is of VTC_CFG's family (13 R698). -/
def State.vtcFamily (s : State) : Bool := 16 ≤ s.vtc.srcSel || (s.lane s.vtc.srcSel).family == s.vtc.family

def execVtcLocked (s : State) : Host.Outcome State Fault Refusal :=
  run (fun s =>
    if s.ready 20 && s.vtc.mode == .acquiring && s.vtcPresent && s.vtcFamily then s.setVtc { s.vtc with mode := .locked } else s) s

/-- The VTC enters HOLDOVER (R100). -/
def State.vtcLoss (s : State) : State :=
  if s.ready 20 && (s.vtc.mode == .locked || s.vtc.mode == .acquiring) && s.vtc.srcSel != 17 then
    (s.setVtc { s.vtc with mode := .holdover, losses := satAdd 16 s.vtc.losses 1 }).report 21
      (if s.vtc.srcSel < 16 then s.vtc.srcSel else 0)
  else s

def execVtcSourceLoss (s : State) : Host.Outcome State Fault Refusal := run (fun s => s.vtcLoss) s

def execVtcHoldExpiry (s : State) : Host.Outcome State Fault Refusal :=
  run (fun s =>
    if s.vtc.mode == .holdover && s.vtc.holdLimit != 0 then
      s.setVtc { s.vtc with mode := .freeRun, activeSrc := 17, freeRuns := satAdd 16 s.vtc.freeRuns 1 }
    else s) s

def execVtcReacquire (s : State) : Host.Outcome State Fault Refusal :=
  run (fun s =>
    if s.ready 20 && s.vtcPresent && (s.vtc.mode == .holdover || (s.vtc.mode == .freeRun && s.vtc.revert)) then
      s.setVtc { s.vtc with mode := .acquiring, activeSrc := s.vtc.srcSel }
    else s) s

end Sys2Proof.Machine
end

