-- ==== Sys2Proof/Machine/PacCmds.lean ====
section
/-! DEFINITION. The commands of power admission (03): the load, requests, grants, releases, timeouts, the thermal
sample, the clamp and the budgets. -/

namespace Sys2Proof.Machine

/-! ### The load (R175 to R181) -/

/-- A PAC item, and whether its stored value is invalid (R114). -/
def BankM.pacItem (b : BankM) (i : Nat) : Nat × Bool := b.item i (itemDefault i) (itemLegal i)

/-- A factory-safe value: rails 0 to 3 for budgets, 4 to 7 for steps; and whether the stored one is invalid (R181). -/
def BankM.safeItem (b : BankM) (i : Nat) : Nat × Bool :=
  let lim := match i % 4 with | 0 => 1200 | 1 => 200 | 2 => 90 | _ => 140
  let d := match i with | 0 => 600 | 1 => 100 | 2 => 60 | 3 => 140 | 4 => 280 | 5 => 40 | 6 => 20 | _ => 70
  match Table.get none b.safe i with
  | none => (d, false)
  | some v => if 1 ≤ v ∧ v ≤ lim then (v, false) else (d, true)

/-- The PAC's registers as loaded from bank M. -/
def Pac.load (p : Pac) (b : BankM) : Pac :=
  let v (i : Nat) := (b.pacItem i).1
  let w (i : Nat) := (b.safeItem i).1
  { p with timeout := v 0x10 / 65536, slot := v 0x10 % 1024, throttlePct := v 0x11 / 256, warnC := v 0x11 % 256
           budget := ⟨v 0x12 % 65536, v 0x13 % 65536, v 0x14 % 65536, v 0x15 % 65536⟩
           step := ⟨v 0x12 / 65536, v 0x13 / 65536, v 0x14 / 65536, v 0x15 / 65536⟩
           safe := ⟨w 0, w 1, w 2, w 3⟩, safeStep := ⟨w 4, w 5, w 6, w 7⟩
           clamped := p.clamped || p.clampHeld, clampHeld := false }

/-- Every kind and instance that has a charge, with its typical charges; the baseline first (R143). -/
def pacAll : List (Nat × Nat × Amps) :=
  (0, 0, baselineTypical) ::
    ([PacKind.fabricPll, .hazelPll, .corePll, .quadPll, .phyPll, .vtcPll, .pipeJob, .pipeSelftest, .laneEnable, .dramWake,
      .memSelftest, .mramBurst].map fun k => (List.range k.instances).map fun i => (k.code, i, typicalCharge k i)).flatten

/-- CFG_BAD and PAC_CHARGE_BAD of the values that the load finds invalid (R114, R142). -/
def State.pacReports (s : State) : State :=
  let b := s.bankM
  let t := foldRange (fun i u => u.cfgBad (0x10 + i) 1 (b.pacItem (0x10 + i)).2) 6 s
  let t := foldRange (fun i u => u.cfgBad 0x100 1 (b.safeItem i).2) 8 t
  pacAll.foldl (fun u e => if b.chargesOk e.1 e.2.1 e.2.2 then u else u.report 44 (e.1 + e.2.1 * 256)) t

/-- The PAC loads, and the first requests are made: the fabric PLL, the PHY PLL, then the Hazel boot request (R175;
02 R90, R112). -/
def State.pacLoad (s : State) : State :=
  if s.ready 2 && !s.ready 3 && s.ready 15 then
    let p := s.pac.load s.bankM
    let t := { s with pac := { p with queue := p.queue.map fun (q : PacReq) => { q with from_ := s.now } } }
    let t := (t.setReady 3).pacReports.retest
    let t := (t.startPll .fabric 1).wantPhy
    (t.advance 20).startPll .hazel 1
  else s

def execPacLoad (s : State) : Host.Outcome State Fault Refusal := run (fun s => s.pacLoad) s

def execPacRequest (r : Requester) (cls : Fin 3) (s : State) : Host.Outcome State Fault Refusal :=
  run (fun s => if s.mainOn then s.request r cls.val else s) s

/-! ### Grants (R156; 02 R91; 07 R423; 12 R615, R617, R629, R631) -/

/-- A burst of a command that writes bank D: region, offset and data of its next record (R148; 12 R631). -/
def Cmd.burst (c : Cmd) (regionOf : Cmd → Nat) : JRec :=
  { region := regionOf c, offset := c.dst, data := c.rest.take 65536, crcOk := true }

/-- The region that a command's bank D writes go to (06 R361, R375, R380). -/
def State.burstRegion (s : State) (c : Cmd) : Nat :=
  if c.opcode = 0x702 then (if s.bankM.hazelB then 5 else 6) else if c.opcode = 0x203 ∨ c.opcode = 0x204 then 7 else 8

/-- The record of the burst that has been granted is written to journal D. -/
def State.startBurst (s : State) : State :=
  match s.hazel.jobs.find? fun c => c.phase == .running && c.wait == some ⟨.mramBurst, 0⟩ with
  | some c => { s with mram := { s.mram with journalD := s.mram.journalD ++ [c.burst s.burstRegion] } }
  | none => s

/-- A granted wake (R80; 12 R615 to R617). -/
def State.wakeGranted (s : State) (n : Nat) : State :=
  let k := s.stack n
  match k.mode with
  | .off =>
    if s.husk.enDram && s.husk.pgDram then s.setStack n { k with mode := .training } else s.raiseDram
  | .selfRefresh => s.setStack n { k with mode := .leaving }
  | _ => s

/-- A memory self-test begins: a stack leaves service (12 R629). -/
def State.memTestStarts (s : State) (i : Nat) : State :=
  if i = 0 then s
  else
    let n := i - 1
    let t := (s.setStack n { s.stack n with mode := .selfTest }).dropReady (rdyBit (6 + n))
    if t.ready 6 || t.ready 7 then t else t.dropReady (rdyBit 23)

/-- What a grant starts. -/
def State.onGrant (s : State) (r : Requester) : State :=
  match r.pll? with
  | some p => s.setPll p .starting
  | none =>
    match r.kind with
    | .pipeSelftest =>
      let k := s.pipe r.inst
      (s.setPipe r.inst { k with bist := .running, bistAt := s.now, bistAborting := false }).dropReady (rdyBit (16 + r.inst))
    | .dramWake => s.wakeGranted r.inst
    | .memSelftest => s.memTestStarts r.inst
    | .mramBurst => s.startBurst
    | _ => s

/-- The head of the queue is granted (R153, R156, R188, R189). -/
def State.grant (s : State) : State :=
  match pacHead s.pac.queue with
  | none => s
  | some q =>
    if s.pacGrantable q then
      let t := s.until s.pac.slotEnd
      let p := t.pac
      let p := { p with queue := p.queue.filter (·.who != q.who), held := p.held ++ [q.who], grants := satAdd 32 p.grants 1
                        slotEnd := t.now + 1000 * p.slot
                        waitMax := max p.waitMax (min ((t.now - q.at_) / 1000) (satMax 32)) }
      (({ t with pac := p }).onGrant q.who).progress
    else s

def execPacGrant (s : State) : Host.Outcome State Fault Refusal := run (fun s => s.grant) s

/-- A release (R157); what the grant carried stops. -/
def State.releaseGrant (s : State) (r : Requester) : State := if s.pac.held.contains r then s.release r else s

def execPacRelease (r : Requester) (s : State) : Host.Outcome State Fault Refusal :=
  run (fun s => s.releaseGrant r) s

def execPacWithdraw (r : Requester) (s : State) : Host.Outcome State Fault Refusal :=
  run (fun s => { s with pac := { s.pac with queue := s.pac.queue.filter (·.who != r) } }) s

/-- A queued request has waited its timeout: refused, unless the grant wins (R158, R161, R162, R192, R198). -/
def State.pacLate (s : State) (r : Requester) : State :=
  match s.pac.queue.find? (·.who == r) with
  | none => s
  | some q =>
    if s.ready 3 && (s.ready 2 || r.pll?.isNone) then
      let t := s.until (q.from_ + 1000000 * q.timeoutMs)
      if pacHead t.pac.queue == some q && t.pacGrantable q && t.pac.slotEnd ≤ t.now then t.grant
      else (t.refuse q (if q.cls = 0 && t.pac.warn then 4 else 1)).progress
    else s

def execPacTimeout (r : Requester) (s : State) : Host.Outcome State Fault Refusal := run (fun s => s.pacLate r) s

/-! ### Temperature, the clamp, budgets -/

/-- A sample of the junction temperature (R165). -/
def State.sample (s : State) (tj : Int) : State :=
  let t := { s with husk := { s.husk with tj := tj } }
  if s.ready 3 then
    let p := t.pac
    let w := if tj ≥ (p.warnC : Int) then true else if tj ≤ (p.warnC : Int) - 5 then false else p.warn
    let u := { t with pac := { p with tj := tj, warn := w } }
    if w && !p.warn then u.report 12 0
    else if p.warn && !w then u.endCondition 12
    else u
  else t

def execPacThermalSample (tj : Int) (s : State) : Host.Outcome State Fault Refusal := run (fun s => s.sample tj) s

/-- A write of 1 to CLAMP_SET from the Pip or SMBus path (R168, R170, R175, R199). -/
def State.clamp (s : State) : State :=
  if s.ready 3 then ({ s with pac := { s.pac with clamped := true } }).retest
  else if s.huskUp then { s with pac := { s.pac with clampHeld := true } }
  else s

def execClampSet (s : State) : Host.Outcome State Fault Refusal := run (fun s => s.clamp) s

/-- A field of a budget register is written: out of range leaves it unchanged (R180). -/
def budgetField (lim v old : Nat) : Nat := if v = 0 ∨ v > lim then old else v

def budgetLimit : BudgetRail → Nat
  | .vcore => 1200 | .vsram => 200 | .vserdes => 90 | .vdram => 140

def Amps.set (a : Amps) (r : BudgetRail) (v : Nat) : Amps :=
  match r with
  | .vcore => { a with core := v } | .vsram => { a with sram := v } | .vserdes => { a with serdes := v }
  | .vdram => { a with dram := v }

def Amps.of (a : Amps) : BudgetRail → Nat
  | .vcore => a.core | .vsram => a.sram | .vserdes => a.serdes | .vdram => a.dram

/-- A write of PAC_BUDGET_* from the Pip or SMBus path (R175, R180, R193, R195). -/
def State.budgetWrite (s : State) (r : BudgetRail) (v : Nat) : State :=
  if s.ready 3 then
    let p := s.pac
    ({ s with pac := { p with
        budget := p.budget.set r (budgetField (budgetLimit r) (v % 65536) (p.budget.of r))
        step := p.step.set r (budgetField (budgetLimit r) (v / 65536) (p.step.of r)) } }).retest
  else s

def execPacBudgetWrite (r : BudgetRail) (v : Word32) (s : State) : Host.Outcome State Fault Refusal :=
  run (fun s => s.budgetWrite r v.toNat) s

end Sys2Proof.Machine
end

