-- ==== Sys2Proof/Machine/MemEvents.lean ====
section
/-! DEFINITION. What happens in memory of itself (12): training, initialisation, self-refresh, re-reads, correction
write-backs, the scrubber, MRAM bursts, and fabric timeouts. -/

namespace Sys2Proof.Machine

/-! ### DRAM stacks (R615 to R618, R659 to R661) -/

/-- A stack can serve: held requests and waiting commands go on. -/
def State.stackServes (s : State) (n : Nat) : State := ((s.serveHeld n).scrubStart).progress

/-- Training ends (R615; 02 R112). -/
def State.trained (s : State) (n : Nat) : State :=
  let k := s.stack n
  if k.mode == .training then
    let t := s.setStack n { k with mode := .awake, initDone := false, retrying := false }
    (t.setReady (6 + n)).stackServes n
  else s

def execDramTrained (n : Fin 2) (s : State) : Host.Outcome State Fault Refusal := run (fun s => s.trained n.val) s

/-- The pass of R615 ends: every word has valid check bits. -/
def State.initEnds (s : State) (n : Nat) : State :=
  let k := s.stack n
  if s.ready (6 + n) && !k.initDone then
    let t := { s with marks := s.marks.filter fun e => !(inStack n (8 * e.1) && e.2 == Mark.written) }
    t.setStack n { k with initDone := true }
  else s

def execDramInitDone (n : Fin 2) (s : State) : Host.Outcome State Fault Refusal := run (fun s => s.initEnds n.val) s

/-- LFS initialisation ends (R628; 02 R112). -/
def execLfsInitDone (s : State) : Host.Outcome State Fault Refusal :=
  run (fun s => if s.ready 4 && !s.ready 5 then s.setReady 5 else s) s

/-- A stack enters self-refresh and releases its wake grant (R616). -/
def State.toSelfRefresh (s : State) (n : Nat) : State :=
  let k := s.stack n
  if s.awake n then
    (s.setStack n { k with mode := .selfRefresh, srEntries := satAdd 16 k.srEntries 1 }).release ⟨.dramWake, n⟩
  else s

/-- A running channel reaches the stack. -/
def State.dmaTouches (s : State) (n : Nat) : Bool := s.dma.any fun e => e.2.mode == .running && e.2.touches n

def execDramSelfRefreshEntry (n : Fin 2) (s : State) : Host.Outcome State Fault Refusal :=
  run (fun s =>
    let k := s.stack n.val
    if !k.pinned && k.srIdle != 0 && !s.dmaTouches n.val then s.toSelfRefresh n.val else s) s

def execDramSelfRefreshExit (n : Fin 2) (s : State) : Host.Outcome State Fault Refusal :=
  run (fun s =>
    if (s.stack n.val).mode == .leaving then
      (s.setStack n.val { s.stack n.val with mode := .awake, retrying := false }).stackServes n.val
    else s) s

/-- The self-refresh entry of an orderly main-off: BAR2 closes, whatever the pins (R618; 04 R242; 02 R70). -/
def State.mainOffSleep (s : State) : State :=
  if s.husk.mainOff && s.fwUp then
    let s := if s.hazel.jobs.any (·.opcode == 6) then s.until (s.husk.mainOffAt + 10000000) else s
    let t := { s with pcie := { s.pcie with bar2Closed := true } }
    (t.toSelfRefresh 0).toSelfRefresh 1
  else s

def execMainOffSelfRefresh (s : State) : Host.Outcome State Fault Refusal := run (fun s => s.mainOffSleep) s

/-! ### Check bits (R619 to R621) -/

/-- The re-read of an uncorrectable DRAM word of an ordinary read (R621). -/
def State.reread (s : State) (w : Nat) (recovered : Bool) : State :=
  match regionOf (8 * w) with
  | .dram n =>
    if s.awake n && s.mark w != .poison then
      if recovered then
        (s.setStack n { s.stack n with transient := satAdd 16 (s.stack n).transient 1 }).setMark w
          (if s.mark w = .written then .written else .clean)
      else s.poisonDram n w
    else s
  | _ => s

def execDramReread (word : Nat) (recovered : Bool) (s : State) : Host.Outcome State Fault Refusal :=
  run (fun s => s.reread word recovered) s

/-- A correction write-back; a word written since has nothing left to correct (R620, R672). -/
def State.writeBack (s : State) (w : Nat) : State :=
  if s.mark w = .data ∨ s.mark w = .check then s.setMark w .clean else s

def execCorrectionWriteBack (word : Nat) (s : State) : Host.Outcome State Fault Refusal :=
  run (fun s => s.writeBack word) s

/-! ### The scrubber (R625 to R627) -/

/-- The lowest free entry of the scrub log. -/
def Scrub.freeSlot (k : Scrub) : Option Nat := (List.range 8).find? fun i => !(Table.get (false, 0) k.log i).1

/-- The scrubber finds an uncorrectable word: poisoned in place, logged, and SCRUB_UE raised. -/
def State.scrubFound (s : State) (w : Nat) : State :=
  let k := s.scrub
  let k := { k with found := satAdd 16 k.found 1 }
  let k := match k.freeSlot with
    | some i => { k with log := Table.set (false, 0) k.log i (true, 8 * w) }
    | none => { k with overflows := satAdd 16 k.overflows 1 }
  (({ s with scrub := k }).setMark w .poison).report 23 (match regionOf (8 * w) with | .dram n => n | _ => 2)

/-- The scrubber reads one word. -/
def State.scrubWord (s : State) (w : Nat) : State :=
  match (s.mark w).outcome (regionOf (8 * w) != .lfs) with
  | .clean | .poison => s
  | .corrected _ =>
    let t := s.touchWord w
    ({ t with scrub := { t.scrub with ce := satAdd 32 t.scrub.ce 1 } }).setMark w .clean
  | .transient => s.touchWord w
  | .uncorrectable => s.scrubFound w

/-- One burst of 256 bytes as port 7. -/
def State.scrubAt (s : State) (a : Nat) : State := foldRange (fun i t => t.scrubWord (a / 8 + i)) 32 (s.account 7 a 256)

/-- A stack can be scrubbed now. -/
def State.scrubbable (s : State) (n : Nat) : Bool := s.awake n && (s.stack n).initDone

/-- A pass ends once DRAM0, DRAM1 and the LFS have been read. -/
def State.scrubPass (s : State) : State :=
  let k := s.scrub
  if k.pos0 ≥ 2 ^ 25 ∧ k.pos1 ≥ 2 ^ 25 ∧ k.posL ≥ 2 ^ 18 then
    { s with scrub := { k with pos0 := 0, pos1 := 0, posL := 0, behind0 := false, behind1 := false
                               passes := satAdd 32 k.passes 1 } }
  else s

def State.setScrub (s : State) (f : Scrub → Scrub) : State := { s with scrub := f s.scrub }

/-- The next burst: DRAM0, then DRAM1, then the LFS, a stack that cannot be scrubbed being skipped. -/
def State.scrubNext (s : State) : State :=
  let k := s.scrub
  if k.pos0 < 2 ^ 25 ∧ s.scrubbable 0 then
    (s.scrubAt (256 * k.pos0)).setScrub fun c => { c with pos0 := k.pos0 + 1, behind0 := k.behind0 && decide (k.pos0 + 1 < 2 ^ 25) }
  else if k.pos1 < 2 ^ 25 ∧ s.scrubbable 1 then
    (s.scrubAt (2 ^ 33 + 256 * k.pos1)).setScrub fun c =>
      { c with pos1 := k.pos1 + 1, behind1 := k.behind1 && decide (k.pos1 + 1 < 2 ^ 25) }
  else if k.posL < 2 ^ 18 ∧ s.ready 5 then
    (s.scrubAt (0x800000000 + 256 * k.posL)).setScrub fun c => { c with posL := k.posL + 1 }
  else s

def execScrubBurst (s : State) : Host.Outcome State Fault Refusal :=
  run (fun s => if s.ready 23 && s.scrub.enable then s.scrubNext.scrubPass else s) s

/-- A stack's pass has fallen one hour behind: a class 0 wake (R626). -/
def execScrubCatchUp (n : Fin 2) (s : State) : Host.Outcome State Fault Refusal :=
  run (fun s =>
    if s.ready 23 && s.scrub.enable && s.asleep n.val then
      let k := s.scrub
      let t := { s with scrub := if n = 0 then { k with behind0 := true } else { k with behind1 := true } }
      t.wakeStack n.val 0
    else s) s

/-! ### MRAM bank D (R631 to R634, R679; 03 R148) -/

/-- The library entry that POD_STORE's last record makes, or POD_DELETE's takes away (06 R361, R362; log 60). -/
def Mram.entryDone (m : Mram) (c : Cmd) : Mram :=
  if c.opcode = 0x203 then
    { m with library := Table.set (0, 0) m.library (c.a1 % 64) (c.dst + c.rest.length - c.result, c.result) }
  else if c.opcode = 0x204 then { m with library := Table.set (0, 0) m.library (c.a0 % 64) (0, 0) }
  else m

/-- The class in which a command asks for a burst (06 R380). -/
def Cmd.burstClass (c : Cmd) : Nat := if c.opcode = 0x702 then 0 else 1

/-- The stage of a firmware target takes a chunk (06 R380). -/
def Stage.take (g : Stage) (b : List Byte) : Stage :=
  { g with active := true, bytes := g.bytes ++ b, ended := b.length % 8 != 0 }

/-- The last burst of a Hazel chunk has ended: the staging takes it, and the inactive slot holds what has been staged
(06 R380; log 71). -/
def State.staged (s : State) (c : Cmd) : State :=
  if c.opcode = 0x702 then
    let g := s.hazel.stageHazel.take c.params
    let h := Config.imageOf g.bytes
    let b := if s.bankM.hazelB then { s.bankM with slotHazelA := h } else { s.bankM with slotHazelB := h }
    { s with hazel := { s.hazel with stageHazel := g }, bankM := b }
  else s

/-- A burst of the command at place `i` has ended: the next one is due, or the command is done. -/
def State.burstDone (s : State) (i : Nat) (c : Cmd) : State :=
  let rest := c.rest.drop 65536
  if rest.isEmpty then ({ s with mram := s.mram.entryDone c }.staged c).setJob i { c.done with rest := [], result := if c.opcode < 0x300 then c.result else 0 }
  else s.setJob i { c with rest := rest, dst := c.dst + 65536 }

/-- The next burst that a command waits for is asked for. -/
def State.nextBurst (s : State) : State :=
  match s.hazel.jobs.find? fun c => c.phase == .running && c.wait == some ⟨.mramBurst, 0⟩ with
  | some c => s.request ⟨.mramBurst, 0⟩ c.burstClass
  | none => s

/-- The burst's record is applied, its grant goes and MRAM_DONE is raised. -/
def State.burstApplied (s : State) (r : JRec) : State := ((s.applyBurst r).release ⟨.mramBurst, 0⟩).edge 92

/-- The command that waited for the burst goes on, and the next burst asks. -/
def State.afterBurst (s : State) (r : JRec) : State :=
  match s.hazel.jobs.findIdx? fun c => c.phase == .running && c.wait == some ⟨.mramBurst, 0⟩ && c.burst s.burstRegion == r with
  | some i => ((s.burstDone i (s.hazel.jobs.getD i {})).nextBurst).progress
  | none => s.nextBurst

/-- The burst in progress ends. -/
def State.burstEnds (s : State) : State :=
  if s.pac.held.contains ⟨.mramBurst, 0⟩ && !s.husk.gateClosed then
    match s.mram.journalD with
    | [] => s
    | r :: _ => (s.burstApplied r).afterBurst r
  else s

def execMramBurstEnd (s : State) : Host.Outcome State Fault Refusal := run (fun s => s.burstEnds) s

/-- Bank D's controller scans its journal and is ready (R632; 02 R112). -/
def State.bankDReady (s : State) : State :=
  if s.ready 4 && !s.ready 8 then
    let js := s.mram.journalD
    (({ s with mram := { s.mram with journalD := [] } }).scanJournal false js).setReady 8
  else s

def execMramBankDReady (s : State) : Host.Outcome State Fault Refusal := run (fun s => s.bankDReady) s

/-! ### The fabric (15 R782) -/

def execFabTimeout (port : Fin 16) (s : State) : Host.Outcome State Fault Refusal :=
  run (fun s => if s.mainOn then s.report 31 port.val else s) s

end Sys2Proof.Machine
end

