-- ==== Sys2Proof/Machine/Boot.lean ====
section
/-! DEFINITION. Firmware start (02 R104 to R111, R920; 06 R385) and Pip's removal record (04 R244). -/

namespace Sys2Proof

/-- The checks of R104 in order: header format, signature, silicon list. -/
def ImageHeader.passes (h : ImageHeader) : Bool :=
  h.formatOk && decide (h.silicon.length ≤ 8) && decide (h.tested.length ≤ 8) && h.signatureOk && h.silicon.contains Config.siliconRev

end Sys2Proof

namespace Sys2Proof.Machine

/-! ### Images -/

def BankM.pipSlot (b : BankM) (slotB : Bool) : ImageHeader := if slotB then b.slotPipB else b.slotPipA
def BankM.hazelSlot (b : BankM) (slotB : Bool) : ImageHeader := if slotB then b.slotHazelB else b.slotHazelA

/-- The slot that runs, trying `first` and then the other (R104, R109). -/
def chooseSlot (img : Bool → ImageHeader) (first : Bool) : Option Bool :=
  if (img first).passes then some first else if (img !first).passes then some (!first) else none

/-! ### Pip (R104, R105, R111) -/

/-- FW_SLOT_BAD of the Pip slots that were tried and failed (15 R782). -/
def State.pipSlotsBad (s : State) (first : Bool) : State :=
  let t := if (s.bankM.pipSlot first).passes then s else s.reportHusk 45 (b2n first)
  if (s.bankM.pipSlot first).passes || (s.bankM.pipSlot !first).passes then t else t.reportHusk 45 (b2n !first)

/-- The Pip boot ROM runs an image, or its own service with the budgets clamped (R104, R105; 03 R169). -/
def State.pipBoots (s : State) : State :=
  if s.huskUp && s.husk.pipRun && s.husk.pipMode == .boot then
    let t := s.pipSlotsBad s.bankM.pipB
    match chooseSlot t.bankM.pipSlot t.bankM.pipB with
    | some b =>
      let h := t.bankM.pipSlot b
      ({ t with husk := { t.husk with pipMode := .firmware, pipVersion := h.version, pipIf := h.pipIf, pipSlotB := b } }.setReady
        1).pipActs
    | none => (({ t with husk := { t.husk with pipMode := .rom, pipVersion := 0, pipIf := 0x0100 } }).clamp).pipActs
  else s

def execPipBoot (s : State) : Host.Outcome State Fault Refusal := run (fun s => s.pipBoots) s

/-! ### Hazel (R107 to R111, R920; 01 R43) -/

/-- The boot epoch after `e` (01 R43). -/
def nextEpoch (e : Nat) : Nat := if e = 0xFFFF then 1 else e + 1

/-- The handover value of R108. -/
def State.handover (s : State) (epoch : Nat) : Nat :=
  let h := s.husk
  let rom := h.pipMode == .rom
  (if rom then 0 else h.pipVersion % 2 ^ 24) * 2 ^ 40
    + (if rom then 0x10 else h.pipIf / 256 % 16 * 16 + h.pipIf % 16) * 2 ^ 32
    + b2n rom * 2 ^ 17 + b2n s.bankM.hazelB * 2 ^ 16 + epoch

/-- Pip advances and commits the epoch, and hands it over (R108). -/
def State.hazelStarts (s : State) : State :=
  if s.mainOn && s.pipServes && s.pll 1 == .locked && s.hazel.mode == .stopped && !(s.box 33).full && !s.husk.gateClosed then
    let e := nextEpoch s.bankM.epoch
    let t := ({ s with bankM := { s.bankM with epoch := e } }).wearM 2 2
    let v := s.handover e
    let t := t.sendHi 33 (v / 2 ^ 32) (some (v % 2 ^ 32))
    { t with hazel := { t.hazel with mode := .boot } }
  else s

def execHazelStart (s : State) : Host.Outcome State Fault Refusal := run (fun s => s.hazelStarts) s

/-- FW_SLOT_BAD of the Hazel slots that were tried and failed. -/
def State.hazelSlotsBad (s : State) (first : Bool) : State :=
  let t := if (s.bankM.hazelSlot first).passes then s else s.report 45 (2 + b2n first)
  if (s.bankM.hazelSlot first).passes || (s.bankM.hazelSlot !first).passes then t else t.report 45 (2 + b2n !first)

/-- Lanes whose PORT_CONFIG a Hazel reset has cut. -/
def State.cutPorts (s : State) : State :=
  foldRange (fun n t => t.endPort n 0x0301 fun _ => 2) 16 s

/-- The restarted firmware settles the job table (06 R385). -/
def State.settleHazel (s : State) : State :=
  let t := s.cutPorts
  let t := t.endRuns 0x0301 64
  let t := t.endJobs (fun _ => true) 0x0301 2
  let t := (t.withdraw ⟨.mramBurst, 0⟩).releaseIdlePipes 4
  let reopen (x : Session) : Session := if x.mode = .closing then { x with mode := .opened } else x
  let t := { t with hazel := { t.hazel with sessions := Table.mapVals {} reopen t.hazel.sessions } }
  foldRange (fun n u => u.setPipe n { u.pipe n with bistCmd := none }) 4 t

/-- What Hazel-B starts: the PTP time counter, the scheduler, the VTC (R112). -/
def State.hazelBStarts (s : State) : State :=
  let t := ({ s with ptp := { s.ptp with run := true } }.setReady 21).setReady 22
  ({ t with vtc := { t.vtc with configured := true } }).startPll .vtc 1

/-- The mode in which an image starts (R111). -/
def imageMode (h : ImageHeader) (rom : Bool) (pipIf pipVersion : Nat) : HazelMode :=
  if rom || pipIf < h.ifLo || h.ifHi < pipIf || !h.tested.contains pipVersion then .compat else .normal

/-- Hazel runs with `h`: its ready bits, and what its reset left open. -/
def State.hazelOn (s : State) (h : Hazel) : State :=
  (({ s with hazel := h }.setReady 9).setReady 10).settleHazel

/-- Hazel takes Pip's boot word and loads a slot, or enters recovery. -/
def State.hazelLoads (s : State) (v : Nat) : State :=
  let first := bitAt v 16
  let rom := bitAt v 17
  let pipVersion := v / 2 ^ 40
  let pipIf := bitsOf v 36 4 * 256 + bitsOf v 32 4
  let h := { s.hazel with epoch := v % 65536, pipVersion := pipVersion, pipIf := pipIf, pipRom := rom, closed := false }
  match chooseSlot s.bankM.hazelSlot first with
  | some b =>
    let img := s.bankM.hazelSlot b
    let m := imageMode img rom pipIf pipVersion
    let h := { h with mode := m, image := img, slotB := b }
    if m = .compat then ((s.hazelOn h).clamp.report 46 1).hazelBStarts else (s.hazelOn h).hazelBStarts
  | none => (s.hazelOn { h with mode := .recovery, image := {}, slotB := first }).report 46 2

/-- Hazel runs an image, or RECOVERY from its boot ROM. -/
def State.hazelRuns (s : State) : State :=
  if s.hazel.mode == .boot && s.ready 8 && (s.box 33).full && s.pll 1 == .locked then
    ((s.takeHi 33).hazelSlotsBad (bitAt (s.box 33).value 16)).hazelLoads (s.box 33).value
  else s

def execHazelImageStart (s : State) : Host.Outcome State Fault Refusal := run (fun s => s.hazelRuns) s

/-! ### The removal record (04 R244; 15 R808) -/

/-- HP_EN has been low for 10 ms with VAON present: a removal record is due. -/
def execPipRemovalRecord (s : State) : Host.Outcome State Fault Refusal :=
  run (fun s =>
    if s.husk.removalDue && !s.husk.hpEn && s.huskUp then
      let t := s.until (s.husk.hpFellAt + 10000000)
      ({ t with husk := { t.husk with removalDue := false } }).plogDue 7 0
    else s) s

end Sys2Proof.Machine
end

