-- ==== Sys2Proof/Machine/Counters.lean ====
section
/-! DEFINITION. The event counters and where they stand (18; 04 R250 to R254; 07 R435; 12 R668; 13 R717; 14 R766 to
R768; 15 R827): the value of each, and the state with it cleared. -/

namespace Sys2Proof.Machine

/-- A counter, or a word of two 16-bit counters. -/
structure Counter where
  /-- 64 bits wide: it takes two words. -/
  wide : Bool := false
  val : Nat
  /-- A read clears it. -/
  rc : Bool := true
  /-- The state with the counter at 0. -/
  zero : State
  deriving DecidableEq, Repr

def State.pcieCounter (s : State) (o : Nat) : Option Counter :=
  let p := s.pcie
  match o with
  | 0x00 => some { val := pair16 p.discardBar2 p.discardBar0, zero := { s with pcie := { p with discardBar2 := 0, discardBar0 := 0 } } }
  | 0x04 => some { val := pair16 p.abortPoison p.abortOther, zero := { s with pcie := { p with abortPoison := 0, abortOther := 0 } } }
  | 0x08 => some { val := pair16 p.lateTimeout p.lateReset, zero := { s with pcie := { p with lateTimeout := 0, lateReset := 0 } } }
  | 0x0C => some { val := pair16 p.surprise p.exits, zero := { s with pcie := { p with surprise := 0, exits := 0 } } }
  | 0x10 => some { val := p.replays, zero := { s with pcie := { p with replays := 0 } } }
  | _ => none

def State.pipeCounter (s : State) (n o : Nat) : Option Counter :=
  let k := s.pipe n
  match o with
  | 0x00 => some { wide := true, val := k.steps, zero := s.setPipe n { k with steps := 0 } }
  | 0x08 => some { wide := true, val := k.busy, zero := s.setPipe n { k with busy := 0 } }
  | 0x10 => some { val := k.pageMisses, zero := s.setPipe n { k with pageMisses := 0 } }
  | 0x14 => some { val := pair16 k.deadlocks k.faults, zero := s.setPipe n { k with deadlocks := 0, faults := 0 } }
  | 0x18 => some { val := pair16 k.bistAborted k.bistFailed, zero := s.setPipe n { k with bistAborted := 0, bistFailed := 0 } }
  | 0x1C => some { val := pair16 k.waitExpired k.waited, zero := s.setPipe n { k with waitExpired := 0, waited := 0 } }
  | _ => none

def State.fabCounter (s : State) (p o : Nat) : Option Counter :=
  let k := s.port16 p
  match o with
  | 0x00 => some { wide := true, val := k.held, zero := s.setPort16 p { k with held := 0 } }
  | 0x08 => some { wide := true, val := k.requests, zero := s.setPort16 p { k with requests := 0 } }
  | 0x10 => some { val := k.latMax, zero := s.setPort16 p { k with latMax := 0 } }
  | 0x14 => some { val := k.aged, zero := s.setPort16 p { k with aged := 0 } }
  | _ => none

def State.dramCounter (s : State) (n o : Nat) : Option Counter :=
  let k := s.stack n
  match o with
  | 0x00 => some { val := k.cdata, zero := s.setStack n { k with cdata := 0 } }
  | 0x04 => some { val := k.ccheck, zero := s.setStack n { k with ccheck := 0 } }
  | 0x08 => some { val := pair16 k.poisoned k.transient, zero := s.setStack n { k with poisoned := 0, transient := 0 } }
  | 0x0C => some { val := pair16 k.poisonReads k.discards, zero := s.setStack n { k with poisonReads := 0, discards := 0 } }
  | 0x10 => some { val := pair16 k.refused k.srEntries, zero := s.setStack n { k with refused := 0, srEntries := 0 } }
  | 0x18 => some { wide := true, val := k.bytes, zero := s.setStack n { k with bytes := 0 } }
  | _ => none

/-- LFS, scrubber and MRAM counters, by the offset from 0x0010_C480. -/
def State.lfsCounter (s : State) (o : Nat) : Option Counter :=
  let k := s.lfs
  let c := s.scrub
  let m := s.mram
  match o with
  | 0x00 => some { val := k.cdata, zero := { s with lfs := { k with cdata := 0 } } }
  | 0x04 => some { val := k.ccheck, zero := { s with lfs := { k with ccheck := 0 } } }
  | 0x08 => some { val := pair16 k.poisoned 0, zero := { s with lfs := { k with poisoned := 0 } } }
  | 0x0C => some { val := pair16 k.poisonReads k.discards, zero := { s with lfs := { k with poisonReads := 0, discards := 0 } } }
  | 0x40 => some { val := c.passes, zero := { s with scrub := { c with passes := 0 } } }
  | 0x44 => some { val := pair16 c.overflows c.found, zero := { s with scrub := { c with overflows := 0, found := 0 } } }
  | 0x48 => some { val := c.ce, zero := { s with scrub := { c with ce := 0 } } }
  | 0xD0 => some { val := pair16 m.torn m.replayed, zero := { s with mram := { m with torn := 0, replayed := 0 } } }
  | 0xD4 => some { val := pair16 m.ue m.ce, zero := { s with mram := { m with ue := 0, ce := 0 } } }
  | _ => if 0x80 ≤ o ∧ o < 0xD0 ∧ o % 8 = 0 then
      some { wide := true, rc := false, val := Table.get 0 m.wear ((o - 0x80) / 8), zero := s }
    else none

def State.dmaCounter (s : State) (n o : Nat) : Option Counter :=
  let k := s.chan n
  match o with
  | 0x00 => some { wide := true, val := k.bytes, zero := s.setChan n { k with bytes := 0 } }
  | 0x08 => some { val := pair16 k.stops k.descs, zero := s.setChan n { k with stops := 0, descs := 0 } }
  | _ => none

def State.laneCounter (s : State) (n o : Nat) : Option Counter :=
  let k := s.lane n
  match o with
  | 0x00 => some { wide := true, val := k.rxFrames, zero := s.setLane n { k with rxFrames := 0 } }
  | 0x08 => some { wide := true, val := k.txFrames, zero := s.setLane n { k with txFrames := 0 } }
  | 0x10 => some { wide := true, val := k.rxUnits, zero := s.setLane n { k with rxUnits := 0 } }
  | 0x18 => some { wide := true, val := k.txUnits, zero := s.setLane n { k with txUnits := 0 } }
  | 0x20 => some { val := pair16 k.w20h k.w20l, zero := s.setLane n { k with w20h := 0, w20l := 0 } }
  | 0x24 => some { val := pair16 k.w24h k.w24l, zero := s.setLane n { k with w24h := 0, w24l := 0 } }
  | 0x28 => some { val := pair16 k.w28h k.w28l, zero := s.setLane n { k with w28h := 0, w28l := 0 } }
  | 0x2C => some { val := pair16 k.w2ch k.w2cl, zero := s.setLane n { k with w2ch := 0, w2cl := 0 } }
  | 0x30 => some { val := k.w30, zero := s.setLane n { k with w30 := 0 } }
  | 0x34 => some { val := pair16 k.relockFails k.lockLosses, zero := s.setLane n { k with relockFails := 0, lockLosses := 0 } }
  | 0x3C => some { val := k.events.toNat, zero := s.setLane n { k with events := 0 } }
  | _ => none

/-- The words of a port (14 R767). -/
def State.portCounter (s : State) (p o : Nat) : Option Counter :=
  let k := s.lane p
  match o with
  | 0x0 => some { val := pair16 k.unclassified k.capNoRing, zero := s.setLane p { k with unclassified := 0, capNoRing := 0 } }
  | 0x4 => some { val := k.capLost, zero := s.setLane p { k with capLost := 0 } }
  | 0x8 => some { val := k.capFrames, zero := s.setLane p { k with capFrames := 0 } }
  | _ => none

def State.flowCounter (s : State) (f o : Nat) : Option Counter :=
  let k := s.flow f
  match o with
  | 0x00 => some { wide := true, val := k.packets, zero := s.setFlow f { k with packets := 0 } }
  | 0x08 => some { wide := true, val := k.bytes, zero := s.setFlow f { k with bytes := 0 } }
  | 0x10 => some { val := k.w10, zero := s.setFlow f { k with w10 := 0 } }
  | 0x14 => some { val := k.w14, zero := s.setFlow f { k with w14 := 0 } }
  | 0x18 => some { val := pair16 k.w18h k.w18l, zero := s.setFlow f { k with w18h := 0, w18l := 0 } }
  | 0x1C => some { val := pair16 k.w1ch k.w1cl, zero := s.setFlow f { k with w1ch := 0, w1cl := 0 } }
  | 0x20 => some { val := pair16 k.w20h k.w20l, zero := s.setFlow f { k with w20h := 0, w20l := 0 } }
  | 0x28 => some { val := k.maxLate, zero := s.setFlow f { k with maxLate := 0 } }
  | _ => none

/-- FLT_CNT and FLT_RECOV words, and FLT_CNT_DROPPED. -/
def State.fltCounter (s : State) (o : Nat) : Option Counter :=
  if o < 0x100 ∧ o % 4 = 0 then
    let i := 2 * (o / 4)
    let a := s.fltSrc i
    let b := s.fltSrc (i + 1)
    some { val := pair16 b.cnt a.cnt, zero := (s.setFltSrc i { a with cnt := 0 }).setFltSrc (i + 1) { b with cnt := 0 } }
  else if o < 0x200 ∧ o % 4 = 0 then
    let i := 2 * ((o - 0x100) / 4)
    let a := s.fltSrc i
    let b := s.fltSrc (i + 1)
    some { val := pair16 b.recov a.recov, zero := (s.setFltSrc i { a with recov := 0 }).setFltSrc (i + 1) { b with recov := 0 } }
  else if o = 0x200 then some { val := s.flt.dropped, zero := { s with flt := { s.flt with dropped := 0 } } }
  else none

/-- The counter whose first word stands at BAR0 address `a` of the counter window. -/
def State.counterAt (s : State) (a : Nat) : Option Counter :=
  if 0x104000 ≤ a ∧ a < 0x104014 then s.pcieCounter (a - 0x104000)
  else if 0x108000 ≤ a ∧ a < 0x108080 then s.pipeCounter ((a - 0x108000) / 0x20) (a % 0x20)
  else if 0x10C000 ≤ a ∧ a < 0x10C200 then s.fabCounter ((a - 0x10C000) / 0x20) (a % 0x20)
  else if 0x10C400 ≤ a ∧ a < 0x10C480 then s.dramCounter ((a - 0x10C400) / 0x40) (a % 0x40)
  else if 0x10C480 ≤ a ∧ a < 0x10C558 then s.lfsCounter (a - 0x10C480)
  else if 0x10C600 ≤ a ∧ a < 0x10C700 then s.dmaCounter ((a - 0x10C600) / 0x10) (a % 0x10)
  else if 0x110000 ≤ a ∧ a < 0x110400 then s.laneCounter ((a - 0x110000) / 0x40) (a % 0x40)
  else if 0x114000 ≤ a ∧ a < 0x114100 then s.portCounter ((a - 0x114000) / 0x10) (a % 0x10)
  else if 0x120000 ≤ a ∧ a < 0x130000 then s.flowCounter ((a - 0x120000) / 0x40) (a % 0x40)
  else if 0x140000 ≤ a ∧ a < 0x140204 then s.fltCounter (a - 0x140000)
  else if 0x130000 ≤ a ∧ a < 0x150000 ∧ a % 0x20 = 0xC then
    let e := (a - 0x130000) / 0x20
    some { val := (s.entry e).packets, zero := s.setEntry e { s.entry e with packets := 0 } }
  else none

end Sys2Proof.Machine
end

