-- ==== Sys2Proof/Machine/FaultCmds.lean ====
section
/-! DEFINITION. The commands of the fault collector (15): reports, ends of conditions, quiet periods, clears, proofs,
watchdogs, FLT_CTRL, and the persistent ring. -/

namespace Sys2Proof.Machine

/-- A detected report; an error of the log invalidates it first (R783, R806). -/
def State.detect (s : State) (src detail : Nat) : State :=
  if src = 1 ∧ s.ready 15 then ({ s with flt := { s.flt with logInvalid := true } }).report src detail
  else s.report src detail

def execFaultReport (src : Fin 128) (detail : Word32) (s : State) : Host.Outcome State Fault Refusal :=
  run (fun s => s.detect src.val detail.toNat) s

/-- The cause of a condition source is gone: the copies agree again, the log is valid, the XO bit is set, the slow clock
has its source, the warning is over; a latent comparator fault stands until chip reset (15 R782). -/
def State.causeGone (s : State) (src : Nat) : Bool :=
  match src with
  | 0 => true
  | 1 => !s.flt.logInvalid
  | 10 => s.ready 2
  | 11 => s.husk.slowSrc
  | 12 => !s.pac.warn
  | _ => false

/-- Firmware rewrites every triplicated word from bank M (R800). -/
def State.rewriteConfig (s : State) : State :=
  { s with flt := { s.flt with react := s.bankM.reacts, quiet := Trip.of (s.bankM.item 0x0020 3277 legal16).1 } }

def execConditionEnd (src : Fin 128) (s : State) : Host.Outcome State Fault Refusal :=
  run (fun s =>
    if (s.fltSrc src.val).standing && s.causeGone src.val then
      (if src = 0 then s.rewriteConfig else s).endCondition src.val
    else s) s

/-- FLT_QUIET ticks have passed since the last report, or since the condition ended (R786). -/
def State.quietEnds (s : State) (src : Nat) : State :=
  let r := s.fltSrc src
  if r.open_ && !r.standing then (s.until (r.last + ticksNs s.flt.quiet.vote)).closeQuiet src else s

def execQuietExpiry (src : Fin 128) (s : State) : Host.Outcome State Fault Refusal :=
  run (fun s => s.quietEnds src.val) s

def execFltActiveClear (src : Fin 128) (s : State) : Host.Outcome State Fault Refusal :=
  run (fun s => if s.huskUp then s.closeClear src.val else s) s

/-- The first slow tick after a chip reset that a fault caused (R788). -/
def State.reopenAll (s : State) : State :=
  s.husk.reopen.foldl (fun t d => t.reopenCause d.1 d.2) { s with husk := { s.husk with reopen := [] } }

def execCauseReopen (s : State) : Host.Outcome State Fault Refusal := run (fun s => s.reopenAll) s

/-- A proof of a pair's comparator (R802, R803). -/
def State.proof (s : State) (pairB detected : Bool) : State :=
  if s.ready 15 && s.hazelUp && s.pll 1 == .locked && !detected then
    let f := s.flt
    if pairB then
      ({ s with flt := { f with proofB := satAdd 16 f.proofB 1, degradedB := true } }).report 5 1
    else ({ s with flt := { f with proofA := satAdd 16 f.proofA 1, degradedA := true } }).report 4 0
  else s

def execComparatorProof (pairB detected : Bool) (s : State) : Host.Outcome State Fault Refusal :=
  run (fun s => s.proof pairB detected) s

def execHazelWdog (pairB : Bool) (s : State) : Host.Outcome State Fault Refusal :=
  run (fun s => if s.hazelUp then s.report (6 + b2n pairB) (b2n pairB) else s) s

/-- The Pip watchdog expires: reported, and Pip resets (15 R782; 01 R57). -/
def execPipWdog (s : State) : Host.Outcome State Fault Refusal :=
  run (fun s => if s.huskUp && s.husk.pipRun then (s.report 16 0).pipReset else s) s

/-! ### FLT_CTRL (R807, R817) -/

def State.logReinit (s : State) : State :=
  if s.ready 15 then
    let f := { s.flt with log := [], head := 0, wrapped := false, logInvalid := false }
    let t := { s with flt := f.write (s.entryNow 5 1) }
    t.endCondition 1
  else s

def execLogReinit (s : State) : Host.Outcome State Fault Refusal := run (fun s => s.logReinit) s

def State.lrClear (s : State) : State := if s.ready 15 then { s with flt := { s.flt with lr := [] } } else s

def execLrClear (s : State) : Host.Outcome State Fault Refusal := run (fun s => s.lrClear) s

def State.errForce (s : State) (b : Bool) : State := if s.ready 15 then { s with flt := { s.flt with errForced := b } } else s

def execErrForceSet (s : State) : Host.Outcome State Fault Refusal := run (fun s => s.errForce true) s

def execErrForceClr (s : State) : Host.Outcome State Fault Refusal := run (fun s => s.errForce false) s

/-! ### The persistent ring (R808, R809; 04 R244) -/

/-- Whether the limits of R809 let an entry be written. -/
def State.plogAllows (s : State) (e : PEntry) : Bool :=
  e.kind == 7 || e.kind == 8
    || ((match Table.get 0 s.bankM.plogLast e.source with
         | 0 => true
         | t + 1 => decide (t + 10000000000 ≤ s.now))
        && decide ((s.bankM.plogHour.filter fun t => s.now < t + 3600000000000).length < 360))

/-- Pip writes the entry due next. -/
def State.plogWrite (s : State) : State :=
  match s.flt.plogDue with
  | [] => s
  | e :: rest =>
    if s.pipServes && (s.husk.hpEn || !s.husk.removalDue) then
      let t := { s with flt := { s.flt with plogDue := rest } }
      if s.plogAllows e then
        let b := t.bankM
        let ring := b.ring ++ [{ e with seq := b.plogSeq }]
        ({ t with bankM := { b with
            ring := ring.drop (ring.length - 2048), plogSeq := b.plogSeq + 1
            plogLast := Table.set 0 b.plogLast e.source (t.now + 1)
            plogHour := (b.plogHour.filter fun x => t.now < x + 3600000000000) ++ [t.now] } }).wearM 3 32
      else { t with flt := { t.flt with suppressed := satAdd 16 t.flt.suppressed 1 } }
    else s

def execPersistentEntryWrite (s : State) : Host.Outcome State Fault Refusal := run (fun s => s.plogWrite) s

end Sys2Proof.Machine
end

