-- ==== Sys2Proof/Machine/Icu.lean ====
section
/-! DEFINITION. The interrupt controller's commands (05 R288 to R326). -/

namespace Sys2Proof.Machine

def icuTgt (u : Icu) : Target → IcuTgt
  | .hazelA => u.hazelA | .hazelB => u.hazelB | .pip => u.pip | .host => u.host

def setIcuTgt (u : Icu) (t : Target) (x : IcuTgt) : Icu :=
  match t with
  | .hazelA => { u with hazelA := x }
  | .hazelB => { u with hazelB := x }
  | .pip => { u with pip := x }
  | .host => { u with host := x }

def State.tgt (s : State) (t : Target) : IcuTgt := icuTgt s.icu t
def State.setTgt (s : State) (t : Target) (x : IcuTgt) : State := { s with icu := setIcuTgt s.icu t x }

/-- The target's view can be accessed: the ICU is out of reset, and the path to the view is there. -/
def State.viewUp (s : State) (t : Target) : Bool :=
  s.ready 14 && (match t with | .host => s.hostUp | .pip => s.husk.pipRun | _ => s.hazelUp)

/-- The sources a claim considers: all, or those of one vector at the host target (R294). -/
def State.claimable (s : State) (t : Target) (v : Nat) : BitVec 256 :=
  match t with
  | .host => s.icu.eligible s.icu.host &&& s.icu.mapped v 256
  | _ => s.icu.eligible (s.tgt t)

/-- NOTIFIED of a target, or of a vector of the host target. -/
def State.notifiedAt (s : State) (t : Target) (v : Nat) : Bool :=
  match t with | .host => s.icu.vnotified.getLsbD v | _ => (s.tgt t).notified

def State.clearNotified (s : State) (t : Target) (v : Nat) : State :=
  match t with
  | .host => { s with icu := { s.icu with vnotified := s.icu.vnotified &&& ~~~(BitVec.ofNat 64 (2 ^ v)) } }
  | _ => s.setTgt t { s.tgt t with notified := false }

/-- A claim at a target (R294): the ID it returns and the state after it. -/
def State.claim (s : State) (t : Target) (v : Nat) : Nat × State :=
  match s.icu.best (s.claimable t v) 256 with
  | some i =>
    let x := s.tgt t
    let y := { x with svc := x.svc ||| icuBit i, pend := x.pend &&& ~~~icuBit i }
    (i, (s.setTgt t y).clearNotified t v)
  | none =>
    if s.notifiedAt t v then
      let u := s.clearNotified t v
      (255, u.setTgt t { u.tgt t with spurious := satAdd 16 (u.tgt t).spurious 1 })
    else (0, s)

/-- A write of an ID to a target's ICU_COMPLETE (R295). -/
def State.complete (s : State) (t : Target) (i : Nat) : State :=
  let x := s.tgt t
  if x.svc.getLsbD i then s.setTgt t { x with svc := x.svc &&& ~~~icuBit i }
  else s.setTgt t { x with badComplete := satAdd 16 x.badComplete 1 }

/-- A write of word `i` of ICU_PEND: bits of edge sources as written, bits of level sources ignored (R303). -/
def State.writePend (s : State) (t : Target) (i v : Nat) : State :=
  let x := s.tgt t
  let field := BitVec.ofNat 256 ((2 ^ 32 - 1) * 2 ^ (32 * i)) &&& icuAssigned &&& ~~~icuLevels
  s.setTgt t { x with pend := (x.pend &&& ~~~field) ||| (BitVec.ofNat 256 (v % 2 ^ 32 * 2 ^ (32 * i)) &&& field) }

/-- A write of ICU_SWI_SET: one edge on source 96 + n for each 1 (R312). -/
def State.swiSet (s : State) (v : Nat) : State := s.edges (BitVec.ofNat 256 (v % 256 * 2 ^ 96))

def execIcuEdgeRequest (src : Fin 256) (s : State) : Host.Outcome State Fault Refusal :=
  run (fun s => s.edge src.val) s

def execIcuLevelChange (src : Fin 256) (level : Bool) (s : State) : Host.Outcome State Fault Refusal :=
  run (fun s =>
    let b := icuBit src.val &&& icuLevels
    { s with icu := { s.icu with ext := if level then s.icu.ext ||| b else s.icu.ext &&& ~~~b } }) s

def execIcuClaim (t : Target) (v : Fin 64) (s : State) : Host.Outcome State Fault Refusal :=
  run (fun s =>
    if s.viewUp t then { (s.claim t v.val).2 with answer := .data (BitVec.ofNat 64 (s.claim t v.val).1) } else s) s

def execIcuComplete (t : Target) (id : Fin 256) (s : State) : Host.Outcome State Fault Refusal :=
  run (fun s => if s.viewUp t then s.complete t id.val else s) s

def execIcuPendWrite (t : Target) (i : Fin 8) (v : Word32) (s : State) : Host.Outcome State Fault Refusal :=
  run (fun s => if s.viewUp t then s.writePend t i.val v.toNat else s) s

/-- ICU_SWI_SET is in the Hazel-A, Hazel-B and Pip views; its offset is reserved in the host view (R312). -/
def execIcuSwiSet (t : Target) (v : Byte) (s : State) : Host.Outcome State Fault Refusal :=
  run (fun s => if s.viewUp t && t != .host then s.swiSet v.toNat else s) s

/-- The target's core waits, unless a source is eligible, or becomes eligible in the cycle in which the sleep commits
(R299, R323). -/
def State.sleep (s : State) (t : Target) (coincident : Option Nat) : State :=
  if s.icu.eligible (s.tgt t) != 0 then s
  else
    match coincident with
    | none => s.setTgt t { s.tgt t with asleep := true }
    | some i =>
      let u := s.edge i
      if u.icu.eligible (u.tgt t) != 0 then u.setTgt t { u.tgt t with sleepAborted := true }
      else u.setTgt t { u.tgt t with asleep := true }

def execWaitForInterrupt (t : Target) (coincident : Option (Fin 256)) (s : State) : Host.Outcome State Fault Refusal :=
  run (fun s => if s.viewUp t && t != .host then s.sleep t (coincident.map Fin.val) else s) s

/-- A waiting core resumes once its line is asserted; a stopped Hazel PLL is started first (R299, R300; 15 R797). -/
def State.wakeCore (s : State) (t : Target) : State :=
  let x := s.tgt t
  if x.asleep && (x.line || (s.flt.nmiPending && t != .pip)) then
    match t with
    | .host => s
    | .pip => s.setTgt t { x with asleep := false }
    | _ => if s.pll 1 == .locked then s.setTgt t { x with asleep := false } else s.startPll .hazel 1
  else s

def execCoreWake (t : Target) (s : State) : Host.Outcome State Fault Refusal :=
  run (fun s => s.wakeCore t) s

end Sys2Proof.Machine
end

