-- ==== Sys2Proof/Machine/Timing.lean ====
section
/-! DEFINITION. PTP time (13 R713 to R716): PTP_CTRL, the target, the time pins, and PTP loss. -/

namespace Sys2Proof.Machine

def State.setPtp (s : State) (p : Ptp) : State := { s with ptp := p }

/-- Hazel-B reaches the PTP block (R716). -/
def State.ptpUp (s : State) : Bool := s.mainOn && s.hazelUp

/-- RUN, and RDY_MAP bit 21, which follows it (R716). -/
def State.ptpRun (s : State) (b : Bool) : State :=
  let t := s.setPtp { s.ptp with run := b }
  if b then t.setReady 21 else t.dropReady (rdyBit 21)

/-- STEP adds the step values to the time in one cycle (R716). -/
def Ptp.stepped (p : Ptp) : Ptp :=
  let t : Int := p.sec * 1000000000 + p.ns + toSigned 32 p.stepSec * 1000000000 + toSigned 32 p.stepNs
  let u := (t % ((2 ^ 48 * 1000000000 : Nat) : Int)).toNat
  { p with sec := u / 1000000000, ns := u % 1000000000 }

/-- LOSS_SET: Hazel-B declares PTP loss, and a VTC that follows PTP enters holdover (R713; 02 R100). -/
def State.ptpLossSet (s : State) : State :=
  let t := s.setPtp { s.ptp with loss := true }
  if t.vtc.srcSel = 16 ∧ !s.ptp.loss then t.vtcLoss else t

/-- A write of PTP_CTRL: each bit that is 1 acts, the lowest first (R716). -/
def State.ptpCtrl (s : State) (v : Nat) : State :=
  let t := if bitAt v 0 then s.ptpRun true else s
  let t := if bitAt v 1 then t.ptpRun false else t
  let t := if bitAt v 2 then t.setPtp t.ptp.stepped else t
  let t := if bitAt v 3 then t.ptpLossSet else t
  let t := if bitAt v 4 then t.setPtp { t.ptp with loss := false } else t
  let t := if bitAt v 5 then t.setPtp { t.ptp with locked := true } else t
  if bitAt v 6 then t.setPtp { t.ptp with locked := false } else t

/-- A write of PTP_CTRL by Hazel-B. -/
def State.ptpDo (s : State) (v : Nat) : State := if s.ptpUp then s.ptpCtrl v else s

def execRunSet (s : State) : Host.Outcome State Fault Refusal := run (fun s => s.ptpDo 1) s
def execRunClr (s : State) : Host.Outcome State Fault Refusal := run (fun s => s.ptpDo 2) s
def execStep (s : State) : Host.Outcome State Fault Refusal := run (fun s => s.ptpDo 4) s
def execLossSet (s : State) : Host.Outcome State Fault Refusal := run (fun s => s.ptpDo 8) s
def execLossClr (s : State) : Host.Outcome State Fault Refusal := run (fun s => s.ptpDo 16) s
def execLockSet (s : State) : Host.Outcome State Fault Refusal := run (fun s => s.ptpDo 32) s
def execLockClr (s : State) : Host.Outcome State Fault Refusal := run (fun s => s.ptpDo 64) s

/-- Hazel-B's servo declares loss (R713). -/
def execPtpLoss (s : State) : Host.Outcome State Fault Refusal :=
  run (fun s => if s.ptpUp then s.ptpLossSet else s) s

/-- The time has reached the armed target (R716). -/
def Ptp.atTarget (p : Ptp) : Bool :=
  p.armed && decide (p.targetSec * 1000000000 + p.targetNs ≤ p.sec * 1000000000 + p.ns)

def execPtpTarget (s : State) : Host.Outcome State Fault Refusal :=
  run (fun s => if s.ptp.atTarget then (s.setPtp { s.ptp with armed := false }).edge 85 else s) s

/-- The selected edge of PPS_IN is stamped (R714). -/
def execPpsIn (s : State) : Host.Outcome State Fault Refusal :=
  run (fun s =>
    if s.mainOn then (s.setPtp { s.ptp with ppsNs := s.ptp.ns, ppsSec := s.ptp.sec }).edge 86 else s) s

/-- The selected edge of FSYNC_IN is stamped (R714). -/
def execFsyncIn (s : State) : Host.Outcome State Fault Refusal :=
  run (fun s =>
    if s.mainOn then (s.setPtp { s.ptp with fsyncNs := s.ptp.ns, fsyncSec := s.ptp.sec }).edge 87 else s) s

/-- PINS of the PTP block in force (R712). -/
def Ptp.pin (p : Ptp) (i : Nat) : Bool := bitAt (blkByte p.block 0x13) i

/-- PPS_OUT while the time runs and the pin is enabled; it is low otherwise (R714). -/
def execPpsOut (rising : Bool) (s : State) : Host.Outcome State Fault Refusal :=
  run (fun s => s.setPtp { s.ptp with ppsOut := rising && s.ptp.run && s.ptp.pin 0 }) s

/-- FSYNC_OUT while the VTC runs and the pin is enabled (R714). -/
def execFsyncOut (rising : Bool) (s : State) : Host.Outcome State Fault Refusal :=
  run (fun s => s.setPtp { s.ptp with fsyncOut := rising && s.ready 20 && s.ptp.pin 1 }) s

end Sys2Proof.Machine
end

