-- ==== Sys2Proof/Machine/RegRead.lean ====
section
/-! DEFINITION. What each register reads as (18 and the owning chapters), and what a read does beside (00 R13, R18 to
R22; 05 R269, R294; 13 R715; 14 R769). Addresses are BAR0 offsets; local views have the same numbering. -/

namespace Sys2Proof.Machine

/-! ### Access paths (00 R18, R29) -/

/-- The latch of an access path. -/
def Path.idx : Path → Nat
  | .pcie => 0 | .hazelA | .hazelB => 1 | .pip => 2 | .smbus => 3

def Path.hazel : Path → Bool
  | .hazelA | .hazelB => true | _ => false

/-- The interrupt controller's view of a path (05 R287). -/
def Path.view : Path → Target
  | .hazelA => .hazelA | .hazelB => .hazelB | .pip => .pip | _ => .host

def State.latch (s : State) (p : Path) (a : Nat) : Nat := Table.get 0 s.latches (a * 8 + Path.idx p)
def State.setLatch (s : State) (p : Path) (a v : Nat) : State :=
  { s with latches := Table.set 0 s.latches (a * 8 + Path.idx p) v }

/-- Low or high 32 bits. -/
def half (high : Bool) (v : Nat) : Nat := if high then v / 2 ^ 32 % 2 ^ 32 else v % 2 ^ 32

/-! ### DEV (01 R50 to R55) -/

def State.devReg (s : State) (o : Nat) : Nat :=
  match o with
  | 0x00 => 0x76401F5C
  | 0x04 => Config.grade * 256 + Config.siliconRev
  | 0x08 => s.husk.rstCause.bits
  | 0x10 => half false s.rdy.toNat
  | 0x14 => half true s.rdy.toNat
  | 0x18 => half false s.fell.toNat
  | 0x1C => half true s.fell.toNat
  | _ => 0

/-! ### HSK (02 R115 to R123) -/

def powerCode : Power → Nat
  | .held | .dormant => 0 | .idle => 1 | .awake => 2 | .mainOn => 3

/-- HSK_ALARM's remaining ticks (R121). -/
def State.alarmLeft (s : State) : Nat := s.husk.alarm - (s.now - s.husk.alarmAt) * 64 / 1953125

def State.hskReg (s : State) (o : Nat) : Nat :=
  let h := s.husk
  match o with
  | 0x00 => powerCode h.power + 4 * b2n h.pipRun + 16 * b2n h.slowSrc + 32 * b2n h.xtFail + 2 ^ 8 * b2n h.enMain
      + 2 ^ 9 * b2n h.enSrd + 2 ^ 10 * b2n h.enDram + 2 ^ 12 * b2n h.pgMain + 2 ^ 13 * b2n h.pgSrd + 2 ^ 14 * b2n h.pgDram
      + 2 ^ 16 * b2n h.hpEn + 2 ^ 17 * b2n h.wakeIn
  | 0x08 => h.cfg
  | 0x0C => h.xoSettle
  | 0x10 => h.pgTimeout
  | 0x14 => h.wakeCause.toNat
  | 0x18 => s.alarmLeft
  | 0x1C => b2n h.xoOn + 2 * b2n h.settled + 4 * b2n h.monOk + 16 * h.earlyCount + 256 * b2n h.xoFail
  | 0x20 => h.railFault.toNat
  | _ => 0

/-! ### PAC (03 R175 to R189) -/

/-- The charges that PAC_CHARGE_SEL selects (R185). -/
def State.selected (s : State) : Amps :=
  match pacAll.find? fun e => e.1 == s.pac.chargeSel % 256 && e.2.1 == s.pac.chargeSel / 256 with
  | some e => s.bankM.charges4 e.1 e.2.1 e.2.2
  | none => {}

/-- PAC_STATUS (R182). -/
def State.pacStatus (s : State) : Nat :=
  let p := s.pac
  b2n p.clamped + 2 * b2n p.warn + 4 * b2n (!s.pacUse.le p.effective) + 2 ^ 8 * p.queue.length
    + 2 ^ 16 * (match pacHead p.queue with | some q => q.cls | none => 3) + 2 ^ 20 * b2n (decide (s.now < p.slotEnd))

def State.pacReg (s : State) (o : Nat) : Nat :=
  let p := s.pac
  if !s.ready 3 then 0
  else match o with
    | 0x00 => pair16 p.timeout p.slot
    | 0x08 => p.warnC + 256 * p.throttlePct + 2 ^ 16 * ofSigned 8 p.tj + 2 ^ 24 * b2n p.warn
    | 0x10 => pair16 p.step.core p.budget.core
    | 0x14 => pair16 p.step.sram p.budget.sram
    | 0x18 => pair16 p.step.serdes p.budget.serdes
    | 0x1C => pair16 p.step.dram p.budget.dram
    | 0x20 => pair16 p.safeStep.core p.safe.core
    | 0x24 => pair16 p.safeStep.sram p.safe.sram
    | 0x28 => pair16 p.safeStep.serdes p.safe.serdes
    | 0x2C => pair16 p.safeStep.dram p.safe.dram
    | 0x30 => s.pacStatus
    | 0x40 => pair16 p.effective.core s.pacUse.core
    | 0x44 => pair16 p.effective.sram s.pacUse.sram
    | 0x48 => pair16 p.effective.serdes s.pacUse.serdes
    | 0x4C => pair16 p.effective.dram s.pacUse.dram
    | 0x50 => p.chargeSel
    | 0x54 => pair16 s.selected.sram s.selected.core
    | 0x58 => pair16 s.selected.dram s.selected.serdes
    | 0x60 => p.lastDeny
    | 0x64 => pair16 p.denyTimeout p.denyFit
    | 0x68 => p.grants
    | 0x6C => p.waitMax
    | _ => 0

/-- The PAC with the RC register at `o` cleared (R187 to R189). -/
def Pac.clearRc (p : Pac) (o : Nat) : Pac :=
  match o with
  | 0x64 => { p with denyTimeout := 0, denyFit := 0 }
  | 0x68 => { p with grants := 0 }
  | 0x6C => { p with waitMax := 0 }
  | _ => p

/-! ### FLT (15 R814 to R826) -/

/-- A word of a log entry (R804). -/
def LogEntry.word (e : LogEntry) (w : Nat) : Nat :=
  match w with
  | 0 => e.time % 2 ^ 32
  | 1 => e.time / 2 ^ 32 % 2 ^ 16 + e.kind * 2 ^ 16 + (e.source + 128 * b2n e.slow) * 2 ^ 24
  | 2 => e.cnt + e.mask * 2 ^ 16
  | _ => e.detail

/-- A word of a persistent entry (R808). -/
def PEntry.word (e : PEntry) (w : Nat) : Nat :=
  match w with
  | 0 => e.seq % 2 ^ 32
  | 1 => e.epoch + e.kind * 2 ^ 16 + e.source * 2 ^ 24
  | 2 => e.time % 2 ^ 32
  | 3 => e.time / 2 ^ 32 % 2 ^ 31 + 2 ^ 31 * b2n e.slowTime
  | 4 => e.detail
  | 5 => e.cnt + e.cause * 2 ^ 16 + ofSigned 8 e.tj * 2 ^ 24
  | _ => 0

/-- The persistent entry at an index of the ring; an index never written reads 0 (12 R630). -/
def BankM.plogAt (b : BankM) (i : Nat) : Option PEntry := b.ring.find? fun e => e.seq % 2048 == i

/-- Bits of open records, 32 sources from `i`. -/
def State.activeWord (s : State) (i : Nat) : Nat :=
  foldRange (fun j x => x + b2n (s.fltSrc (32 * i + j)).open_ * 2 ^ j) 32 0

/-- FLT_STATUS (R815). -/
def State.fltStatus (s : State) : Nat :=
  let f := s.flt
  b2n (f.src.any fun e => e.2.open_) + 2 * b2n s.errLow + 4 * b2n f.wrapped + 8 * b2n f.logInvalid + 16 * b2n f.errForced
    + 2 ^ 8 * f.lr.length + 2 ^ 16 * b2n f.degradedA + 2 ^ 17 * b2n f.degradedB + 2 ^ 18 * b2n (s.fltSrc 0).standing

/-- The reaction masks of four sources (R823). -/
def State.reactWord (s : State) (i : Nat) : Nat :=
  foldRange (fun b x => x + (if fltReserved (4 * i + b) then 0 else s.reactMask (4 * i + b)) * 2 ^ (8 * b)) 4 0

/-- A register of the FLT block, by its offset; `main` while the main section runs (R814). -/
def State.fltReg (s : State) (o : Nat) : Nat :=
  let f := s.flt
  if o = 0 then s.fltStatus
  else if 0x20 ≤ o ∧ o < 0x30 then s.activeWord ((o - 0x20) / 4)
  else if !s.ready 15 then 0
  else if 0x40 ≤ o ∧ o < 0xC0 then s.reactWord ((o - 0x40) / 4)
  else if 0x100 ≤ o ∧ o < 0x180 then ((f.lr.getD ((o - 0x100) / 16) {}).word (o / 4 % 4))
  else if 0x1000 ≤ o ∧ o < 0x2000 then ((Table.get {} f.log ((o - 0x1000) / 16)).word (o / 4 % 4))
  else match o with
    | 0x04 => f.quiet.vote
    | 0x0C => f.nmiSource + 2 ^ 31 * b2n f.nmiValid
    | 0x10 => pair16 f.overwritten f.lrLost
    | 0x14 => pair16 f.proofB f.proofA
    | 0x18 => f.head
    | 0xC4 => pair16 (s.bankM.plogSeq % 2048) f.suppressed
    | _ => 0

/-- The collector with the RC fields at `o` cleared (R819, R820, R824). -/
def Flt.clearRc (f : Flt) (o : Nat) : Flt :=
  match o with
  | 0x10 => { f with overwritten := 0, lrLost := 0 }
  | 0x14 => { f with proofA := 0, proofB := 0 }
  | 0xC4 => { f with suppressed := 0 }
  | _ => f

/-! ### ICU (05 R306 to R314) -/

/-- 32 bits of a 256-bit set. -/
def word256 (v : BitVec 256) (i : Nat) : Nat := v.toNat / 2 ^ (32 * i) % 2 ^ 32

def State.icuReg (s : State) (t : Target) (o : Nat) : Nat :=
  let u := s.icu
  let x := icuTgt u t
  if !s.ready 14 then 0
  else if o < 0x20 then word256 (u.pending x) (o / 4)
  else if o < 0x40 then word256 x.en (o / 4 - 8)
  else if 0x100 ≤ o ∧ o < 0x200 then
    foldRange (fun b y => y + u.prio (4 * ((o - 0x100) / 4) + b) * 2 ^ (8 * b)) 4 0
  else if 0x400 ≤ o ∧ o < 0x500 then
    (if t = .host then foldRange (fun b y => y + u.vector (4 * ((o - 0x400) / 4) + b) * 2 ^ (8 * b)) 4 0 else 0)
  else match o with
    | 0x40 => x.thresh
    | 0x48 => pair16 x.spurious x.badComplete
    | 0x4C => if t = .host then 0 else b2n x.sleepAborted
    | _ => 0

/-! ### DMA (12 R666) -/

def dmaCode : DmaMode → Nat
  | .idle => 0 | .running => 1 | .error => 2

def State.dmaReg (s : State) (n o : Nat) : Nat :=
  let d := s.chan n
  match o with
  | 0x00 => half false d.src
  | 0x04 => half true d.src
  | 0x08 => half false d.dst
  | 0x0C => half true d.dst
  | 0x10 => d.count
  | 0x14 => d.cfg
  | 0x18 => half false d.desc
  | 0x1C => half true d.desc
  | 0x24 => dmaCode d.mode + 16 * d.err + 2 ^ 16 * d.descIdx
  | 0x28 => d.done
  | 0x30 => half false d.errAddr
  | 0x34 => half true d.errAddr
  | _ => 0

/-! ### FAB (12 R635, R657 to R665) -/

/-- Reset values of a port: TARGET_NS, BASE_PRIO, OT_LIMIT (R635). -/
def fabReset (p : Nat) : Nat × Nat × Nat :=
  if p < 4 then (2000, 2, 128) else if p = 4 then (4000, 1, 64) else if p = 5 then (1000, 3, 64)
  else if p = 6 then (500, 4, 16) else if p = 7 then (0, 0, 1) else if p < 12 then (0, 7, 64) else (0, 7, 32)

def stackCode : StackMode → Nat
  | .off => 0 | .training => 1 | .awake => 2 | .entering => 3 | .selfRefresh => 4 | .leaving => 5 | .selfTest => 6

/-- A word that holds an address and VALID (R661, R664). -/
def validWord (high valid : Bool) (a : Nat) : Nat := half high a + (if high then 2 ^ 31 * b2n valid else 0)

/-- The permille of a pass (R663). -/
def Scrub.permille (k : Scrub) : Nat := (k.pos0 + k.pos1 + k.posL) * 1000 / (2 * 2 ^ 25 + 2 ^ 18)

def State.fabReg (s : State) (o : Nat) : Nat :=
  if 0x100 ≤ o ∧ o < 0x200 then
    let p := (o - 0x100) / 0x10
    let r := fabReset p
    let x := s.port16 p
    match o % 0x10 with
    | 0 => x.target.getD r.1 * 2 ^ 16 + x.prio.getD r.2.1 * 2 ^ 12 + x.otLimit.getD r.2.2
    | 4 => x.prio.getD r.2.1 * 2 ^ 12
    | _ => 0
  else if 0x400 ≤ o ∧ o < 0x480 then
    let k := s.stack ((o - 0x400) / 0x40)
    match o % 0x40 with
    | 0 => k.srIdle * 2 ^ 16 + b2n k.pinFw
    | 4 => stackCode k.mode + 2 ^ 13 * b2n k.pinned + 2 ^ 14 * b2n k.hot + 2 ^ 15 * b2n k.initDone + 2 ^ 16 * k.pinRt
    | 8 => validWord false k.ueValid k.ueAddr
    | 0xC => validWord true k.ueValid k.ueAddr
    | _ => 0
  else if 0x540 ≤ o ∧ o < 0x580 then
    let e := Table.get (false, 0) s.scrub.log ((o - 0x540) / 8)
    validWord (o % 8 == 4) e.1 e.2
  else match o with
    | 0x500 => s.scrub.passHours + 2 ^ 16 * b2n s.scrub.enable
    | 0x504 => s.scrub.permille + 2 ^ 16 * b2n (s.scrub.behind0 || s.scrub.behind1)
    | 0x600 => validWord false s.lfs.ueValid s.lfs.ueAddr
    | 0x604 => validWord true s.lfs.ueValid s.lfs.ueAddr
    | 0x700 => foldRange (fun r x => x + b2n (decide (wearLimit r ≤ Table.get 0 s.mram.wear r)) * 2 ^ r) 10 0
    | _ => 0

/-! ### PTP (13 R716) and VTC (02 R125 to R128) -/

/-- The nanoseconds words: their value, and the seconds that a read of each latches (R715). -/
def Ptp.nsWord (p : Ptp) (o : Nat) : Option (Nat × Nat) :=
  match o with
  | 0x00 => some (p.ns, p.sec)
  | 0x30 => some (p.ppsNs, p.ppsSec)
  | 0x40 => some (p.fsyncNs, p.fsyncSec)
  | _ => none

/-- A word of the timestamp at the head of the FIFO. -/
def Stamp.word (t : Stamp) (w : Nat) : Nat :=
  match w with
  | 0 => t.ns
  | 1 => t.sec % 2 ^ 32
  | 2 => t.sec / 2 ^ 32 % 2 ^ 16
  | _ => t.port % 16 + 16 * b2n t.tx + t.msg % 16 * 2 ^ 8 + t.seqId % 2 ^ 16 * 2 ^ 16

def State.ptpReg (s : State) (p : Path) (o : Nat) : Nat :=
  let t := s.ptp
  let sec (base : Nat) (high : Bool) := half high (s.latch p (0x80000 + base))
  match o with
  | 0x04 => sec 0 false
  | 0x08 => sec 0 true
  | 0x10 => t.stepNs
  | 0x14 => t.stepSec
  | 0x18 => t.freq
  | 0x20 => t.targetNs
  | 0x24 => t.targetSec % 2 ^ 32
  | 0x28 => t.targetSec / 2 ^ 32 % 2 ^ 16 + 2 ^ 31 * b2n t.armed
  | 0x34 => sec 0x30 false
  | 0x38 => sec 0x30 true
  | 0x44 => sec 0x40 false
  | 0x48 => sec 0x40 true
  | 0x50 => b2n t.run + 2 * b2n t.locked + 4 * b2n t.loss + 2 ^ 8 * t.fifo.length
  | 0x60 | 0x64 | 0x68 | 0x6C =>
    if Path.hazel p then (match t.fifo with | x :: _ => x.word ((o - 0x60) / 4) | [] => 0) else 0
  | _ => 0

def vtcCode : VtcMode → Nat
  | .acquiring => 0 | .locked => 1 | .holdover => 2 | .freeRun => 3

def State.vtcReg (s : State) (o : Nat) : Nat :=
  let v := s.vtc
  match o with
  | 0x00 => v.srcSel + 2 ^ 8 * b2n v.family + 2 ^ 9 * b2n v.revert + 2 ^ 10 * b2n v.reacqMode
  | 0x04 => v.holdLimit
  | 0x08 => vtcCode v.mode + 2 ^ 8 * v.activeSrc + 2 ^ 16 * b2n s.vtcPresent
  | 0x0C => pair16 v.freeRuns v.losses
  | _ => 0

/-! ### The MSI-X table and PBA (04 R231) -/

def State.msixReg (s : State) (o : Nat) : Nat :=
  let e := Table.get {} s.pcie.msix (o / 16)
  match o / 4 % 4 with
  | 0 => half false e.addr
  | 1 => half true e.addr
  | 2 => e.data
  | _ => b2n e.masked

/-! ### Read-only words of the counter window -/

/-- LANE_STATUSn (13 R717). -/
def State.laneStatus (s : State) (n : Nat) : Nat :=
  let l := s.lane n
  l.mode + 2 ^ 4 * b2n (s.ready (24 + n)) + 2 ^ 5 * b2n l.relocking + 2 ^ 6 * b2n l.localFault + 2 ^ 7 * b2n l.remoteFault
    + 2 ^ 8 * b2n l.trs + 2 ^ 16 * ofSigned 16 l.freqOffset

def flowCode : FlowMode → Nat
  | .unused => 0 | .active => 1 | .idle => 2 | .removing => 3

/-- Bytes that an egress flow's queue holds. -/
def Flow.fill (f : Flow) : Nat := (f.queue.map List.length).sum

/-- FLOW_STATUS (14 R766). -/
def State.flowStatus (s : State) (i : Nat) : Nat :=
  let f := s.flow i
  flowCode f.mode + 4 * b2n f.egress + 16 * f.port + 2 ^ 8 * blkByte f.block 0
    + 2 ^ 16 * ((if f.egress then f.fill / 1024 else f.learned) % 2 ^ 16)

/-- The reserved rate of a port in bit/s (14 R761). -/
def State.portReserved (s : State) (p : Nat) : Nat :=
  s.flows.foldl (fun (x : Nat) (e : Nat × Flow) => if e.2.mode != .unused && e.2.egress && e.2.port == p then x + e.2.reserved else x) 0

/-- The age of an entry in ms (14 R737, R768). -/
def State.entryAge (s : State) (e : Entry) : Nat := min ((s.now - e.hitAt) / 1000000) 65535

/-- A read-only word of a flow-table entry's view (14 R768). -/
def State.entryWord (s : State) (i o : Nat) : Nat :=
  let e := s.entry i
  if !e.valid then 0
  else match o with
    | 0x00 => s.entryAge e + e.flow * 2 ^ 16 + 2 ^ 28 * b2n e.ipv6 + 2 ^ 29 * b2n e.idle + 2 ^ 30 * b2n e.learned + 2 ^ 31
    | 0x04 => e.srcPort
    | 0x08 => e.ssrc
    | _ => if 0x10 ≤ o then e.srcAddr / 2 ^ (8 * (o - 0x10)) % 2 ^ 32 else 0

/-- A word of the counter window that is neither a counter nor an event FIFO. -/
def State.windowWord (s : State) (a : Nat) : Nat :=
  if 0x110000 ≤ a ∧ a < 0x110400 then (if a % 0x40 = 0x38 then s.laneStatus ((a - 0x110000) / 0x40) else 0)
  else if 0x114000 ≤ a ∧ a < 0x114100 then (if a % 0x10 = 0xC then s.portReserved ((a - 0x114000) / 0x10) / 1000 else 0)
  else if 0x120000 ≤ a ∧ a < 0x130000 then (if a % 0x40 = 0x24 then s.flowStatus ((a - 0x120000) / 0x40) else 0)
  else if 0x140000 ≤ a ∧ a < 0x140204 then 0
  else if 0x130000 ≤ a ∧ a < 0x150000 then s.entryWord ((a - 0x130000) / 0x20) (a % 0x20)
  else 0

/-! ### Mailboxes (05 R281 to R285) -/

/-- The mailbox whose words hold address `a`, on a path that has its view. -/
def mbxAt (p : Path) (a : Nat) : Option Nat :=
  if 0x10000 ≤ a ∧ a < 0x10200 then some ((a - 0x10000) / 16)
  else if 0x10300 ≤ a ∧ a < 0x10320 ∧ p ≠ .pcie then some (32 + (a - 0x10300) / 16)
  else none

/-- The path receives on the mailbox. -/
def mbxReceives (p : Path) (m : Nat) : Bool :=
  if m < 16 then Path.hazel p else if m < 32 then p == .pcie else if m = 32 then p == .pip else Path.hazel p

/-- The path sends on the mailbox. -/
def mbxSends (p : Path) (m : Nat) : Bool :=
  if m < 16 then p == .pcie else if m < 32 then Path.hazel p else if m = 32 then Path.hazel p else p == .pip

def State.mbxReg (s : State) (m o : Nat) : Nat :=
  let b := s.box m
  match o with
  | 0x0 => b.lo
  | 0x4 => b.hi
  | 0x8 => b.status
  | _ => pair16 b.overruns b.discards

/-! ### A 32-bit read -/

/-- The event FIFO at an address (14 R769). -/
def eventAt (a : Nat) : Option Nat :=
  if a = 0x150000 then some 0 else if a = 0x150004 then some 1 else if a = 0x150008 then some 2 else none

/-- The entry at the head of an event FIFO is read and removed (14 R769). -/
def State.popEvent (s : State) (i : Nat) : Nat × State :=
  let e := Table.get {} s.events i
  match e.q with
  | [] => (0, s)
  | x :: q => (x, { s with events := Table.set {} s.events i { e with q := q } })

/-- A 32-bit read of a counter word: the low half of a wide one latches its high half (00 R18, R21, R22). -/
def State.counterRead (s : State) (p : Path) (a : Nat) (c : Counter) : Nat × State :=
  let t := if c.rc then c.zero else s
  if c.wide then (half false c.val, t.setLatch p a (c.val / 2 ^ 32)) else (c.val % 2 ^ 32, t)

/-- A 32-bit read of the counter window. -/
def State.windowRead (s : State) (p : Path) (a : Nat) : Nat × State :=
  match eventAt a, s.counterAt a with
  | some i, _ => s.popEvent i
  | none, some c => s.counterRead p a c
  | none, none =>
    match (if a % 8 = 4 then s.counterAt (a - 4) else none) with
    | some c => if c.wide then (s.latch p (a - 4), s) else (s.windowWord a, s)
    | none => (s.windowWord a, s)

/-- A 32-bit read of a view numbered as BAR0; the path can reach it. -/
def State.regRead (s : State) (p : Path) (a : Nat) : Nat × State :=
  if a < 0x10000 then (if p = .smbus then 0 else s.devReg a, s)
  else if 0x100000 ≤ a ∧ a < 0x200000 then s.windowRead p a
  else match mbxAt p a with
    | some m =>
      if a % 16 = 4 ∧ mbxReceives p m then ((s.box m).hi, s.takeHi m) else (s.mbxReg m (a % 16), s)
    | none =>
      if a = 0x10200 then (s.fullMap, s)
      else if a = 0x10204 then (s.rstCnt, s)
      else if 0x20000 ≤ a ∧ a < 0x20800 then
        let o := a - 0x20000
        let v := Path.view p
        if !s.ready 14 then (0, s)
        else if o = 0x48 then (s.icuReg v o, s.setTgt v { s.tgt v with spurious := 0, badComplete := 0 })
        else if 0x600 ≤ o ∧ o < 0x700 ∧ (v = .host ∨ o = 0x600) then s.claim v ((o - 0x600) / 4)
        else (s.icuReg v o, s)
      else if 0x30000 ≤ a ∧ a < 0x32000 then
        (s.fltReg (a - 0x30000), if p = .pip then { s with flt := s.flt.clearRc (a - 0x30000) } else s)
      else if 0x40000 ≤ a ∧ a < 0x40400 then (s.dmaReg ((a - 0x40000) / 0x40) (a % 0x40), s)
      else if 0x50000 ≤ a ∧ a < 0x50070 then
        (s.pacReg (a - 0x50000), if p = .pip ∧ s.ready 3 then { s with pac := s.pac.clearRc (a - 0x50000) } else s)
      else if 0x60000 ≤ a ∧ a < 0x60800 then (s.fabReg (a - 0x60000), s)
      else if 0x80000 ≤ a ∧ a < 0x80070 then
        match s.ptp.nsWord (a - 0x80000) with
        | some w => (w.1, s.setLatch p a w.2)
        | none =>
          (s.ptpReg p (a - 0x80000),
           if a = 0x8006C ∧ Path.hazel p then s.setPtp { s.ptp with fifo := s.ptp.fifo.drop 1 } else s)
      else if 0x90000 ≤ a ∧ a < 0x90010 then
        (s.vtcReg (a - 0x90000), if a = 0x9000C then { s with vtc := { s.vtc with freeRuns := 0, losses := 0 } } else s)
      else if 0xA0000 ≤ a ∧ a < 0xA0024 then (s.hskReg (a - 0xA0000), s)
      else if 0xF0000 ≤ a ∧ a < 0xF0400 ∧ p = .pcie then (s.msixReg (a - 0xF0000), s)
      else if a = 0xF0800 ∧ p = .pcie then (half false s.pcie.pba.toNat, s)
      else if a = 0xF0804 ∧ p = .pcie then (half true s.pcie.pba.toNat, s)
      else (0, s)

/-! ### The SMBus view (17 R884, R885; 18) -/

/-- The BAR0 address that an SMBus register mirrors. -/
def smbusMirror (a : Nat) : Option Nat :=
  if a = 0 ∨ a = 4 ∨ a = 8 ∨ a = 0x10 ∨ a = 0x14 then some a
  else if 0x100 ≤ a ∧ a < 0x124 then some (0xA0000 + (a - 0x100))
  else if 0x200 ≤ a ∧ a < 0x270 then some (0x50000 + (a - 0x200))
  else if 0x400 ≤ a ∧ a < 0x4C8 then some (0x30000 + (a - 0x400))
  else if 0x500 ≤ a ∧ a < 0x580 then some (0x30100 + (a - 0x500))
  else if 0x600 ≤ a ∧ a < 0x804 then some (0x140000 + (a - 0x600))
  else none

/-- FLT_PLOG_DATA (15 R825). -/
def State.plogData (s : State) : Nat :=
  match s.bankM.plogAt (s.flt.plogSel % 2048) with
  | some e => e.word (s.flt.plogSel / 2 ^ 12 % 8)
  | none => 0

/-- A register that stands on the SMBus only. -/
def State.boardReg (s : State) (a : Nat) : Nat :=
  let b := s.board
  match a with
  | 0x4D0 => s.flt.plogSel
  | 0x4D4 => s.plogData
  | 0xA00 => b2n b.pecFail + 2 * b2n b.cfgDone + 4 * b2n b.cfgError + 8 * b2n b.jtagEvent
  | 0xA04 => pair16 b.pecCount b.abandoned
  | 0xB04 => b.cfgItem
  | 0xB08 => b.cfgData
  | 0xB10 => b2n b.cfgOpen + 2 * b2n b.cfgBusy + 4 * b2n b.cfgErr + 2 ^ 8 * b.cfgCode + 2 ^ 16 * b.staged.length
  | 0xC00 => half false b.nonce.toNat
  | 0xC04 => half true b.nonce.toNat
  | 0xC08 => b2n b.unlocked + 2 * b.scopes + 2 ^ 4 * b2n b.jtagBusy + 2 ^ 8 * b.jtagReason
  | _ => 0

/-- A read over the SMBus, which has the accesses of the tables. -/
def State.smbusRead32 (s : State) (a : Nat) : Nat × State :=
  match smbusMirror a with
  | some b =>
    if 0x140000 ≤ b then s.windowRead .smbus b
    else if 0x50000 ≤ b ∧ b < 0x50070 then (s.pacReg (b - 0x50000), if s.ready 3 then { s with pac := s.pac.clearRc (b - 0x50000) } else s)
    else if 0xA0000 ≤ b then (s.hskReg (b - 0xA0000), s)
    else if 0x30000 ≤ b then (s.fltReg (b - 0x30000), { s with flt := s.flt.clearRc (b - 0x30000) })
    else (s.devReg b, s)
  | none => (s.boardReg a, if a = 0xA04 then s.setBoard { s.board with pecCount := 0, abandoned := 0 } else s)

/-! ### Which path can read now -/

/-- The addresses that a path's view holds: the host and Hazel reach the whole BAR0 numbering, Pip the blocks beside it
(04 R214; 03 R174; 15 R814; 05 R275). -/
def pathReaches (p : Path) (a : Nat) : Bool :=
  match p with
  | .pcie => true
  | .hazelA | .hazelB => !(0x50000 ≤ a && a < 0x60000) && !(0xA0000 ≤ a && a < 0x100000)
  | .pip => a < 0x10000 || (0x10300 ≤ a && a < 0x10320) || (0x20000 ≤ a && a < 0x32000) || (0x50000 ≤ a && a < 0x60000)
      || (0xA0000 ≤ a && a < 0xA0024) || (0x140000 ≤ a && a < 0x140204)
  | .smbus => true

/-- An access of the path is served. -/
def State.pathUp (s : State) (p : Path) : Bool :=
  match p with
  | .pcie => s.hostUp
  | .hazelA | .hazelB => s.mainOn && s.hazelUp
  | .pip => s.huskUp && s.husk.pipRun
  | .smbus => s.huskUp

/-- A read of 32 bits through a path. -/
def State.read32 (s : State) (p : Path) (a : Nat) : Nat × State :=
  if p = .smbus then s.smbusRead32 a else if pathReaches p a then s.regRead p a else (0, s)

/-- A 32-bit read as the path's agent makes it, with its answer (00 R13; 04 R247). -/
def State.readReg (s : State) (p : Path) (a : Nat) : State :=
  if s.pathUp p then
    let r := s.read32 p a
    { r.2 with answer := .data (BitVec.ofNat 64 r.1) }
  else if p = .pcie then s.rejectRead
  else s

/-- Two 32-bit reads, the lower first. -/
def State.readPair (s : State) (p : Path) (a : Nat) : Nat × State :=
  ((s.read32 p a).1 + ((s.read32 p a).2.read32 p (a + 4)).1 * 2 ^ 32, ((s.read32 p a).2.read32 p (a + 4)).2)

/-- The 64-bit counter that a 64-bit read at `a` meets. -/
def State.wideAt (s : State) (a : Nat) : Option Counter :=
  if 0x100000 ≤ a ∧ a < 0x200000 then (s.counterAt a).filter fun c => c.wide else none

/-- A 64-bit read: both halves of a 64-bit counter in one cycle, with the latch loaded; a 64-bit mailbox read takes the
value; anything else is two 32-bit reads, the lower first (00 R20, R54; 04 R213; 05 R269). -/
def State.read64 (s : State) (p : Path) (a : Nat) : Nat × State :=
  match s.wideAt a with
  | some c => (c.val, (if c.rc then c.zero else s).setLatch p a (c.val / 2 ^ 32))
  | none => s.readPair p a

/-- The SMBus has no 64-bit read (17 R885). -/
def State.readReg64 (s : State) (p : Path) (a : Nat) : State :=
  if p = .smbus then s
  else if s.pathUp p then
    let r := if pathReaches p a then s.read64 p a else (0, s)
    { r.2 with answer := .data (BitVec.ofNat 64 r.1) }
  else if p = .pcie then s.rejectRead
  else s

def execRcRead (p : Path) (addr : Nat) (s : State) : Host.Outcome State Fault Refusal := run (fun s => s.readReg p addr) s

def execCounterLowHalfRead (p : Path) (addr : Nat) (s : State) : Host.Outcome State Fault Refusal :=
  run (fun s => s.readReg p addr) s

def execCounterHighHalfRead (p : Path) (addr : Nat) (s : State) : Host.Outcome State Fault Refusal :=
  run (fun s => s.readReg p addr) s

def execCounter64Read (p : Path) (addr : Nat) (s : State) : Host.Outcome State Fault Refusal :=
  run (fun s => s.readReg64 p addr) s

def execPtpNsRead (p : Path) (addr : Nat) (s : State) : Host.Outcome State Fault Refusal :=
  run (fun s => s.readReg p addr) s

/-- Hazel-B reads word 3 of the timestamp FIFO (13 R716). -/
def execPtpTsFifoPop (s : State) : Host.Outcome State Fault Refusal := run (fun s => s.readReg .hazelB 0x8006C) s

/-- The host reads an event FIFO (14 R769). -/
def execEventFifoRead (i : Fin 3) (s : State) : Host.Outcome State Fault Refusal :=
  run (fun s => s.readReg .pcie (0x150000 + 4 * i.val)) s

end Sys2Proof.Machine
end

