-- ==== Sys2Proof/Machine/RegWrite.lean ====
section
/-! DEFINITION. Register writes by access path (00 R9, R12, R14; 02 R113, R116 to R124; 03 R174 to R184; 04 R214, R231;
05 R267, R283, R303 to R314; 12 R656 to R667; 13 R716; 15 R814 to R825), and the SMBus, configuration and JTAG
commands (17 R883 to R912). -/

namespace Sys2Proof.Machine

/-! ### HSK (02 R115 to R123), on the Pip and SMBus paths -/

def State.setHusk (s : State) (h : Husk) : State := { s with husk := h }

/-- The field keeps its value when the written one is not legal. -/
def orKeep (ok : Bool) (v old : Nat) : Nat := if ok then v else old

def State.hskWrite (s : State) (o v : Nat) : State :=
  let h := s.husk
  match o with
  | 0x00 => if bitAt v 5 then s.setHusk { h with xtFail := false } else s
  | 0x04 => s.writeCtrl (BitVec.ofNat 3 v)
  | 0x08 => s.setHusk { h with cfg := v - (v &&& 0xE019) }
  | 0x0C => s.setHusk { h with xoSettle := orKeep (v % 65536 != 0) (v % 65536) h.xoSettle }
  | 0x10 => s.setHusk { h with pgTimeout := orKeep (v % 65536 != 0) (v % 65536) h.pgTimeout }
  | 0x14 => s.setHusk { h with wakeCause := h.wakeCause &&& ~~~(BitVec.ofNat 5 v) }
  | 0x18 => s.setHusk { h with alarm := v, alarmAt := s.now }
  | 0x1C => s.setHusk { h with earlyCount := v / 16 % 16, xoFail := h.xoFail && !bitAt v 8 }
  | 0x20 => s.setHusk { h with railFault := h.railFault &&& ~~~(BitVec.ofNat 7 v) }
  | _ => s

/-! ### PAC (03 R175 to R184), on the Pip and SMBus paths -/

def State.setPac (s : State) (p : Pac) : State := { s with pac := p }

def State.pacWrite (s : State) (o v : Nat) : State :=
  let p := s.pac
  if o = 4 then (if bitAt v 0 then s.clamp else s)
  else if !s.ready 3 then s
  else match o with
    | 0x00 => s.setPac { p with timeout := orKeep (v / 65536 != 0) (v / 65536) p.timeout
                                slot := orKeep (1 ≤ v % 1024 && v % 1024 ≤ 1000) (v % 1024) p.slot }
    | 0x08 => s.setPac { p with
        throttlePct := orKeep (25 ≤ bitsOf v 8 7 && bitsOf v 8 7 ≤ 100) (bitsOf v 8 7) p.throttlePct
        warnC := orKeep (60 ≤ v % 256 && v % 256 ≤ 115) (v % 256) p.warnC }
    | 0x10 => s.budgetWrite .vcore v
    | 0x14 => s.budgetWrite .vsram v
    | 0x18 => s.budgetWrite .vserdes v
    | 0x1C => s.budgetWrite .vdram v
    | 0x50 => s.setPac { p with chargeSel := v % 4096 }
    | _ => s

/-! ### FLT (15 R816 to R823) -/

/-- Four reaction masks; fixed and reserved ones are read-only (R823). -/
def State.reactWrite (s : State) (i v : Nat) : State :=
  foldRange (fun b t =>
    let src := 4 * i + b
    if fltReserved src || fltFixed src then t
    else { t with flt := { t.flt with react := Table.set ({} : Trip) t.flt.react src (Trip.of (bitsOf v (8 * b) 5)) } }) 4 s

/-- FLT_CTRL (R817): the lowest bit first, so ERR_FORCE_CLR wins. -/
def State.fltCtrl (s : State) (v : Nat) : State :=
  let t := if bitAt v 0 then s.logReinit else s
  let t := if bitAt v 1 then t.lrClear else t
  let t := if bitAt v 2 then t.errForce true else t
  if bitAt v 3 then t.errForce false else t

/-- FLT_ACTIVEi: each 1 clears a record (R787). -/
def State.activeWrite (s : State) (i v : Nat) : State :=
  foldRange (fun j t => if bitAt v j then t.closeClear (32 * i + j) else t) 32 s

/-- A write of the FLT block: `full` on the Pip and SMBus paths. -/
def State.fltWrite (s : State) (o v : Nat) (full : Bool) : State :=
  if 0x20 ≤ o ∧ o < 0x30 then s.activeWrite ((o - 0x20) / 4) v
  else if !full || !s.ready 15 then s
  else if 0x40 ≤ o ∧ o < 0xC0 then s.reactWrite ((o - 0x40) / 4) v
  else if o = 4 then (if v % 65536 = 0 then s else { s with flt := { s.flt with quiet := Trip.of (v % 65536) } })
  else if o = 8 then s.fltCtrl v
  else s

/-! ### ICU (05 R303 to R314) -/

/-- Bits of word `i` replaced, within `m`. -/
def putWord (x m : BitVec 256) (i v : Nat) : BitVec 256 :=
  let field := BitVec.ofNat 256 ((2 ^ 32 - 1) * 2 ^ (32 * i)) &&& m
  (x &&& ~~~field) ||| (BitVec.ofNat 256 (v % 2 ^ 32 * 2 ^ (32 * i)) &&& field)

/-- A set with source `i` in or out. -/
def putBit (x : BitVec 256) (i : Nat) (b : Bool) : BitVec 256 := if b then x ||| icuBit i else x &&& ~~~icuBit i

/-- Priorities of four sources; unassigned ones stay 0 (R313). -/
def Icu.prioWrite (u : Icu) (i v : Nat) : Icu :=
  foldRange (fun b u =>
    let src := 4 * i + b
    if icuAssigned.getLsbD src then
      { u with prio0 := putBit u.prio0 src (bitAt v (8 * b)), prio1 := putBit u.prio1 src (bitAt v (8 * b + 1))
               prio2 := putBit u.prio2 src (bitAt v (8 * b + 2)) }
    else u) 4 u

/-- Vectors of four sources (R314). -/
def Icu.vmapWrite (u : Icu) (i v : Nat) : Icu :=
  foldRange (fun b (u : Icu) =>
    let src := 4 * i + b
    let x := bitsOf v (8 * b) 6
    { u with vmap := Table.set 0 u.vmap src (if x = src % 64 then 0 else x + 1) }) 4 u

def State.icuWrite (s : State) (p : Path) (o v : Nat) : State :=
  let t := Path.view p
  let x := s.tgt t
  if !s.ready 14 then s
  else if o < 0x20 then s.writePend t (o / 4) v
  else if o < 0x40 then s.setTgt t { x with en := putWord x.en icuAssigned (o / 4 - 8) v }
  else if 0x100 ≤ o ∧ o < 0x200 then
    (if Path.hazel p then { s with icu := s.icu.prioWrite ((o - 0x100) / 4) v } else s)
  else if 0x400 ≤ o ∧ o < 0x500 then
    (if t = .host then { s with icu := s.icu.vmapWrite ((o - 0x400) / 4) v } else s)
  else match o with
    | 0x40 => s.setTgt t { x with thresh := v % 8 }
    | 0x44 => s.complete t (v % 256)
    | 0x4C => if t ≠ .host ∧ bitAt v 0 then s.setTgt t { x with sleepAborted := false } else s
    | 0x50 => if t = .host then s else s.swiSet v
    | _ => s

/-! ### DMA (12 R643, R644, R666, R676) -/

/-- DMA_CTRL: each action as the channel's state at the write allows it. -/
def State.dmaCtrl (s : State) (n v : Nat) : State :=
  match (s.chan n).mode with
  | .idle => if bitAt v 0 && !bitAt v 1 then s.dmaStart n else s
  | .running => if bitAt v 1 then s.dmaAbort n else s
  | .error => if bitAt v 2 then s.dmaClear n else s

/-- One half of a 64-bit register. -/
def putHalf (high : Bool) (old v : Nat) : Nat :=
  if high then v * 2 ^ 32 + old % 2 ^ 32 else old / 2 ^ 32 * 2 ^ 32 + v

/-- The channel's registers, ignored while it runs. -/
def Dma.write (d : Dma) (o v : Nat) : Dma :=
  if d.mode == .running then d
  else match o with
    | 0x00 => { d with src := putHalf false d.src v }
    | 0x04 => { d with src := putHalf true d.src v }
    | 0x08 => { d with dst := putHalf false d.dst v }
    | 0x0C => { d with dst := putHalf true d.dst v }
    | 0x10 => { d with count := v }
    | 0x14 => { d with cfg := v &&& 0x1F77 }
    | 0x18 => { d with desc := putHalf false d.desc v }
    | 0x1C => { d with desc := putHalf true d.desc v }
    | _ => d

def State.dmaWriteReg (s : State) (p : Path) (n o v : Nat) : State :=
  if s.ready 13 && (if n < 8 then p == .pcie else Path.hazel p) then
    (if o = 0x20 then s.dmaCtrl n v else s.setChan n ((s.chan n).write o v))
  else s

/-! ### FAB (12 R656 to R664) -/

/-- `none` while a field holds its reset value. -/
def optOf (reset v : Nat) : Option Nat := if v = reset then none else some v

/-- FAB_PORTp_CFG (R657): firmware writes ports 0 to 6, Hazel-B ports 8 to 15. -/
def FabPort.write (x : FabPort) (p v : Nat) (b : Bool) : FabPort :=
  let r := fabReset p
  let ot := v % 512
  let prio := bitsOf v 12 3
  let x := if 1 ≤ ot && ot ≤ 256 && (p < 7 || (8 ≤ p && b)) then { x with otLimit := optOf r.2.2 ot } else x
  if p < 7 then
    { x with target := optOf r.1 (v / 65536), prio := if prio = 7 then x.prio else optOf r.2.1 prio }
  else x

/-- The stack is pinned by firmware, and woken if it sleeps (R618, R670). -/
def State.pinFw (s : State) (n : Nat) (b : Bool) : State :=
  let t := s.setStack n { s.stack n with pinFw := b }
  if b && t.asleep n then t.wakeStack n 1 else t

/-- Clear VALID of an address register where the high word is written with bit 31 set. -/
def State.validWrite (s : State) (o v : Nat) : State :=
  if !bitAt v 31 then s
  else if o = 0x40C ∨ o = 0x44C then
    let n := (o - 0x400) / 0x40
    s.setStack n { s.stack n with ueValid := false }
  else if o = 0x604 then { s with lfs := { s.lfs with ueValid := false } }
  else if 0x540 ≤ o ∧ o < 0x580 ∧ o % 8 = 4 then
    let i := (o - 0x540) / 8
    let e := Table.get (false, 0) s.scrub.log i
    { s with scrub := { s.scrub with log := Table.set (false, 0) s.scrub.log i (false, e.2) } }
  else s

def State.fabWrite (s : State) (p : Path) (o v : Nat) : State :=
  let t := s.validWrite o v
  if !Path.hazel p then t
  else if 0x100 ≤ o ∧ o < 0x200 ∧ o % 0x10 = 0 then
    let n := (o - 0x100) / 0x10
    t.setPort16 n ((t.port16 n).write n v (p == .hazelB))
  else if o = 0x400 ∨ o = 0x440 then
    let n := (o - 0x400) / 0x40
    (t.setStack n { t.stack n with srIdle := v / 65536 }).pinFw n (bitAt v 0)
  else if o = 0x500 then
    let k := t.scrub
    { t with scrub := { k with enable := bitAt v 16
                               passHours := orKeep (1 ≤ v % 65536 && v % 65536 ≤ 168) (v % 65536) k.passHours } }
  else t

/-! ### PTP (13 R716) and VTC (02 R99, R125, R126), by Hazel-B -/

def State.ptpWrite (s : State) (o v : Nat) : State :=
  let p := s.ptp
  match o with
  | 0x0C => s.ptpCtrl v
  | 0x10 => s.setPtp { p with stepNs := v }
  | 0x14 => s.setPtp { p with stepSec := v }
  | 0x18 => s.setPtp { p with freq := v }
  | 0x20 => s.setPtp { p with targetNs := v }
  | 0x24 => s.setPtp { p with targetSec := p.targetSec / 2 ^ 32 * 2 ^ 32 + v }
  | 0x28 => s.setPtp { p with targetSec := v % 65536 * 2 ^ 32 + p.targetSec % 2 ^ 32, armed := bitAt v 31 }
  | _ => s

/-- The VTC's PLL runs: a change of FAMILY relocks it, a change of source moves the VTC (R99). -/
def State.vtcMoves (s : State) (old : Vtc) : State :=
  if s.pll 8 == .locked then
    if s.vtc.family != old.family then (s.setPll 8 .starting).dropReady (rdyBit 20)
    else if s.vtc.srcSel != old.srcSel then s.setVtc s.vtc.lock
    else s
  else s.startPll .vtc 1

/-- VTC_CFG (R125): its first write configures the VTC. -/
def State.vtcCfg (s : State) (v : Nat) : State :=
  let old := s.vtc
  let t := { s with vtc := { old with configured := true, reacqMode := bitAt v 10, revert := bitAt v 9, family := bitAt v 8
                                      srcSel := if v % 32 < 18 then v % 32 else old.srcSel } }
  t.vtcMoves old

def State.vtcWrite (s : State) (o v : Nat) : State :=
  match o with
  | 0x00 => s.vtcCfg v
  | 0x04 => { s with vtc := { s.vtc with holdLimit := v % 65536 } }
  | _ => s

/-! ### The MSI-X table (04 R231) and the mailboxes (05 R267 to R285) -/

def MsixEntry.write (e : MsixEntry) (w v : Nat) : MsixEntry :=
  match w with
  | 0 => { e with addr := putHalf false e.addr v }
  | 1 => { e with addr := putHalf true e.addr v }
  | 2 => { e with data := v }
  | _ => { e with masked := bitAt v 0 }

def State.msixWrite (s : State) (o v : Nat) : State :=
  ({ s with pcie := { s.pcie with msix := Table.modify {} s.pcie.msix (o / 16) fun e => e.write (o / 4 % 4) v } }).flushMsix

def State.mbxWrite (s : State) (p : Path) (m o v : Nat) : State :=
  let b := s.box m
  if p = .pip ∧ m < 32 then s
  else match o with
    | 0x0 => if mbxSends p m then s.sendLo m v else s
    | 0x4 => if mbxSends p m then s.sendHi m v none else s
    | 0x8 => if bitAt v 1 then s.setBox m { b with overrun := false } else s
    | _ => s.setBox m { b with overruns := v / 65536, discards := v % 65536 }

/-! ### A write through a path -/

def State.regWrite (s : State) (p : Path) (a v : Nat) : State :=
  match mbxAt p a with
  | some m => if s.mbxUp then s.mbxWrite p m (a % 16) v else s
  | none =>
    if a = 0x18 ∨ a = 0x1C then
      (if p = .pcie ∨ Path.hazel p then
        { s with fell := s.fell &&& ~~~(BitVec.ofNat 40 (if a = 0x18 then v else v * 2 ^ 32)) } else s)
    else if a = 0x10204 then (if Path.hazel p then { s with rstCnt := v % 65536 } else s)
    else if 0x20000 ≤ a ∧ a < 0x20800 then s.icuWrite p (a - 0x20000) v
    else if 0x30000 ≤ a ∧ a < 0x32000 then
      (if Path.hazel p then
        (if a = 0x3000C ∧ bitAt v 31 ∧ s.ready 15 then { s with flt := { s.flt with nmiValid := false } } else s)
      else s.fltWrite (a - 0x30000) v (p == .pip))
    else if 0x40000 ≤ a ∧ a < 0x40400 then s.dmaWriteReg p ((a - 0x40000) / 0x40) (a % 0x40) v
    else if 0x50000 ≤ a ∧ a < 0x50070 then (if p = .pip then s.pacWrite (a - 0x50000) v else s)
    else if 0x60000 ≤ a ∧ a < 0x60800 then s.fabWrite p (a - 0x60000) v
    else if 0x80000 ≤ a ∧ a < 0x80070 then (if p = .hazelB then s.ptpWrite (a - 0x80000) v else s)
    else if 0x90000 ≤ a ∧ a < 0x90010 then (if p = .hazelB then s.vtcWrite (a - 0x90000) v else s)
    else if 0xA0000 ≤ a ∧ a < 0xA0024 then (if p = .pip then s.hskWrite (a - 0xA0000) v else s)
    else if 0xF0000 ≤ a ∧ a < 0xF0400 then (if p = .pcie then s.msixWrite (a - 0xF0000) v else s)
    else s

/-- A register write that stands on the SMBus only (17 R888, R904; 15 R825). -/
def State.boardWrite (s : State) (a v : Nat) : State :=
  let b := s.board
  match a with
  | 0x4D0 => { s with flt := { s.flt with plogSel := v &&& 0x77FF } }
  | 0xA00 => s.setBoard { b with pecFail := b.pecFail && !bitAt v 0, cfgDone := b.cfgDone && !bitAt v 1
                                 cfgError := b.cfgError && !bitAt v 2, jtagEvent := b.jtagEvent && !bitAt v 3 }
  | 0xB00 => s.cfgKey v
  | 0xB04 => s.setBoard { b with cfgItem := v % 65536 }
  | 0xB08 => s.setBoard { b with cfgData := v }
  | 0xB0C => s.cfgCmd v
  | _ => s

def State.smbusWrite32 (s : State) (a v : Nat) : State :=
  match smbusMirror a with
  | some b =>
    if 0x140000 ≤ b then s
    else if 0x50000 ≤ b ∧ b < 0x50070 then s.pacWrite (b - 0x50000) v
    else if 0xA0000 ≤ b then s.hskWrite (b - 0xA0000) v
    else if 0x30000 ≤ b then s.fltWrite (b - 0x30000) v true
    else s
  | none => s.boardWrite a v

/-- A 32-bit write as the path's agent makes it. -/
def State.writeReg (s : State) (p : Path) (a v : Nat) : State :=
  if s.pathUp p then
    (if p = .smbus then s.smbusWrite32 a v else if pathReaches p a then s.regWrite p a v else s)
  else if p = .pcie then s.rejectWrite false
  else s

def execRegisterWrite (p : Path) (addr : Nat) (v : Word32) (s : State) : Host.Outcome State Fault Refusal :=
  run (fun s => s.writeReg p addr v.toNat) s

/-! ### SMBus transactions (17 R883 to R889; 02 R73; 16 R852) -/

/-- A transaction addressed to a device in Dormant wakes it and is not acknowledged. -/
def State.smbusFirst (s : State) (f : State → State) : State :=
  if s.huskUp then f s
  else if s.husk.power == .dormant then { s.wake .smbus with answer := .nack }
  else s

/-- A write transaction as it ends. -/
def State.smbusWrite (s : State) (a v : Nat) (pec : Pec) : State :=
  if a % 4 ≠ 0 then { s with answer := .nack }
  else match pec with
    | .good => { s.smbusWrite32 a v with answer := .ack }
    | _ =>
      let b := s.board
      let t := (s.setBoard { b with pecFail := true, pecCount := satAdd 16 b.pecCount 1 }).reportHusk 18 0
      { t with answer := .nack }

def execSmbusWrite (addr : Nat) (v : Word32) (pec : Pec) (s : State) : Host.Outcome State Fault Refusal :=
  run (fun s => s.smbusFirst fun s => s.smbusWrite addr v.toNat pec) s

def execSmbusRead (addr : Nat) (s : State) : Host.Outcome State Fault Refusal :=
  run (fun s => s.smbusFirst fun s => if addr % 4 = 0 then s.readReg .smbus addr else { s with answer := .nack }) s

/-- SMB_CLK has been held low: the transaction is abandoned (16 R852; 17 R889). -/
def execSmbusClockTimeout (s : State) : Host.Outcome State Fault Refusal :=
  run (fun s =>
    if s.huskUp then s.setBoard { s.board with abandoned := satAdd 16 s.board.abandoned 1 } else s) s

/-- ALERT_N is low (R887). -/
def Board.alert (b : Board) : Bool := b.pecFail || b.cfgDone || b.cfgError || b.jtagEvent

/-- The answer to the Alert Response Address (R887). -/
def execAlertResponse (s : State) : Host.Outcome State Fault Refusal :=
  run (fun s =>
    if s.huskUp && s.board.alert then { s with answer := .data (BitVec.ofNat 64 (0x58 + s.husk.strap)) } else s) s

/-! ### Manufacturing configuration (17 R904 to R910) -/

def execCfgKey (v : Word32) (s : State) : Host.Outcome State Fault Refusal := run (fun s => s.cfgKey v.toNat) s
def execStage (s : State) : Host.Outcome State Fault Refusal := run (fun s => s.cfgCmd 1) s
def execCommit (s : State) : Host.Outcome State Fault Refusal := run (fun s => s.cfgCmd 2) s
def execRead (s : State) : Host.Outcome State Fault Refusal := run (fun s => s.cfgCmd 4) s
def execDiscard (s : State) : Host.Outcome State Fault Refusal := run (fun s => s.cfgCmd 8) s

/-- The COMMIT record is applied and the staging cleared, or its write has failed (R906). -/
def State.commitEnds (s : State) (ok : Bool) : State :=
  let b := s.board
  if b.committing && s.pipWorks && (s.husk.hpEn || !s.husk.removalDue) then
    let r := s.mram.journalM.filter fun (j : JRec) => j.region == 2 && !j.items.isEmpty
    let t := { s with mram := { s.mram with journalM := s.mram.journalM.filter fun (j : JRec) => !(j.region == 2) } }
    if ok then
      let items := (r.map JRec.items).flatten
      let t := { t with bankM := t.bankM.store items }
      (t.setBoard ({ b with committing := false, staged := [] }.cfgEnds 0)).wearM 2 (8 * items.length)
    else t.setBoard ({ b with committing := false }.cfgEnds 7)
  else s

def execCfgCommitEnd (ok : Bool) (s : State) : Host.Outcome State Fault Refusal := run (fun s => s.commitEnds ok) s

/-! ### JTAG unlock (17 R899 to R902, R911, R912) -/

/-- A token is shifted into UNLOCK; it is discarded while another is being checked. -/
def execJtagUnlock (t : JtagToken) (s : State) : Host.Outcome State Fault Refusal :=
  run (fun s =>
    if s.husk.power == .held || s.board.jtagBusy then s
    else s.setBoard { s.board with jtagBusy := true, token := some t }) s

/-- The refusal reason of a token, 0 where it is accepted (R901, R902). -/
def Board.tokenReason (b : Board) (t : JtagToken) : Nat :=
  if t.serial ≠ Config.serial.toNat then 1
  else if t.nonce ≠ b.nonce.toNat then 2
  else if !t.reservedZero then 4
  else if !Config.tokenSignature t.bytes then 3
  else 0

/-- Pip decides: the scopes are granted or the token is refused; in either case a new nonce. -/
def State.tokenDecided (s : State) : State :=
  match s.board.token with
  | none => s
  | some t =>
    if s.pipWorks then
      let r := s.board.tokenReason t
      let b := { s.board with token := none, jtagBusy := false, jtagEvent := true, nonce := Config.freeWord s.free }
      if r = 0 then (s.setBoard { b with unlocked := true, scopes := b.scopes ||| (t.scope % 8) }).tookFree
      else ((s.setBoard { b with jtagReason := r }).tookFree).reportHusk 19 0
    else s

def execJtagTokenDecision (s : State) : Host.Outcome State Fault Refusal := run (fun s => s.tokenDecided) s

end Sys2Proof.Machine
end

