-- ==== Sys2Proof/Machine/DeviceCmds.lean ====
section
/-! DEFINITION. The device and queue commands (06 R350 to R354), and the work that waits for the host to take a
notice. -/

namespace Sys2Proof.Machine

/-- Check 11 of R335: the first of the functions that has never been ready. -/
def State.lacking (s : State) (bits : List Nat) : Option Nat := bits.find? fun b => !s.ever.getLsbD b

/-- NOT_READY, or what the command does. -/
def State.needing (s : State) (c : Cmd) (bits : List Nat) (f : Unit → State × Cmd) : State × Cmd :=
  match s.lacking bits with
  | some b => (s, c.ends 0x0201 b 0)
  | none => f ()

/-- MODE (R351). -/
def HazelMode.code : HazelMode → Nat
  | .compat => 1 | .recovery => 2 | _ => 0

/-- The RESULT of IDENTIFY (R351). -/
def State.identity (s : State) : Nat :=
  s.hazel.epoch % 65536 + s.hazel.mode.code * 2 ^ 16 + 0x24 * 2 ^ 24 + Config.siliconRev * 2 ^ 32
    + b2n s.bankM.hazelB * 2 ^ 40 + b2n s.bankM.pipB * 2 ^ 41 + b2n (s.husk.pipMode == .rom) * 2 ^ 42
    + b2n s.flt.degradedA * 2 ^ 43 + b2n s.flt.degradedB * 2 ^ 44

def execIdentify (q : Fin 16) (s : State) : Host.Outcome State Fault Refusal :=
  run (fun s => s.serve q.val 0x0001 (fun _ _ => {}) fun s c => (s, c.ends 0 0 s.identity)) s

/-- The version of a slot (R352). -/
def slotVersion (h : ImageHeader) : Nat := if h.passes then h.version else 0xFFFFFFFF

/-- The GET_VERSIONS block (R352). -/
def State.versions (s : State) : List Byte :=
  let h := s.hazel.image
  let b := s.bankM
  leBytes 4 (if s.hazel.mode == .recovery then 0 else h.version)
    ++ leBytes 4 (if s.husk.pipMode == .rom then 0 else s.husk.pipVersion)
    ++ leBytes 2 s.husk.pipIf ++ leBytes 2 h.podLo ++ leBytes 2 h.podHi ++ leBytes 1 0x24 ++ leBytes 1 s.hazel.mode.code
    ++ leBytes 4 (slotVersion b.slotHazelA) ++ leBytes 4 (slotVersion b.slotHazelB)
    ++ leBytes 4 (slotVersion b.slotPipA) ++ leBytes 4 (slotVersion b.slotPipB)
    ++ leBytes 1 (b2n b.hazelB + 2 * b2n b.pipB + 4 * b2n s.hazel.stageHazel.active + 8 * b2n s.hazel.stagePip.active)
    ++ leBytes 7 0
    ++ ((List.range 8).map fun i => BitVec.ofNat 8 (h.silicon.getD i 0))
    ++ leBytes 4 (Config.romVersion 0).toNat ++ leBytes 4 (Config.romVersion 1).toNat ++ leBytes 8 Config.serial.toNat

def execGetVersions (q : Fin 16) (s : State) : Host.Outcome State Fault Refusal :=
  run (fun s => s.serve q.val 0x0002
    (fun _ c => { m0 := 2 ^ 64 - 1, addrs := [(0x28, c.a0, 64, 64)] })
    fun s c => (s.writeMem 6 c.a0 s.versions, c.done)) s

def execNop (q : Fin 16) (s : State) : Host.Outcome State Fault Refusal :=
  run (fun s => s.serve q.val 0x0003 (fun _ _ => {}) fun s c => (s, c.done)) s

/-- The depth that a queue has, or will have once a QUEUE_CONFIG of it has completed. -/
def State.depthOf (s : State) (k : Nat) : Nat :=
  (s.hazel.jobs.filter fun c => c.queue == k && c.opcode == 4 && c.phase == .ended && c.status == 0).foldl
    (fun m c => max m (c.a0 % 512)) (s.queue k).depth

/-- Depths of the queues other than `k`, together (R331). -/
def State.otherDepths (s : State) (k : Nat) : Nat :=
  foldRange (fun j x => if j = k then x else x + s.depthOf j) 16 0

/-- QDEPTH is 1 to 256 and DOORBELL 0 or 2 to 7 (R350). -/
def queueBad (a : Nat) : List (Bool × Nat) :=
  [(decide (a % 512 = 0 ∨ a % 512 > 256), 0x28), (decide (bitsOf a 16 4 = 1 ∨ bitsOf a 16 4 > 7), 0x2A)]

def execQueueConfig (q : Fin 16) (s : State) : Host.Outcome State Fault Refusal :=
  run (fun s => s.serve q.val 0x0004
    (fun _ c => { m0 := 0xF01FF, bad := queueBad c.a0 })
    fun s c => if s.otherDepths q.val + c.a0 % 512 > 1024 then (s, c.ends 0x0106 4 0) else (s, c.done)) s

/-- The RESULT of QUEUE_STATUS (R350). -/
def State.queueWord (s : State) (k : Nat) : Nat :=
  s.inFlight k % 65536 + (s.queue k).badNotices * 2 ^ 16 + (s.queue k).seqGaps * 2 ^ 32

def execQueueStatus (q : Fin 16) (s : State) : Host.Outcome State Fault Refusal :=
  run (fun s => s.serve q.val 0x0005
    (fun _ _ => { m0 := 0x10F })
    fun s c =>
      let k := c.a0 % 16
      (if bitAt c.a0 8 then s.setQueue k { s.queue k with badNotices := 0, seqGaps := 0 } else s,
       c.ends 0 0 (s.queueWord k))) s

/-- Jobs in flight on any queue (R353, R330). -/
def State.jobsInFlight (s : State) : Nat := (s.hazel.jobs.filter fun c => isJob c.opcode).length

/-- The orderly main-off that POWER_STATE starts (R353; 02 R70). -/
def State.firmwareOff (s : State) (dormant : Bool) : State :=
  let h := s.husk
  { s with hazel := { s.hazel with closed := true }
           husk := { h with goDormant := h.goDormant || dormant, mainOff := h.mainOff || h.removal.isNone
                            mainOffAt := if h.mainOff then h.mainOffAt else s.now } }

def execPowerState (q : Fin 16) (s : State) : Host.Outcome State Fault Refusal :=
  run (fun s => s.serve q.val 0x0006
    (fun _ c => { m0 := 3, bad := [(decide (c.a0 % 4 ≥ 2), 0x28)] })
    fun s c =>
      if s.jobsInFlight ≠ 0 then (s, c.ends 0x0107 s.jobsInFlight 0)
      else (s.firmwareOff (c.a0 % 4 == 1), c.done)) s

/-- The block that KIND and INSTANCE of RESET name (R354). -/
def resetBlock (kind inst : Nat) : Option Block :=
  match kind with
  | 0x10 => if inst < 4 then some (.pipe (Fin.ofNat 4 inst)) else none
  | 0x18 => if inst < 16 then some (.lane (Fin.ofNat 16 inst)) else none
  | 0x20 => if inst < 2 then some (.stack (Fin.ofNat 2 inst)) else none
  | 0x30 => if inst < 16 then some (.channel (Fin.ofNat 16 inst)) else none
  | 0x40 => if inst = 0 then some .vtc else none
  | 0x41 => if inst = 0 then some .ptp else none
  | 0x42 => if inst = 0 then some .scheduler else none
  | 0x43 => if inst = 0 then some .scrubber else none
  | _ => none

/-- The KINDs of R354. -/
def resetKind (k : Nat) : Bool := k == 0x10 || k == 0x18 || k == 0x20 || k == 0x30 || (0x40 ≤ k && k ≤ 0x43)

/-- The fields of RESET that are out of range (R354, R382). -/
def State.resetBad (s : State) (a : Nat) : List (Bool × Nat) :=
  [(a % 4 == 3 || (a % 4 == 0 && s.hazel.mode == .recovery), 0x28),
   (a % 4 == 0 && !resetKind (bitsOf a 8 8), 0x29),
   (a % 4 == 0 && resetKind (bitsOf a 8 8) && (resetBlock (bitsOf a 8 8) (bitsOf a 16 8)).isNone, 0x2A)]

/-- Work that follows the taking of a command's notice. -/
def State.defer (s : State) (c : Cmd) (d : Deferred) : State :=
  { s with hazel := { s.hazel with deferred := s.hazel.deferred ++ [(c.queue, c.seq, s.now, d)] } }

def execReset (q : Fin 16) (s : State) : Host.Outcome State Fault Refusal :=
  run (fun s => s.serve q.val 0x0007
    (fun s c => { m0 := 0xFFFF03, bad := s.resetBad c.a0 })
    fun s c =>
      match c.a0 % 4, resetBlock (bitsOf c.a0 8 8) (bitsOf c.a0 16 8) with
      | 0, some b => (s.blockReset b, c.done)
      | 0, none => (s, c.done)
      | 1, _ => (s.defer c .hazel, c.done)
      | _, _ => (s.defer c .chip, c.done)) s

/-- An injected report: no side effect of detection, and a condition that ends in the same cycle (R378). -/
def State.inject (s : State) (src detail : Nat) : State :=
  if s.canRecord src false then s.record src (detail % 2 ^ 32) false else s

/-- Perform what was put off. -/
def State.perform (s : State) (d : Deferred) : State :=
  match d with
  | .hazel => s.hazelReset
  | .chip => { s with husk := { s.husk with resetDue := some (s.husk.resetDue.getD (.command, none)) } }
  | .pip => s.pipReset
  | .inject src detail => s.inject src detail

/-- The entry of a put-off command in the job table. -/
def State.deferredEntry (s : State) (k seq : Nat) : Option Cmd :=
  s.hazel.jobs.find? fun c => c.queue == k && c.seq == seq

/-- Put-off work whose notice the host has taken, and work whose record is written. -/
def State.noticeGone (s : State) (e : Nat × Nat × Nat × Deferred) : Bool := (s.deferredEntry e.1 e.2.1).isNone
def State.recordGone (s : State) (e : Nat × Nat × Nat × Deferred) : Bool :=
  match s.deferredEntry e.1 e.2.1 with
  | none => true
  | some c => c.phase == .written || c.phase == .noticed

/-- The put-off work that is due, and the moment from which it is: the first whose notice has been taken, else the
first whose record was written 10 ms ago (R354, R378, R381). -/
def State.dueWork (s : State) : Option (Nat × Nat × Deferred) :=
  let l := s.hazel.deferred
  match l.findIdx? s.noticeGone, l.findIdx? s.recordGone with
  | some i, _ => (l[i]?).map fun e => (i, s.now, e.2.2.2)
  | none, some i => (l[i]?).map fun e => (i, e.2.2.1 + 10000000, e.2.2.2)
  | none, none => none

def execDeferredReset (s : State) : Host.Outcome State Fault Refusal :=
  run (fun s =>
    if s.fwUp then
      match s.dueWork with
      | none => s
      | some (i, due, d) =>
        let t := s.until due
        { t with hazel := { t.hazel with deferred := t.hazel.deferred.eraseIdx i } }.perform d
    else s) s

end Sys2Proof.Machine
end

