-- ==== Sys2Proof/Machine/PodImage.lean ====
section
/-! DEFINITION. Pod images (08): their parts, the fields of a step word, and the load checks of R453. -/

namespace Sys2Proof.Machine

/-! ### Parts of an image (R447 to R452) -/

def podFlags (b : List Byte) : Nat := blkField b 6 2
def podKind (b : List Byte) : Nat := podFlags b % 4
def podCodec (b : List Byte) : Nat := blkByte b 8
def podThreads (b : List Byte) : Nat := blkByte b 9
def podScalars (b : List Byte) : Nat := blkField b 0xA 2
def podCounters (b : List Byte) : Nat := blkByte b 0xC
def podGangCounters (b : List Byte) : Nat := blkByte b 0xD
def podSections (b : List Byte) : Nat := blkByte b 0xF
def podSteps (b : List Byte) : Nat := blkField b 0x10 4
/-- The declared Pod ABI: major in bits 15:8, minor in bits 7:0. -/
def podAbi (b : List Byte) : Nat := blkByte b 5 * 256 + blkByte b 4
def podTimeDep (b : List Byte) : Bool := bitAt (podFlags b) 5
/-- The Pod runs in a gang of code `g` (R448; 06 R356). -/
def podRuns (b : List Byte) (g : Nat) : Bool := bitAt (podFlags b) (2 + g)

/-- TYPE, OFFSET and LENGTH of a section-table entry. -/
def secType (b : List Byte) (i : Nat) : Nat := blkField b (0x40 + 16 * i) 2
def secOffset (b : List Byte) (i : Nat) : Nat := blkField b (0x44 + 16 * i) 4
def secLength (b : List Byte) (i : Nat) : Nat := blkField b (0x48 + 16 * i) 4

/-- Offset and length of a section; an absent one is empty. -/
def podSection (b : List Byte) (typ : Nat) : Nat × Nat :=
  match (List.range (podSections b)).find? fun i => secType b i == typ with
  | some i => (secOffset b i, secLength b i)
  | none => (0, 0)

/-- Step `i` as the image holds it, 128 bits. -/
def podRawStep (b : List Byte) (i : Nat) : Nat := blkField b ((podSection b 1).1 + 16 * i) 16

/-- ENTRY and LEAD_ONLY of a thread. -/
def podEntry (b : List Byte) (t : Nat) : Nat := blkField b ((podSection b 2).1 + 8 * t) 2
def podLeadOnly (b : List Byte) (t : Nat) : Bool := bitAt (blkField b ((podSection b 2).1 + 8 * t) 8) 16

/-- Owner thread, GANG and owner pipe index of a pipe scalar. -/
def podOwner (b : List Byte) (n : Nat) : Nat := blkByte b ((podSection b 3).1 + 2 * n)
def podOwnerWord (b : List Byte) (n : Nat) : Nat := blkByte b ((podSection b 3).1 + 2 * n + 1)
def podShared (b : List Byte) (n : Nat) : Bool := bitAt (podOwnerWord b n) 7
def podOwnerPipe (b : List Byte) (n : Nat) : Nat := podOwnerWord b n % 4

/-- One WINDOWS entry: number, binding code, rights, minimum length (R464). -/
def podWindow (b : List Byte) (i : Nat) : Nat × Nat × Nat × Nat :=
  let o := (podSection b 4).1 + 16 * i
  (blkByte b o, blkByte b (o + 1), blkByte b (o + 2), blkField b (o + 4) 4)

def podWindows (b : List Byte) : List (Nat × Nat × Nat × Nat) :=
  (List.range ((podSection b 4).2 / 16)).map (podWindow b)

/-- The window of a number: binding, rights, minimum length. -/
def podFindWindow (b : List Byte) (n : Nat) : Option (Nat × Nat × Nat) :=
  ((podWindows b).find? fun w => w.1 == n).map (·.2)

/-- LFS pages of a Pod: its LFS windows' allotted sizes (R464). -/
def podLfsPages (b : List Byte) : Nat := (podWindows b).foldl (fun x w => if w.2.1 = 2 then x + w.2.2.2 / 4096 else x) 0

/-- Constants of a Pod, and constant `n`. -/
def podConsts (b : List Byte) : Nat := (podSection b 5).2 / 8
def podConst (b : List Byte) (n : Nat) : Nat := blkField b ((podSection b 5).1 + 8 * n) 8

/-- RELOC entries: step index and kind (R452). -/
def podReloc (b : List Byte) (i : Nat) : Nat := blkField b ((podSection b 6).1 + 8 * i) 8
def podRelocs (b : List Byte) : List Nat := (List.range ((podSection b 6).2 / 8)).map (podReloc b)

/-- Pinned pages (R451). -/
def podPinned (b : List Byte) : Nat := min 16 ((podSteps b + 255) / 256)

/-- The value that a RELOC kind writes (R452). -/
def relocValue (handle version abi kind : Nat) : Nat :=
  match kind with
  | 1 => handle
  | 2 => Config.siliconRev
  | 3 => version
  | _ => abi

/-- Step `i` as the sequencer sees it, with the loaded values in IMM. -/
def Pod.step (p : Pod) (handle i : Nat) : Nat :=
  let w := podRawStep p.image i
  (podRelocs p.image).foldl (fun x r =>
    if r % 65536 = i then x / 2 ^ 64 * 2 ^ 64 + relocValue handle p.version (podAbi p.image) (bitsOf r 16 8) % 2 ^ 64 else x) w

/-! ### The step word (R460) -/

def stOp (w : Nat) : Nat := bitsOf w 120 8
def stDst (w : Nat) : Nat := bitsOf w 111 9
def stA (w : Nat) : Nat := bitsOf w 102 9
def stB (w : Nat) : Nat := bitsOf w 93 9
def stX (w : Nat) : Nat := bitsOf w 64 29
def stImm (w : Nat) : Nat := w % 2 ^ 64

/-- Fields of X: BI and COND of the scalar class, POS, LEN (0 stands for 64, log 62). -/
def stBi (w : Nat) : Bool := bitAt (stX w) 28
def stSelCond (w : Nat) : Nat := bitsOf (stX w) 24 4
def stPos (w : Nat) : Nat := bitsOf (stX w) 18 6
def stLen (w : Nat) : Nat := if bitsOf (stX w) 12 6 = 0 then 64 else bitsOf (stX w) 12 6
/-- COND and target of the branch class. -/
def stCond (w : Nat) : Nat := bitsOf (stX w) 25 4
def stTarget (w : Nat) : Nat := stImm w % 65536
/-- G, counter and BI of the wait and synchronisation classes. -/
def stG (w : Nat) : Bool := bitAt (stX w) 28
def stCounter (w : Nat) : Nat := bitsOf (stX w) 21 7
def stWaitBi (w : Nat) : Bool := bitAt (stX w) 20
/-- UNIT, FN, windows and NOPS of ISSUE. -/
def stUnit (w : Nat) : Nat := bitsOf (stX w) 25 4
def stFn (w : Nat) : Nat := bitsOf (stX w) 17 8
def stWinA (w : Nat) : Nat := bitsOf (stX w) 13 4
def stWinB (w : Nat) : Nat := bitsOf (stX w) 9 4
def stNops (w : Nat) : Nat := bitsOf (stX w) 6 3
/-- TYPE of EMIT, FUNC of FCALL; NWORDS and NARGS share NOPS' place. -/
def stType (w : Nat) : Nat := bitsOf (stX w) 21 8
def stFunc (w : Nat) : Nat := bitsOf (stX w) 17 12

/-! ### Load checks (R453) -/

/-- One bit of the CRC-32 of IEEE 802.3. -/
def crcBit (c : BitVec 32) : BitVec 32 := if c.getLsbD 0 then (c >>> 1) ^^^ 0xEDB88320 else c >>> 1

def crcByte (c : BitVec 32) (b : Byte) : BitVec 32 :=
  foldRange (fun _ x => crcBit x) 8 (c ^^^ (b.setWidth 32))

def crc32 (b : List Byte) : Nat := (~~~(b.foldl crcByte 0xFFFFFFFF)).toNat

/-- IMAGE_CRC: over the whole image with its own field taken as 0. -/
def podCrc (b : List Byte) : Nat := crc32 (b.take 0x18 ++ leBytes 4 0 ++ b.drop 0x1C)

/-- The first of a list that is bad. -/
def firstOf (l : List (Bool × Nat)) : Option Nat := (l.find? (·.1)).map (·.2)

/-- Check 6: a header field out of its legal values. -/
def podHeaderBad (b : List Byte) : Option Nat :=
  let codes := (List.range (podSections b)).filter fun i => secType b i == 1
  firstOf [
    (!(podKind b == 1 || podKind b == 2) || bitsOf (podFlags b) 2 3 == 0 || podFlags b / 64 != 0, 0x06),
    (!(1 ≤ podCodec b && podCodec b ≤ 4), 0x08), (!(1 ≤ podThreads b && podThreads b ≤ 64), 0x09),
    (decide (podScalars b > 256), 0x0A), (decide (podCounters b > 128), 0x0C), (decide (podGangCounters b > 16), 0x0D),
    (blkByte b 0xE != 0, 0x0E), (!(2 ≤ podSections b && podSections b ≤ 7), 0x0F),
    (!(1 ≤ podSteps b && podSteps b ≤ 65280)
      || (codes.length == 1 && codes.any fun i => secLength b i != 16 * podSteps b), 0x10),
    (blkField b 0x1C 4 != 0, 0x1C), (blkField b 0x34 12 != 0, 0x34)]

/-- Two ranges share a byte. -/
def overlaps (a n c m : Nat) : Bool := a < c + m && c < a + n

/-- The length that a section of a type must have. -/
def secLengthOk (b : List Byte) (typ len : Nat) : Bool :=
  match typ with
  | 1 => len == 16 * podSteps b
  | 2 => len == 8 * podThreads b
  | 3 => len == 2 * podScalars b
  | 4 => len % 16 == 0
  | 5 => len % 8 == 0 && len ≤ 32768
  | 6 => len % 8 == 0
  | _ => true

/-- Entry `i` of the section table breaks R447 or R450. -/
def secBad (b : List Byte) (i : Nat) : Bool :=
  let t := secType b i
  let o := secOffset b i
  let n := secLength b i
  !(1 ≤ t && t ≤ 7) || blkField b (0x42 + 16 * i) 2 != 0 || blkField b (0x4C + 16 * i) 4 != 0
    || o % (if t = 1 then 4096 else 16) != 0 || o < 0x40 + 16 * podSections b || o + n > b.length
    || !secLengthOk b t n
    || (List.range i).any fun j => secType b j == t || overlaps o n (secOffset b j) (secLength b j)

/-- Check 7: the image byte offset of the first bad entry; a missing section is named at the table's start (log 63). -/
def podTableBad (b : List Byte) : Option Nat :=
  match (List.range (podSections b)).find? (secBad b) with
  | some i => some (0x40 + 16 * i)
  | none =>
    let has (t : Nat) := (List.range (podSections b)).any fun i => secType b i == t
    if has 1 && has 2 && (has 3 || podScalars b == 0) then none else some 0x40

/-- Check 8. -/
def podThreadBad (b : List Byte) (t : Nat) : Bool :=
  let e := blkField b ((podSection b 2).1 + 8 * t) 8
  e % 65536 ≥ podSteps b || e / 2 ^ 17 != 0 || (bitAt e 16 && bitsOf (podFlags b) 3 2 == 0)

/-- Check 9. -/
def podOwnerBad (b : List Byte) (n : Nat) : Bool :=
  podOwner b n ≥ podThreads b || bitsOf (podOwnerWord b n) 2 5 != 0 || (!podShared b n && podOwnerPipe b n != 0)

/-- Rights that a binding has: bit 0 read, bit 1 write (R464). -/
def bindRights (code : Nat) : Nat :=
  match code with
  | 1 | 2 => 3
  | 6 | 7 | 8 | 10 | 11 => 2
  | _ => 1

/-- Check 10. -/
def podWindowBad (b : List Byte) (i : Nat) : Bool :=
  let w := podWindow b i
  let o := (podSection b 4).1 + 16 * i
  w.1 > 14 || !(1 ≤ w.2.1 && w.2.1 ≤ 12) || w.2.2.1 &&& bindRights w.2.1 != w.2.2.1 || blkByte b (o + 3) != 0
    || blkField b (o + 8) 8 != 0 || (w.2.1 == 2 && w.2.2.2 % 4096 != 0) || i ≥ 15
    || (List.range i).any fun j => (podWindow b j).1 == w.1

/-- Check 11. -/
def podRelocBad (b : List Byte) (i : Nat) : Bool :=
  let r := podReloc b i
  r % 65536 ≥ podSteps b || !(1 ≤ bitsOf r 16 8 && bitsOf r 16 8 ≤ 4) || r / 2 ^ 24 != 0

/-- Check 12: the opcodes of R461, R462, R472, R474, R477, R479, R480; SEL from ABI 1.2 (R449). -/
def opDefined (abi op : Nat) : Bool :=
  (1 ≤ op && op ≤ 0x16) || (op == 0x17 && abi % 256 ≥ 2) || (0x20 ≤ op && op ≤ 0x25) || op == 0x30 || op == 0x31
    || op == 0x40 || op == 0x50 || op == 0x60 || op == 0x70

/-- Check 13: reserved bits 0, unused fields 0, field values legal. -/
def stepFieldsBad (w : Nat) : Bool :=
  let op := stOp w
  let x := stX w
  let noB := stB w != 0
  let noA := stA w != 0
  let noDst := stDst w != 0
  let noImm := stImm w != 0
  if op = 0x12 ∨ op = 0x13 then x &&& 0x1F000FFF != 0 || noB || noImm || stPos w + stLen w > 64
  else if op = 0x15 then x != 0 || noB || noImm
  else if op ≤ 0x17 then
    (if op = 0x17 then x &&& 0x00FFFFFF != 0 || stSelCond w > 0xB else x &&& 0x0FFFFFFF != 0)
      || (if stBi w then noB else noImm)
      || ((op == 0x0F || op == 0x14 || op == 0x16) && noA)
      || ((op == 0x10 || op == 0x11) && stDst w != 0x20)
  else if op = 0x21 then x &&& 0x1FFFFFF != 0 || stCond w > 0xB || noDst || noA || noB || stImm w ≥ 65536
  else if op = 0x22 then x &&& 0x1FFFFFF != 0 || stCond w > 0xB || noDst || noB || noImm
  else if op = 0x23 then x != 0 || noDst || noA || noB || stImm w ≥ 65536
  else if op ≤ 0x25 then x != 0 || noDst || noA || noB || noImm
  else if op = 0x30 then
    x &&& 0xFFFFF != 0 || noDst || noA || (if stWaitBi w then noB || stImm w ≥ 65536 else noImm)
  else if op = 0x31 then x != 0 || noDst || noA || noB || stImm w ≥ 2048
  else if op = 0x40 then x &&& 0x1FFFFF != 0 || noDst || noA || noB || stImm w = 0 || stImm w ≥ 65536
  else if op = 0x50 then x % 64 != 0 || noB || (stNops w == 0 && noA)
  else if op = 0x60 then
    x &&& 0x1FFE3F != 0 || noDst || stType w < 0x10 || stNops w > 6 || (stNops w == 0 && noA)
  else x &&& 0x1FE3F != 0 || noB || (stNops w == 0 && noA)

/-- An operand code that names a register (R457). -/
def srcOk (p c : Nat) : Bool := c < 0x2A || (0x100 ≤ c && c < 0x100 + p)
def dstOk (p c : Nat) : Bool := c ≤ 0x20 || (0x100 ≤ c && c < 0x100 + p)
/-- Thread scalars from `a` onward (R477). -/
def runOk (a n : Nat) : Bool := n == 0 || a + n ≤ 32

/-- Check 14: operand codes legal for the step. -/
def stepOperandsBad (p w : Nat) : Bool :=
  let op := stOp w
  if op ≤ 0x17 then !dstOk p (stDst w) || !srcOk p (stA w) || !srcOk p (stB w)
  else if op = 0x22 then !srcOk p (stA w)
  else if op = 0x30 then !srcOk p (stB w)
  else if op = 0x50 ∨ op = 0x70 then !dstOk p (stDst w) || !runOk (stA w) (stNops w)
  else if op = 0x60 then !runOk (stA w) (stNops w) || !srcOk p (stB w)
  else false

/-- Check 15: branch and call targets. -/
def stepTargetBad (n w : Nat) : Bool := (stOp w == 0x21 || stOp w == 0x23) && stTarget w ≥ n

/-- The functions of a unit (R478). -/
def unitFns (u : Nat) : Nat :=
  match u with
  | 0 | 2 | 3 => 1
  | 1 | 5 => 2
  | 4 | 7 | 8 => 4
  | 6 => 5
  | 9 => 3
  | _ => 0

/-- Check 16. -/
def stepUnitBad (w : Nat) : Bool := stOp w == 0x50 && !(1 ≤ stFn w && stFn w ≤ unitFns (stUnit w))

/-- Rights that a function uses in WIN_A and WIN_B (R478). -/
def unitRights (u f : Nat) : Nat × Nat :=
  match u with
  | 0 => (1, 2)
  | 1 => (1, 1)
  | 2 | 3 => (1, 2)
  | 4 => if f = 4 then (0, 0) else (1, 0)
  | 5 => (3, 0)
  | 6 => if f = 5 then (1, 2) else (3, 0)
  | 8 => (2, 0)
  | 9 => (1, 1)
  | _ => (0, 0)

/-- A window number that a step names is not declared with the rights used; 15 names none. -/
def windowBad (b : List Byte) (n rights : Nat) : Bool :=
  n != 15 && match podFindWindow b n with
    | none => true
    | some w => w.2.1 &&& rights != rights

/-- Check 17. -/
def stepWindowsBad (b : List Byte) (w : Nat) : Bool :=
  let r := unitRights (stUnit w) (stFn w)
  stOp w == 0x50 && (windowBad b (stWinA w) r.1 || windowBad b (stWinB w) r.2)

/-- Check 18: counter numbers. -/
def stepCounterBad (b : List Byte) (w : Nat) : Bool :=
  (stOp w == 0x30 || stOp w == 0x40)
    && stCounter w ≥ (if stG w then podGangCounters b else podCounters b)

/-- The KINDs that may call a firmware function: bit 0 encode, bit 1 decode (R480). -/
def fwKinds (f : Nat) : Nat :=
  match f with
  | 1 | 8 => 1
  | 5 | 6 => 2
  | 2 | 3 | 4 | 7 => 3
  | _ => 0

/-- Check 19: firmware functions. -/
def stepCallBad (b : List Byte) (w : Nat) : Bool :=
  stOp w == 0x70 && (fwKinds (stFunc w) &&& podKind b == 0 || (stFunc w == 8 && podAbi b % 256 < 3)
    || ((stFunc w == 7 || stFunc w == 8) && !podTimeDep b))

/-- The first step that fails a check. -/
def firstStep (b : List Byte) (bad : Nat → Bool) : Option Nat :=
  (List.range (podSteps b)).find? fun i => bad (podRawStep b i)

/-- The outcome of the load checks 2 to 19: status and DETAIL (R453). -/
def podCheck (b : List Byte) (length abiLo abiHi : Nat) : Option (Nat × Nat) :=
  let bad (code : Nat) (d : Option Nat) : Option (Nat × Nat) := d.map fun x => (0x0102, code * 65536 + x % 65536)
  let at_ (c : Bool) (x : Nat) : Option Nat := if c then some x else none
  let idx (n : Nat) (f : Nat → Bool) : Option Nat := (List.range n).find? f
  ([ bad 1 (at_ (blkField b 0 4 != 0x31444F50) 0),
     (if abiLo ≤ podAbi b ∧ podAbi b ≤ abiHi then none else some (0x0402, podAbi b)),
     bad 2 (at_ (blkField b 0x14 4 != length) 0x14),
     bad 3 (at_ (blkField b 0x18 4 != podCrc b) 0x18),
     bad 4 (podHeaderBad b), bad 5 (podTableBad b),
     bad 7 (idx (podThreads b) (podThreadBad b)), bad 8 (idx (podScalars b) (podOwnerBad b)),
     bad 9 ((idx ((podSection b 4).2 / 16) (podWindowBad b)).map fun i => if i ≥ 15 then 15 else (podWindow b i).1),
     bad 0xA (idx ((podSection b 6).2 / 8) (podRelocBad b)),
     bad 0x10 (firstStep b fun w => !opDefined (podAbi b) (stOp w)), bad 0x11 (firstStep b stepFieldsBad),
     bad 0x12 (firstStep b (stepOperandsBad (podScalars b))), bad 0x13 (firstStep b (stepTargetBad (podSteps b))),
     bad 0x14 (firstStep b stepUnitBad), bad 0x15 (firstStep b (stepWindowsBad b)),
     bad 0x16 (firstStep b (stepCounterBad b)), bad 0x17 (firstStep b (stepCallBad b)) ].find? Option.isSome).join

end Sys2Proof.Machine
end

