-- ==== Sys2Proof/Machine/Sessions.lean ====
section
/-! DEFINITION. The session commands (06 R355 to R360): the checks of A0, A1 and the parameter blocks (09 R491 to R495,
R517; 10 R532 to R535; 11 R585, R592, R593), and what firmware allots (07 R403; 08 R454, R455). -/

namespace Sys2Proof.Machine

/-! ### A0 and A1 (06 R356; 09) -/

/-- Chroma formats (as a mask of CHROMA) and whether 10 bits are accepted, of a decodable profile (09 R491). -/
def profileRow (codec profile : Nat) : Option (Nat × Bool) :=
  match codec, profile with
  | 1, 1 | 1, 2 | 2, 1 | 2, 3 => some (2, false)
  | 1, 3 => some (3, false)
  | 1, 4 | 3, 1 | 3, 3 | 4, 1 => some (3, true)
  | 1, 5 | 1, 6 | 2, 4 => some (7, true)
  | 2, 2 => some (2, true)
  | 2, 5 | 3, 2 | 3, 4 => some (15, true)
  | 4, 2 => some (10, true)
  | _, _ => none

/-- Levels that a codec defines, up to its ceiling (09 R492). -/
def levelsOf (codec : Nat) : List Nat :=
  match codec with
  | 1 => [9, 10, 11, 12, 13, 20, 21, 22, 30, 31, 32, 40, 41, 42, 50, 51, 52, 60, 61, 62]
  | 2 | 3 => [10, 20, 21, 30, 31, 40, 41, 50, 51, 52, 60, 61, 62]
  | 4 => [20, 21, 30, 31, 40, 41, 50, 51, 52, 53, 60, 61, 62, 63]
  | _ => []

/-- The session encodes; it decodes (06 R356). -/
def Session.enc (x : Session) : Bool := x.dir != 1
def Session.decodes (x : Session) : Bool := x.dir != 0

def Session.tierBad (x : Session) : Bool :=
  x.tier > 1 || (x.tier == 1 && (x.codec == 1 || x.level < 40 || (x.codec == 4 && x.enc)))

def Session.pipeField (x : Session) : Nat := bitsOf x.a0 12 4
def Session.number (x : Session) : Nat := bitsOf x.a0 24 8

/-- Pipes of a gang. -/
def Session.width1 (x : Session) : Nat := 2 ^ x.gang

/-- PIPE names a pipe that a gang may start at, or leaves the choice to firmware (06 R356; 07 R419). -/
def Session.pipeBad (x : Session) : Bool :=
  !(x.pipeField == 0xF || (x.pipeField < 4 && x.pipeField % x.width1 == 0))

/-- GANG is permitted to the codec (09 R517). -/
def Session.gangBad (x : Session) : Bool :=
  x.gang == 3 || (x.gang == 2 && x.codec != 2) || (x.gang == 1 && x.codec == 1)

def Session.widthBad (x : Session) : Bool :=
  x.width < (if x.enc then 64 else 16) || x.width > 8192 || ((x.chroma == 1 || x.chroma == 2) && x.width % 2 == 1)
    || (x.gang == 2 && x.width < 1024)

def Session.heightBad (x : Session) : Bool :=
  x.height < (if x.enc then 64 else 16) || x.height > (if x.enc then 4320 else 4352) || (x.chroma == 1 && x.height % 2 == 1)

/-- PROFILE is one of the codec's, in the session's direction. -/
def Session.profileBad (x : Session) : Bool :=
  (profileRow x.codec x.profile).isNone || (x.codec == 4 && x.profile == 2 && x.enc)

def Session.chromaBad (x : Session) : Bool := match profileRow x.codec x.profile with
  | some r => !bitAt r.1 x.chroma
  | none => false

def Session.depthBad (x : Session) : Bool := match profileRow x.codec x.profile with
  | some r => !(x.depth == 8 || (x.depth == 10 && r.2))
  | none => !(x.depth == 8 || x.depth == 10)

/-- A Pod handle, as a field. -/
def handleOk (h : Nat) : Bool := 1 ≤ h && h ≤ 255

/-- The fields of A0 and A1 that are out of range, with the byte each begins in. -/
def Session.argsBad (x : Session) : List (Bool × Nat) :=
  [(!(1 ≤ x.codec && x.codec ≤ 4), 0x28), (x.dir == 3 || x.cls == 3 || x.pipeBad, 0x29), (x.gangBad, 0x2A),
   (if x.enc then !handleOk x.encPod else x.encPod != 0xFFFF, 0x2C),
   (if x.decodes then !handleOk x.decPod else x.decPod != 0xFFFF, 0x2E),
   (x.widthBad, 0x30), (x.heightBad, 0x32), (x.profileBad, 0x34), (!(levelsOf x.codec).contains x.level, 0x35),
   (x.chromaBad || x.tierBad || x.depthBad, 0x36)]

/-! ### The parameter blocks -/

/-- The greatest QP of a codec (10 R533); the widest limit while the codec is unknown. -/
def Session.qpMax (x : Session) : Nat := match x.codec with | 1 | 2 => 51 | 3 => 63 | _ => 255

/-- A tile form that divides a picture among `g` pipes (09 R517). -/
def Session.formGives (x : Session) (cols rows form : Nat) : Bool :=
  match x.gang with
  | 0 => true
  | 1 => cols ≥ 2 || (x.codec != 4 && bitAt form 0) || (x.codec == 3 && bitAt form 1 && cols * rows ≥ 2)
  | _ => cols ≥ 4

/-- The fields of an encode block as they stand once a block of zeros has taken its defaults (10 R532). -/
def Session.encField (x : Session) (b : List Byte) (o i n : Nat) : Nat :=
  if zeroBlock b o 64 then
    (match i with
     | 9 => x.width1
     | 0xA => 1
     | 0x18 => 900
     | 0x21 | 0x22 => 0xFF
     | 8 => x.qpMax
     | 2 => if x.stills then 1 else 64
     | 1 => if x.noB then 0 else 3
     | 4 => if x.codec = 4 then 120 else 30
     | 5 => if x.codec = 4 then 136 else 32
     | 6 => if x.codec = 4 then 152 else 34
     | _ => 0)
  else blkField b (o + i) n

/-- A nibble that names a table up to `m`, or leaves the choice to the preset. -/
def nibbleOk (m v : Nat) : Bool := v ≤ m || v == 0xF

/-- Fields of an encode block at `o` of a body that break 10 R532 to R534, with the descriptor byte of each; `x` holds
the session's parameters, or none while it is closed. -/
def Session.encBad (x : Session) (b : List Byte) (o : Nat) : List (Bool × Nat) :=
  let f (i n : Nat) := x.encField b o i n
  let known := x.mode != .closed
  let mode := f 0 1
  let tiles := f 9 1 * f 0xA 1
  let e (c : Bool) (i : Nat) : Bool × Nat := (c, 0x40 + o + i)
  [e (mode > 6) 0,
   e (f 1 1 ≥ 32 || (known && x.noB && f 1 1 % 8 != 0) || (known && x.codec == 4 && bitAt (f 1 1) 4)) 1,
   e (known && x.stills && f 2 2 != 1) 2,
   e (f 4 1 > x.qpMax) 4, e (f 5 1 > x.qpMax) 5, e (f 6 1 > x.qpMax) 6, e (f 7 1 > x.qpMax) 7,
   e (f 8 1 > x.qpMax || f 8 1 < f 7 1) 8,
   e (!(1 ≤ f 9 1 && f 9 1 ≤ 20) || (known && f 9 1 > 1 && x.width < 256 * f 9 1)
      || (known && !x.formGives (f 9 1) (f 0xA 1) (f 0xB 1))) 9,
   e (!(1 ≤ f 0xA 1 && f 0xA 1 ≤ 22) || (known && f 0xA 1 > 1 && x.height < 64 * f 0xA 1)) 0xA,
   e (f 0xB 1 ≥ 16 || bitsOf (f 0xB 1) 2 2 == 3 || tiles == 0) 0xB,
   e (f 0xC 4 > 2000000 || (f 0xC 4 == 0 && (mode == 1 || mode == 2 || mode == 5 || mode == 6))) 0xC,
   e (f 0x10 4 > 2000000 || (f 0x10 4 != 0 && f 0x10 4 < f 0xC 4) || (f 0x10 4 == 0 && mode == 2)) 0x10,
   e (f 0x14 4 > 4000000 || (f 0x14 4 == 0 && mode == 5)) 0x14,
   e (!(1 ≤ f 0x18 2 && f 0x18 2 ≤ 1000)) 0x18,
   e (toSigned 16 (f 0x1A 2) < -1000 || toSigned 16 (f 0x1A 2) > 1000) 0x1A,
   e (f 0x1C 2 == 0 && mode == 3) 0x1C, e (f 0x1E 1 == 1) 0x1E,
   e (!nibbleOk 5 (f 0x21 1 % 16) || !nibbleOk 5 (f 0x21 1 / 16)) 0x21,
   e (!nibbleOk 3 (f 0x22 1 % 16) || !nibbleOk 3 (f 0x22 1 / 16)) 0x22,
   e (f 0x23 1 > 64) 0x23, e (f 0x24 2 == 0 && mode == 4) 0x24,
   e (f 0x26 1 ≥ 64 || bitsOf (f 0x26 1) 2 2 == 3) 0x26, e (f 0x27 1 != 0) 0x27,
   e (f 0x28 8 == 0 && mode == 4) 0x28, e (f 0x30 8 == 0 && f 0x23 1 != 0) 0x30,
   e ((f 0x38 4 != 0 && !(100 ≤ f 0x38 4 && f 0x38 4 ≤ 1000000)) || (f 0x38 4 == 0 && mode == 6)) 0x38,
   e (f 0x3C 4 != 0) 0x3C]

/-- The tables that an encode block names (10 R535). -/
def encAddrs (b : List Byte) (o : Nat) : List (Nat × Nat × Nat × Nat) :=
  (if blkField b (o + 0x28) 8 = 0 then [] else [(0x40 + o + 0x28, blkField b (o + 0x28) 8, 4 * blkField b (o + 0x24) 2, 64)])
    ++ (if blkField b (o + 0x30) 8 = 0 then [] else [(0x40 + o + 0x30, blkField b (o + 0x30) 8, 16 * blkByte b (o + 0x23), 64)])

/-- Bytes of a block that must be zero: the first that is not. -/
def zeroBad (b : List Byte) (o n : Nat) : List (Bool × Nat) :=
  (List.range n).map fun i => (blkByte b (o + i) != 0, 0x40 + o + i)

/-- Fields of a decode block at `o` that break 11 R585. -/
def Session.decBad (x : Session) (b : List Byte) (o : Nat) : List (Bool × Nat) :=
  let f (i n : Nat) := blkField b (o + i) n
  let known := x.mode != .closed
  let top := if known then 2 ^ x.depth else 1024
  let e (c : Bool) (i : Nat) : Bool × Nat := (c, 0x40 + o + i)
  [e (f 0 1 > 4) 0, e (f 1 1 > 1) 1, e (f 2 1 > 1 || (known && f 2 1 == 1 && x.codec != 4)) 2, e (f 3 1 > 1) 3,
   e (f 4 4 % 64 != 0) 4, e (f 8 2 ≥ top) 8, e (f 0xA 2 ≥ top) 0xA, e (f 0xC 2 ≥ top) 0xC, e (f 0xE 1 ≥ 4) 0xE]
    ++ zeroBad b (o + 0xF) 17

/-- Fields of a record-ring block at `o` that break 11 R592 and R593. -/
def ringBad (b : List Byte) (o : Nat) : List (Bool × Nat) :=
  let addr := blkField b o 8
  let size := blkField b (o + 8) 4
  [(addr != 0 && !(4096 ≤ size && size ≤ 2 ^ 31 && size % 4096 == 0), 0x48 + o),
   (bitsOf (blkField b (o + 0xC) 4) 7 9 != 0, 0x4C + o)]

/-- The ring that a block installs: its range, and its control block, which firmware writes. -/
def ringNamed (b : List Byte) (o : Nat) : List (Nat × Nat × Nat × Nat) :=
  if blkField b o 8 = 0 then [] else [(0x40 + o, blkField b o 8, blkField b (o + 8) 4, 64)]
def ringAddrs (b : List Byte) (o : Nat) : List (Nat × Nat × Nat × Nat) :=
  if blkField b o 8 = 0 then [] else [(0x40 + o, blkField b o 8, 64, 64)]

def ringOf (b : List Byte) (o : Nat) : Ring :=
  if blkField b o 8 = 0 then {} else { addr := blkField b o 8, size := blkField b (o + 8) 4, level := blkField b (o + 0xC) 4 }

/-- Firmware writes a new ring's control block with zeros (11 R594). -/
def State.clearRing (s : State) (g : Ring) : State := if g.size = 0 then s else s.writeMem 6 g.addr (leBytes 64 0)

/-! ### SESSION_OPEN -/

/-- The session that A0, A1, A2 and the body of SESSION_OPEN ask for. -/
def sessionAsked (c : Cmd) : Session :=
  { mode := .opened, queue := c.queue, a0 := c.a0, a1 := c.a1, work := c.a2, workSize := blkField c.body 0 8
    body := c.body, ring := ringOf c.body 8 }

/-- Bytes of work area that a configuration needs (06 R355; 09 R494). -/
def Session.workNeeded (x : Session) : Nat := Config.workArea [x.codec, x.dir, x.gang, x.a1]

/-- The shape of SESSION_OPEN. -/
def openShape (c : Cmd) : Shape :=
  let x := sessionAsked c
  { bodyLen := 128, m0 := 0xFFFFFFFFFF03FFFF, m1 := 2 ^ 56 - 1, m2 := 2 ^ 64 - 1
    bad := x.argsBad ++ [(!(x.number < 64 || x.number == 0xFF), 0x2B), (x.workSize < x.workNeeded, 0x40)]
      ++ ringBad c.body 8
      ++ [(!(1 ≤ blkField c.body 0x18 4 && blkField c.body 0x18 4 ≤ 240000), 0x58),
          (!(1 ≤ blkField c.body 0x1C 4 && blkField c.body 0x1C 4 ≤ 1001000), 0x5C)]
      ++ (if x.enc then x.encBad c.body 0x20 else []) ++ (if x.decodes then x.decBad c.body 0x60 else [])
    addrs := (0x38, c.a2, x.workSize, 4096) :: ringAddrs c.body 8
    named := ringNamed c.body 8 ++ (if x.enc then encAddrs c.body 0x20 else []) }

/-- A Pod that a session names is loaded, of the right KIND and codec, and runs in its gang (08 R454). -/
def State.podFits (s : State) (x : Session) (h kind : Nat) : Bool :=
  let b := (s.pod h).image
  !b.isEmpty && podKind b == kind && podCodec b == x.codec && podRuns b x.gang

/-- The Pods of a session: handle, and whether it is the decode Pod. -/
def Session.pods (x : Session) : List (Nat × Bool) :=
  (if x.enc then [(x.encPod, false)] else []) ++ (if x.decodes then [(x.decPod, true)] else [])

/-- What open sessions hold of pipe `n`. -/
def State.allotsOn (s : State) (n : Nat) : List Allot :=
  ((s.hazel.sessions.map fun e => e.2.allots).flatten).filter fun a => a.pipe == n

/-- The sum of a quantity. -/
def sumBy {α : Type} (f : α → Nat) (l : List α) : Nat := l.foldl (fun m a => m + f a) 0

/-- The handles without repeats. -/
def distinct (l : List Nat) : List Nat := l.foldl (fun m a => if m.contains a then m else m ++ [a]) []

/-- The allotments of a session's Pods on pipe `n`, out of the free threads and the free pages of pipe-local LFS
(08 R455). The lowest free numbers are taken (log 64). -/
def State.allotPods (s : State) (n : Nat) (lead : Bool) : List (Nat × Bool) → List Nat → List Nat → List Allot
  | [], _, _ => []
  | (h, dec) :: l, ts, ps =>
    let b := (s.pod h).image
    { pipe := n, handle := h, dec := dec, threads := ts.take (podThreads b), pCount := podScalars b, cCount := podCounters b
      kCount := podConsts b, gCount := if lead then podGangCounters b else 0, pages := podPinned b, lfs := ps.take (podLfsPages b) }
      :: State.allotPods s n lead l (ts.drop (podThreads b)) (ps.drop (podLfsPages b))

def State.newAllots (s : State) (n : Nat) (lead : Bool) (ps : List (Nat × Bool)) : List Allot :=
  let old := s.allotsOn n
  let ts := (List.range 64).filter fun t => !old.any fun a => a.threads.contains t
  let gs := (List.range 3072).filter fun p => !old.any fun a => a.lfs.contains p
  s.allotPods n lead ps ts gs

/-- What the Pods declare fits on pipe `n` beside what is allotted (07 R403; 08 R455, R481). -/
def State.allotFits (s : State) (n : Nat) (lead : Bool) (ps : List (Nat × Bool)) : Bool :=
  let old := s.allotsOn n
  let img := ps.map fun e => (s.pod e.1).image
  let hs := distinct (old.map (fun a => a.handle) ++ ps.map (fun e => e.1))
  sumBy (fun a => a.threads.length) old + sumBy podThreads img ≤ 64
    && sumBy (fun a => a.pCount) old + sumBy podScalars img ≤ 256
    && sumBy (fun a => a.cCount) old + sumBy podCounters img ≤ 128
    && sumBy (fun a => a.kCount) old + sumBy podConsts img ≤ 4096
    && (!lead || sumBy (fun a => a.gCount) old + sumBy podGangCounters img ≤ 16)
    && sumBy (fun h => podPinned (s.pod h).image) hs ≤ 128
    && sumBy (fun a => a.lfs.length) old + sumBy podLfsPages img ≤ 3072

/-- Pipes of the gang that starts at `n`. -/
def gangPipes (n g : Nat) : List Nat := (List.range (2 ^ g)).map (n + ·)

/-- A session fits on the gang that starts at `n`. -/
def State.gangFits (s : State) (x : Session) (n : Nat) : Bool :=
  (gangPipes n x.gang).all fun k => s.allotFits k (k == n) x.pods

/-- First pipes that a session may take. -/
def State.pipeChoices (s : State) (x : Session) : List Nat :=
  ((List.range 4).filter fun n => n % 2 ^ x.gang == 0 && (x.pipeField == 0xF || x.pipeField == n)).filter (s.gangFits x)

/-- Session numbers that a session may take. -/
def State.sessionChoices (s : State) (x : Session) : List Nat :=
  (List.range 64).filter fun i => (s.session i).mode == .closed && (x.number == 0xFF || x.number == i)

/-- The checks of the session's own state: status and DETAIL (check 10 of R335). -/
def State.openBar (s : State) (x : Session) : Option (Nat × Nat) :=
  if x.number ≠ 0xFF ∧ (s.session x.number).mode ≠ .closed then some (0x0107, 0x2B)
  else if x.enc && !s.podFits x x.encPod 1 then some (0x0107, 0x2C)
  else if x.decodes && !s.podFits x x.decPod 2 then some (0x0107, 0x2E)
  else if (s.sessionChoices x).isEmpty then some (0x0106, 1)
  else if (s.pipeChoices x).isEmpty then some (0x0106, 5)
  else none

/-- A pipe mask. -/
def maskOf (l : List Nat) : Nat := sumBy (2 ^ ·) l

/-- The session opens as number `i` on the gang that starts at `n`. -/
def State.openAt (s : State) (x : Session) (i n : Nat) : State :=
  let ps := gangPipes n x.gang
  let al := (ps.map fun k => s.newAllots k (k == n) x.pods).flatten
  (s.setSession i { x with firstPipe := n, mask := maskOf ps, allots := al }).clearRing x.ring

def State.openSession (s : State) (c : Cmd) : State × Cmd :=
  let x := sessionAsked c
  match s.openBar x with
  | some e => (s, c.ends e.1 e.2 0)
  | none =>
    let i := s.choose (s.sessionChoices x)
    let n := i.2.choose (s.pipeChoices x)
    match i.1, n.1 with
    | some i, some k => (n.2.openAt x i k, c.ends 0 0 (i + k * 2 ^ 8 + maskOf (gangPipes k x.gang) * 2 ^ 12))
    | _, _ => (s, c.ends 0x0106 1 0)

def execSessionOpen (q : Fin 16) (s : State) : Host.Outcome State Fault Refusal :=
  run (fun s => s.serve q.val 0x0101 (fun _ c => openShape c) State.openSession) s

def execSessionSize (q : Fin 16) (s : State) : Host.Outcome State Fault Refusal :=
  run (fun s => s.serve q.val 0x0105
    (fun _ c => { m0 := 0xFFFFFFFFFF03FFFF, m1 := 2 ^ 56 - 1, bad := (sessionAsked c).argsBad })
    fun s c => (s, c.ends 0 0 (sessionAsked c).workNeeded)) s

/-! ### SESSION_SET -/

/-- Where each block lies in the 128-byte body, and its length. -/
def setBlock (k : Nat) : Nat × Nat :=
  match k with
  | 1 => (0x20, 64)
  | 2 => (0x60, 32)
  | 3 => (0x08, 16)
  | _ => (0, 0)

def State.setShape (s : State) (c : Cmd) : Shape :=
  let x := s.session (c.a0 % 256)
  let k := bitsOf c.a0 8 8
  let y := if (k = 1 ∧ !x.enc) ∨ (k = 2 ∧ !x.decodes) then {} else x
  { bodyLen := (setBlock k).2, m0 := 0xFFFF
    bad := [(decide (c.a0 % 256 > 63), 0x28), (!(1 ≤ k && k ≤ 3), 0x29)]
      ++ (match k with | 1 => y.encBad c.body 0 | 2 => y.decBad c.body 0 | 3 => ringBad c.body 0 | _ => [])
    addrs := if k = 3 then ringAddrs c.body 0 else []
    named := match k with | 1 => encAddrs c.body 0 | 3 => ringNamed c.body 0 | _ => [] }

/-- A block takes its place in the session's parameters; a new ring starts at index 0 (11 R593, R608). -/
def Session.put (x : Session) (k : Nat) (b : List Byte) : Session :=
  let o := setBlock k
  let body := x.body.take o.1 ++ b.take o.2 ++ x.body.drop (o.1 + o.2)
  if k = 3 then
    { x with body := body, ring := ringOf b 0
             oldRing := match x.oldRing, x.run with
               | some g, _ => some g
               | none, some _ => some x.ring
               | none, none => none }
  else { x with body := body }

def State.setSessionBlock (s : State) (c : Cmd) : State × Cmd :=
  let i := c.a0 % 256
  let x := s.session i
  let k := bitsOf c.a0 8 8
  if x.mode != .opened then (s, c.ends 0x0107 0x28 0)
  else if (k = 1 ∧ !x.enc) ∨ (k = 2 ∧ !x.decodes) then (s, c.ends 0x0107 0x29 0)
  else
    let t := s.setSession i (x.put k c.body)
    (if k = 3 then (t.clearRing (ringOf c.body 0)).aruLevel x.firstPipe else t, c.done)

def execSessionSet (q : Fin 16) (s : State) : Host.Outcome State Fault Refusal :=
  run (fun s => s.serve q.val 0x0104 State.setShape State.setSessionBlock) s

/-! ### SESSION_QUERY -/

def SessionMode.code : SessionMode → Nat
  | .closed => 0 | .opened => 1 | .closing => 2

/-- The SESSION_QUERY block (R360). -/
def State.sessionBlock (s : State) (i : Nat) : List Byte :=
  let x := s.session i
  let flows := (s.flows.filter fun e => e.2.session == some i).length
  leBytes 1 x.mode.code ++ leBytes 1 x.codec ++ leBytes 1 x.dir ++ leBytes 1 x.mask ++ leBytes 2 x.encPod ++ leBytes 2 x.decPod
    ++ leBytes 8 x.jobs ++ leBytes 8 x.pictures ++ leBytes 8 x.bytesOut ++ leBytes 8 x.bytesIn ++ leBytes 8 x.findings
    ++ leBytes 8 x.concealed ++ leBytes 4 x.lastSeq ++ leBytes 4 flows

def execSessionQuery (q : Fin 16) (s : State) : Host.Outcome State Fault Refusal :=
  run (fun s => s.serve q.val 0x0103
    (fun _ c => { m0 := 0xFF, m1 := 2 ^ 64 - 1, bad := [(decide (c.a0 % 256 > 63), 0x28)], addrs := [(0x30, c.a1, 64, 64)] })
    fun s c => (s.writeMem 6 c.a1 (s.sessionBlock (c.a0 % 256)), c.done)) s

end Sys2Proof.Machine
end

