-- ==== Sys2Proof/Machine/JobEnd.lean ====
section
/-! DEFINITION. Picture formats (06 R364), what a job has produced when it ends (06 R367, R368; 10 R536 to R539; 11 R588,
R589, R610), and the end of a job before or on its pipe. -/

namespace Sys2Proof.Machine

/-! ### Picture formats (06 R364; 11 R569) -/

def fmtLayout (f : Nat) : Nat := f % 16
def fmtContainer (f : Nat) : Nat := bitsOf f 4 4
def fmtChroma (f : Nat) : Nat := bitsOf f 8 2

/-- A format code that names no layout, container or chroma format. -/
def fmtBad (f : Nat) : Bool :=
  !(1 ≤ fmtLayout f && fmtLayout f ≤ 3) || fmtContainer f > 2 || f ≥ 1024 || (fmtLayout f == 3) != (fmtChroma f == 0)

/-- A format code that a session's job may not use. -/
def Session.fmtBad (x : Session) (f : Nat) : Bool :=
  Machine.fmtBad f || (x.mode != .closed && (fmtChroma f != x.chroma || (fmtContainer f == 0) != (x.depth == 8)))

/-- Bytes of a sample. -/
def fmtBytes (f : Nat) : Nat := if fmtContainer f = 0 then 1 else 2

/-- Width and height of a chroma plane. -/
def chromaSize (f w h : Nat) : Nat × Nat :=
  match fmtChroma f with
  | 1 => ((w + 1) / 2, (h + 1) / 2)
  | 2 => ((w + 1) / 2, h)
  | 3 => (w, h)
  | _ => (0, 0)

/-- The planes as they lie in memory: bytes of a line and lines. -/
def planesOf (f w h : Nat) : List (Nat × Nat) :=
  let c := chromaSize f w h
  let b := fmtBytes f
  (w * b, h) :: match fmtLayout f with
    | 1 => [(c.1 * b, c.2), (c.1 * b, c.2)]
    | 2 => [(2 * c.1 * b, c.2)]
    | _ => []

/-- A pitch is a multiple of 64 that holds a line of every plane (06 R334). -/
def pitchBad (f pitch w h : Nat) : Bool := pitch % 64 != 0 || (planesOf f w h).any fun p => pitch < p.1

/-- Bytes of a picture whose planes follow one another (11 R569). -/
def pictureBytes (f pitch w h : Nat) : Nat := sumBy (fun p => pitch * p.2) (planesOf f w h)

/-- Width and height of plane `p`. -/
def planeSize (f w h p : Nat) : Nat × Nat := if p = 0 then (w, h) else chromaSize f w h

/-- Offset of a sample in a picture whose planes follow one another. -/
def sampleOffset (f pitch w h p x y : Nat) : Nat :=
  let b := fmtBytes f
  if p = 0 then y * pitch + x * b
  else if fmtLayout f = 2 then pitch * h + y * pitch + (2 * x + (p - 1)) * b
  else pitch * (h + (p - 1) * (chromaSize f w h).2) + y * pitch + x * b

/-- A sample out of its container. -/
def sampleOf (f v : Nat) : Nat :=
  match fmtContainer f with
  | 0 => v % 256
  | 1 => v % 1024
  | _ => v / 64 % 1024

def State.sample8 (s : State) (base f pitch w h p x y : Nat) : Nat :=
  sampleOf f (s.raw (base + sampleOffset f pitch w h p x y) (fmtBytes f))

/-- Every sample position of plane `p`, by line. -/
def positions (f w h p : Nat) : List (Nat × Nat) :=
  let z := planeSize f w h p
  ((List.range z.2).map fun y => (List.range z.1).map fun x => (x, y)).flatten

/-! ### JOB_MEASURE (06 R363, R366; 11 R588, R589) -/

/-- The pictures of a JOB_MEASURE: address, pitch; width, height, format, metrics. -/
structure Measure where
  a : Nat
  pa : Nat
  b : Nat
  pb : Nat
  w : Nat
  h : Nat
  f : Nat
  m : Nat
  deriving DecidableEq, Repr

def measureOf (body : List Byte) : Measure :=
  let g := blkField body
  { a := g 0 8, pa := g 8 4, pb := g 0xC 4, b := g 0x10 8, w := g 0x18 2, h := g 0x1A 2, f := g 0x1C 4, m := g 0x20 4 }

/-- The positions of plane `p` at which the pictures differ. -/
def State.diffs (s : State) (m : Measure) (p : Nat) : List (Nat × Nat) :=
  (positions m.f m.w m.h p).filter fun q =>
    s.sample8 m.a m.f m.pa m.w m.h p q.1 q.2 != s.sample8 m.b m.f m.pb m.w m.h p q.1 q.2

/-- x, y and plane of a mismatch (06 R367). -/
def mismatch (x y p : Nat) : Nat := x % 65536 + y % 65536 * 2 ^ 16 + p % 256 * 2 ^ 32
def noMismatch : Nat := 2 ^ 64 - 1

/-- Samples that differ, and the first of them in the order plane, y, x. -/
def State.compared (s : State) (m : Measure) : Nat × Nat :=
  let l := ((List.range 3).map fun p => (s.diffs m p).map fun q => (q.1, q.2, p)).flatten
  (l.length, match l with | [] => noMismatch | q :: _ => mismatch q.1 q.2.1 q.2.2)

/-- The lines of a picture whose planes follow one another: address and length. -/
def rowsOf (base f pitch w h : Nat) : List (Nat × Nat) :=
  ((planesOf f w h).foldl (fun (m : List (Nat × Nat) × Nat) p =>
    (m.1 ++ (List.range p.2).map (fun y => (m.2 + y * pitch, p.1)), m.2 + pitch * p.2)) ([], base)).1

/-- Read lines until one meets poison: its address. -/
def State.readRows (s : State) (port : Nat) : List (Nat × Nat) → State × Option Nat
  | [] => (s, none)
  | r :: l =>
    let m := s.readMem port r.1 r.2
    match m.poison with
    | some a => (m.state, some a)
    | none => State.readRows m.state port l

/-! ### What a job has produced -/

/-- The counts and measures of the result block (R367). -/
structure Metrics where
  pictures : Nat := 0
  findings : Nat := 0
  bytes : Nat := 0
  twin : Nat := 0
  concealed : Nat := 0
  psnr : List Nat := [0, 0, 0]
  ssim : Nat := 0
  first : Nat := noMismatch
  /-- Intra refresh forced; OUT_SIZE too small (R368 bits 59 and 60). -/
  refresh : Bool := false
  short : Bool := false
  deriving DecidableEq, Repr

/-- Free value number `k` from here. -/
def State.fresh (s : State) (k : Nat) : Nat := (Config.freeWord (s.free + k)).toNat

/-- A PSNR of the form of 11 R589: all ones when no sample differs, 0 for an absent plane; the rounding is open. -/
def State.psnrOf (s : State) (m : Measure) (p : Nat) : Nat :=
  if (positions m.f m.w m.h p).isEmpty then 0
  else if (s.diffs m p).isEmpty then 0xFFFFFFFF else s.fresh p % 2 ^ 32

/-- An SSIM in −65536 to 65536 as a signed 32-bit value. -/
def ssimOf (v : Nat) : Nat := ofSigned 32 ((v % 131073 : Nat) - 65536)

/-- What JOB_MEASURE measures. -/
def State.measured (s : State) (m : Measure) : Metrics :=
  let c := if bitAt m.m 2 then s.compared m else (0, noMismatch)
  { twin := c.1, first := c.2
    psnr := if bitAt m.m 0 then [s.psnrOf m 0, s.psnrOf m 1, s.psnrOf m 2] else [0, 0, 0]
    ssim := if bitAt m.m 1 then ssimOf (s.fresh 3) else 0 }

/-- The pictures that an encode or loopback job of a library Pod codes, and the reordering state after it (10 R536 to
R539, R566; 07 R415). -/
def Session.plan (x : Session) (src force : Bool) : Nat × Session :=
  if !src then
    (x.held, if x.held != 0 && (force || x.needsKey) then { x with held := 0, since := 1, needsKey := false } else { x with held := 0 })
  else
    let y := { x with shown := x.shown + 1 }
    if force || x.needsKey || x.shown == 0 || (x.gopLen != 0 && x.gopLen ≤ x.since) then
      (x.held + 1, { y with held := 0, since := 1, needsKey := false })
    else if x.held < x.bframes then (0, { y with held := x.held + 1, since := x.since + 1 })
    else (x.held + 1, { y with held := 0, since := x.since + 1 })

/-- The encode Pod came from entries 0 to 15 of the library (09 R512). -/
def State.libraryEnc (s : State) (x : Session) : Bool :=
  let l := (s.pod x.encPod).lib
  1 ≤ l && l ≤ 16

/-- What an encode or loopback job has coded; values that the Pod decides are free. -/
def State.encoded (s : State) (x : Session) (r : Run) (c : Cmd) : Metrics :=
  let out := blkField c.body 0x28 4
  let fed := r.fed.getD (min (s.fresh 2) out, decide (out < s.fresh 2))
  let loop := c.opcode == 0x303
  let checks := if loop then blkField c.body 0x4C 4 else 0
  let twin := if bitAt checks 0 then s.fresh 5 % 2 ^ 32 else 0
  let three := x.chroma != 0
  let psnr (k : Nat) : Nat := if bitAt checks 1 && (k == 0 || three) then s.fresh (6 + k) % 2 ^ 32 else 0
  { pictures := if s.libraryEnc x then (x.plan (blkField c.body 0 8 != 0) (bitAt c.a0 8)).1 else s.fresh 0 % 2 ^ 32
    findings := s.fresh 1 % 2 ^ 32
    bytes := fed.1, short := fed.2
    concealed := if loop then s.fresh 3 % 2 ^ 32 else 0
    refresh := (Config.freeWord (s.free + 4)).getLsbD 0
    twin := twin, first := if twin = 0 then noMismatch else s.fresh 10 % 2 ^ 40
    psnr := [psnr 0, psnr 1, psnr 2], ssim := if bitAt checks 2 then ssimOf (s.fresh 9) else 0 }

/-- What a decode job has output: the slots that PIC_OUT bound; the rest is the Pod's. -/
def State.decoded (s : State) (r : Run) (c : Cmd) : Metrics :=
  { pictures := r.slots, findings := s.fresh 1 % 2 ^ 32
    bytes := if bitAt c.a0 16 then s.fresh 2 else s.fresh 2 % (blkField c.body 8 4 + 1)
    concealed := s.fresh 3 % 2 ^ 32 }

/-- The metrics of a job that ends; poison leaves the measures 0 (11 R610). -/
def State.metrics (s : State) (x : Session) (r : Run) (c : Cmd) (status : Nat) : Metrics :=
  let m :=
    if c.opcode = 0x304 then s.measured (measureOf c.body)
    else if c.opcode = 0x302 then s.decoded r c
    else s.encoded x r c
  if status = 0x0303 then { m with psnr := [0, 0, 0], ssim := 0, twin := 0, first := 0 } else m

/-- The 64 bytes of the result block (R367). -/
def resultBlock (m : Metrics) (duration records gapLost : Nat) : List Byte :=
  let sat (n w : Nat) : List Byte := leBytes n (min w (satMax (8 * n)))
  sat 4 m.pictures ++ sat 4 m.findings ++ sat 8 m.bytes ++ sat 8 duration ++ sat 4 m.twin ++ sat 4 m.concealed
    ++ (m.psnr.map (leBytes 4)).flatten ++ leBytes 4 m.ssim ++ sat 4 records ++ sat 4 gapLost ++ leBytes 8 m.first

/-- The RESULT of a job (R368). -/
def jobResult (m : Metrics) : Nat :=
  m.bytes % 2 ^ 32 + min m.pictures 65535 * 2 ^ 32 + b2n (m.twin != 0) * 2 ^ 56 + b2n (m.findings != 0) * 2 ^ 57
    + b2n (m.concealed != 0) * 2 ^ 58 + b2n m.refresh * 2 ^ 59 + b2n m.short * 2 ^ 60

/-! ### The end of a job -/

/-- The session's counters take a job's counts (R360); DONE also counts the job. -/
def Session.tally (x : Session) (c : Cmd) (m : Metrics) (isDone : Bool) : Session :=
  { x with jobs := satAdd 64 x.jobs (b2n isDone), lastSeq := if isDone then c.seq else x.lastSeq
           pictures := satAdd 64 x.pictures m.pictures
           bytesOut := if c.opcode = 0x302 ∨ c.opcode = 0x304 then x.bytesOut else satAdd 64 x.bytesOut m.bytes
           bytesIn := if c.opcode = 0x302 then satAdd 64 x.bytesIn m.bytes else x.bytesIn
           findings := satAdd 64 x.findings m.findings, concealed := satAdd 64 x.concealed m.concealed }

/-- A job that completes DONE keeps its pictures: the session goes on from its reordering state (10 R536). -/
def State.carryOn (s : State) (x : Session) (c : Cmd) : Session :=
  if c.opcode = 0x304 then x
  else if c.opcode = 0x302 then { x with needsKey := false }
  else if s.libraryEnc x then (x.plan (blkField c.body 0 8 != 0) (bitAt c.a0 8)).2
  else { x with needsKey := false }

/-- The result block is written to A2 (R363). -/
def State.putResult (s : State) (c : Cmd) (bs : List Byte) : State :=
  if c.a2 ≠ 0 ∧ s.dramReady c.a2 64 then s.writeMem 6 c.a2 bs else s

/-- The run of a session's job at place `i` ends with a status: the batch, the scalars, the measures, the result block
and the session's counters; the pipes' grants go once no job uses them (11 R597; 08 R456; 06 R367). RESULT is `result`
for POISON_CONSUMED. -/
def State.endRunning (s : State) (i : Nat) (c : Cmd) (r : Run) (status detail result : Nat) : State :=
  let sess := c.a0 % 256
  let x := s.session sess
  let v := { x with body := r.body }
  let m := s.metrics v r c status
  let next := s.carryOn v c
  let t := { s with free := s.free + 11 }.endRun sess status
  let y := t.session sess
  let r' := ((s.batch sess status).session sess).run.getD r
  let y := if status = 0 then { y with needsKey := next.needsKey, held := next.held, since := next.since, shown := next.shown
                                       refs := x.refs } else y
  let t := t.setSession sess (y.tally c m (status == 0))
  let t := t.putResult c (resultBlock m (s.now - r.started) r'.records r'.gapLost)
  let res := if status = 0x0303 then result else jobResult m
  (t.setJob i { c.ends status detail res with onPipe := false }).releaseIdlePipes 4

/-- The live job at place `i` ends, on its pipe or before it has started. -/
def State.endJobAt (s : State) (i status detail result : Nat) : State :=
  match s.hazel.jobs[i]? with
  | none => s
  | some c =>
    if !c.live then s
    else match c.onPipe, (s.session (c.a0 % 256)).run with
      | true, some r => s.endRunning i c r status detail result
      | _, _ => (s.setJob i { c.ends status detail 0 with onPipe := false }).releaseIdlePipes 4

/-- The live job that runs for a session. -/
def State.runningJob (s : State) (sess : Nat) : Option Nat :=
  s.hazel.jobs.findIdx? fun c => isJob c.opcode && c.phase == .running && c.onPipe && c.a0 % 256 == sess

/-- The running job of a session ends with a status. -/
def State.stopRun (s : State) (sess status detail result : Nat) : State :=
  match s.runningJob sess with
  | some i => (s.endJobAt i status detail result).progress
  | none => s

/-! ### SESSION_CLOSE (R359) and JOB_CANCEL (R371) -/

/-- End every live job of a session before place `i`. -/
def State.cancelBefore (s : State) (sess detail : Nat) : Nat → State
  | 0 => s
  | n + 1 =>
    let t := State.cancelBefore s sess detail n
    let c := t.hazel.jobs.getD n {}
    if isJob c.opcode && c.live && c.a0 % 256 == sess then t.endJobAt n 0x0304 detail 0 else t

def State.closing (s : State) (c : Cmd) : State × Cmd :=
  let sess := c.a0 % 256
  let x := s.session sess
  if x.mode != .opened then (s, c.ends 0x0107 0x28 0)
  else
    let t := s.setSession sess { x with mode := .closing }
    let t := if bitAt c.a0 8 then t.cancelBefore sess c.seq ((s.starts c.queue 0x0102).getD 0) else t
    (t, { c with phase := .running })

def execSessionClose (q : Fin 16) (s : State) : Host.Outcome State Fault Refusal :=
  run (fun s => (s.serve q.val 0x0102
    (fun _ c => { m0 := 0x1FF, bad := [(decide (c.a0 % 256 > 63), 0x28)] }) State.closing).progress) s

/-- The job that a JOB_CANCEL names. -/
def State.cancelTarget (s : State) (c : Cmd) : Option Nat :=
  s.hazel.jobs.findIdx? fun x => x.queue == c.queue && isJob x.opcode && x.seq == c.a0 % 2 ^ 32 && x.live

def State.cancel (s : State) (c : Cmd) : State × Cmd :=
  match s.cancelTarget c with
  | some i => (s.endJobAt i 0x0304 c.seq 0, c.ends 0 1 0)
  | none => (s, c.done)

def execJobCancel (q : Fin 16) (s : State) : Host.Outcome State Fault Refusal :=
  run (fun s => (s.serve q.val 0x0305 (fun _ _ => { m0 := 2 ^ 32 - 1 }) State.cancel).progress) s

end Sys2Proof.Machine
end

