-- ==== Sys2Proof/Machine/PodCmds.lean ====
section
/-! DEFINITION. The Pod commands (06 R361, R362; 08 R452, R453). -/

namespace Sys2Proof.Machine

/-- Where firmware keeps the image of a handle (06 R329; log 65). -/
def podAddr (h : Nat) : Nat := 0x3F0000000 + (h - 1) * 2 ^ 20

/-- Put bytes at an offset of an image. -/
def putBytes (b : List Byte) (o : Nat) (v : List Byte) : List Byte := b.take o ++ v ++ b.drop (o + v.length)

/-- The image with its relocations made (08 R452). -/
def relocated (b : List Byte) (h version : Nat) : List Byte :=
  (podRelocs b).foldl (fun m r =>
    putBytes m ((podSection b 1).1 + 16 * (r % 65536)) (leBytes 8 (relocValue h version (podAbi b) (bitsOf r 16 8)))) b

/-- A library entry's offset and length; 0 and 0 for an empty user entry. -/
def State.libEntry (s : State) (id : Nat) : Nat × Nat := Table.get (0, 0) s.mram.library id

/-- Bytes of all loaded images. -/
def State.podBytes (s : State) : Nat := sumBy (fun e => e.2.image.length) s.hazel.pods

/-- Free handles. -/
def State.freeHandles (s : State) : List Nat := ((List.range 256).drop 1).filter fun h => (s.pod h).image.isEmpty

/-- RESULT of POD_LOAD. -/
def podResult (h : Nat) (b : List Byte) : Nat := h + podThreads b * 2 ^ 16 + podSteps b * 2 ^ 32

/-- The checks 2 to 20 of 08 R453, and the load. -/
def State.loadImage (s : State) (c : Cmd) (b : List Byte) (lib : Nat) : State × Cmd :=
  match podCheck b (c.a1 % 2 ^ 32) s.hazel.image.podLo s.hazel.image.podHi with
  | some e => (s, c.ends e.1 e.2 0)
  | none =>
    let h := s.choose s.freeHandles
    match h.1 with
    | none => (s, c.ends 0x0106 2 0)
    | some k =>
      if s.podBytes + b.length > 2 ^ 26 then (s, c.ends 0x0106 2 0)
      else
        let v := s.hazel.image.version
        let t := h.2.setPod k { image := b, lib := lib, version := v }
        (t.writeMem 6 (podAddr k) (relocated b k v), c.ends 0 0 (podResult k b))

/-- Read an image from memory and load it; poison ends the command (check 1). -/
def State.loadFrom (s : State) (c : Cmd) (a n lib : Nat) : State × Cmd :=
  let m := s.readMem 6 a n
  match m.poison with
  | some p => (m.state, c.ends 0x0303 (p - a) p)
  | none => m.state.loadImage c m.data lib

def State.podLoad (s : State) (c : Cmd) : State × Cmd :=
  let id := bitsOf c.a1 32 16
  if !s.ready 7 then (s, c.ends 0x0201 7 0)
  else if s.asleep 1 then (s.wakeStack 1 1, { c with wait := some ⟨.dramWake, 1⟩ })
  else if c.a0 ≠ 0 then s.loadFrom c c.a0 (c.a1 % 2 ^ 32) 0
  else if id < 16 then s.needing c [8] fun _ => s.loadImage c (Config.libraryPod id) (id + 1)
  else
    let e := s.libEntry id
    if e.2 = 0 then (s, c.ends 0x0107 0x34 0)
    else s.needing c [8] fun _ => s.loadFrom c (regionBase 7 + e.1) e.2 (id + 1)

def execPodLoad (q : Fin 16) (s : State) : Host.Outcome State Fault Refusal :=
  run (fun s => s.serve q.val 0x0201
    (fun _ c =>
      let n := c.a1 % 2 ^ 32
      let id := bitsOf c.a1 32 16
      { m0 := 2 ^ 64 - 1, m1 := 2 ^ 48 - 1
        bad := [(!(64 ≤ n && n ≤ 2 ^ 20), 0x30), (if c.a0 = 0 then decide (id > 63) else id != 0xFFFF, 0x34)]
        addrs := if c.a0 = 0 then [] else [(0x28, c.a0, n, 64)] })
    State.podLoad) s

/-- An open session uses a handle. -/
def State.podUsed (s : State) (h : Nat) : Bool :=
  s.hazel.sessions.any fun e => e.2.mode != .closed && e.2.allots.any fun a => a.handle == h

/-- The resident pages of a handle leave the step stores. -/
def Pipe.dropPages (p : Pipe) (h : Nat) : Pipe := { p with pages := p.pages.filter fun e => e.2.1 != h }

def execPodUnload (q : Fin 16) (s : State) : Host.Outcome State Fault Refusal :=
  run (fun s => s.serve q.val 0x0202
    (fun _ c => { m0 := 0xFFFF, bad := [(!handleOk (c.a0 % 65536), 0x28)] })
    fun s c =>
      let h := c.a0 % 65536
      if (s.pod h).image.isEmpty || s.podUsed h then (s, c.ends 0x0107 0x28 0)
      else
        let t := s.setPod h {}
        (foldRange (fun n u => u.setPipe n ((u.pipe n).dropPages h)) 4 t, c.done)) s

/-- Length rounded up to whole words of bank D. -/
def wordsUp (n : Nat) : Nat := (n + 7) / 8 * 8

/-- Ranges of the Pod library that other user entries take or are about to take, `id` apart. -/
def State.libraryUsed (s : State) (id : Nat) : List (Nat × Nat) :=
  (s.mram.library.filter fun e => e.1 != id).map (fun e => (e.2.1, wordsUp e.2.2))
    ++ (s.hazel.jobs.filter fun c => c.opcode == 0x203 && c.phase == .running).map
        (fun c => (c.dst + c.rest.length - c.result, wordsUp c.result))

/-- The lowest place in the library for `n` bytes (06 R361; log 60). -/
def State.libraryPlace (s : State) (id n : Nat) : Option Nat :=
  let used := s.libraryUsed id
  let ok (o : Nat) : Bool := Config.libraryTaken ≤ o && o + wordsUp n ≤ regionSize 7 && used.all fun e => !overlaps o (wordsUp n) e.1 e.2
  ((Config.libraryTaken :: used.map fun e => e.1 + e.2).filter ok).foldl (fun m o => some (match m with | none => o | some x => min x o)) none

/-- A command asks for its next burst of bank D; a burst of another command may be in progress (03 R148). -/
def State.askBurst (s : State) (c : Cmd) (cls : Nat) : State × Cmd :=
  if s.pac.held.contains ⟨.mramBurst, 0⟩ then (s, c.awaits ⟨.mramBurst, 0⟩) else s.ask c ⟨.mramBurst, 0⟩ cls

def execPodStore (q : Fin 16) (s : State) : Host.Outcome State Fault Refusal :=
  run (fun s => s.serve q.val 0x0203
    (fun _ c => { m0 := 0xFFFF, m1 := 0x3F, bad := [(!handleOk (c.a0 % 65536), 0x28), (decide (c.a1 % 64 < 16), 0x30)] })
    fun s c =>
      let b := (s.pod (c.a0 % 65536)).image
      if b.isEmpty then (s, c.ends 0x0107 0x28 0)
      else match s.libraryPlace (c.a1 % 64) b.length with
        | none => (s, c.ends 0x0106 6 0)
        | some o => s.needing c [8] fun _ => s.askBurst { c with rest := b, dst := o, result := b.length } 1) s

def execPodDelete (q : Fin 16) (s : State) : Host.Outcome State Fault Refusal :=
  run (fun s => s.serve q.val 0x0204
    (fun _ c => { m0 := 0x3F, bad := [(decide (c.a0 % 64 < 16), 0x28)] })
    fun s c =>
      if (s.libEntry (c.a0 % 64)).2 = 0 then (s, c.done)
      else s.needing c [8] fun _ => s.askBurst { c with rest := [], dst := (s.libEntry (c.a0 % 64)).1 } 1) s

end Sys2Proof.Machine
end

