-- ==== Sys2Proof/Machine/JobCmds.lean ====
section
/-! DEFINITION. The job commands (06 R363 to R369; 09 R495, R498; 11 R570). A job that passes its checks goes on when
its pipes, the core PLL and its grants allow. -/

namespace Sys2Proof.Machine

/-- An address field that is given: its offset, address and length. -/
def given (o a n : Nat) : List (Nat × Nat × Nat × Nat) := if a = 0 then [] else [(o, a, n, 64)]

/-- The field coding of an AVC encode needs a HEIGHT that is a multiple of 4 (09 R495). -/
def Session.fieldBad (x : Session) : Bool :=
  x.mode != .closed && x.codec == 1 && x.chroma == 1 && bitAt (blkByte x.body 0x21) 4 && x.height % 4 != 0

/-- The shape of JOB_ENCODE and JOB_LOOPBACK (R365). A flush job, SRC_Y 0, reads none of its source fields. -/
def State.encodeShape (s : State) (c : Cmd) (loop : Bool) : Shape :=
  let x := s.session (c.a0 % 256)
  let b := c.body
  let g := blkField b
  let f := g 0x1C 4
  let src := g 0 8 != 0
  let fb := x.fmtBad f
  let use := src && !fb
  let sizes := (planesOf f x.width x.height).map fun p => g 0x18 4 * p.2
  let recon := g 0x30 8 != 0 && !fb
  let dec := loop && g 0x40 8 != 0 && !fb
  { bodyLen := if loop then 96 else 64, m0 := 0x1FF, m1 := 2 ^ 64 - 1, m2 := 2 ^ 64 - 1
    bad := [(decide (c.a0 % 256 > 63) || x.fieldBad, 0x28), (fb && (src || g 0x30 8 != 0 || (loop && g 0x40 8 != 0)), 0x5C),
            (use && (fmtLayout f == 3) != (g 8 8 == 0), 0x48), (use && (fmtLayout f == 1) != (g 0x10 8 != 0), 0x50),
            (use && pitchBad f (g 0x18 4) x.width x.height, 0x58), (recon && pitchBad f (g 0x38 4) x.width x.height, 0x78),
            (dec && pitchBad f (g 0x48 4) x.width x.height, 0x88), (loop && g 0x4C 4 ≥ 8, 0x8C)]
      ++ zeroBad b 0x2C 4 ++ zeroBad b 0x3C 4 ++ (if loop then zeroBad b 0x50 16 else [])
    addrs := given 0x38 c.a2 64
      ++ (if use then given 0x40 (g 0 8) (sizes.getD 0 0) ++ given 0x48 (g 8 8) (sizes.getD 1 0) ++ given 0x50 (g 0x10 8) (sizes.getD 2 0)
          else [])
      ++ [(0x60, g 0x20 8, g 0x28 4, 64)]
      ++ (if recon then given 0x70 (g 0x30 8) (pictureBytes f (g 0x38 4) x.width x.height) else [])
      ++ (if dec then given 0x80 (g 0x40 8) (pictureBytes f (g 0x48 4) x.width x.height) else []) }

/-- The bytes of an output slot: the planes, and the concealment map where the decode block selects one (11 R569, R570,
R580). -/
def Session.slotBytes (x : Session) (f pitch : Nat) : Nat :=
  let n := pictureBytes f pitch x.width x.height
  if blkByte x.body 0x63 = 1 then
    let o := blkField x.body 0x64 4
    let mp := (((x.width + 15) / 16 + 3) / 4 + 63) / 64 * 64
    max n ((if o = 0 then (n + 63) / 64 * 64 else o) + mp * ((x.height + 15) / 16))
  else n

/-- The shape of JOB_DECODE (R366). -/
def State.decodeShape (s : State) (c : Cmd) : Shape :=
  let x := s.session (c.a0 % 256)
  let b := c.body
  let g := blkField b
  let f := g 0x24 4
  let fb := x.fmtBad f
  let known := x.mode != .closed && !fb
  { bodyLen := 64, m0 := 0x3FFFF, m2 := 2 ^ 64 - 1
    bad := [(decide (c.a0 % 256 > 63), 0x28), (known && g 0x18 4 < x.slotBytes f (g 0x20 4), 0x58),
            (!(1 ≤ g 0x1C 4 && g 0x1C 4 ≤ 64), 0x5C), (known && pitchBad f (g 0x20 4) x.width x.height, 0x60), (fb, 0x64)]
      ++ zeroBad b 0xC 4 ++ zeroBad b 0x30 16
    addrs := given 0x38 c.a2 64 ++ (if bitAt c.a0 16 then [] else [(0x40, g 0 8, g 8 4, 1)])
      ++ [(0x50, g 0x10 8, g 0x18 4 * g 0x1C 4, 64)] ++ given 0x68 (g 0x28 8) (64 * g 0x1C 4) }

/-- The shape of JOB_MEASURE (R366). -/
def measureShape (c : Cmd) : Shape :=
  let b := c.body
  let m := measureOf b
  let fb := fmtBad m.f
  { bodyLen := 64, m0 := 0xFF, m2 := 2 ^ 64 - 1
    bad := [(decide (c.a0 % 256 > 63), 0x28), (!fb && pitchBad m.f m.pa m.w m.h, 0x48), (!fb && pitchBad m.f m.pb m.w m.h, 0x4C),
            (m.w == 0, 0x58), (m.h == 0, 0x5A), (fb, 0x5C), (m.m ≥ 8, 0x60)]
      ++ zeroBad b 0x24 12 ++ zeroBad b 0x30 16
    addrs := given 0x38 c.a2 64 ++ [(0x40, m.a, pictureBytes m.f m.pa m.w m.h, 64), (0x50, m.b, pictureBytes m.f m.pb m.w m.h, 64)] }

/-- The direction that a job needs of its session; any for JOB_MEASURE. -/
def jobDir (op : Nat) : Option Nat :=
  match op with
  | 0x301 => some 0
  | 0x302 => some 1
  | 0x303 => some 2
  | _ => none

/-- A job's checks of its session, and its start (R358, R363; 09 R498). -/
def State.submit (s : State) (c : Cmd) : State × Cmd :=
  let x := s.session (c.a0 % 256)
  if x.mode != .opened || x.queue != c.queue then (s, c.ends 0x0107 0x28 0)
  else if (match jobDir c.opcode with | some d => x.dir != d | none => false) then (s, c.ends 0x0107 0x28 0)
  else if c.opcode = 0x302 ∧ bitAt c.a0 16 ∧ x.codec = 4 then (s, c.ends 0x0107 0x28 0)
  else (s, { c with phase := .running, pipes := if c.opcode = 0x304 then 2 ^ x.firstPipe else x.mask, params := x.body })

def execJobEncode (q : Fin 16) (s : State) : Host.Outcome State Fault Refusal :=
  run (fun s => (s.serve q.val 0x0301 (fun s c => s.encodeShape c false) State.submit).progress) s

def execJobLoopback (q : Fin 16) (s : State) : Host.Outcome State Fault Refusal :=
  run (fun s => (s.serve q.val 0x0303 (fun s c => s.encodeShape c true) State.submit).progress) s

def execJobDecode (q : Fin 16) (s : State) : Host.Outcome State Fault Refusal :=
  run (fun s => (s.serve q.val 0x0302 State.decodeShape State.submit).progress) s

def execJobMeasure (q : Fin 16) (s : State) : Host.Outcome State Fault Refusal :=
  run (fun s => (s.serve q.val 0x0304 (fun _ c => measureShape c) State.submit).progress) s

end Sys2Proof.Machine
end

