-- ==== Sys2Proof/Machine/Pipes.lean ====
section
/-! DEFINITION. The codec pipes (07): the start and the end of a job on its pipes, the step store and its pages, thread
faults, deadlock, and self-tests. -/

namespace Sys2Proof.Machine

/-! ### Threads and keys -/

def Pipe.thread (p : Pipe) (t : Nat) : Thread := Table.get {} p.threads t
def State.thread (s : State) (n t : Nat) : Thread := (s.pipe n).thread t
def State.setThread (s : State) (n t : Nat) (x : Thread) : State :=
  let p := s.pipe n
  s.setPipe n { p with threads := Table.set {} p.threads t x }

/-- The place of a pipe scalar, a counter and a gang counter of a session's Pod. -/
def scalarKey (sess : Nat) (dec : Bool) (i : Nat) : Nat := sess * 512 + 256 * b2n dec + i
def counterKey (sess : Nat) (dec : Bool) (i : Nat) : Nat := (sess * 2 + b2n dec) * 128 + i
def gangKey (sess : Nat) (dec : Bool) (i : Nat) : Nat := (sess * 2 + b2n dec) * 16 + i

/-- The counter of the publication with which a job starts: every reader has passed it. -/
def always : Nat := 0xFFFF

/-! ### The step store (07 R410, R411, R436) -/

def Pipe.resident (p : Pipe) (h g : Nat) : Bool := p.pages.any fun e => e.2.1 == h && e.2.2.1 == g

/-- Ask for a page: at most eight fetches are outstanding, and the others wait in order. -/
def Pipe.fetch (p : Pipe) (h g : Nat) : Pipe :=
  if p.resident h g || p.fetches.contains (h, g) || p.fetchQueue.contains (h, g) then p
  else if p.fetches.length < 8 then { p with fetches := p.fetches ++ [(h, g)] }
  else { p with fetchQueue := p.fetchQueue ++ [(h, g)] }

/-- The first pages of a Pod that an open session uses on pipe `n` are pinned. -/
def State.pinned (s : State) (n h g : Nat) : Bool :=
  g < podPinned (s.pod h).image && (s.allotsOn n).any fun a => a.handle == h

/-- The slot that a fetched page takes: the lowest free one, else that of the unpinned page issued from least recently,
the lowest among equals (R411). -/
def State.pageSlot (s : State) (n : Nat) : Option Nat :=
  let p := s.pipe n
  match (List.range 256).find? fun i => (Table.get (0, 0, 0) p.pages i).1 == 0 with
  | some i => some i
  | none =>
    (p.pages.foldl (fun (m : Option (Nat × Nat)) e =>
      if s.pinned n e.2.1 e.2.2.1 then m
      else match m with
        | none => some (e.1, e.2.2.2)
        | some x => if e.2.2.2 < x.2 then some (e.1, e.2.2.2) else m) none).map fun x => x.1

/-- A step has been issued from a page. -/
def Pipe.touchPage (p : Pipe) (h g : Nat) : Pipe :=
  { p with turn := p.turn + 1
           pages := p.pages.map fun e => if e.2.1 == h && e.2.2.1 == g then (e.1, (h, g, p.turn + 1)) else e }

/-! ### The start of a job (07 R404, R419, R433; 08 R456, R464; 10 R535, R551) -/

/-- The entries of thread `t` of an allotment as a job starts on pipe index `j`. -/
def State.startThread (s : State) (sess j : Nat) (a : Allot) (t : Nat) : State :=
  let b := (s.pod a.handle).image
  if podLeadOnly b t && j != 0 then s
  else s.setThread a.pipe (a.threads.getD t 0)
    { active := true, session := sess, dec := a.dec, handle := a.handle, tid := t, pc := podEntry b t, passed := [always] }

/-- Pages that a Pod needs resident before it starts. -/
def Pipe.fetchPinned (p : Pipe) (h : Nat) : Nat → Pipe
  | 0 => p
  | g + 1 => (Pipe.fetchPinned p h g).fetch h g

/-- The pipe scalars, counters and publications of a session on a pipe as its job starts. -/
def Pipe.restore (p : Pipe) (sess n : Nat) (saved : List (Nat × Nat)) (lead : Bool) : Pipe :=
  let mine := (saved.filter fun e => e.1 / 512 == n).map fun e => (sess * 512 + e.1 % 512, e.2)
  { p with scalars := mine.foldl (fun t e => Table.set 0 t e.1 e.2) (p.scalars.filter fun e => e.1 / 512 != sess)
           published := mine.map (fun e => ⟨e.1, always, e.2⟩) ++ p.published.filter (fun e => e.key / 512 != sess)
           counters := p.counters.filter fun e => e.1 / 256 != sess
           gangCounters := if lead then p.gangCounters.filter fun e => e.1 / 32 != sess else p.gangCounters }

/-- A session's threads start on pipe `n`, index `j` of its gang. -/
def State.startOn (s : State) (sess j n : Nat) (run : Bool) : State :=
  let x := s.session sess
  let p := (s.pipe n).restore sess n x.saved (n == x.firstPipe)
  let p := { p with busyFrom := if p.busyFrom = 0 then s.now + 1 else p.busyFrom }
  let t := s.setPipe n p
  if run then
    (x.allots.filter fun a => a.pipe == n).foldl (fun u a =>
      let v := foldRange (fun k w => w.startThread sess j a k) a.threads.length u
      v.setPipe n ((v.pipe n).fetchPinned a.handle a.pages)) t
  else t

/-- RC_MODE, INJ_COUNT and the tables of the encode block in force (10 R532, R535). -/
def encBlock (body : List Byte) : List Byte := (body.drop 0x20).take 64
def injTable (body : List Byte) : Nat × Nat := (blkField body 0x50 8, 16 * blkByte body 0x43)
def trajTable (body : List Byte) : Nat × Nat :=
  if blkByte body 0x20 = 4 then (blkField body 0x48 8, 4 * blkField body 0x44 2) else (0, 0)

/-- Firmware reads the trajectory and injection tables, and copies the latter into the work area; the address of the first
poisoned word ends the job (10 R535, R551). -/
def State.readTables (s : State) (x : Session) (body : List Byte) : State × Option Nat :=
  if !x.enc then (s, none)
  else
    let a := s.readMem 6 (trajTable body).1 (trajTable body).2
    let b := a.state.readMem 6 (injTable body).1 (injTable body).2
    match a.poison, b.poison with
    | some p, _ => (a.state, some p)
    | none, some p => (b.state, some p)
    | none, none => (if (injTable body).2 = 0 then b.state else b.state.writeMem 6 x.work b.data, none)

/-- A job at place `i` that holds all it asked for. -/
def State.startable (s : State) (n i : Nat) : Bool :=
  let c := s.hazel.jobs.getD i {}
  c.asked && bitAt c.pipes n && s.pll 2 == .locked && (s.session (c.a0 % 256)).run.isNone
    && (pipesOf c.pipes).all fun k => s.pac.held.contains ⟨.pipeJob, k⟩

/-- The job at place `i` starts on its pipes, 0.1 µs after it holds what it needs (R433). -/
def State.startJob (s : State) (i : Nat) : State :=
  let c := s.hazel.jobs.getD i {}
  let sess := c.a0 % 256
  let t := s.advance 100
  let x := t.session sess
  let r : Run := { queue := c.queue, seq := c.seq, opcode := c.opcode, started := t.now, body := c.params, startPtp := t.ptpWord }
  let t := t.setSession sess { x with started := x.started + 1, run := some r }
  let t := t.setJob i { c with wait := none, onPipe := true }
  let ps := pipesOf c.pipes
  let t := ps.foldl (fun u n => u.startOn sess (n - x.firstPipe) n (c.opcode != 0x304)) t
  if c.opcode = 0x301 ∨ c.opcode = 0x303 then
    match t.readTables x c.params with
    | (u, some a) => u.stopRun sess 0x0303 0 a
    | (u, none) => u
  else t

def execPipeJobStart (n : Fin 4) (s : State) : Host.Outcome State Fault Refusal :=
  run (fun s =>
    match (List.range s.hazel.jobs.length).find? (s.startable n.val) with
    | some i => s.startJob i
    | none => s) s

/-! ### The end of a job (07 R404; 08 R473; 11 R598) -/

/-- Every thread of the session's job has ended. -/
def State.threadsEnded (s : State) (sess : Nat) : Bool :=
  (List.range 4).all fun n => (s.pipe n).threads.all fun e => e.2.session != sess || !e.2.active

/-- The stack that the end of a job still has to wake: that of the ring or that of the result block. -/
def State.endWaits (s : State) (sess : Nat) (c : Cmd) : Option Nat :=
  let g := (s.session sess).ringNow
  if g.size ≠ 0 ∧ s.asleep (bar2Stack g.addr) then some (bar2Stack g.addr)
  else if c.a2 ≠ 0 ∧ s.asleep (bar2Stack c.a2) then some (bar2Stack c.a2)
  else none

/-- The QMU reads the pictures of a JOB_MEASURE: what poison it meets, as bytes completed and address (06 R370). -/
def State.measureReads (s : State) (n : Nat) (m : Measure) : State × Option (Nat × Nat) :=
  let a := s.readRows n (rowsOf m.a m.f m.pa m.w m.h)
  match a.2 with
  | some p => (a.1, some (p - m.a, p))
  | none =>
    let b := a.1.readRows n (rowsOf m.b m.f m.pb m.w m.h)
    (b.1, b.2.map fun p => (p - m.b, p))

/-! ### Thread faults (07 R413, R414; 08 R469, R470) -/

/-- DETAIL of THREAD_FAULT and POD_SANDBOX_VIOLATION. -/
def faultDetail (code step pipe tid : Nat) : Nat := code * 2 ^ 24 + step % 65536 * 2 ^ 8 + pipe % 4 * 2 ^ 6 + tid % 64

/-- A thread of pipe `n` faults: the job stops, and PIPE_FAULT n is requested. -/
def State.threadFault (s : State) (n : Nat) (x : Thread) (code step : Nat) : State :=
  let p := s.pipe n
  let t := s.setPipe n { p with faultUnserved := true
                                deadlocks := if code = 4 then satAdd 16 p.deadlocks 1 else p.deadlocks
                                faults := if code = 4 then p.faults else satAdd 16 p.faults 1 }
  t.stopRun x.session 0x0305 (faultDetail code step n x.tid) 0

/-- A thread breaks a sandbox rule (08 R468, R469). -/
def State.sandboxFault (s : State) (n : Nat) (x : Thread) (code : Nat) : State :=
  let t := (s.setPipe n { s.pipe n with faultUnserved := true }).report 33 n
  t.stopRun x.session 0x0403 (faultDetail code x.pc n x.tid) 0

/-- A counter as a wait sees it. -/
def State.counterOf (s : State) (n : Nat) (x : Thread) (gang : Bool) (i : Nat) : Nat :=
  if gang then Table.get 0 (s.pipe (s.session x.session).firstPipe).gangCounters (gangKey x.session x.dec i)
  else Table.get 0 (s.pipe n).counters (counterKey x.session x.dec i)

/-- A thread is blocked on a wait step that nothing outstanding can end (code 4 of R413). -/
def State.stuck (s : State) (n : Nat) (x : Thread) : Bool :=
  x.reqs.isEmpty && match x.block with
    | .counter g i v => decide (s.counterOf n x g i < v)
    | _ => false

/-- The active threads of a session's job, with their pipes. -/
def State.jobThreads (s : State) (sess : Nat) : List (Nat × Thread) :=
  ((List.range 4).map fun n =>
    (((s.pipe n).threads.filter fun e => e.2.active && e.2.session == sess).map fun e => (n, e.2))).flatten

/-- The thread that DETAIL reports: the lowest Pod-relative number on the pipe. -/
def lowestThread (l : List (Nat × Thread)) (n : Nat) : Option Thread :=
  (l.filter fun e => e.1 == n).foldl (fun m e =>
    match m with | none => some e.2 | some x => if e.2.tid < x.tid then some e.2 else m) none

def execThreadDeadlock (n : Fin 4) (session : Fin 64) (s : State) : Host.Outcome State Fault Refusal :=
  run (fun s =>
    let l := s.jobThreads session.val
    match s.runningJob session.val, lowestThread l n.val with
    | some _, some x =>
      if l.all fun e => s.stuck e.1 e.2 then (s.advance ((64 * 1000 + s.pclk - 1) / s.pclk)).threadFault n.val x 4 x.pc else s
    | _, _ => s) s

/-! ### Page fetches (07 R411, R437) -/

/-- Address and length of a page of a loaded image. -/
def State.pageRange (s : State) (h g : Nat) : Nat × Nat :=
  let z := podSection (s.pod h).image 1
  (podAddr h + z.1 + 4096 * g, min 4096 (z.2 - 4096 * g))

/-- The next waiting fetch becomes outstanding. -/
def Pipe.nextFetch (p : Pipe) : Pipe :=
  match p.fetchQueue with
  | [] => p
  | e :: l => { p with fetches := p.fetches ++ [e], fetchQueue := l }

/-- Threads that wait for a page go on. -/
def Pipe.pageIn (p : Pipe) (h g : Nat) : Pipe :=
  { p with threads := Table.mapVals {} (fun (x : Thread) =>
      if x.block = .page ∧ x.handle = h ∧ x.pc / 256 = g then { x with block := .free } else x) p.threads }

/-- The sessions whose threads on a pipe miss a page. -/
def Pipe.missing (p : Pipe) (h g : Nat) : List Nat :=
  distinct ((p.threads.filter fun e => e.2.active && e.2.handle == h && e.2.pc / 256 == g).map fun e => e.2.session)

/-- The oldest fetch of a pipe completes. -/
def State.pageArrives (s : State) (n : Nat) : State :=
  let p := s.pipe n
  match p.fetches with
  | [] => s
  | (h, g) :: l =>
    if s.asleep 1 then s.wakeStack 1 1
    else
      let r := s.pageRange h g
      let m := s.readMem n r.1 r.2
      let t := m.state.setPipe n { m.state.pipe n with fetches := l }
      let t := t.setPipe n (t.pipe n).nextFetch
      match m.poison with
      | some a =>
        let u := t.setPod h { t.pod h with damaged := a + 1 }
        (p.missing h g).foldl (fun v sess => v.stopRun sess 0x0303 (a - r.1) a) u
      | none =>
        match t.pageSlot n with
        | none => t
        | some i =>
          let q := t.pipe n
          t.setPipe n ({ q with pages := Table.set (0, 0, 0) q.pages i (h, g, q.turn) }.pageIn h g)

def execPageFetchComplete (n : Fin 4) (s : State) : Host.Outcome State Fault Refusal :=
  run (fun s => if s.mainOn && s.ready 7 then s.pageArrives n.val else s) s

/-- A step lies on a page that is not resident (R411); a damaged handle ends the job (R437). -/
def State.pageMiss (s : State) (n t : Nat) (x : Thread) : State :=
  let d := (s.pod x.handle).damaged
  if d ≠ 0 then s.stopRun x.session 0x0303 0 (d - 1)
  else
    let p := s.pipe n
    let u := s.setPipe n ({ p with pageMisses := satAdd 32 p.pageMisses 1 }.fetch x.handle (x.pc / 256))
    u.setThread n t { x with block := .page }

/-! ### Self-tests (07 R422 to R430, R441 to R444) -/

/-- PIPE_BIST_PERIOD in hours (R424; 17 R905). -/
def State.bistPeriod (s : State) : Nat := (s.bankM.item 0x81 24 fun v => v ≤ 168).1

/-- The conditions of R424, and the hour after a refusal (R430). -/
def State.bistDue (s : State) (n : Nat) : Bool :=
  let p := s.pipe n
  (p.waived || (s.bistPeriod != 0 && p.lastTest + s.bistPeriod * 3600000000000 ≤ s.now)) && !s.pipeBusy n
    && !(s.hazel.jobs.any fun c => isJob c.opcode && c.live && bitAt c.pipes n)
    && p.lastJob + 1000000 ≤ s.now && (p.bistRefused == 0 || p.bistRefused - 1 + 3600000000000 ≤ s.now)
    && p.bist == .none

def execPeriodicSelftest (n : Fin 4) (s : State) : Host.Outcome State Fault Refusal :=
  run (fun s =>
    if s.fwUp && s.ready 11 && s.hazel.mode != .recovery && s.bistDue n.val then (s.askBist n.val).progress else s) s

/-- The SELFTEST command of a pipe's test completes with a RESULT. -/
def State.bistDone (s : State) (n result : Nat) : State :=
  let b := (s.pipe n).bistCmd
  let js := s.hazel.jobs.map fun c => if b == some (c.queue, c.seq) && c.live then c.ends 0 0 result else c
  ({ s with hazel := { s.hazel with jobs := js } }).setPipe n { s.pipe n with bist := .none, bistCmd := none, bistAborting := false }

/-- What a self-test's end does beside its outcome: the grant goes, and PIPE_BIST_END is raised. -/
def State.bistOver (s : State) (n : Nat) : State := (s.release ⟨.pipeSelftest, n⟩).edge (41 + n)

/-- Jobs that wait on a pipe whose test has failed complete NOT_READY (R428). -/
def State.failWaiting (s : State) (n : Nat) : State :=
  s.endJobs (fun c => isJob c.opcode && c.phase == .running && c.waitFrom != 0 && bitAt c.pipes n) 0x0201 (16 + n)

/-- A self-test ends with a pass or with a failure code (R422, R423, R428, R429). -/
def State.bistEnds (s : State) (n code : Nat) : State :=
  let p := s.pipe n
  let u := s.until (p.bistAt + 3500000)
  let fresh := { u.pipe n with pages := [], lastTest := u.now, waived := false, failed := code != 0
                               bistFailed := if code = 0 then p.bistFailed else satAdd 16 p.bistFailed 1 }
  let t := (u.setPipe n fresh).bistOver n
  let t := if code = 0 then t.setReady (16 + n) else (t.failWaiting n).report 34 n
  (t.bistDone n (code * 2 ^ 16 + b2n (code != 0))).progress

def execPipeSelftestEnd (n : Fin 4) (failCode : BitVec 16) (s : State) : Host.Outcome State Fault Refusal :=
  run (fun s => if (s.pipe n.val).bist == .running && !(s.pipe n.val).bistAborting then s.bistEnds n.val failCode.toNat else s) s

/-- An aborted self-test: the pipe stops it and restores its reset state (R427). -/
def State.bistAborts (s : State) (n : Nat) : State :=
  let u := s.advance 110000
  let p := u.pipe n
  let t := (u.setPipe n { p with pages := [], waived := true, bistAborted := satAdd 16 p.bistAborted 1 }).bistOver n
  ((t.setReady (16 + n)).bistDone n 2).progress

def execPipeSelftestAbort (n : Fin 4) (s : State) : Host.Outcome State Fault Refusal :=
  run (fun s => if (s.pipe n.val).bist == .running && (s.pipe n.val).bistAborting then s.bistAborts n.val else s) s

/-- A job has waited 8 ms for a pipe in self-test (R426, R442). -/
def State.waitOver (s : State) (n : Nat) : State :=
  match s.hazel.jobs.findIdx? fun c => isJob c.opcode && c.phase == .running && c.waitFrom != 0 && c.wait.isNone && !c.onPipe && bitAt c.pipes n with
  | none => s
  | some i =>
    if s.inTest n then
      let c := s.hazel.jobs.getD i {}
      let t := s.until (c.waitFrom - 1 + 8000000)
      let p := t.pipe n
      ((t.setPipe n { p with waitExpired := satAdd 16 p.waitExpired 1 }).setJob i (c.ends 0x0202 n 0)).progress
    else s

def execSelftestWaitExpired (n : Fin 4) (s : State) : Host.Outcome State Fault Refusal :=
  run (fun s => if s.fwUp then s.waitOver n.val else s) s

/-! ### Memory self-tests (12 R629) -/

/-- The SELFTEST command that waits for a memory's test ends with a RESULT. -/
def State.memTestDone (s : State) (i result : Nat) : State :=
  { s with hazel := { s.hazel with jobs := s.hazel.jobs.map fun c =>
      if c.opcode == 0x0701 && c.phase == .running && bitsOf c.a0 0 8 == 0x21 && bitsOf c.a0 8 8 == i then c.ends 0 0 result else c } }

/-- The contents of a tested stack are undefined and its check bits are written again; its bit sets on a pass, and a
stack that fails stays out of service. -/
def State.stackTested (s : State) (n code : Nat) : State :=
  let t := (s.wipe (inStack n)).setStack n { s.stack n with mode := if code = 0 then .awake else .selfTest, initDone := false }
  if code = 0 then t.setReady (6 + n) else t

def execMemorySelftestEnd (i : Fin 3) (failCode : BitVec 16) (s : State) : Host.Outcome State Fault Refusal :=
  run (fun s =>
    if s.pac.held.contains ⟨.memSelftest, i.val⟩ then
      let code := failCode.toNat
      let t := s.release ⟨.memSelftest, i.val⟩
      let t := if i.val = 0 then t else t.stackTested (i.val - 1) code
      let t := if code = 0 then t else t.report 35 i.val
      (t.memTestDone i.val (code * 2 ^ 16 + b2n (code != 0))).progress
    else s) s

end Sys2Proof.Machine
end

