-- ==== Sys2Proof/Machine/Operands.lean ====
section
/-! DEFINITION. Operands of Pod steps (08 R456, R457, R460, R464, R465, R467): registers, pipe scalars, windows and block
descriptors; and the skeleton of a step: when it issues, its page, its sandbox checks (07 R405, R411; 08 R468). -/

namespace Sys2Proof.Machine

/-! ### Registers (R457) -/

/-- The image of a thread's Pod. -/
def State.image (s : State) (x : Thread) : List Byte := (s.pod x.handle).image

/-- Index of pipe `n` in the session's gang. -/
def State.pipeIdx (s : State) (n : Nat) (x : Thread) : Nat :=
  let y := s.session x.session
  if y.gang = 0 then 0 else n - y.firstPipe

/-- The thread owns pipe scalar `i` (07 R408; 08 R450, R457). -/
def State.owns (s : State) (n : Nat) (x : Thread) (i : Nat) : Bool :=
  let b := s.image x
  podOwner b i == x.tid && (!podShared b i || podOwnerPipe b i == s.pipeIdx n x)

/-- The value of a pipe scalar that another thread published (07 R408). -/
def Pipe.published1 (p : Pipe) (key : Nat) (passed : List Nat) : Nat :=
  match p.published.find? fun e => e.key == key && passed.contains e.counter with
  | some e => e.value
  | none => 0

/-- A pipe scalar as a thread reads it. -/
def State.readScalar (s : State) (n : Nat) (x : Thread) (i : Nat) : Nat :=
  let k := scalarKey x.session x.dec i
  if s.owns n x i then Table.get 0 (s.pipe n).scalars k else (s.pipe n).published1 k x.passed

/-- The value of an operand code (R457). -/
def State.operand (s : State) (n : Nat) (x : Thread) (code : Nat) : Nat :=
  let y := s.session x.session
  if code < 0x20 then Table.get 0 x.s code
  else if 0x100 ≤ code then s.readScalar n x (code - 0x100)
  else match code with
    | 0x21 => x.tid
    | 0x22 => podThreads (s.image x)
    | 0x23 => s.pipeIdx n x
    | 0x24 => 2 ^ y.gang
    | 0x25 => y.started - 1
    | 0x26 => y.width
    | 0x27 => y.height
    | 0x28 => bitsOf y.a1 32 24
    | 0x29 => x.stack.length
    | _ => 0

/-- A value of 64 bits. -/
def word64 (v : Nat) : Nat := v % 2 ^ 64

/-- Write DST (R457): a thread scalar, ZERO, or a pipe scalar. -/
def State.writeDst (s : State) (n t code v : Nat) : State :=
  let x := s.thread n t
  if code < 0x20 then s.setThread n t { x with s := Table.set 0 x.s code (word64 v) }
  else if 0x100 ≤ code then
    let p := s.pipe n
    s.setPipe n { p with scalars := Table.set 0 p.scalars (scalarKey x.session x.dec (code - 0x100)) (word64 v) }
  else s

/-- The DST of a step is a pipe scalar that the thread may not write (R468). -/
def State.notOwner (s : State) (n : Nat) (x : Thread) (code : Nat) : Bool := 0x100 ≤ code && !s.owns n x (code - 0x100)

/-! ### The operands of the classes -/

/-- The second operand of a scalar step: B, or IMM with BI (R462). -/
def State.second (s : State) (n : Nat) (x : Thread) (w : Nat) : Nat := if stBi w then stImm w else s.operand n x (stB w)

/-- Operand k of ISSUE, EMIT and FCALL: the thread scalars from A onward; one beyond NOPS reads 0. -/
def stepOp (x : Thread) (w k : Nat) : Nat := if k < stNops w then Table.get 0 x.s (stA w + k) else 0

/-- Thread scalars from `a` onward. -/
def run32 (a n : Nat) : List Nat := (List.range n).map (a + ·)

/-- The operand codes that a step reads. -/
def stepReads (w : Nat) : List Nat :=
  let op := stOp w
  if op = 0x13 then [stDst w, stA w]
  else if op ≤ 0x17 then stA w :: (if stBi w then [] else [stB w])
  else if op = 0x22 then [stA w]
  else if op = 0x30 then (if stWaitBi w then [] else [stB w])
  else if op = 0x60 then stB w :: run32 (stA w) (stNops w)
  else if op = 0x50 ∨ op = 0x70 then run32 (stA w) (stNops w)
  else []

/-- A thread scalar that the step reads is still to be returned by a unit (07 R405). -/
def Thread.waits (x : Thread) (w : Nat) : Bool := x.reqs.any fun r => (stepReads w).contains r.dst && r.dst < 0x20

/-! ### The skeleton of a step -/

/-- The index of the step that follows; at STEP_COUNT the thread raises END_MISSING (R473). -/
def State.goTo (s : State) (n t pc : Nat) : State :=
  let x := s.thread n t
  if podSteps (s.image x) ≤ pc then s.threadFault n x 5 pc else s.setThread n t { x with pc := pc }

def State.nextStep (s : State) (n t : Nat) : State := s.goTo n t ((s.thread n t).pc + 1)

/-- A step is issued: it is counted, and its page and thread become the latest (07 R406, R411, R435). -/
def State.issued (s : State) (n t : Nat) (x : Thread) : State :=
  let p := (s.pipe n).touchPage x.handle (x.pc / 256)
  s.setPipe n { p with steps := satAdd 64 p.steps 1, lastIssued := t }

/-- The next step of thread `t` of pipe `n`, when it is one that `ok` selects and it can issue. -/
def State.step1 (s : State) (n t : Nat) (ok : Nat → Bool) (f : State → Thread → Nat → State) : State :=
  let x := s.thread n t
  let w := (s.pod x.handle).step x.handle x.pc
  if !x.active || x.block != .free || (s.session x.session).run.isNone || s.pll 2 != .locked then s
  else if !ok w || x.waits w then s
  else if !(s.pipe n).resident x.handle (x.pc / 256) then s.pageMiss n t x
  else if s.notOwner n x (stDst w) then s.sandboxFault n x 0x13
  else f (s.issued n t x) x w

/-! ### Memory windows (R464, R465) -/

/-- What a window is bound to: binding code, address, bytes of a line, lines, format code. For a byte-addressed window
the length stands as one line. -/
structure Window where
  code : Nat := 0
  base : Nat := 0
  pitch : Nat := 0
  lines : Nat := 0
  fmt : Nat := 0
  width : Nat := 0
  deriving DecidableEq, Repr

/-- Bytes that a window spans; a buffer that is absent has length 0. -/
def Window.length (v : Window) : Nat := v.pitch * v.lines

/-- The window is addressed by block descriptors. -/
def Window.isPicture (v : Window) : Bool := (3 ≤ v.code && v.code ≤ 5) || v.code == 7 || v.code == 8 || v.code == 10

/-- The job that a thread serves. -/
def State.jobOf (s : State) (x : Thread) : Cmd :=
  match s.runningJob x.session with
  | some i => s.hazel.jobs.getD i {}
  | none => {}

/-- A buffer at address `a`; none at address 0. -/
def buffer (code a n : Nat) : Window := if a = 0 then { code := code } else { code := code, base := a, pitch := n, lines := 1 }

/-- A picture plane. -/
def plane (code a pitch lines f w : Nat) : Window :=
  if a = 0 then { code := code } else { code := code, base := a, pitch := pitch, lines := lines, fmt := f, width := w }

/-- A picture whose planes follow one another spans them all. -/
def picture (code a f pitch w h : Nat) : Window :=
  if a = 0 then { code := code }
  else { code := code, base := a, pitch := pitch, lines := sumBy (·.2) (planesOf f w h), fmt := f, width := w }

/-- Address of a byte of the session's pipe-local LFS pages. -/
def lfsAddr (n : Nat) (pages : List Nat) (o : Nat) : Nat :=
  0x800000000 + n * 0xC00000 + pages.getD (o / 4096) 0 * 4096 + o % 4096

/-- The allotment of a thread's Pod on a pipe. -/
def State.allotOf (s : State) (n : Nat) (x : Thread) : Option Allot :=
  (s.session x.session).allots.find? fun a => a.pipe == n && a.handle == x.handle && a.dec == x.dec

/-- LFS pages of the windows declared before window `num` (R455). -/
def pagesBefore (b : List Byte) (num : Nat) : Nat :=
  ((podWindows b).takeWhile fun w => w.1 != num).foldl (fun m w => if w.2.1 = 2 then m + w.2.2.2 / 4096 else m) 0

/-- The binding of a declared window for the job in progress. -/
def State.window (s : State) (x : Thread) (num : Nat) : Window :=
  match podFindWindow (s.image x) num with
  | none => {}
  | some (code, _, len) =>
    let y := s.session x.session
    let c := s.jobOf x
    let g := blkField c.body
    let coded := c.opcode == 0x301 || c.opcode == 0x303
    let decoded := c.opcode == 0x302
    let slots := match y.run with | some r => r.slots | none => 0
    let f := g 0x1C 4
    let h2 := (chromaSize f y.width y.height).2
    match code with
    | 1 => buffer 1 y.work y.workSize
    | 2 => { code := 2, pitch := len, lines := 1 }
    | 3 => if coded then plane 3 (g 0 8) (g 0x18 4) y.height f y.width else { code := 3 }
    | 4 => if coded then plane 4 (g 8 8) (g 0x18 4) h2 f y.width else { code := 4 }
    | 5 => if coded then plane 5 (g 0x10 8) (g 0x18 4) h2 f y.width else { code := 5 }
    | 6 => if coded then buffer 6 (g 0x20 8) (g 0x28 4) else { code := 6 }
    | 7 => if coded then picture 7 (g 0x30 8) f (g 0x38 4) y.width y.height else { code := 7 }
    | 8 => if c.opcode = 0x303 then picture 8 (g 0x40 8) f (g 0x48 4) y.width y.height else { code := 8 }
    | 9 => if decoded && !bitAt c.a0 16 then buffer 9 (g 0 8) (g 8 4) else { code := 9 }
    | 10 => if decoded && slots != 0 then
        picture 10 (g 0x10 8 + (slots - 1) * g 0x18 4) (g 0x24 4) (g 0x20 4) y.width y.height else { code := 10 }
    | 11 => if decoded && slots != 0 && g 0x28 8 != 0 then buffer 11 (g 0x28 8 + 64 * (slots - 1)) 64 else { code := 11 }
    | 12 => { code := 12, pitch := 256, lines := 1 }
    | _ => {}

/-- Device address of byte `o` of a byte-addressed window. -/
def State.windowAddr (s : State) (n : Nat) (x : Thread) (num o : Nat) : Nat :=
  let v := s.window x num
  if v.code = 2 then
    match s.allotOf n x with
    | some a => lfsAddr n (a.lfs.drop (pagesBefore (s.image x) num)) o
    | none => 0
  else v.base + o

/-! ### Block descriptors (R467) -/

structure BlockDesc where
  x : Nat
  y : Nat
  w : Nat
  h : Nat
  plane : Nat
  deriving DecidableEq, Repr

def blockOf (v : Nat) : BlockDesc :=
  { x := v % 65536, y := bitsOf v 16 16, w := 2 ^ bitsOf v 32 4, h := 2 ^ bitsOf v 36 4, plane := bitsOf v 40 2 }

/-- Values that raise UNIT_OPERAND. -/
def blockBad (v : Nat) : Bool :=
  !(2 ≤ bitsOf v 32 4 && bitsOf v 32 4 ≤ 7) || !(2 ≤ bitsOf v 36 4 && bitsOf v 36 4 ≤ 7) || bitsOf v 40 2 == 3 || v / 2 ^ 42 != 0

/-- Offset of the first byte of the lines of a block's plane in a picture window, and bytes from one sample to the next. -/
def Window.planeAt (v : Window) (h : Nat) (p : Nat) : Nat × Nat :=
  let b := fmtBytes v.fmt
  let inter := fmtLayout v.fmt == 2
  if v.code = 3 then (0, b)
  else if v.code = 4 ∨ v.code = 5 then (if inter then ((p - 1) * b, 2 * b) else (0, b))
  else if p = 0 then (0, b)
  else if inter then (v.pitch * h + (p - 1) * b, 2 * b)
  else (v.pitch * (h + (p - 1) * (chromaSize v.fmt v.width h).2), b)

/-- The byte ranges of a block's lines in a picture window: offset and length. -/
def Window.blockRows (v : Window) (h : Nat) (d : BlockDesc) : List (Nat × Nat) :=
  let q := v.planeAt h d.plane
  (List.range d.h).map fun j => (q.1 + (d.y + j) * v.pitch + d.x * q.2, (d.w - 1) * q.2 + fmtBytes v.fmt)

end Sys2Proof.Machine
end

