-- ==== Sys2Proof/Machine/Flags.lean ====
section
/-! DEFINITION. The flags Z, N, C and V of a thread (08 R458, R459, R462) and the arithmetic of the scalar steps. -/

namespace Sys2Proof.Machine

abbrev W := BitVec 64

def toW (v : Nat) : W := BitVec.ofNat 64 v

/-- A condition code (R459). -/
def condTrue (x : Thread) (c : Nat) : Bool :=
  match c with
  | 0x0 => true
  | 0x1 => x.z
  | 0x2 => !x.z
  | 0x3 => x.n != x.v
  | 0x4 => x.n == x.v
  | 0x5 => !x.z && x.n == x.v
  | 0x6 => x.z || x.n != x.v
  | 0x7 => !x.c
  | 0x8 => x.c
  | 0x9 => x.c && !x.z
  | 0xA => !x.c || x.z
  | _ => false

/-- Z and N of a result. -/
def Thread.zn (x : Thread) (r : W) : Thread := { x with z := r == 0, n := r.msb }

/-- Z of a result. -/
def Thread.z1 (x : Thread) (r : W) : Thread := { x with z := r == 0 }

/-- Flags of ADD: C is the carry out. -/
def Thread.addFlags (x : Thread) (a b : W) : Thread :=
  { x.zn (a + b) with c := decide (2 ^ 64 ≤ a.toNat + b.toNat), v := a.msb == b.msb && (a + b).msb != a.msb }

/-- Flags of SUB and CMP: C is 1 when no borrow. -/
def Thread.subFlags (x : Thread) (a b : W) : Thread :=
  { x.zn (a - b) with c := decide (b.toNat ≤ a.toNat), v := a.msb != b.msb && (a - b).msb != a.msb }

/-- Flags of the bitwise steps: C and V are cleared. -/
def Thread.bitFlags (x : Thread) (r : W) : Thread := { x.zn r with c := false, v := false }

/-- Flags of a shift by `k`: C is the last bit out, which a shift by 0 does not have; then a free value stands for it. -/
def Thread.shiftFlags (x : Thread) (r : W) (k : Nat) (out free : Bool) : Thread := { x.zn r with c := if k = 0 then free else out }

/-- Leading zeros of a value below 2^n. -/
def leadingZeros (v : Nat) : Nat → Nat
  | 0 => 0
  | n + 1 => if bitAt v n then 0 else 1 + leadingZeros v n

/-- DIVS truncates towards 0; the most negative number by −1 gives itself (R463). -/
def divSigned (a b : W) : W := a.sdiv b

/-- The greater and the lesser of two signed values. -/
def minSigned (a b : W) : W := if a.toInt ≤ b.toInt then a else b
def maxSigned (a b : W) : W := if a.toInt ≤ b.toInt then b else a

/-- EXT: bits POS + LEN − 1 to POS, zero-extended. -/
def extBits (a pos len : Nat) : Nat := bitsOf a pos len

/-- INS: the low LEN bits of `a` placed at POS of `d`. -/
def insBits (d a pos len : Nat) : Nat := word64 (d - bitsOf d pos len * 2 ^ pos + a % 2 ^ len * 2 ^ pos)

end Sys2Proof.Machine
end

