-- ==== Sys2Proof/Machine/ScalarSteps.lean ====
section
/-! DEFINITION. The scalar, branch, wait and synchronisation steps, and EMIT (08 R462, R463, R472 to R475, R479). -/

namespace Sys2Proof.Machine

/-! ### Scalar arithmetic -/

/-- The flags of a thread. -/
def State.setFlags (s : State) (n t : Nat) (y : Thread) : State :=
  s.setThread n t { s.thread n t with z := y.z, n := y.n, c := y.c, v := y.v }

/-- A step of opcode `op` that writes a result and flags and goes on; `bad` names operands that raise ARITH (R463). -/
def State.scalar (s : State) (r : PipeRef) (op : Nat) (bad : W → W → Bool) (res : W → W → Nat → W)
    (flags : Thread → W → W → W → Bool → Thread) : State :=
  let n := r.pipe.val
  let t := r.thread.val
  s.step1 n t (fun w => stOp w == op) fun u x w =>
    let a := toW (s.operand n x (stA w))
    let b := toW (s.second n x w)
    if bad a b then u.threadFault n x 2 x.pc
    else
      let v := res a b w
      let fr := (Config.freeWord u.free).getLsbD 0
      (((u.writeDst n t (stDst w) v.toNat).setFlags n t (flags x a b v fr)).tookFree).nextStep n t

/-- No operands are bad. -/
def fine (_ _ : W) : Bool := false
def zeroB (_ b : W) : Bool := b == 0
def wideShift (_ b : W) : Bool := 64 ≤ b.toNat

def execAdd (r : PipeRef) (s : State) : Host.Outcome State Fault Refusal :=
  run (fun s => s.scalar r 0x01 fine (fun a b _ => a + b) fun x a b _ _ => x.addFlags a b) s

def execSub (r : PipeRef) (s : State) : Host.Outcome State Fault Refusal :=
  run (fun s => s.scalar r 0x02 fine (fun a b _ => a - b) fun x a b _ _ => x.subFlags a b) s

def execMul (r : PipeRef) (s : State) : Host.Outcome State Fault Refusal :=
  run (fun s => s.scalar r 0x03 fine (fun a b _ => a * b) fun x _ _ v _ => x.zn v) s

def execDivu (r : PipeRef) (s : State) : Host.Outcome State Fault Refusal :=
  run (fun s => s.scalar r 0x04 zeroB (fun a b _ => a / b) fun x _ _ v _ => x.zn v) s

def execDivs (r : PipeRef) (s : State) : Host.Outcome State Fault Refusal :=
  run (fun s => s.scalar r 0x05 zeroB (fun a b _ => divSigned a b) fun x _ _ v _ => x.zn v) s

def execRemu (r : PipeRef) (s : State) : Host.Outcome State Fault Refusal :=
  run (fun s => s.scalar r 0x06 zeroB (fun a b _ => a % b) fun x _ _ v _ => x.zn v) s

def execAnd (r : PipeRef) (s : State) : Host.Outcome State Fault Refusal :=
  run (fun s => s.scalar r 0x07 fine (fun a b _ => a &&& b) fun x _ _ v _ => x.bitFlags v) s

def execOr (r : PipeRef) (s : State) : Host.Outcome State Fault Refusal :=
  run (fun s => s.scalar r 0x08 fine (fun a b _ => a ||| b) fun x _ _ v _ => x.bitFlags v) s

def execXor (r : PipeRef) (s : State) : Host.Outcome State Fault Refusal :=
  run (fun s => s.scalar r 0x09 fine (fun a b _ => a ^^^ b) fun x _ _ v _ => x.bitFlags v) s

def execShl (r : PipeRef) (s : State) : Host.Outcome State Fault Refusal :=
  run (fun s => s.scalar r 0x0A wideShift (fun a b _ => a <<< b.toNat)
    fun x a b v fr => x.shiftFlags v b.toNat (a.getLsbD (64 - b.toNat)) fr) s

def execShru (r : PipeRef) (s : State) : Host.Outcome State Fault Refusal :=
  run (fun s => s.scalar r 0x0B wideShift (fun a b _ => a >>> b.toNat)
    fun x a b v fr => x.shiftFlags v b.toNat (a.getLsbD (b.toNat - 1)) fr) s

def execShrs (r : PipeRef) (s : State) : Host.Outcome State Fault Refusal :=
  run (fun s => s.scalar r 0x0C wideShift (fun a b _ => a.sshiftRight b.toNat)
    fun x a b v fr => x.shiftFlags v b.toNat (a.getLsbD (b.toNat - 1)) fr) s

def execMin (r : PipeRef) (s : State) : Host.Outcome State Fault Refusal :=
  run (fun s => s.scalar r 0x0D fine (fun a b _ => minSigned a b) fun x _ _ v _ => x.zn v) s

def execMax (r : PipeRef) (s : State) : Host.Outcome State Fault Refusal :=
  run (fun s => s.scalar r 0x0E fine (fun a b _ => maxSigned a b) fun x _ _ v _ => x.zn v) s

def execMov (r : PipeRef) (s : State) : Host.Outcome State Fault Refusal :=
  run (fun s => s.scalar r 0x0F fine (fun _ b _ => b) fun x _ _ _ _ => x) s

def execCmp (r : PipeRef) (s : State) : Host.Outcome State Fault Refusal :=
  run (fun s => s.scalar r 0x10 fine (fun a b _ => a - b) fun x a b _ _ => x.subFlags a b) s

def execTstb (r : PipeRef) (s : State) : Host.Outcome State Fault Refusal :=
  run (fun s => s.scalar r 0x11 fine (fun a _ _ => a) fun x a b _ _ => { x with z := !a.getLsbD (b.toNat % 64) }) s

def execExt (r : PipeRef) (s : State) : Host.Outcome State Fault Refusal :=
  run (fun s => s.scalar r 0x12 fine (fun a _ w => toW (extBits a.toNat (stPos w) (stLen w))) fun x _ _ v _ => x.z1 v) s

def execIns (r : PipeRef) (s : State) : Host.Outcome State Fault Refusal :=
  run (fun s => s.scalar r 0x13 fine
    (fun a _ w => toW (insBits (s.operand r.pipe.val (s.thread r.pipe.val r.thread.val) (stDst w)) a.toNat (stPos w) (stLen w)))
    fun x _ _ _ _ => x) s

/-- A constant of the thread's Pod; one at or above the count reads 0 (R463). -/
def State.constant (s : State) (r : PipeRef) (i : Nat) : Nat :=
  let b := s.image (s.thread r.pipe.val r.thread.val)
  if i < podConsts b then podConst b i else 0

def execLdc (r : PipeRef) (s : State) : Host.Outcome State Fault Refusal :=
  run (fun s => s.scalar r 0x14 fine (fun _ b _ => toW (s.constant r (b.toNat % 4096))) fun x _ _ _ _ => x) s

def execClz (r : PipeRef) (s : State) : Host.Outcome State Fault Refusal :=
  run (fun s => s.scalar r 0x15 fine (fun a _ _ => toW (leadingZeros a.toNat 64)) fun x _ _ v _ => x.z1 v) s

def execWlen (r : PipeRef) (s : State) : Host.Outcome State Fault Refusal :=
  run (fun s => s.scalar r 0x16 fine
    (fun _ b _ => toW (s.window (s.thread r.pipe.val r.thread.val) (b.toNat % 16)).length) fun x _ _ v _ => x.z1 v) s

def execSel (r : PipeRef) (s : State) : Host.Outcome State Fault Refusal :=
  run (fun s => s.scalar r 0x17 fine
    (fun a b w => if condTrue (s.thread r.pipe.val r.thread.val) (stSelCond w) then b else a) fun x _ _ _ _ => x) s

/-! ### Test and branch (R472, R473) -/

/-- A branch-class step. -/
def State.branch (s : State) (r : PipeRef) (op : Nat) (f : State → Thread → Nat → State) : State :=
  s.step1 r.pipe.val r.thread.val (fun w => stOp w == op) f

def execNopStep (r : PipeRef) (s : State) : Host.Outcome State Fault Refusal :=
  run (fun s => s.branch r 0x20 fun u _ _ => u.nextStep r.pipe.val r.thread.val) s

def execBr (r : PipeRef) (s : State) : Host.Outcome State Fault Refusal :=
  run (fun s => s.branch r 0x21 fun u x w =>
    if condTrue x (stCond w) then u.goTo r.pipe.val r.thread.val (stTarget w) else u.nextStep r.pipe.val r.thread.val) s

/-- BRX: a target at or above STEP_COUNT is a BRANCH_RANGE violation (R468). -/
def execBrx (r : PipeRef) (s : State) : Host.Outcome State Fault Refusal :=
  run (fun s => s.branch r 0x22 fun u x w =>
    let n := r.pipe.val
    let a := s.operand n x (stA w)
    if condTrue x (stCond w) then
      (if podSteps (s.image x) ≤ a then s.sandboxFault n x 0x15 else u.goTo n r.thread.val a)
    else u.nextStep n r.thread.val) s

def execCall (r : PipeRef) (s : State) : Host.Outcome State Fault Refusal :=
  run (fun s => s.branch r 0x23 fun u x w =>
    let n := r.pipe.val
    let t := r.thread.val
    if 16 ≤ x.stack.length then u.threadFault n x 3 x.pc
    else (u.setThread n t { u.thread n t with stack := (x.pc + 1) :: x.stack }).goTo n t (stTarget w)) s

/-- END: the thread ends once every unit request it issued has completed (R472). -/
def State.endThread (s : State) (n t : Nat) : State :=
  let x := s.thread n t
  if x.reqs.isEmpty then s.setThread n t { x with active := false, block := .free } else s.setThread n t { x with block := .ending }

def execRet (r : PipeRef) (s : State) : Host.Outcome State Fault Refusal :=
  run (fun s => s.branch r 0x24 fun u x _ =>
    let n := r.pipe.val
    let t := r.thread.val
    match x.stack with
    | [] => u.endThread n t
    | a :: l => (u.setThread n t { u.thread n t with stack := l }).goTo n t a) s

def execEndStep (r : PipeRef) (s : State) : Host.Outcome State Fault Refusal :=
  run (fun s => s.branch r 0x25 fun u _ _ => u.endThread r.pipe.val r.thread.val) s

/-! ### Wait and synchronisation (R474, R475; 07 R407, R408) -/

/-- The name of a counter among those a thread has passed. -/
def counterName (gang : Bool) (i : Nat) : Nat := if gang then 0x1000 + i else i

/-- A wait is over: the thread has passed the counter, and goes on. -/
def State.passCounter (s : State) (n t : Nat) (gang : Bool) (i : Nat) : State :=
  let x := s.thread n t
  let c := counterName gang i
  (s.setThread n t { x with block := .free, passed := if x.passed.contains c then x.passed else c :: x.passed }).nextStep n t

def execWaitCnt (r : PipeRef) (s : State) : Host.Outcome State Fault Refusal :=
  run (fun s => s.branch r 0x30 fun u x w =>
    let n := r.pipe.val
    let t := r.thread.val
    let v := if stWaitBi w then stImm w % 65536 else s.operand n x (stB w)
    if v ≤ s.counterOf n x (stG w) (stCounter w) then u.passCounter n t (stG w) (stCounter w)
    else u.setThread n t { u.thread n t with block := .counter (stG w) (stCounter w) v }) s

/-- A request of the thread to a unit of the mask is outstanding. -/
def Thread.unitWaits (x : Thread) (mask : Nat) : Bool := x.reqs.any fun q => bitAt mask q.unit

def execWaitUnit (r : PipeRef) (s : State) : Host.Outcome State Fault Refusal :=
  run (fun s => s.branch r 0x31 fun u x w =>
    let n := r.pipe.val
    let t := r.thread.val
    if x.unitWaits (stImm w) then u.setThread n t { u.thread n t with block := .units (stImm w) } else u.nextStep n t) s

/-- A thread blocked on a wait step whose wait is over, or at END with nothing outstanding, goes on (07 R407; 08 R475). -/
def State.unblock (s : State) (n t : Nat) : State :=
  let x := s.thread n t
  match x.block with
  | .counter g i v => if v ≤ s.counterOf n x g i then s.passCounter n t g i else s
  | .units m => if x.unitWaits m then s else (s.setThread n t { x with block := .free }).nextStep n t
  | .ending => if x.reqs.isEmpty then s.endThread n t else s
  | _ => s

def execThreadWaitRelease (r : PipeRef) (s : State) : Host.Outcome State Fault Refusal :=
  run (fun s =>
    let x := s.thread r.pipe.val r.thread.val
    if x.active && (s.session x.session).run.isSome then s.unblock r.pipe.val r.thread.val else s) s

/-- The publications that a signal on counter `c` makes of the thread's pipe scalars; `shared` picks the gang-shared ones. -/
def State.pubs (s : State) (n : Nat) (x : Thread) (c : Nat) (shared : Bool) : List Pub :=
  ((List.range (podScalars (s.image x))).filter fun i => s.owns n x i && podShared (s.image x) i == shared).map fun i =>
    ⟨scalarKey x.session x.dec i, c, Table.get 0 (s.pipe n).scalars (scalarKey x.session x.dec i)⟩

/-- The newest publications of a pipe: an older one of the same scalar on the same counter is never read again. -/
def Pipe.publish (p : Pipe) (l : List Pub) : Pipe :=
  { p with published := l ++ p.published.filter fun e => !l.any fun q => q.key == e.key && q.counter == e.counter }

/-- Add to a counter; it saturates at 0xFFFF (07 R407). -/
def State.addCounter (s : State) (n : Nat) (x : Thread) (gang : Bool) (i v : Nat) : State :=
  let k := if gang then (s.session x.session).firstPipe else n
  let p := s.pipe k
  let c := satAdd 16 (s.counterOf n x gang i) v
  s.setPipe k (if gang then { p with gangCounters := Table.set 0 p.gangCounters (gangKey x.session x.dec i) c }
               else { p with counters := Table.set 0 p.counters (counterKey x.session x.dec i) c })

/-- SIGNAL waits until the thread's earlier unit requests have taken effect (07 R407). -/
def execSignal (r : PipeRef) (s : State) : Host.Outcome State Fault Refusal :=
  run (fun s => s.branch r 0x40 fun u x w =>
    let n := r.pipe.val
    if !x.reqs.isEmpty then s
    else
      let c := counterName (stG w) (stCounter w)
      let own := u.setPipe n ((u.pipe n).publish (s.pubs n x c false ++ s.pubs n x c true))
      let v := if stG w then
          (pipesOf (s.session x.session).mask).foldl (fun t k =>
            if k = n then t else t.setPipe k ((t.pipe k).publish (s.pubs n x c true))) own
        else own
      (v.addCounter n x (stG w) (stCounter w) (stImm w % 65536)).nextStep n r.thread.val) s

/-! ### EMIT (R479; 11 R592) -/

/-- Stage one record; one of a type that the ring does not select is discarded, and one beyond 65536 is lost. -/
def State.stageRec (s : State) (x : Thread) (e : Rec) : State :=
  let y := s.session x.session
  match y.run with
  | none => s
  | some r =>
    if y.ringNow.size = 0 || !y.ringNow.selects e.typ then s
    else if r.recs.length < 65536 then s.setSession x.session { y with run := some { r with recs := r.recs ++ [e] } }
    else s.setSession x.session { y with run := some { r with gapLost := r.gapLost + 1 } }

def execEmit (r : PipeRef) (s : State) : Host.Outcome State Fault Refusal :=
  run (fun s => s.branch r 0x60 fun u x w =>
    let n := r.pipe.val
    let e : Rec := { order := s.operand n x (stB w) % 2 ^ 32, thread := x.tid, typ := stType w, tag := stImm w
                     words := (List.range (stNops w)).map (stepOp x w) }
    (u.stageRec x e).nextStep n r.thread.val) s

end Sys2Proof.Machine
end

