-- ==== Sys2Proof/Machine/UnitSteps.lean ====
section
/-! DEFINITION. ISSUE (08 R476 to R478): what each unit function reads and writes, the sandbox and operand checks of a
request, and its result. What a unit computes from samples is the standards' and a free value here (log 66). -/

namespace Sys2Proof.Machine

/-! ### Accesses of a request -/

/-- One access: a window, and a byte range in it or a block descriptor. -/
structure Access where
  win : Nat
  blk : Option Nat := none
  off : Nat := 0
  len : Nat := 0
  write : Bool := false
  deriving DecidableEq, Repr

/-- The byte ranges of an access within its window: offset and length. -/
def State.accessRows (s : State) (x : Thread) (a : Access) : List (Nat × Nat) :=
  let v := s.window x a.win
  match a.blk with
  | some d => if v.isPicture then v.blockRows (s.session x.session).height (blockOf d) else [(a.off, a.len)]
  | none => [(a.off, a.len)]

/-- The rights of a declared window, bit 0 to read and bit 1 to write (R464). -/
def State.rights (s : State) (x : Thread) (num : Nat) : Nat := match podFindWindow (s.image x) num with | some w => w.2.1 | none => 0

/-- The sandbox rule that an access of `unit` breaks (R468): empty window, right, range. -/
def State.accessBad (s : State) (x : Thread) (unit : Nat) (a : Access) : Option Nat :=
  let v := s.window x a.win
  if a.win = 15 ∨ v.length = 0 then some 0x14
  else if (v.code = 6 ∧ unit ≠ 8) ∨ bitAt (s.rights x a.win) (b2n a.write) = false then some 0x12
  else if (s.accessRows x a).any fun e => v.length < e.1 + e.2 then some 0x11
  else none

/-- A byte range of a window as device ranges; pipe-local LFS goes page by page. -/
def State.deviceRanges (s : State) (n : Nat) (x : Thread) (num o len : Nat) : List (Nat × Nat) :=
  let v := s.window x num
  if v.code = 12 ∨ len = 0 then []
  else if v.code = 2 then
    (List.range ((o + len - 1) / 4096 - o / 4096 + 1)).map fun i =>
      let lo := max o ((o / 4096 + i) * 4096)
      (s.windowAddr n x num lo, min (o + len) ((o / 4096 + i + 1) * 4096) - lo)
  else [(s.windowAddr n x num o, len)]

def State.accessRanges (s : State) (n : Nat) (x : Thread) (a : Access) : List (Nat × Nat) :=
  ((s.accessRows x a).map fun e => s.deviceRanges n x a.win e.1 e.2).flatten

/-- A pipe reads a range: its own LFS directly, anything else through its port. -/
def State.pipeRead (s : State) (n : Nat) (r : Nat × Nat) : State × Option Nat :=
  if inLfs r.1 then
    let t := s.touchWords (r.1 / 8) (wordsOf r.1 r.2)
    (t, (t.firstPoison (r.1 / 8) (wordsOf r.1 r.2)).map (8 * ·))
  else
    let m := s.readMem n r.1 r.2
    (m.state, m.poison)

def State.pipeReads (s : State) (n : Nat) : List (Nat × Nat) → State × Option Nat
  | [] => (s, none)
  | r :: l =>
    let a := s.pipeRead n r
    let b := State.pipeReads a.1 n l
    (b.1, match a.2 with | some p => some p | none => b.2)

/-- Bytes that the standards determine are written: free values. -/
def State.freeBytes (s : State) (k : Nat) : List Byte := (List.range k).map fun i => Config.freeByte (s.free + i)

def State.pipeWrite (s : State) (n : Nat) (r : Nat × Nat) : State :=
  let bs := s.freeBytes r.2
  let t := { s with free := s.free + r.2 }
  if inLfs r.1 then t.writeWords r.1 (bs.map some) (r.2 + 1) else t.writeMem n r.1 bs

/-- A stack that a range needs and that is asleep, or is not ready. -/
def State.rangeAsleep (s : State) (l : List (Nat × Nat)) : Option Nat :=
  (l.find? fun r => r.1 < 2 ^ 34 && s.asleep (r.1 / 2 ^ 33)).map fun r => r.1 / 2 ^ 33
def State.rangeDead (s : State) (l : List (Nat × Nat)) : Option Nat :=
  (l.find? fun r => r.1 < 2 ^ 34 && !s.dramReady r.1 r.2).map fun r => 6 + r.1 / 2 ^ 33

/-! ### A request -/

/-- What a function asks: its accesses, whether an operand is out of the unit's range, and the result's bits 61:0, or
none for a value of the standards. -/
structure UnitAsk where
  acc : List Access := []
  bad : Bool := false
  result : Option Nat := none
  /-- The result may carry RANGE (EU DECODE). -/
  range : Bool := false
  /-- The request writes the job's OUT buffer (BSU). -/
  out : Bool := false
  deriving DecidableEq, Repr

/-- The request's result word (R466): RANGE, POISON, bits 61:0. -/
def resultWord (v : Nat) (range poison : Bool) : Nat := v % 2 ^ 62 + b2n poison * 2 ^ 62 + b2n range * 2 ^ 63

/-- A poisoned word of a source picture ends the job (06 R370): bytes completed before it, and its address. -/
def State.sourcePoison (s : State) (x : Thread) (l : List Access) (a : Nat) : Option (Nat × Nat) :=
  (l.find? fun e => !e.write && (let v := s.window x e.win; 3 ≤ v.code && v.code ≤ 5 && v.base ≤ a + 7 && a < v.base + v.length)).map fun e =>
    (a - (s.window x e.win).base, a)

/-- The device ranges that a request reads, and those that it writes: a BSU request writes anywhere in OUT. -/
def State.askReads (s : State) (n : Nat) (x : Thread) (q : UnitAsk) : List (Nat × Nat) :=
  ((q.acc.filter fun a => !a.write).map (s.accessRanges n x)).flatten
def State.askWrites (s : State) (n : Nat) (x : Thread) (w : Nat) (q : UnitAsk) : List (Nat × Nat) :=
  let out := s.window x (stWinA w)
  if q.out ∧ out.code = 6 then [(out.base, out.length)] else ((q.acc.filter fun a => a.write).map (s.accessRanges n x)).flatten

/-- The request is accepted: memory is read and written, and the thread has one request more outstanding. -/
def State.accept (s : State) (n t : Nat) (x : Thread) (w : Nat) (q : UnitAsk) : State :=
  let rd := s.pipeReads n (s.askReads n x q)
  match rd.2.bind (s.sourcePoison x q.acc) with
  | some e => rd.1.stopRun x.session 0x0303 e.1 e.2
  | none =>
    let u := (s.askWrites n x w q).foldl (fun v r => v.pipeWrite n r) rd.1
    let f := Config.unitResult u.free
    let word := resultWord (q.result.getD f.toNat) (q.range && f.getLsbD 63) rd.2.isSome
    let y := u.thread n t
    ((u.setThread n t { y with reqs := y.reqs ++ [⟨stUnit w, stFn w, stDst w, word⟩] }).tookFree).nextStep n t

/-- A request meets the checks: operands, sandbox, the stacks it needs. -/
def State.request1 (s u : State) (n t : Nat) (x : Thread) (w : Nat) (q : UnitAsk) : State :=
  match q.acc.findSome? (s.accessBad x (stUnit w)) with
  | some code => if q.bad then u.threadFault n x 1 x.pc else s.sandboxFault n x code
  | none =>
    if q.bad then u.threadFault n x 1 x.pc
    else
      let l := s.askReads n x q ++ s.askWrites n x w q
      match s.rangeDead l, s.rangeAsleep l with
      | some b, _ => s.stopRun x.session 0x0201 b 0
      | none, some k => s.wakeStack k (s.session x.session).cls
      | none, none => u.accept n t x w q

/-- A step that issues function `fn` of `unit`. -/
def State.issue (s : State) (r : PipeRef) (unit fn : Nat) (ask : State → Thread → Nat → UnitAsk) : State :=
  s.step1 r.pipe.val r.thread.val (fun w => stOp w == 0x50 && stUnit w == unit && stFn w == fn) fun u x w =>
    s.request1 u r.pipe.val r.thread.val x w (ask s x w)

/-! ### The functions (R478) -/

/-- Bytes that a function reads or writes at an offset, for its k-th range. -/
def span (w k op0 : Nat) : Nat := Config.unitSpan (stUnit w) (stFn w + 256 * k) op0

def immLo (w : Nat) : Nat := stImm w % 2 ^ 32
def immHi (w : Nat) : Nat := stImm w / 2 ^ 32

/-- A byte range of WIN_A or WIN_B. -/
def readAt (win off len : Nat) : Access := { win := win, off := off, len := len }
def writeAt (win off len : Nat) : Access := { win := win, off := off, len := len, write := true }
/-- A block of a picture window; in a byte-addressed window its place is open. -/
def readBlock (s : State) (x : Thread) (win d len : Nat) : Access :=
  { win := win, blk := some d, len := len, off := s.freeVal % ((s.window x win).length - len + 1) }

def execFetch (r : PipeRef) (s : State) : Host.Outcome State Fault Refusal :=
  run (fun s => s.issue r 0 1 fun s x w =>
    let d := stepOp x w 0
    { bad := blockBad d, result := some 0
      acc := [readBlock s x (stWinA w) d (span w 0 d), writeAt (stWinB w) (immLo w) (span w 1 d)] }) s

/-- MSU LIST and GRID: the reference and the source. -/
def searchAsk (x : Thread) (w : Nat) : UnitAsk :=
  let d := stepOp x w 0
  { bad := blockBad d, acc := [readAt (stWinA w) (immLo w) (span w 0 d), readAt (stWinB w) (stepOp x w 1) (span w 1 d)] }

def execList (r : PipeRef) (s : State) : Host.Outcome State Fault Refusal :=
  run (fun s => s.issue r 1 1 fun _ x w => searchAsk x w) s

def execGrid (r : PipeRef) (s : State) : Host.Outcome State Fault Refusal :=
  run (fun s => s.issue r 1 2 fun _ x w => searchAsk x w) s

/-- Intra modes of a codec (09 R504). -/
def modeOk (codec m : Nat) : Bool :=
  match codec with
  | 1 => m ≤ 8 || (16 ≤ m && m ≤ 19) || (32 ≤ m && m ≤ 35)
  | 2 => m ≤ 34
  | 3 => m ≤ 94 || (96 ≤ m && m ≤ 111) || (128 ≤ m && m ≤ 130)
  | _ => m ≤ 12

def execPredict (r : PipeRef) (s : State) : Host.Outcome State Fault Refusal :=
  run (fun s => s.issue r 2 1 fun s x w =>
    let d := stepOp x w 0
    { bad := blockBad d || !modeOk (s.session x.session).codec (stImm w % 256)
      acc := [readAt (stWinA w) (bitsOf (stImm w) 8 24) (span w 0 d), writeAt (stWinB w) (immHi w) (span w 1 d)] }) s

def execInterp (r : PipeRef) (s : State) : Host.Outcome State Fault Refusal :=
  run (fun s => s.issue r 3 1 fun _ x w =>
    let d := stepOp x w 0
    { bad := blockBad d, result := some 0
      acc := [readAt (stWinA w) (immLo w) (span w 0 d), writeAt (stWinB w) (immHi w) (span w 1 d)] }) s

/-- CEU SAD, SSE and SATD of two ranges of WIN_A. -/
def measureAsk (x : Thread) (w : Nat) : UnitAsk :=
  let d := stepOp x w 0
  { bad := blockBad d, acc := [readAt (stWinA w) (stepOp x w 1) (span w 0 d), readAt (stWinA w) (immHi w) (span w 1 d)] }

def execSad (r : PipeRef) (s : State) : Host.Outcome State Fault Refusal :=
  run (fun s => s.issue r 4 1 fun _ x w => measureAsk x w) s

def execSse (r : PipeRef) (s : State) : Host.Outcome State Fault Refusal :=
  run (fun s => s.issue r 4 2 fun _ x w => measureAsk x w) s

def execSatd (r : PipeRef) (s : State) : Host.Outcome State Fault Refusal :=
  run (fun s => s.issue r 4 3 fun _ x w => measureAsk x w) s

def execRate (r : PipeRef) (s : State) : Host.Outcome State Fault Refusal :=
  run (fun s => s.issue r 4 4 fun _ _ _ => {}) s

/-- A transform size that the TQU lacks: it has 4 to 64 (09 R500 to R503; log 67). -/
def sizeBad (op0 : Nat) : Bool := !(2 ≤ bitsOf op0 8 8 && bitsOf op0 8 8 ≤ 6)

def execFwdQ (r : PipeRef) (s : State) : Host.Outcome State Fault Refusal :=
  run (fun s => s.issue r 5 1 fun _ x w =>
    let d := stepOp x w 0
    { bad := sizeBad d || bitsOf (stepOp x w 3) 8 8 > 3 || bitsOf (stepOp x w 3) 16 8 > 5
      acc := [readAt (stWinA w) (stepOp x w 1) (span w 0 d), writeAt (stWinA w) (stepOp x w 2) (span w 1 d)] }) s

def execDeqInv (r : PipeRef) (s : State) : Host.Outcome State Fault Refusal :=
  run (fun s => s.issue r 5 2 fun _ x w =>
    let d := stepOp x w 0
    { bad := sizeBad d, result := some 0
      acc := [readAt (stWinA w) (stepOp x w 2) (span w 1 d), writeAt (stWinA w) (stepOp x w 1) (span w 0 d)] }) s

/-- LFU filters of samples in WIN_A. -/
def filterAsk (s : State) (x : Thread) (w : Nat) : UnitAsk :=
  let d := stepOp x w 0
  let a := readBlock s x (stWinA w) d (span w 0 d)
  { bad := blockBad d, result := some 0, acc := [a, { a with write := true }] }

def execDeblock (r : PipeRef) (s : State) : Host.Outcome State Fault Refusal := run (fun s => s.issue r 6 1 filterAsk) s
def execSao (r : PipeRef) (s : State) : Host.Outcome State Fault Refusal := run (fun s => s.issue r 6 2 filterAsk) s
def execAlf (r : PipeRef) (s : State) : Host.Outcome State Fault Refusal := run (fun s => s.issue r 6 3 filterAsk) s
def execCdef (r : PipeRef) (s : State) : Host.Outcome State Fault Refusal := run (fun s => s.issue r 6 4 filterAsk) s

def execStats (r : PipeRef) (s : State) : Host.Outcome State Fault Refusal :=
  run (fun s => s.issue r 6 5 fun s x w =>
    let d := stepOp x w 0
    { bad := blockBad d
      acc := [readBlock s x (stWinA w) d (span w 0 d), writeAt (stWinB w) (immLo w) (span w 1 d)] }) s

/-- Bits of an Exp-Golomb code number. -/
def ueBits (v : Nat) : Nat := 2 * Nat.log2 (v + 1) + 1

/-- The code number of a signed value. -/
def seNum (v : Int) : Nat := if 0 < v then (2 * v - 1).toNat else (-2 * v).toNat

/-- Bits produced by EU ENCODE, where the method alone gives them (R478). -/
def encodeBits (op0 v : Nat) : Option Nat :=
  match op0 % 16 with
  | 4 => some (ueBits v)
  | 5 => some (ueBits (seNum (toSigned 64 v)))
  | 6 => some (bitsOf op0 8 6)
  | _ => none

def execEncode (r : PipeRef) (s : State) : Host.Outcome State Fault Refusal :=
  run (fun s => s.issue r 7 1 fun _ x w =>
    { bad := stepOp x w 0 % 16 > 6, result := encodeBits (stepOp x w 0) (stepOp x w 1) }) s

def execDecode (r : PipeRef) (s : State) : Host.Outcome State Fault Refusal :=
  run (fun s => s.issue r 7 2 fun _ x w => { bad := stepOp x w 0 % 16 > 6, range := true }) s

def execInit (r : PipeRef) (s : State) : Host.Outcome State Fault Refusal :=
  run (fun s => s.issue r 7 3 fun _ _ _ => { result := some 0 }) s

def execFlush (r : PipeRef) (s : State) : Host.Outcome State Fault Refusal :=
  run (fun s => s.issue r 7 4 fun _ _ _ => { result := some 0 }) s

/-- BSU requests write at the stream position of OUT; output past its end is dropped (R471). -/
def bsuAsk (w : Nat) (bad : Bool) (result : Option Nat) : UnitAsk :=
  { bad := bad, result := result, out := true, acc := if stWinA w = 15 then [] else [writeAt (stWinA w) 0 0] }

def execStartUnit (r : PipeRef) (s : State) : Host.Outcome State Fault Refusal :=
  run (fun s => s.issue r 8 1 fun _ _ w => bsuAsk w false none) s

def execEndUnit (r : PipeRef) (s : State) : Host.Outcome State Fault Refusal :=
  run (fun s => s.issue r 8 2 fun _ _ w => bsuAsk w false none) s

def execRaw (r : PipeRef) (s : State) : Host.Outcome State Fault Refusal :=
  run (fun s => s.issue r 8 3 fun _ x w => bsuAsk w (!(1 ≤ stepOp x w 1 && stepOp x w 1 ≤ 64)) none) s

def execInject (r : PipeRef) (s : State) : Host.Outcome State Fault Refusal :=
  run (fun s => s.issue r 8 4 fun _ _ w => bsuAsk w (stImm w % 4 == 3) (some 0)) s

/-- The samples of a block in a picture window, line by line: position and value. -/
def State.blockSamples (s : State) (x : Thread) (num d : Nat) : List (Nat × Nat × Nat) :=
  let v := s.window x num
  let b := blockOf d
  let q := v.planeAt (s.session x.session).height b.plane
  ((List.range b.h).map fun j => (List.range b.w).map fun i =>
    (b.x + i, b.y + j, sampleOf v.fmt (s.raw (v.base + q.1 + (b.y + j) * v.pitch + (b.x + i) * q.2) (fmtBytes v.fmt)))).flatten

/-- The blocks of both windows, when both are pictures. -/
def State.blockPairs (s : State) (x : Thread) (w : Nat) : Option (List ((Nat × Nat × Nat) × (Nat × Nat × Nat))) :=
  if (s.window x (stWinA w)).isPicture && (s.window x (stWinB w)).isPicture then
    some ((s.blockSamples x (stWinA w) (stepOp x w 0)).zip (s.blockSamples x (stWinB w) (stepOp x w 0)))
  else none

/-- The sum of squared differences. -/
def sseOf (l : List ((Nat × Nat × Nat) × (Nat × Nat × Nat))) : Nat :=
  l.foldl (fun m e => m + (((e.1.2.2 : Int) - (e.2.2.2 : Int)) ^ 2).toNat) 0

/-- The first mismatch position, all ones when none (06 R367). -/
def firstDiff (p : Nat) (l : List ((Nat × Nat × Nat) × (Nat × Nat × Nat))) : Nat :=
  match l.find? fun e => e.1.2.2 != e.2.2.2 with
  | some e => mismatch e.1.1 e.1.2.1 p
  | none => noMismatch

/-- QMU requests read a block of two pictures. -/
def qmuAsk (s : State) (x : Thread) (w : Nat) (res : List ((Nat × Nat × Nat) × (Nat × Nat × Nat)) → Option Nat) : UnitAsk :=
  let d := stepOp x w 0
  { bad := blockBad d, result := (s.blockPairs x w).bind res
    acc := [readBlock s x (stWinA w) d (span w 0 d), readBlock s x (stWinB w) d (span w 1 d)] }

def execSseSums (r : PipeRef) (s : State) : Host.Outcome State Fault Refusal :=
  run (fun s => s.issue r 9 1 fun s x w => qmuAsk s x w fun l => some (sseOf l)) s

def execSsimSums (r : PipeRef) (s : State) : Host.Outcome State Fault Refusal :=
  run (fun s => s.issue r 9 2 fun s x w => qmuAsk s x w fun _ => none) s

def execCompare (r : PipeRef) (s : State) : Host.Outcome State Fault Refusal :=
  run (fun s => s.issue r 9 3 fun s x w =>
    qmuAsk s x w fun l => some (firstDiff (blockOf (stepOp x w 0)).plane l)) s

/-! ### Results (R477; 07 R401) -/

/-- The thread's oldest request completes: its result is written to DST. -/
def State.unitReturns (s : State) (n t : Nat) : State :=
  let x := s.thread n t
  match x.reqs with
  | [] => s
  | q :: l => (s.setThread n t { x with reqs := l }).writeDst n t q.dst q.result

def execUnitResultReturn (r : PipeRef) (s : State) : Host.Outcome State Fault Refusal :=
  run (fun s =>
    let x := s.thread r.pipe.val r.thread.val
    if x.active && (s.session x.session).run.isSome && s.pll 2 == .locked then s.unitReturns r.pipe.val r.thread.val else s) s

end Sys2Proof.Machine
end

