-- ==== Sys2Proof/Machine/FwSteps.lean ====
section
/-! DEFINITION. FCALL (08 R480): the firmware functions, with rate control and the decoder-model tracker (10 R542 to R548,
R559, R560). -/

namespace Sys2Proof.Machine

/-! ### The call -/

/-- A step that calls function `fn` of firmware; `f` answers the state and the result, or none while the call waits. -/
def State.fcall (s : State) (r : PipeRef) (fn : Nat) (f : State → Thread → Nat → Option (State × Nat)) : State :=
  let n := r.pipe.val
  let t := r.thread.val
  if s.fwUp then
    s.step1 n t (fun w => stOp w == 0x70 && stFunc w == fn) fun u x w =>
      match f u x w with
      | none => s
      | some y => (y.1.writeDst n t (stDst w) y.2).nextStep n t
  else s

/-- A call that may be refused: 6 of R413 for its arguments, 0x16 of R468 for its caller. -/
def State.fcallChecked (s : State) (r : PipeRef) (fn : Nat) (refuses denies : State → Thread → Nat → Bool)
    (f : State → Thread → Nat → Option (State × Nat)) : State :=
  let n := r.pipe.val
  let x := s.thread n r.thread.val
  let w := (s.pod x.handle).step x.handle x.pc
  let here := stOp w == 0x70 && stFunc w == fn && s.fwUp
  if here && denies s x w then
    s.step1 n r.thread.val (fun _ => true) fun _ x _ => s.sandboxFault n x 0x16
  else if here && refuses s x w then
    s.step1 n r.thread.val (fun _ => true) fun u x _ => u.threadFault n x 6 x.pc
  else s.fcall r fn f

/-! ### Rate control -/

/-- The parameters of an encode block with its defaults (10 R532). -/
structure RcBlock where
  mode : Nat
  bframes : Nat
  gopLen : Nat
  field : Bool
  qp : Nat → Nat
  qpMin : Nat
  qpMax : Nat
  bitrate : Nat
  peak : Nat
  cpb : Nat
  init : Nat
  margin : Int
  ssim : Nat
  side : Bool
  live : Nat

/-- The largest CPB of the session's level (10 R534). -/
def Session.levelCpb (x : Session) : Nat := Config.levelCpb x.codec x.level x.tier

def Session.rcBlock (x : Session) (b : List Byte) : RcBlock :=
  let f (i n : Nat) := x.encField b 0 i n
  let mode := f 0 1
  { mode := mode, bframes := f 1 1 % 8, gopLen := f 2 2, field := bitAt (f 1 1) 4
    qp := fun k => f (4 + min k 2) 1, qpMin := f 7 1, qpMax := f 8 1
    bitrate := 1000 * f 0xC 4, peak := 1000 * f 0x10 4
    cpb := if f 0x14 4 = 0 ∧ (mode = 1 ∨ mode = 2 ∨ mode = 6) then x.levelCpb else 1000 * f 0x14 4
    init := f 0x18 2, margin := toSigned 16 (f 0x1A 2), ssim := f 0x1C 2, side := bitAt (f 0x26 1) 4, live := f 0x38 4 }

/-- The tracker runs (10 R546). -/
def RcBlock.tracks (b : RcBlock) : Bool := b.cpb != 0 || b.mode == 1 || b.mode == 2 || b.mode == 5 || b.mode == 6

/-- Pictures per second as a fraction (10 R546). -/
def Session.pictureRate (_x : Session) (body : List Byte) (b : RcBlock) : Nat × Nat :=
  (max 1 ((if b.field then 2 else 1) * blkField body 0x18 4), blkField body 0x1C 4)

/-- The rate at which the tracker's buffer fills: PEAK_RATE for VBR and QUALITY, else BITRATE (10 R546). -/
def RcBlock.arrival (b : RcBlock) : Nat := if b.mode = 2 ∨ b.mode = 3 then b.peak else b.bitrate

/-- Fullness just before the next removal (10 R546). -/
def RateState.before (r : RateState) (b : RcBlock) : Nat := if r.started then r.fullness else b.cpb * b.init / 1000

/-- Bits that arrive before the next removal, and the remainder carried on. -/
def RateState.arrives (r : RateState) (b : RcBlock) (rate : Nat × Nat) : Nat × Nat :=
  let v := b.arrival * rate.2 + r.carry
  (v / rate.1, v % rate.1)

/-- The tracker's block: that in force since the last key picture (10 R559). -/
def RateState.tracker (r : RateState) (x : Session) (cur : List Byte) : RcBlock :=
  x.rcBlock (if r.block.isEmpty then cur else r.block)

/-- M of 10 R547, in bits. -/
def RcBlock.marginBits (b : RcBlock) : Int := b.margin * b.cpb / 1000

/-- T of 10 R547, a whole number of bytes and not below 0. -/
def stressTarget (b : RcBlock) (full arrive : Nat) : Nat :=
  let t : Int := if b.side then full + arrive - (b.cpb - b.marginBits) else full - b.marginBits
  t.toNat / 8 * 8

/-- A target held within the buffer: no underflow, and for CBR no overflow (10 R544). -/
def capped (t full arrive cpb : Nat) (cbr : Bool) : Nat :=
  let hi := min t full
  if cbr then max hi (full + arrive - cpb) else hi

/-- Bytes that an egress flow bound to the session has queued (08 R480). -/
def State.portFill (s : State) (sess f : Nat) : Nat :=
  let x := s.flow f
  if x.mode != .unused && x.egress && x.session == some sess then sumBy List.length x.queue else 0

/-- The bound egress flow of a session. -/
def State.egressOf (s : State) (sess : Nat) : Option Nat :=
  (s.flows.find? fun e => e.2.egress && e.2.mode != .unused && e.2.session == some sess).map (·.1)

/-- LIVE: the target scaled by LIVE_TARGET_US over the queue's microseconds, within 0.5 to 2.0 (10 R544, R565). -/
def liveScaled (t target queueBytes bitrate : Nat) : Nat :=
  let us := max 1 (queueBytes * 8000000 / max 1 bitrate)
  max (t / 2) (min (2 * t) (t * target / us))

/-- Arguments of RC_STEP (10 R542). -/
structure RcArgs where
  phase : Nat
  typ : Nat
  layer : Nat
  attempt : Nat
  index : Nat
  satd : Nat
  bytes : Nat
  ssim : Nat
  deriving DecidableEq, Repr

def rcArgs (x : Thread) (w : Nat) : RcArgs :=
  let a := stepOp x w 0
  { phase := a % 256, typ := bitsOf a 8 8, layer := bitsOf a 16 8, attempt := bitsOf a 24 8, index := stepOp x w 1
    satd := stepOp x w 2, bytes := stepOp x w 3, ssim := stepOp x w 4 }

/-- QP_I, QP_P or QP_B with the layer offset of 10 R539. -/
def RcBlock.base (b : RcBlock) (a : RcArgs) : Nat := if a.typ = 2 then b.qp 2 + (a.layer - 1) else b.qp a.typ

def RcBlock.clamp (b : RcBlock) (q : Int) : Nat := (max (b.qpMin : Int) (min (b.qpMax : Int) q)).toNat

/-- The key of a picture's type and layer. -/
def RcArgs.key (a : RcArgs) : Nat := a.typ * 8 + a.layer % 8

/-- The rate model (10 R545). -/
def RateState.model (r : RateState) (b : RcBlock) (a : RcArgs) (t : Nat) : Int :=
  match Table.get 0 r.qpPrev a.key with
  | 0 => b.base a
  | q + 1 =>
    q + max (-3) (min 3 (Config.rateLog (Table.get 0 r.bPrev a.key * a.satd) (t * Table.get 0 r.satdPrev a.key)))

/-- The change of QUALITY (10 R544). -/
def qualityStep (target ssim : Nat) : Int :=
  if ssim + 655 < target then -2 else if ssim + 132 ≤ target then -1 else if target + 131 < ssim then 1 else 0

/-- The entry of the trajectory table for a picture. -/
def State.trajEntry (s : State) (body : List Byte) (index : Nat) : Nat :=
  s.raw ((trajTable body).1 + 4 * (index % max 1 (blkField body 0x44 2))) 4

/-- The plan: QP and target bits (10 R544). -/
def State.rcPlan (s : State) (x : Session) (sess : Nat) (body : List Byte) (a : RcArgs) : Nat × Nat :=
  let r := x.rate
  let b := x.rcBlock (encBlock body)
  let tr := r.tracker x (encBlock body)
  let rate := x.pictureRate body b
  let full := r.before tr
  let arrive := (r.arrives tr (x.pictureRate body tr)).1
  let gop := Config.gopTarget b.bframes b.gopLen a.typ (b.bitrate * rate.2 / rate.1)
  let withModel (t : Nat) : Nat × Nat := (b.clamp (r.model b a t), t)
  match b.mode with
  | 1 => withModel (capped gop full arrive tr.cpb true)
  | 2 => withModel (capped gop full arrive tr.cpb false)
  | 3 =>
    let q : Int := match Table.get 0 r.qpLast a.typ with
      | 0 => b.base a
      | q + 1 => q + qualityStep b.ssim (Table.get 0 r.ssimLast a.typ)
    (b.clamp q, if b.cpb = 0 then 0 else full)
  | 4 =>
    let e := s.trajEntry body a.index
    if bitAt e 31 then ((max 0 (min (x.qpMax : Int) (r.model b a (e % 2 ^ 31)))).toNat, e % 2 ^ 31) else (min (e % 256) x.qpMax, 0)
  | 5 => withModel (stressTarget tr full arrive)
  | 6 =>
    let q := match s.egressOf sess with | some f => s.portFill sess f | none => 0
    withModel (liveScaled (capped gop full arrive tr.cpb true) b.live q b.bitrate)
  | _ => (b.clamp (b.base a), 0)

/-- The review: verdict, retry QP, padding bytes (10 R544, R548). -/
def Session.rcReview (x : Session) (body : List Byte) (a : RcArgs) : Nat × Nat × Nat :=
  let r := x.rate
  let b := x.rcBlock (encBlock body)
  let tr := r.tracker x (encBlock body)
  let full := r.before tr
  let arrive := (r.arrives tr (x.pictureRate body tr)).1
  let bits := 8 * a.bytes
  match b.mode with
  | 1 | 6 =>
    let excess := full - bits + arrive - tr.cpb
    if excess = 0 then (0, 0, 0) else (2, 0, (excess + 7) / 8)
  | 4 => if bits < r.target then (2, 0, (r.target - bits) / 8) else (0, 0, 0)
  | 5 =>
    if bits ≤ r.target then (2, 0, (r.target - bits) / 8)
    else if a.attempt < 2 ∧ r.qp < b.qpMax then (1, min b.qpMax (r.qp + if x.codec = 4 then 8 else 2), 0)
    else (0, 0, 0)
  | _ => (0, 0, 0)

/-- The rate state for the mode in force: a change of RC_MODE resets the rate model and keeps the tracker (10 R559). -/
def RateState.forMode (r : RateState) (mode : Nat) : RateState :=
  if r.mode = mode + 1 then r else { r with mode := mode + 1, qpPrev := [], bPrev := [], satdPrev := [] }

/-- What a plan call leaves; an I picture starts a new buffering period (10 R559). -/
def RateState.planned (r : RateState) (a : RcArgs) (blk : List Byte) (p : Nat × Nat) : RateState :=
  { r with target := p.2, qp := p.1, satd := a.satd, block := if a.typ = 0 ∨ r.block.isEmpty then blk else r.block }

/-- What a review call leaves: the picture becomes the last of its type and layer, or its next attempt is due. -/
def RateState.reviewed (r : RateState) (a : RcArgs) (v : Nat × Nat × Nat) : RateState :=
  if v.1 = 1 then { r with qp := v.2.1 }
  else
    { r with qpPrev := Table.set 0 r.qpPrev a.key (r.qp + 1), bPrev := Table.set 0 r.bPrev a.key (8 * a.bytes)
             satdPrev := Table.set 0 r.satdPrev a.key r.satd, qpLast := Table.set 0 r.qpLast a.typ (r.qp + 1)
             ssimLast := Table.set 0 r.ssimLast a.typ a.ssim }

/-- The body in force for a thread's job. -/
def Session.runBody (x : Session) : List Byte := match x.run with | some r => r.body | none => x.body

def State.rcStep (s : State) (x : Thread) (w : Nat) : State × Nat :=
  let y := s.session x.session
  let body := y.runBody
  let a := rcArgs x w
  let y := { y with rate := y.rate.forMode (y.rcBlock (encBlock body)).mode }
  if a.phase = 0 then
    let p := s.rcPlan y x.session body a
    (s.setSession x.session { y with rate := y.rate.planned a (encBlock body) p }, p.1 % 256 + min p.2 (satMax 32) * 2 ^ 8)
  else
    let v := y.rcReview body a
    (s.setSession x.session { y with rate := y.rate.reviewed a v }, v.1 + v.2.1 % 256 * 2 ^ 8 + min v.2.2 (satMax 32) * 2 ^ 16)

/-- RC_STEP refuses a phase, picture type or attempt that 10 R542 does not name. -/
def rcRefuses (x : Thread) (w : Nat) : Bool := (rcArgs x w).phase > 1 || (rcArgs x w).typ > 2 || (rcArgs x w).attempt > 2

/-- RC_STEP in LIVE mode needs TIME_DEP (R480). -/
def State.rcDenies (s : State) (x : Thread) : Bool :=
  let y := s.session x.session
  (y.rcBlock (encBlock y.runBody)).mode == 6 && !podTimeDep (s.image x)

def execRcStep (r : PipeRef) (s : State) : Host.Outcome State Fault Refusal :=
  run (fun s => s.fcallChecked r 1 (fun _ x w => rcRefuses x w) (fun s x _ => s.rcDenies x) fun u x w => some (u.rcStep x w)) s

/-! ### The tracker (10 R546) -/

/-- Fullness after the removal of `bits`, and the tracker's state before the next removal. -/
def RateState.remove (r : RateState) (b : RcBlock) (rate : Nat × Nat) (bits : Nat) : Nat × RateState :=
  let after := r.before b - bits
  let v := r.arrives b rate
  let next := after + v.1
  (after, { r with started := true, carry := v.2
                   fullness := if b.mode = 2 ∨ b.mode = 3 then min b.cpb next else next })

def State.hrdStep (s : State) (x : Thread) (w : Nat) : State × Nat :=
  let y := s.session x.session
  let body := y.runBody
  let b := y.rate.tracker y (encBlock body)
  if x.dec || !b.tracks then (s.tookFree, s.freeVal)
  else
    let v := y.rate.remove b (y.pictureRate body b) (stepOp x w 0)
    (s.setSession x.session { y with rate := v.2 }, v.1)

def execHrdStep (r : PipeRef) (s : State) : Host.Outcome State Fault Refusal :=
  run (fun s => s.fcall r 2 fun u x w => some (u.hrdStep x w)) s

/-! ### Reference slots, output slots, flows and time (R480) -/

/-- Two ranges of the work area do not meet. -/
def slotFree (refs : List (Nat × Nat)) (o n : Nat) : Bool := refs.all fun e => !overlaps o n e.1 e.2

/-- The lowest free slot of `n` bytes above the injection table's copy (log 68). -/
def Session.refSlot (x : Session) (n : Nat) : Option Nat :=
  let up (a : Nat) := (a + 63) / 64 * 64
  ((0x400 :: x.refs.map fun e => up (e.1 + e.2)).filter fun o => o + n ≤ x.workSize && slotFree x.refs o n).foldl
    (fun m o => some (match m with | none => o | some a => min a o)) none

def State.refAlloc (s : State) (x : Thread) (w : Nat) : State × Nat :=
  let y := s.session x.session
  let n := stepOp x w 0
  match y.refSlot n, y.run with
  | some o, some r =>
    (s.setSession x.session { y with refs := y.refs ++ [(o, n)], run := some { r with taken := r.taken ++ [o] } }, o)
  | _, _ => (s, 2 ^ 64 - 1)

def execRefAlloc (r : PipeRef) (s : State) : Host.Outcome State Fault Refusal :=
  run (fun s => s.fcall r 3 fun u x w => some (u.refAlloc x w)) s

/-- REF_FREE refuses an offset that is no slot's. -/
def State.refUnknown (s : State) (x : Thread) (w : Nat) : Bool := (s.session x.session).refs.all fun e => e.1 != stepOp x w 0

def State.refFree (s : State) (x : Thread) (w : Nat) : State × Nat :=
  let y := s.session x.session
  let o := stepOp x w 0
  (s.setSession x.session { y with refs := y.refs.filter (fun e => e.1 != o)
                                   run := y.run.map fun r => { r with taken := r.taken.filter (· != o) } }, 0)

def execRefFree (r : PipeRef) (s : State) : Host.Outcome State Fault Refusal :=
  run (fun s => s.fcallChecked r 4 State.refUnknown (fun _ _ _ => false) fun u x w => some (u.refFree x w)) s

def State.picOut (s : State) (x : Thread) : State × Nat :=
  let y := s.session x.session
  match y.run with
  | some r =>
    if r.slots < blkField (s.jobOf x).body 0x1C 4 then
      (s.setSession x.session { y with run := some { r with slots := r.slots + 1 } }, r.slots)
    else (s, 2 ^ 64 - 1)
  | none => (s, 2 ^ 64 - 1)

def execPicOut (r : PipeRef) (s : State) : Host.Outcome State Fault Refusal :=
  run (fun s => s.fcall r 5 fun u x _ => some (u.picOut x)) s

/-- The ingress flow that is bound to a session. -/
def State.ingressOf (s : State) (sess : Nat) : Option Nat :=
  (s.flows.find? fun e => !e.2.egress && e.2.mode != .unused && e.2.session == some sess).map (·.1)

/-- FLOW_READ: bytes up to the limit and to the next discontinuity go to the Pod's LFS; bit 61 tells of a discontinuity
at the position where the copy starts (R480; 11 R572). -/
def State.flowRead (s : State) (n : Nat) (x : Thread) (w : Nat) : Option (State × Nat) :=
  match s.ingressOf x.session, s.allotOf n x with
  | some k, some al =>
    let f := s.flow k
    let gap := f.gaps.contains 0
    let stop := f.gaps.foldl (fun m g => if 0 < g then min m g else m) f.buffer.length
    let c := min (stepOp x w 1) stop
    if c = 0 && !gap then none
    else
      let o := stepOp x w 0
      let bs := f.buffer.take c
      let put (t : State) (i : Nat) : State := t.writeWords (lfsAddr n al.lfs (o + i)) [some (bs.getD i 0)] 2
      let t := (List.range c).foldl put s
      some (t.setFlow k { f with buffer := f.buffer.drop c, gaps := (f.gaps.filter fun g => 0 < g).map fun g => g - c },
        c + b2n gap * 2 ^ 61)
  | _, _ => none

/-- FLOW_READ refuses a range outside the Pod's LFS. -/
def State.flowOutside (s : State) (n : Nat) (x : Thread) (w : Nat) : Bool :=
  match s.allotOf n x with
  | some al => decide (4096 * al.lfs.length < stepOp x w 0 + stepOp x w 1)
  | none => true

def execFlowRead (r : PipeRef) (s : State) : Host.Outcome State Fault Refusal :=
  run (fun s => s.fcallChecked r 6 (fun s x w => s.flowOutside r.pipe.val x w) (fun _ _ _ => false)
    fun u x w => u.flowRead r.pipe.val x w) s

def execTimeNow (r : PipeRef) (s : State) : Host.Outcome State Fault Refusal :=
  run (fun s => s.fcall r 7 fun u _ _ => some (u, u.ptpWord)) s

def execPortFill (r : PipeRef) (s : State) : Host.Outcome State Fault Refusal :=
  run (fun s => s.fcall r 8 fun u x w => some (u, u.portFill x.session (stepOp x w 0))) s

end Sys2Proof.Machine
end

