-- ==== Sys2Proof/Machine/MemCmds.lean ====
section
/-! DEFINITION. The memory commands (06 R375), the counter and fault commands (R376 to R378; 15 R792, R810), the
maintenance and firmware commands (R379 to R383; 07 R423, R443; 12 R629), and the command timeout (R343, R344). -/

namespace Sys2Proof.Machine

/-! ### MEM_COPY, MEM_FILL, USER_READ -/

/-- Channels of firmware that no command uses. -/
def State.freeChans (s : State) : List Nat :=
  ((List.range 16).drop 8).filter fun n =>
    (s.chan n).mode == .idle && !s.hazel.jobs.any fun c => c.phase == .running && c.chan == n

/-- A command that moves data takes a free channel and starts; with none free it waits. -/
def State.moveData (s : State) (c : Cmd) : State × Cmd :=
  let x := s.choose s.freeChans
  match x.1 with
  | none => (s, c)
  | some n =>
    let c := { c with chan := n, dst := 0 }
    let t := if c.opcode = 0x502 then x.2.writeMem 6 c.moveSrc (leBytes 8 c.a1) else x.2
    t.startMove c

def execMemCopy (q : Fin 16) (s : State) : Host.Outcome State Fault Refusal :=
  run (fun s => (s.serve q.val 0x0501
    (fun _ c =>
      let n := c.a2 % 2 ^ 32
      { m0 := 2 ^ 64 - 1, m1 := 2 ^ 64 - 1, m2 := 2 ^ 32 - 1, bad := [(n == 0, 0x38)]
        addrs := [(0x28, c.a0, n, 1), (0x30, c.a1, n, 1)] })
    fun s c => s.needing c [13] fun _ => s.moveData c).progress) s

def execMemFill (q : Fin 16) (s : State) : Host.Outcome State Fault Refusal :=
  run (fun s => (s.serve q.val 0x0502
    (fun _ c =>
      let n := c.a2 % 2 ^ 32
      { m0 := 2 ^ 64 - 1, m1 := 2 ^ 64 - 1, m2 := 2 ^ 32 - 1, bad := [(n % 8 != 0, 0x38)], addrs := [(0x28, c.a0, n, 1)] })
    fun s c => if c.a2 % 2 ^ 32 = 0 then (s, c.done) else s.needing c [5, 13] fun _ => s.moveData c).progress) s

/-- OFFSET and LENGTH of USER_READ and USER_WRITE stay in the region. -/
def userBad (c : Cmd) : List (Bool × Nat) :=
  let n := c.a2 % 2 ^ 21
  [(n == 0 || decide (n > 2 ^ 20) || decide (c.a0 % 2 ^ 20 + n > 2 ^ 20), 0x38)]

def userShape (c : Cmd) : Shape :=
  { m0 := 2 ^ 20 - 1, m1 := 2 ^ 64 - 1, m2 := 2 ^ 21 - 1, bad := userBad c, addrs := [(0x30, c.a1, c.a2 % 2 ^ 21, 64)] }

def execUserRead (q : Fin 16) (s : State) : Host.Outcome State Fault Refusal :=
  run (fun s => (s.serve q.val 0x0504 (fun _ c => userShape c)
    fun s c => s.needing c [8, 13] fun _ => s.moveData c).progress) s

/-- The words of the user region that a write covers in part are read for the merge (12 R622): the address of one that
is poisoned. -/
def State.readEdges (s : State) (a n : Nat) : State × Option Nat :=
  let x := if a % 8 = 0 then (s, none) else let m := s.readMem 6 (a / 8 * 8) 8; (m.state, m.poison)
  match x.2 with
  | some p => (x.1, some p)
  | none => if (a + n) % 8 = 0 then x else let m := x.1.readMem 6 ((a + n) / 8 * 8) 8; (m.state, m.poison)

def State.userWrite (s : State) (c : Cmd) : State × Cmd :=
  let n := c.a2 % 2 ^ 21
  let m := s.readMem 6 c.a1 n
  match m.poison with
  | some p => (m.state, c.ends 0x0303 0 p)
  | none =>
    let x := m.state.readEdges (regionBase 8 + c.a0 % 2 ^ 20) n
    match x.2 with
    | some p => (x.1, c.ends 0x0303 0 p)
    | none => x.1.askBurst { c with rest := m.data, dst := c.a0 % 2 ^ 20 } 1

def execUserWrite (q : Fin 16) (s : State) : Host.Outcome State Fault Refusal :=
  run (fun s => (s.serve q.val 0x0505 (fun _ c => userShape c)
    fun s c => s.needing c [8, 13] fun _ => s.userWrite c).progress) s

/-! ### MEM_PIN, SCRUB_CONFIG -/

/-- MEM_PIN sets or clears PIN_FW; a stack that sleeps is woken, and the command waits for it (12 R618). -/
def State.memPin (s : State) (c : Cmd) : State × Cmd :=
  let n := c.a0 % 2
  let t := s.pinFw n (bitAt c.a0 8)
  if !bitAt c.a0 8 || t.awake n then (t, c.done)
  else if t.pac.queue.any (·.who == ⟨.dramWake, n⟩) then (t, c.awaits ⟨.dramWake, n⟩)
  else if t.pac.held.contains ⟨.dramWake, n⟩ then (t, { c with phase := .running, wait := none })
  else (t, c.ends 0x0203 (t.pac.lastDeny % 2 ^ 18) 0)

def execMemPin (q : Fin 16) (s : State) : Host.Outcome State Fault Refusal :=
  run (fun s => s.serve q.val 0x0503 (fun _ _ => { m0 := 0x101 })
    fun s c => s.needing c [6 + c.a0 % 2] fun _ => s.memPin c) s

def execScrubConfig (q : Fin 16) (s : State) : Host.Outcome State Fault Refusal :=
  run (fun s => s.serve q.val 0x0506
    (fun _ c => { m0 := 0x1FFFF, bad := [(!(1 ≤ c.a0 % 65536 && c.a0 % 65536 ≤ 168), 0x28)] })
    fun s c =>
      (({ s with scrub := { s.scrub with enable := bitAt c.a0 16, passHours := c.a0 % 65536 } }).scrubStart, c.done)) s

/-! ### Counters (R376, R377; 18 R917) -/

/-- COUNTER_READ of `n` words from BAR0 address `a`: a pair that holds a 64-bit counter is read at once. -/
def State.readCounters (s : State) (a : Nat) : Nat → List Nat × State
  | 0 => ([], s)
  | 1 => let x := s.read32 .hazelA a; ([x.1], x.2)
  | n + 2 =>
    match s.counterAt a with
    | some c =>
      if c.wide then
        let x := s.read64 .hazelA a
        let y := State.readCounters x.2 (a + 8) n
        (half false x.1 :: half true x.1 :: y.1, y.2)
      else
        let x := s.read32 .hazelA a
        let y := State.readCounters x.2 (a + 4) (n + 1)
        (x.1 :: y.1, y.2)
    | none =>
      let x := s.read32 .hazelA a
      let y := State.readCounters x.2 (a + 4) (n + 1)
      (x.1 :: y.1, y.2)

/-- OFFSET is aligned and the words lie in the counter window. -/
def counterBad (c : Cmd) : List (Bool × Nat) :=
  let n := c.a2 % 65536
  [(c.a0 % 4 != 0 || decide (c.a0 ≥ 2 ^ 20), 0x28), (!(1 ≤ n && n ≤ 4096) || decide (c.a0 + 4 * n > 2 ^ 20), 0x38)]

def execCounterRead (q : Fin 16) (s : State) : Host.Outcome State Fault Refusal :=
  run (fun s => s.serve q.val 0x0601
    (fun _ c => { m0 := 2 ^ 64 - 1, m1 := 2 ^ 64 - 1, m2 := 0xFFFF, bad := counterBad c
                  addrs := [(0x30, c.a1, 4 * (c.a2 % 65536), 64)] })
    fun s c =>
      let x := s.readCounters (0x100000 + c.a0) (c.a2 % 65536)
      (x.2.writeMem 6 c.a1 (x.1.map (leBytes 4)).flatten, c.done)) s

/-- COUNTER_CLEAR reads the counters of `n` words and discards what they held. -/
def State.clearCounters (s : State) (a : Nat) : Nat → State
  | 0 => s
  | n + 1 =>
    let t := match s.counterAt a with
      | some c => (s.counterRead .hazelA a c).2
      | none => s
    State.clearCounters t (a + 4) n

def execCounterClear (q : Fin 16) (s : State) : Host.Outcome State Fault Refusal :=
  run (fun s => s.serve q.val 0x0602
    (fun _ c => { m0 := 2 ^ 64 - 1, m2 := 0xFFFF, bad := counterBad c })
    fun s c => (s.clearCounters (0x100000 + c.a0) (c.a2 % 65536), c.done)) s

/-! ### Faults (R376, R378; 15 R787, R792, R804 to R810) -/

/-- One source's reaction mask, and the quiet period, as Pip writes them. -/
def State.configFault (s : State) (src react : Nat) (setQuiet : Bool) (quiet : Nat) : State :=
  let f := s.flt
  { s with flt := { f with react := Table.set ({} : Trip) f.react src (Trip.of react)
                           quiet := if setQuiet then Trip.of quiet else f.quiet } }

def execFaultConfig (q : Fin 16) (s : State) : Host.Outcome State Fault Refusal :=
  run (fun s => s.serve q.val 0x0603
    (fun _ c =>
      let src := c.a0 % 128
      { m0 := 0xFFFF00011F7F
        bad := [(fltReserved src || fltFixed src, 0x28), (bitAt c.a0 10 && !fltHasTarget src, 0x29),
                (bitAt c.a0 16 && bitsOf c.a0 32 16 == 0, 0x2C)] })
    fun s c => (s.configFault (c.a0 % 128) (bitsOf c.a0 8 5) (bitAt c.a0 16) (bitsOf c.a0 32 16), c.done)) s

/-- The entries of the on-die ring, oldest first. -/
def Flt.entries (f : Flt) : List LogEntry :=
  ((List.range 256).map fun i => Table.get {} f.log ((f.head + i) % 256)).filter fun e => e.kind != 0

def LogEntry.image (e : LogEntry) : List Byte := ((List.range 4).map fun w => leBytes 4 (e.word w)).flatten
def PEntry.image (e : PEntry) : List Byte := ((List.range 8).map fun w => leBytes 4 (e.word w)).flatten

/-- The entries that FAULT_LOG_READ copies. -/
def State.logImages (s : State) (persistent : Bool) (n : Nat) : List (List Byte) :=
  (if persistent then s.bankM.ring.map PEntry.image else s.flt.entries.map LogEntry.image).take n

def execFaultLogRead (q : Fin 16) (s : State) : Host.Outcome State Fault Refusal :=
  run (fun s => s.serve q.val 0x0604
    (fun _ c => { m0 := 1, m1 := 2 ^ 64 - 1, m2 := 0xFFFF
                  addrs := [(0x30, c.a1, (if bitAt c.a0 0 then 32 else 16) * (c.a2 % 65536), 64)] })
    fun s c =>
      let l := s.logImages (bitAt c.a0 0) (c.a2 % 65536)
      let res := l.length % 65536 + 2 ^ 16 * b2n s.flt.logInvalid + 2 ^ 17 * b2n (!s.flt.lr.isEmpty)
      (if l.isEmpty then s else s.writeMem 6 c.a1 l.flatten, c.ends 0 0 res)) s

/-- A reserved source is a bad field. -/
def sourceBad (c : Cmd) : List (Bool × Nat) := [(fltReserved (c.a0 % 128), 0x28)]

/-- An injected report would reset Hazel or the chip (R378). -/
def State.injectResets (s : State) (src : Nat) : Bool :=
  let r := s.fltSrc src
  let m := if r.open_ then r.mask else s.reactMask src
  bitAt m 3 || (bitAt m 2 && fltHazelReset src)

def execFaultInject (q : Fin 16) (s : State) : Host.Outcome State Fault Refusal :=
  run (fun s => (s.serve q.val 0x0605
    (fun _ c => { m0 := 0x7F, m1 := 2 ^ 32 - 1, bad := sourceBad c })
    fun s c =>
      let src := c.a0 % 128
      if s.injectResets src then (s.defer c (.inject src (c.a1 % 2 ^ 32)), c.done)
      else (s.inject src (c.a1 % 2 ^ 32), c.done)).progress) s

def execFaultClear (q : Fin 16) (s : State) : Host.Outcome State Fault Refusal :=
  run (fun s => s.serve q.val 0x0606 (fun _ c => { m0 := 0x7F, bad := sourceBad c })
    fun s c => (s.closeClear (c.a0 % 128), c.done)) s

/-! ### SELFTEST (R379; 07 R423, R443; 12 R629) -/

/-- A flow's buffer lies in the stack. -/
def Flow.buffers (f : Flow) (n : Nat) : Bool :=
  f.mode != .unused && blkField f.block 0x60 8 != 0 && blkField f.block 0x60 8 / 2 ^ 33 == n

/-- A work area, a loaded Pod, a flow buffer or a pin lies in the stack. -/
def State.stackUsed (s : State) (n : Nat) : Bool :=
  (s.hazel.sessions.any fun e => e.2.mode != .closed && overlaps e.2.work e.2.workSize (n * 2 ^ 33) (2 ^ 33))
    || (s.hazel.pods.any fun e => !e.2.image.isEmpty && n == 1)
    || (s.flows.any fun e => e.2.buffers n) || (s.stack n).pinned

/-- A pipe's test: one SELFTEST of a pipe at a time; a test under way ends first. -/
def State.testPipe (s : State) (c : Cmd) (n : Nat) : State × Cmd :=
  let p := s.pipe n
  if p.bistCmd.isSome || p.bist == .running then (s, c)
  else (s.setPipe n { p with bist := .requested, bistCmd := some (c.queue, c.seq) }, { c with phase := .running, wait := none })

/-- A memory's test: a stack that sleeps is woken first, in class 0. -/
def State.testMemory (s : State) (c : Cmd) (i : Nat) : State × Cmd :=
  if i ≠ 0 ∧ s.stackUsed (i - 1) then (s, c.ends 0x0107 0x29 0)
  else s.needing c [5 + i] fun _ =>
    if i ≠ 0 ∧ s.asleep (i - 1) then (s.wakeStack (i - 1) 0, { c with wait := some ⟨.dramWake, i - 1⟩ })
    else s.ask c ⟨.memSelftest, i⟩ 0

def execSelftest (q : Fin 16) (s : State) : Host.Outcome State Fault Refusal :=
  run (fun s => (s.serve q.val 0x0701
    (fun _ c =>
      let k := c.a0 % 256
      let i := bitsOf c.a0 8 8
      { m0 := 0xFFFF, bad := [(k != 0x11 && k != 0x21, 0x28), (decide (i ≥ (if k = 0x11 then 4 else 3)), 0x29)] })
    fun s c =>
      let i := bitsOf c.a0 8 8
      if c.a0 % 256 = 0x11 then s.testPipe c i else s.testMemory c i).progress) s

/-! ### FW_STAGE, FW_COMMIT (R380, R381, R383) -/

def State.stageOf (s : State) (pip : Bool) : Stage := if pip then s.hazel.stagePip else s.hazel.stageHazel

/-- The bytes staged so far that a chunk continues. -/
def State.stagedBytes (s : State) (c : Cmd) : List Byte :=
  if bitAt c.a0 8 then [] else (s.stageOf (bitAt c.a0 0)).bytes

/-- The rules of a chunk (R380); a chunk without BEGIN continues a staging that the last chunk has not ended. -/
def State.stageBad (s : State) (c : Cmd) : List (Bool × Nat) :=
  let n := c.a2 % 2 ^ 32
  let o := c.a2 / 2 ^ 32
  let g := s.stageOf (bitAt c.a0 0)
  let size := if bitAt c.a0 0 then regionSize 0 else regionSize 5
  [(n == 0 || decide (o + n > size), 0x38),
   (o % 8 != 0 || o != (s.stagedBytes c).length || (!bitAt c.a0 8 && g.ended), 0x3C)]

/-- BEGIN discards what has been staged. -/
def State.stageBegin (s : State) (c : Cmd) : State :=
  if bitAt c.a0 8 then
    (if bitAt c.a0 0 then { s with hazel := { s.hazel with stagePip := {} } }
     else { s with hazel := { s.hazel with stageHazel := {} } })
  else s

/-- Pip takes a chunk through HZ2PIP and writes it to its inactive slot (log 71). -/
def State.stagePip (s : State) (b : List Byte) : State :=
  let g := s.hazel.stagePip.take b
  let h := Config.imageOf g.bytes
  let m := if s.bankM.pipB then { s.bankM with slotPipA := h } else { s.bankM with slotPipB := h }
  ({ s with hazel := { s.hazel with stagePip := g }, bankM := m }).wearM (if s.bankM.pipB then 0 else 1) b.length

/-- Another firmware command is under way: its chunk is in place before the next one is taken. -/
def State.staging (s : State) : Bool := s.hazel.jobs.any fun c => c.opcode == 0x702 && c.phase == .running

def State.stageChunk (s : State) (c : Cmd) : State × Cmd :=
  if s.staging || (bitAt c.a0 0 && !s.pipServes) then (s, c)
  else
    let m := s.readMem 6 c.a1 (c.a2 % 2 ^ 32)
    match m.poison with
    | some p => (m.state, c.ends 0x0303 0 p)
    | none =>
      let t := m.state.stageBegin c
      if bitAt c.a0 0 then (t.stagePip m.data, c.done)
      else t.askBurst { c with rest := m.data, params := m.data, dst := c.a2 / 2 ^ 32 } 0

def execFwStage (q : Fin 16) (s : State) : Host.Outcome State Fault Refusal :=
  run (fun s => (s.serve q.val 0x0702
    (fun s c => { m0 := 0x101, m1 := 2 ^ 64 - 1, m2 := 2 ^ 64 - 1, bad := if s.staging then [] else s.stageBad c
                  addrs := [(0x30, c.a1, c.a2 % 2 ^ 32, 64)] })
    fun s c => s.needing c (if bitAt c.a0 0 then [] else [8]) fun _ => s.stageChunk c).progress) s

/-- The check of a staged image that fails first (R349, R381; 02 R104). -/
def Stage.fault (g : Stage) : Option Nat :=
  let h := Config.imageOf g.bytes
  if !g.active || g.bytes.isEmpty then some 4
  else if !h.formatOk then some 1
  else if !h.signatureOk then some 2
  else if !h.silicon.contains Config.siliconRev then some 3
  else none

/-- The staged slot becomes the active one, by one record of bank M (04 R245). -/
def State.activate (s : State) (pip : Bool) : State :=
  let b := s.bankM
  let t := if pip then { s with bankM := { b with pipB := !b.pipB }, hazel := { s.hazel with stagePip := {} } }
    else { s with bankM := { b with hazelB := !b.hazelB }, hazel := { s.hazel with stageHazel := {} } }
  t.wearM 2 8

def State.commitImage (s : State) (c : Cmd) : State × Cmd :=
  let pip := bitAt c.a0 0
  let g := s.stageOf pip
  let h := Config.imageOf g.bytes
  if s.staging || !s.pipServes then (s, c)
  else match g.fault with
    | some n => (s, c.ends 0x0404 n 0)
    | none =>
      if pip && s.hazel.mode == .compat && !s.hazel.image.tested.contains h.version then (s, c.ends 0x0401 0 0)
      else
        let t := s.activate pip
        let t := if bitAt c.a0 8 then t.defer c (if pip then .pip else .hazel) else t
        let out := !pip && imageMode h (s.husk.pipMode == .rom) s.husk.pipIf s.husk.pipVersion == .compat
        (t, c.ends 0 (b2n out) 0)

def execFwCommit (q : Fin 16) (s : State) : Host.Outcome State Fault Refusal :=
  run (fun s => s.serve q.val 0x0703 (fun _ _ => { m0 := 0x101 })
    fun s c => s.needing c (if bitAt c.a0 0 then [] else [8]) fun _ => s.commitImage c) s

/-! ### Timeouts (R343, R344) -/

/-- TIMEOUT_MS in force (R343). -/
def Cmd.limit (c : Cmd) : Nat :=
  if c.timeout = 0 then
    (if isJob c.opcode then 2000 else if c.opcode = 0x401 then 200
     else if c.opcode = 0x702 ∨ c.opcode = 0x703 ∨ c.opcode = 0x203 ∨ c.opcode = 0x505 ∨ c.opcode = 0x701 then 10000
     else 100)
  else max 10 c.timeout

/-- What a command that times out has under way is cancelled: its PAC request, its lanes, its channel, its self-test. -/
def State.cancelWork (s : State) (c : Cmd) : State :=
  let t := match c.wait with
    | some r => if s.hazel.jobs.any fun x => x.live && x.wait == some r && !(x.queue == c.queue && x.seq == c.seq) then s
                else { s with pac := { s.pac with queue := s.pac.queue.filter (·.who != r) } }
    | none => s
  let t := if c.opcode == 0x401 && c.phase == Phase.running then t.endPort (c.a0 % 16) 0x0302 fun _ => c.limit else t
  let t := if c.moves && c.phase == Phase.running then
      let d := t.chan c.chan
      (t.scramble d.dst d.count).setChan c.chan d.reset
    else t
  let n := bitsOf c.a0 8 8
  if c.opcode == 0x701 && (t.pipe n).bistCmd == some (c.queue, c.seq) then
    (if (t.pipe n).bist == Bist.requested then (t.withdraw ⟨.pipeSelftest, n⟩).dropBist n
     else t.setPipe n { t.pipe n with bistCmd := none })
  else t

/-- TIMEOUT_MS of a command has passed and its work has not ended. -/
def State.timeOut (s : State) (q seq : Nat) : State :=
  match s.hazel.jobs.findIdx? fun c => c.queue == q && c.seq == seq && c.live with
  | none => s
  | some i =>
    let c := s.hazel.jobs.getD i {}
    let t := (s.until (c.taken + 1000000 * c.limit)).cancelWork c
    if isJob c.opcode then (t.endJobAt i 0x0302 c.limit 0).progress
    else (t.setJob i (c.ends 0x0302 c.limit 0)).progress

def execCommandTimeout (q : Fin 16) (seq : Word32) (s : State) : Host.Outcome State Fault Refusal :=
  run (fun s => if s.fwUp then s.timeOut q.val seq.toNat else s) s

end Sys2Proof.Machine
end

