-- ==== Sys2Proof/Machine/Frames.lean ====
section
/-! DEFINITION. Rings with multi-slot entries (13 R700; 14 R745), event FIFOs (14 R769), ports, and the frames that an
egress flow sends (13 R706 to R709; 14 R732, R748, R758, R761; 10 R552). -/

namespace Sys2Proof.Machine

/-! ### Entries of rings (11 R594 to R596) -/

/-- The slots of one entry, written in order. -/
def State.ringSlotsPut (s : State) (port : Nat) (g : Ring) (bs : List Byte) : Nat → State × Ring
  | 0 => (s, g)
  | k + 1 =>
    let b := (bs ++ List.replicate 64 0).take 64
    State.ringSlotsPut (s.rtWrite port (g.addr + 64 + 64 * (g.w % ringSlots g.size)) b) port { g with w := g.w + 1 } (bs.drop 64) k

/-- READ_IDX is read again; one above WRITE_IDX counts as equal to it (11 R595, R596). -/
def State.rtReread (s : State) (port : Nat) (g : Ring) : State × Ring :=
  match s.rtRead port (g.addr + 8) 8 with
  | (some b, t) => (t, { g with r := min (leNat b) g.w })
  | (none, t) => (t, g)

/-- An entry of consecutive slots reaches a ring: whether it was written; one that finds no room is lost (11 R596). -/
def State.ringEntry (s : State) (port : Nat) (g : Ring) (bs : List Byte) : State × Ring × Bool :=
  let k := (bs.length + 63) / 64
  let room (x : Ring) : Bool := x.w - x.r + k < ringSlots x.size
  let x := if room g then (s, g) else s.rtReread port g
  if room x.2 then
    let y := x.1.ringSlotsPut port x.2 bs k
    (y.1, y.2, true)
  else (x.1, { x.2 with lost := satAdd 64 x.2.lost 1 }, false)

/-- WRITE_IDX and LOST (11 R594, R598). -/
def State.ringIndex (s : State) (port : Nat) (g : Ring) : State :=
  (s.rtWrite port g.addr (leBytes 8 g.w)).rtWrite port (g.addr + 0x10) (leBytes 8 g.lost)

/-! ### Event FIFOs (14 R769) -/

/-- An event enters FIFO `i`; one that finds it full is lost. -/
def State.event (s : State) (i kind idx flow : Nat) : State :=
  let e := Table.get {} s.events i
  let x := flow % 1024 + idx % 4096 * 2 ^ 16 + kind * 2 ^ 28 + b2n e.lost * 2 ^ 30 + 2 ^ 31
  let e := if e.q.length < 64 then { e with q := e.q ++ [x], lost := false } else { e with lost := true }
  { s with events := Table.set {} s.events i e }

/-! ### Ports (13 R681, R682) -/

/-- The mode of the port; lanes 1 to 3 of a 100 Gbit/s quad carry no port of their own. -/
def State.portMode (s : State) (p : Nat) : Nat := if (s.lane p).mode = 8 ∧ p % 4 ≠ 0 then 0 else (s.lane p).mode
def ethMode (m : Nat) : Bool := 5 ≤ m && m ≤ 8

/-- Gbit/s of an Ethernet mode (14 R761). -/
def portRate (m : Nat) : Nat := match m with | 5 => 10 | 8 => 100 | _ => 25

/-- Time that `n` wire bytes take on the line, in ns, rounded up. -/
def wireNs (m n : Nat) : Nat := (8 * n + portRate m - 1) / portRate m

/-- Wire length of a frame (14 R732). -/
def wireLen (b : List Byte) : Nat := b.length + 20

/-- A fault holds the port down (13 R705). -/
def Lane.down (l : Lane) : Bool := l.localFault || l.remoteFault

/-- PTP time in ns. -/
def State.ptpNs (s : State) : Nat := s.ptp.sec * 1000000000 + s.ptp.ns

/-- Time passes until the PTP time `due`. -/
def State.untilPtp (s : State) (due : Nat) : State := s.advance (due - s.ptpNs)

/-! ### Flow block fields (14 R729) -/

def Flow.f1 (f : Flow) (o : Nat) : Nat := blkByte f.block o
def Flow.f2 (f : Flow) (o : Nat) : Nat := blkField f.block o 2
def Flow.f4 (f : Flow) (o : Nat) : Nat := blkField f.block o 4
def Flow.kind (f : Flow) : Nat := f.f1 0
def Flow.flag (f : Flow) (i : Nat) : Bool := bitAt (f.f1 1) i
def Flow.format (f : Flow) : SdiFormat := (sdiFormat (f.f1 0x52)).getD ⟨1, 1920, 1080, 1125, false, 25, 1⟩
def Flow.bufAddr (f : Flow) : Nat := blkField f.block 0x60 8
def Flow.pacing (f : Flow) : Nat := f.f1 0x50
def Flow.paced (f : Flow) : Bool := f.pacing != 0
def Flow.gapped (f : Flow) : Bool := f.pacing == 1 || f.pacing == 3
def Flow.live (f : Flow) : Bool := f.mode != .unused

/-- OVH: headers, FCS and wire overhead of a packet (14 R761). -/
def Flow.overhead (f : Flow) : Nat := 78 + 4 * b2n (f.flag 1) + 20 * b2n (f.flag 0)

/-- Pgroups in a packet and packets in a line of an ST2110_20 flow, and in a frame (14 R750). -/
def Flow.pgroups (f : Flow) : Nat := (f.f2 0x3A - 8) / 5
def Flow.linePackets (f : Flow) : Nat := (f.format.w / 2 + f.pgroups - 1) / f.pgroups
def Flow.framePackets (f : Flow) : Nat := f.format.h * f.linePackets

/-- The reserved rate of a paced flow in bit/s, rounded up (14 R761; log 76). -/
def Flow.rate (f : Flow) : Nat :=
  let p := f.f2 0x3A
  let m := f.format
  if !f.paced then 0
  else if f.kind = 1 then
    let n := f.framePackets * (p + f.overhead) * 8 * m.num * (if f.gapped then m.total else 1)
    let d := m.den * (if f.gapped then m.h else 1)
    (n + d - 1) / d
  else (f.f4 0x40 * 1000 * (p + f.overhead) + p - 1) / p

/-! ### Frames on the wire (13 R706 to R708; the header formats of IP, UDP and RTP, log 77) -/

def beBytes (n x : Nat) : List Byte := (leBytes n x).reverse

/-- The 16-bit one's complement checksum of IP and UDP. -/
def sum16 : List Byte → Nat
  | a :: b :: l => a.toNat * 256 + b.toNat + sum16 l
  | [a] => a.toNat * 256
  | [] => 0

def csum16 (b : List Byte) : Nat :=
  let s := sum16 b
  let f := s % 65536 + s / 65536
  65535 - (f % 65536 + f / 65536)

/-- One bit of the frame check sequence of IEEE 802.3, least significant bit first. -/
def crcStep (c : BitVec 32) : Nat → BitVec 32
  | 0 => c
  | n + 1 => crcStep (if c.getLsbD 0 then (c >>> 1) ^^^ 0xEDB88320#32 else c >>> 1) n

def fcs (b : List Byte) : Nat :=
  (~~~(b.foldl (fun (c : BitVec 32) x => crcStep (c ^^^ x.setWidth 32) 8) 0xFFFFFFFF#32)).toNat

def withFcs (b : List Byte) : List Byte := b ++ leBytes 4 (fcs b)

/-- The frame with its FCS inverted. -/
def badFcs (b : List Byte) : List Byte := b.take (b.length - 4) ++ (b.drop (b.length - 4)).map (~~~ ·)

/-- The destination MAC address of a flow: its own, or the multicast address of DST_ADDR. -/
def Flow.dstMac (f : Flow) : List Byte :=
  let m := (List.range 6).map fun i => f.block.getD (0x0A + i) 0
  if m.any (· != 0) then m
  else if f.flag 0 then [0x33, 0x33] ++ (List.range 4).map fun i => f.block.getD (0x1C + i) 0
  else [0x01, 0x00, 0x5E, f.block.getD 0x11 0 &&& 0x7F, f.block.getD 0x12 0, f.block.getD 0x13 0]

/-- The source address: the flow's, or the port's own. -/
def Flow.srcAddress (f : Flow) (port : List Byte) : List Byte :=
  let n := if f.flag 0 then 16 else 4
  let own := if f.flag 0 then 0x18 else 0x10
  let a := (f.block.drop 0x20).take n
  if a.any (· != 0) then a else (port.drop own).take n

/-- What injection changes in one packet (10 R552). -/
structure Inject where
  seq : Nat := 0
  ts : Nat := 0
  csum : Bool := false
  fcs : Bool := false
  deriving DecidableEq, Repr

/-- The frame of one RTP or UDP packet of a flow. -/
def Flow.frame (f : Flow) (port : List Byte) (rtp : Bool) (seq ts : Nat) (marker : Bool) (x : Inject) (payload : List Byte) :
    List Byte :=
  let v6 := f.flag 0
  let mac := (port.drop 8).take 6
  let tag := if f.flag 1 then [0x81, 0x00] ++ beBytes 2 (f.f2 2 % 4096 + f.f2 2 / 8192 * 8192) else []
  let hdr := if rtp then
      [0x80, BitVec.ofNat 8 (f.f1 0x34 % 128 + 128 * b2n marker)] ++ beBytes 2 ((seq + x.seq) % 65536)
        ++ beBytes 4 ((ts + x.ts) % 2 ^ 32) ++ beBytes 4 (f.f4 0x30)
    else []
  let body := hdr ++ payload
  let src := f.srcAddress port
  let dst := (f.block.drop 0x10).take (if v6 then 16 else 4)
  let len := body.length + 8
  let udp (c : Nat) : List Byte := beBytes 2 (f.f2 8) ++ beBytes 2 (f.f2 6) ++ beBytes 2 len ++ beBytes 2 c ++ body
  let c := csum16 (src ++ dst ++ (if v6 then beBytes 4 len ++ [0, 0, 0, 17] else [0, 17] ++ beBytes 2 len) ++ udp 0)
  let c := if c = 0 then 0xFFFF else c
  let c := if x.csum then (if 65535 - c = 0 ∧ !v6 then 0xFFFF else 65535 - c) else c
  let ip := if v6 then
      beBytes 4 (6 * 2 ^ 28 + f.f1 4 * 2 ^ 22) ++ beBytes 2 len ++ [17, f.block.getD 5 0] ++ src ++ dst
    else
      let h (k : Nat) : List Byte :=
        [0x45, BitVec.ofNat 8 (f.f1 4 * 4)] ++ beBytes 2 (len + 20) ++ [0, 0, 0x40, 0, f.block.getD 5 0, 17] ++ beBytes 2 k ++ src ++ dst
      h (csum16 (h 0))
  let b := withFcs (f.dstMac ++ mac ++ tag ++ (if v6 then [0x86, 0xDD] else [0x08, 0x00]) ++ ip ++ udp c)
  if x.fcs then badFcs b else b

end Sys2Proof.Machine
end

