-- ==== Sys2Proof/Machine/PortCmds.lean ====
section
/-! DEFINITION. The port commands (06 R372, R373; 13 R681 to R691, R693, R712, R718; 14 R765): PORT_CONFIG, PORT_QUERY,
SCHED_CONFIG, VTC_CONFIG, PTP_CONFIG, MCAST. -/

namespace Sys2Proof.Machine

/-! ### PORT_CONFIG -/

/-- Fields of the port block at 0x01 to 0x07, which both mode groups read. -/
def portCommonBad (b : List Byte) : List (Bool × Nat) :=
  [(decide (blkByte b 1 > 15), 0x41), (decide (blkByte b 2 > 31), 0x42), (decide (blkByte b 3 > 15), 0x43), (bitsOf (blkByte b 4) 4 3 != 0, 0x44)]
    ++ zeroBad b 5 3

/-- Fields of an SDI port block that break R691 and R693. -/
def sdiBlockBad (b : List Byte) (mode : Nat) : List (Bool × Nat) :=
  let tx := bitAt (blkByte b 0) 0
  let rx := bitAt (blkByte b 0) 1
  let pitch := blkField b 0x20 4
  let ring := blkField b 0x28 8
  let size := blkField b 0x30 4
  [(blkByte b 0 == 0 || blkByte b 0 > 3, 0x40),
   ((match sdiFormat (blkByte b 8) with | some f => f.mode != mode | none => true), 0x48), (decide (blkByte b 9 > 7), 0x49),
   (pitch % 64 != 0 || (match sdiFormat (blkByte b 8) with | some f => decide (pitch < 2 * f.w) | none => false), 0x60),
   (blkByte b 0x24 > 16 || (tx && blkByte b 0x24 == 0), 0x64), (blkByte b 0x25 > 16 || (rx && blkByte b 0x25 == 0), 0x65),
   (size % 4096 != 0 || (ring != 0 && size == 0), 0x70)]
    ++ zeroBad b 0xA 2 ++ zeroBad b 0x26 2 ++ zeroBad b 0x34 12

/-- Fields of an Ethernet port block that break R691. -/
def ethBlockBad (b : List Byte) : List (Bool × Nat) :=
  let mtu := blkField b 0xE 2
  [(mtu != 0 && !(1518 ≤ mtu && mtu ≤ 9216), 0x4E), (decide (blkByte b 0x14 > 32), 0x54), (decide (blkField b 0x28 2 > 128), 0x68),
   (decide (blkField b 0x2A 2 > 4094), 0x6A)]
    ++ zeroBad b 0x15 3 ++ zeroBad b 0x2C 4 ++ zeroBad b 0x34 12

/-- The bytes of a picture ring of an SDI port. -/
def sdiRing (b : List Byte) (slots : Nat) : Nat :=
  match sdiFormat (blkByte b 8) with
  | some f => slots * slotSpan (blkField b 0x20 4) f.h
  | none => 0

def portShape (c : Cmd) : Shape :=
  let b := c.body
  let mode := bitsOf c.a0 8 4
  let tx := bitAt (blkByte b 0) 0
  let rx := bitAt (blkByte b 0) 1
  let anc := blkField b 0x28 8
  { bodyLen := if mode = 0 then 0 else 64, m0 := 0x30F0F
    bad := [(mode == 8 && c.a0 % 4 != 0, 0x28), (decide (mode > 8), 0x29)]
      ++ (if sdiMode mode then portCommonBad b ++ sdiBlockBad b mode else if ethMode mode then portCommonBad b ++ ethBlockBad b else [])
    addrs := if sdiMode mode ∧ anc ≠ 0 then [(0x68, anc, 64, 64)] else []
    named := if sdiMode mode then
        (if tx then [(0x50, blkField b 0x10 8, sdiRing b (blkByte b 0x24), 64)] else [])
          ++ (if rx then [(0x58, blkField b 0x18 8, sdiRing b (blkByte b 0x25), 64)] else [])
          ++ (if anc = 0 then [] else [(0x68, anc, blkField b 0x30 4, 64)])
      else [] }

/-- A quad's other lanes forbid the mode (R682). -/
def State.quadForbids (s : State) (port mode : Nat) : Bool :=
  ((List.range 4).map fun l => port / 4 * 4 + l).any fun n =>
    let m := (s.lane n).mode
    n != port && m != 0 && (sdiMode m != sdiMode mode || mode == 8 || m == 8)

/-- PORT_CONFIG is refused with BAD_STATE (R682, R683, R685). -/
def State.portBar (s : State) (c : Cmd) : Bool :=
  let port := c.a0 % 16
  let mode := bitsOf c.a0 8 4
  let m := (s.lane port).mode
  if mode = 0 then s.flows.any fun e => e.2.live && e.2.port == port
  else (m != 0 && m != mode) || s.quadForbids port mode
    || (sdiMode mode && bitAt (blkByte c.body 0) 0
        && (match sdiFormat (blkByte c.body 8) with | some f => f.family != s.vtc.family | none => false))

/-- A block with the bracketed values in force. -/
def portDefaults (b : List Byte) (mode : Nat) : List Byte :=
  let b := if blkByte b 3 = 0 then putBytes b 3 [8] else b
  if ethMode mode ∧ blkField b 0xE 2 = 0 then putBytes b 0xE (leBytes 2 1518) else b

/-- MODE 0: the lane is disabled, its grant goes, and its counters reset (R683, R723). -/
def State.portOff (s : State) (port : Nat) : State :=
  let l := if s.portMode port = 8 then portLanes port 8 else if (s.lane port).mode = 8 then [] else [port]
  l.foldl (fun t n => (((t.setLane n {}).withdraw ⟨.laneEnable, n⟩).dropReady (rdyBit (24 + n)))) s

/-- A port's lanes take the mode and the block; the ancillary ring starts empty (11 R594). -/
def State.portSet (s : State) (c : Cmd) : State :=
  let port := c.a0 % 16
  let mode := bitsOf c.a0 8 4
  let b := portDefaults c.body mode
  let ring : Ring := if sdiMode mode ∧ blkField b 0x28 8 ≠ 0 then { addr := blkField b 0x28 8, size := blkField b 0x30 4 } else {}
  let t := (portLanes port mode).foldl (fun u n =>
    u.setLane n { u.lane n with mode := mode, capture := bitAt c.a0 16, realtime := bitAt c.a0 17, block := b, anc := ring }) s
  t.clearRing ring

def State.portConfig (s : State) (c : Cmd) : State × Cmd :=
  let port := c.a0 % 16
  if s.hazel.jobs.any fun x => x.portWaits port then (s, c)
  else if s.portBar c then (s, c.ends 0x0107 0x28 0)
  else if bitsOf c.a0 8 4 = 0 then (s.portOff port, c.done)
  else (s.portSet c, { c with phase := .running, wait := none })

def execPortConfig (q : Fin 16) (s : State) : Host.Outcome State Fault Refusal :=
  run (fun s => (s.serve q.val 0x0401 (fun _ c => portShape c) State.portConfig).progress) s

/-! ### PORT_QUERY (13 R718) -/

def State.portBlock (s : State) (p : Nat) : List Byte :=
  let l := s.lane p
  leBytes 4 (s.laneStatus p) ++ leBytes 4 (l.payloadId.getD 0) ++ leBytes 1 l.detected ++ leBytes 1 (b2n l.family) ++ leBytes 6 0
    ++ leBytes 8 l.txFrame ++ leBytes 8 l.rxFrame ++ ((List.range 3).map fun i => l.block.getD (1 + i) 0)
    ++ leBytes 1 l.ctle ++ leBytes 4 l.anc.w
    ++ (if ethMode l.mode then (List.range 6).map fun i => l.block.getD (8 + i) 0 else leBytes 6 0) ++ leBytes 18 0

def execPortQuery (q : Fin 16) (s : State) : Host.Outcome State Fault Refusal :=
  run (fun s => s.serve q.val 0x0402
    (fun _ c => { m0 := 0xF, m1 := 2 ^ 64 - 1, addrs := [(0x30, c.a1, 64, 64)] })
    fun s c => (s.writeMem 6 c.a1 (s.portBlock (c.a0 % 16)), c.done)) s

/-! ### SCHED_CONFIG (14 R765) -/

/-- A bucket of a shaper (14 R729, R765). -/
def bucketOk (v : Nat) : Bool := 1538 ≤ v && v ≤ 16777216

/-- The port rate in kbit/s. -/
def State.portKbit (s : State) (p : Nat) : Nat :=
  if ethMode (s.portMode p) then portRate (s.portMode p) * 1000000 else 100000000

def State.schedBad (s : State) (c : Cmd) : List (Bool × Nat) :=
  let g := blkField c.body
  [(!(64 ≤ g 0 4 && g 0 4 ≤ 65536), 0x40), (decide (g 4 4 > s.portKbit (c.a0 % 16)), 0x44), (!bucketOk (g 8 4), 0x48),
   (g 0xC 4 != 0 && g 0xC 4 < g 4 4, 0x4C), (!bucketOk (g 0x10 4), 0x50)] ++ zeroBad c.body 0x14 44

def execSchedConfig (q : Fin 16) (s : State) : Host.Outcome State Fault Refusal :=
  run (fun s => s.serve q.val 0x0406
    (fun s c => { bodyLen := 64, m0 := 0x3F0F, bad := s.schedBad c })
    fun s c =>
      let g := blkField c.body
      let k := c.a0 % 16 * 64 + bitsOf c.a0 8 6
      let x := Table.get ({} : Sched) s.sched k
      let x := { x with quantum := g 0 4, cir := g 4 4, cbs := g 8 4, pir := g 0xC 4, pbs := g 0x10 4
                        committed := g 8 4 * 8000000, peak := g 0x10 4 * 8000000, filled := s.now }
      ({ s with sched := Table.set ({} : Sched) s.sched k x }, c.done)) s

/-! ### VTC_CONFIG -/

/-- The selected source is not there to be selected: a lane in no SDI mode, or PTP before PTP_CONFIG. -/
def State.vtcBar (s : State) (src : Nat) : Bool :=
  if src < 16 then !sdiMode (s.lane src).mode else src == 16 && !s.ptp.configured

def State.vtcConfig (s : State) (c : Cmd) : State × Cmd :=
  if s.vtcBar (c.a0 % 32) then (s, c.ends 0x0107 0x28 0)
  else
    let t := (s.vtcWrite 4 (bitsOf c.a0 16 16)).vtcCfg (c.a0 % 65536)
    match t.pll 8 with
    | .locked => (t, c.done)
    | .requested | .starting => (t, c.awaits ⟨.vtcPll, 0⟩)
    | _ => (t, c.ends 0x0203 (t.pac.lastDeny % 2 ^ 18) 0)

def execVtcConfig (q : Fin 16) (s : State) : Host.Outcome State Fault Refusal :=
  run (fun s => s.serve q.val 0x0407
    (fun _ c => { m0 := 0xFFFF071F, bad := [(decide (c.a0 % 32 > 17), 0x28)] }) State.vtcConfig) s

/-! ### PTP_CONFIG (13 R711, R712) -/

def State.ptpBad (s : State) (b : List Byte) : List (Bool × Nat) :=
  let i (o : Nat) : Int := toSigned 8 (blkByte b o)
  let asym := toSigned 32 (blkField b 0xC 4)
  let fl := blkByte b 2
  [(blkByte b 0 > 15 || !ethMode (s.portMode (blkByte b 0)), 0x40), (decide (blkByte b 1 > 127), 0x41),
   (fl > 31 || (bitAt fl 2 && bitAt fl 3), 0x42), (decide (i 5 < -7 ∨ i 5 > 0), 0x45), (decide (i 6 < -3 ∨ i 6 > 1), 0x46),
   (decide (i 7 < -7 ∨ i 7 > 5), 0x47), (blkByte b 8 == 1 || blkByte b 8 > 10, 0x48), (blkByte b 9 == 1, 0x49),
   (decide (blkField b 0xA 2 > 4094), 0x4A), (decide (asym < -100000 ∨ asym > 100000), 0x4C), (decide (blkField b 0x10 2 > 999), 0x50),
   (decide (blkByte b 0x13 > 31), 0x53)] ++ zeroBad b 0x14 44

/-- A byte or halfword that takes its bracketed value when written as 0. -/
def orDefault (b : List Byte) (o n d : Nat) : List Byte := if blkField b o n = 0 then putBytes b o (leBytes n d) else b

def ptpDefaults (b : List Byte) : List Byte :=
  [(1, 1, 127), (3, 1, 128), (4, 1, 128), (5, 1, 0xFD), (6, 1, 0xFE), (7, 1, 0xFD), (8, 1, 3), (9, 1, 3), (0x10, 2, 100), (0x12, 1, 10)].foldl
    (fun x d => orDefault x d.1 d.2.1 d.2.2) b

def execPtpConfig (q : Fin 16) (s : State) : Host.Outcome State Fault Refusal :=
  run (fun s => s.serve q.val 0x0408
    (fun s c => { bodyLen := 64, bad := s.ptpBad c.body })
    fun s c => (s.setPtp { s.ptp with configured := true, block := ptpDefaults c.body }, c.done)) s

/-! ### MCAST -/

/-- Firmware joins or leaves a group, and its report goes to the CONTROL band. -/
def State.multicast (s : State) (c : Cmd) : State × Cmd :=
  let p := c.a0 % 16
  let l := s.lane p
  if !ethMode (s.portMode p) then (s, c.ends 0x0107 0x28 0)
  else
    let leave := bitAt c.a0 8
    let g := l.groups.filter (· != c.body)
    (s.setLane p { l with groups := if leave then g else g ++ [c.body]
                          control := l.control ++ [Config.groupReport l.block c.body leave] }, c.done)

def execMcast (q : Fin 16) (s : State) : Host.Outcome State Fault Refusal :=
  run (fun s => s.serve q.val 0x0409 (fun _ _ => { bodyLen := 64, m0 := 0x10F }) State.multicast) s

end Sys2Proof.Machine
end

