-- ==== Sys2Proof/Machine/FlowCmds.lean ====
section
/-! DEFINITION. The flow commands (06 R372, R374; 14 R727 to R731, R761, R772, R775, R776). -/

namespace Sys2Proof.Machine

/-! ### The flow block (14 R729, R730) -/

/-- What FLOW_ADD asks for, before it has been installed. -/
structure FlowAsk where
  kind : Nat
  eg : Bool
  port : Nat
  block : List Byte
  deriving DecidableEq, Repr

def flowAsk (c : Cmd) : FlowAsk := ⟨blkByte c.body 0, bitAt c.a0 12, bitsOf c.a0 16 4, c.body⟩

def FlowAsk.b (x : FlowAsk) (o : Nat) : Nat := blkByte x.block o
def FlowAsk.h (x : FlowAsk) (o : Nat) : Nat := blkField x.block o 2
def FlowAsk.w (x : FlowAsk) (o : Nat) : Nat := blkField x.block o 4
def FlowAsk.flag (x : FlowAsk) (i : Nat) : Bool := bitAt (x.b 1) i

/-- The kind carries packets of a network flow; it has a queue in the LFS; its packets have an RTP header. -/
def FlowAsk.net (x : FlowAsk) : Bool := 1 ≤ x.kind && x.kind ≤ 4
def FlowAsk.queued (x : FlowAsk) : Bool := 2 ≤ x.kind && x.kind ≤ 4
def FlowAsk.rtp (x : FlowAsk) : Bool := x.net && (x.kind != 4 || x.flag 2)
def FlowAsk.netEg (x : FlowAsk) : Bool := x.net && x.eg
def FlowAsk.netIn (x : FlowAsk) : Bool := x.net && !x.eg
def FlowAsk.pacedKind (x : FlowAsk) : Bool := x.eg && (x.kind == 1 || x.kind == 2)
def FlowAsk.exact (x : FlowAsk) : Bool := x.netIn && x.flag 3
def FlowAsk.fmt (x : FlowAsk) : Option SdiFormat := if x.kind = 1 then sdiFormat (x.b 0x52) else none

/-- Bytes of the block from `o` that are not read and must be 0. -/
def FlowAsk.zero (x : FlowAsk) (o n : Nat) : List (Bool × Nat) := zeroBad x.block o n

/-- A field that is read under `on`, where `bad` tells that its value is not legal; otherwise its `n` bytes are 0. -/
def FlowAsk.field (x : FlowAsk) (on : Bool) (o n : Nat) (bad : Bool) : List (Bool × Nat) :=
  if on then [(bad, 0x40 + o)] else x.zero o n

/-- The wide CMAX of ST 2110-21 of a flow's frame: at least 16 (log 78). -/
def wideCmax (n : Nat) (num den : Nat) : Nat := max 16 (n * num / (21600 * den))

/-- The frame of an ST2110_20 flow in packets. -/
def FlowAsk.packets (x : FlowAsk) : Nat :=
  match x.fmt with
  | some f =>
    let g := ((if x.h 0x3A = 0 then 1428 else x.h 0x3A) - 8) / 5
    if g = 0 then 0 else f.h * ((f.w / 2 + g - 1) / g)
  | none => 0

/-- WIDE_BURST is at most the wide CMAX of an ST2110_20 frame. -/
def FlowAsk.burstBad (x : FlowAsk) : Bool :=
  match x.fmt with
  | some f => decide (x.b 0x51 > wideCmax x.packets f.num f.den)
  | none => false

def FlowAsk.phaseBad (x : FlowAsk) : Bool :=
  match x.fmt with
  | some f => decide (x.w 0x58 * f.num > 1000000000 * f.den)
  | none => false

def FlowAsk.pitchBad (x : FlowAsk) : Bool :=
  x.w 0x5C % 64 != 0 || (match x.fmt with | some f => decide (x.w 0x5C < 2 * f.w) | none => false)

def anyByte (b : List Byte) (o n : Nat) : Bool := (List.range n).any fun i => blkByte b (o + i) != 0

/-- A unicast DST_ADDR of an egress flow. -/
def FlowAsk.unicast (x : FlowAsk) : Bool :=
  if x.flag 0 then x.b 0x10 != 0xFF else !(0xE0 ≤ x.b 0x10 && x.b 0x10 ≤ 0xEF)

/-- FLAGS: the bits that the kind and the direction do not read are 0. -/
def FlowAsk.flagsBad (x : FlowAsk) : Bool :=
  let f := x.b 1
  let m := if x.net then 3 + (if x.kind = 4 then 4 else 0) + (if x.eg then 0 else 24) else 0
  (f - (f &&& m)) != 0

def FlowAsk.vlanBad (x : FlowAsk) : Bool :=
  let v := x.h 2
  !(1 ≤ v % 4096 && v % 4096 ≤ 4094) || bitAt v 12 || (!x.eg && v / 8192 != 0)

def FlowAsk.ptBad (x : FlowAsk) : Bool :=
  let p := x.b 0x34
  !((if x.kind = 4 then p == 33 else 96 ≤ p && p ≤ 127) || (!x.eg && p == 0))

/-- The values outside R729 and R730. -/
def FlowAsk.bad (x : FlowAsk) : List (Bool × Nat) :=
  let cir := x.w 0x40
  let pir := x.w 0x48
  [(!(1 ≤ x.kind && x.kind ≤ 6), 0x40), (x.flagsBad, 0x41)]
    ++ x.field (x.net && x.flag 1) 2 2 x.vlanBad
    ++ x.field x.netEg 4 1 (decide (x.b 4 > 63)) ++ x.field x.netEg 5 1 false
    ++ x.field x.net 6 2 (x.h 6 == 0) ++ x.field (x.netEg || x.exact) 8 2 false
    ++ x.field x.netEg 0xA 6 (x.unicast && !anyByte x.block 0xA 6)
    ++ x.field x.net 0x10 4 false ++ x.field (x.net && x.flag 0) 0x14 12 false
    ++ x.field (x.netEg || x.exact) 0x20 4 false ++ x.field ((x.netEg || x.exact) && x.flag 0) 0x24 12 false
    ++ x.field x.rtp 0x30 4 false ++ x.field x.rtp 0x34 1 x.ptBad
    ++ x.field x.netEg 0x35 1 (decide (x.b 0x35 > 63)) ++ x.field x.netIn 0x36 2 false
    ++ x.field x.netIn 0x38 2 (decide (x.h 0x38 > 255))
    ++ x.field x.netEg 0x3A 2 (x.kind != 4 && x.h 0x3A != 0 && !(256 ≤ x.h 0x3A && x.h 0x3A ≤ 1428))
    ++ x.field x.queued 0x3C 4 (!(16 ≤ x.w 0x3C && x.w 0x3C ≤ 4096))
    ++ x.field (x.netIn || (x.eg && x.queued)) 0x40 4 false
    ++ x.field (x.netIn || (x.eg && x.queued)) 0x44 4 (x.eg && !(bucketOk (x.w 0x44) || (x.w 0x44 == 0 && (cir == 0 || x.b 0x50 != 0))))
    ++ x.field x.netIn 0x48 4 (decide (pir < cir))
    ++ x.field x.netIn 0x4C 4 (!(bucketOk (x.w 0x4C) || (x.w 0x4C == 0 && cir == 0)))
    ++ x.field x.pacedKind 0x50 1 (!(1 ≤ x.b 0x50 && x.b 0x50 ≤ 4))
    ++ x.field (x.pacedKind && 3 ≤ x.b 0x50) 0x51 1 x.burstBad
    ++ x.field (x.kind == 1) 0x52 1 (sdiFormat (x.b 0x52)).isNone
    ++ x.field (x.kind == 1) 0x53 1 (!(1 ≤ x.b 0x53 && x.b 0x53 ≤ 16))
    ++ x.field x.pacedKind 0x54 4 false ++ x.field x.pacedKind 0x58 4 x.phaseBad
    ++ x.field (x.kind == 1) 0x5C 4 x.pitchBad
    ++ x.field (x.kind == 1 || x.kind == 5 || x.kind == 6) 0x60 8 false
    ++ x.field (x.kind == 5 || x.kind == 6) 0x68 4
        (if x.kind = 5 then !(4096 ≤ x.w 0x68 && x.w 0x68 ≤ 2 ^ 31 && x.w 0x68 % 4096 == 0) else !(1 ≤ x.w 0x68 && x.w 0x68 ≤ 256))
    ++ x.field (x.kind == 5) 0x6C 2 (x.h 0x6C != 0 && !(64 ≤ x.h 0x6C && x.h 0x6C ≤ 9216))
    ++ x.field (x.kind == 5) 0x6E 2 (decide (x.h 0x6E > 1000))
    ++ x.field (x.kind == 4) 0x70 2 (x.h 0x70 != 0 && !(0x10 ≤ x.h 0x70 && x.h 0x70 ≤ 0x1FFE))
    ++ x.field x.netEg 0x72 4 (x.w 0x72 != 0 && !(64 ≤ x.w 0x72 && x.w 0x72 ≤ 65536)) ++ x.zero 0x76 10

/-- The bracketed values of R729 in force. -/
def FlowAsk.defaults (x : FlowAsk) : List Byte :=
  let on (c : Bool) (o n d : Nat) (b : List Byte) : List Byte := if c then orDefault b o n d else b
  on x.netEg 5 1 64 <| on x.netIn 0x36 2 1000 <| on x.netEg 0x3A 2 1428 <| on (x.pacedKind && 3 ≤ x.b 0x50) 0x51 1 1
    <| on (x.kind == 5) 0x6C 2 9216 <| on (x.kind == 5) 0x6E 2 4 <| on (x.kind == 4) 0x70 2 0x100
    <| on x.netEg 0x72 4 1538 x.block

/-- The range at BUF_ADDR. -/
def FlowAsk.buffer (x : FlowAsk) : List (Nat × Nat × Nat × Nat) :=
  let a := blkField x.block 0x60 8
  match x.kind with
  | 1 => match x.fmt with | some f => [(0xA0, a, x.b 0x53 * slotSpan (x.w 0x5C) f.h, 64)] | none => []
  | 5 => [(0xA0, a, x.w 0x68, 64)]
  | 6 => [(0xA0, a, 64 * x.w 0x68, 64)]
  | _ => []

/-! ### FLOW_ADD -/

/-- The static key of a flow (14 R734). -/
def FlowAsk.entry (x : FlowAsk) (flow now : Nat) : Entry :=
  let n := if x.flag 0 then 16 else 4
  { valid := true, ipv6 := x.flag 0, flow := flow, port := x.port
    vlan := if x.flag 1 then some (x.h 2 % 4096) else none
    dstAddr := blkField x.block 0x10 n, dstPort := x.h 6, exact := x.flag 3
    srcAddr := if x.flag 3 then blkField x.block 0x20 n else 0, srcPort := if x.flag 3 then x.h 8 else 0, hitAt := now }

/-- Two static entries have one key. -/
def Entry.sameKey (a b : Entry) : Bool :=
  a.valid && b.valid && !a.learned && !b.learned && a.port == b.port && a.vlan == b.vlan && a.ipv6 == b.ipv6
    && a.dstAddr == b.dstAddr && a.dstPort == b.dstPort && a.exact == b.exact && a.srcAddr == b.srcAddr && a.srcPort == b.srcPort

/-- FLOW_ADD is refused with BAD_STATE (14 R728). -/
def State.flowBar (s : State) (k : Nat) (x : FlowAsk) : Bool :=
  let m := s.portMode x.port
  (s.flow k).live || m == 0 || (if x.kind = 6 then !sdiMode m else !ethMode m)
    || (x.kind == 5 && x.eg) || (x.kind == 6 && !x.eg) || (x.pacedKind && !(s.lane x.port).realtime)
    || (x.kind == 5 && s.flows.any fun e => e.2.live && e.2.kind == 5 && e.2.port == x.port)
    || (x.netIn && s.entries.any fun e => e.2.sameKey (x.entry k 0))

/-- The lowest free entry of the flow table. -/
def freeEntry (t : List (Nat × Entry)) : Option Nat := (List.range 4096).find? fun i => !(Table.get {} t i).valid

/-- The flow as FLOW_ADD installs it, its buckets full (14 R738). -/
def FlowAsk.flow (x : FlowAsk) (entry now seq : Nat) : Flow :=
  let b := x.defaults
  { mode := .active, egress := x.eg, port := x.port, block := b, entry := entry, committed := x.w 0x44 * 65536, peak := x.w 0x4C * 65536
    filled := now, shapedAt := now, credit := x.w 0x44 * 8000000, seqOut := seq % 65536, cinstAt := now
    ring := if x.kind = 5 then { addr := blkField b 0x60 8, size := x.w 0x68 } else {} }

/-- KiB of the shared LFS that flows hold. -/
def State.queueKib (s : State) : Nat := sumBy (fun e => if e.2.live then e.2.f4 0x3C else 0) s.flows

/-- The resource that FLOW_ADD lacks (14 R731). -/
def State.flowLacks (s : State) (x : FlowAsk) : Option Nat :=
  let p := { x.flow 0 0 0 with reserved := 0 }
  if x.netIn ∧ (freeEntry s.entries).isNone then some 1
  else if x.pacedKind ∧ s.portReserved x.port + p.rate > portRate (s.portMode x.port) * 1000000000 then some 2
  else if x.queued ∧ s.queueKib + x.w 0x3C > 16384 then some 3
  else if (s.flows.filter fun e => e.2.live && e.2.port == x.port).length ≥ 128 then some 4
  else none

/-- The flow is installed: its static entry, its capture ring, and its pin on a REALTIME port (12 R618). -/
def State.installFlow (s : State) (k : Nat) (x : FlowAsk) : State × Nat :=
  let e := if x.netIn then (freeEntry s.entries).getD 0 else 0xFFF
  let f := x.flow e s.now s.freeVal
  let f := { f with reserved := f.rate }
  let t := s.tookFree.setFlow k f
  let t := if x.netIn then t.setEntry e (x.entry k t.now) else t
  let t := if x.kind = 5 then t.clearRing f.ring else t
  let t := if (s.lane x.port).realtime then
      f.stacks.foldl (fun u n =>
        let v := u.setStack n { u.stack n with pinRt := (u.stack n).pinRt + 1 }
        if v.asleep n then v.wakeStack n 2 else v) t
    else t
  (t, e)

def State.addFlow (s : State) (c : Cmd) : State × Cmd :=
  let k := c.a0 % 1024
  let x := flowAsk c
  if s.flowBar k x then (s, c.ends 0x0107 0x28 0)
  else match s.flowLacks x with
    | some r => (s, c.ends 0x0106 3 r)
    | none => let t := s.installFlow k x; (t.1, c.ends 0 0 t.2)

def execFlowAdd (q : Fin 16) (s : State) : Host.Outcome State Fault Refusal :=
  run (fun s => s.serve q.val 0x0403
    (fun _ c =>
      let x := flowAsk c
      { bodyLen := 128, m0 := 0xF13FF, bad := x.bad
        addrs := if x.kind = 5 then [(0xA0, blkField x.block 0x60 8, 64, 64)] else [], named := x.buffer })
    State.addFlow) s

/-! ### FLOW_REMOVE (06 R374; 14 R763, R772, R775) -/

/-- DISCARD removes what is queued, and counts it. -/
def Flow.discard (f : Flow) : Flow :=
  { f with w18h := satAdd 16 f.w18h f.queue.length, queue := [], aus := [], waiting := [], auSize := 0, pktNo := 0 }

/-- The static entry and the learned ones of a flow leave the table. -/
def State.dropEntries (s : State) (k : Nat) : State :=
  { s with entries := s.entries.filter fun e => !(e.2.valid && e.2.flow == k) }

def State.removeFlow (s : State) (c : Cmd) : State × Cmd :=
  let k := c.a0 % 1024
  let f := s.flow k
  if !f.live || f.mode == .removing then (s, c.ends 0x0107 0x28 0)
  else if bitAt c.a0 16 || !f.egress then ((s.setFlow k f.discard).dropFlow k, c.done)
  else (s.setFlow k { f with mode := .removing, removedAt := s.now }, { c with phase := .running, wait := none })

def execFlowRemove (q : Fin 16) (s : State) : Host.Outcome State Fault Refusal :=
  run (fun s => (s.serve q.val 0x0404 (fun _ _ => { m0 := 0x103FF }) State.removeFlow).progress) s

/-! ### FLOW_BIND (14 R776) -/

def State.bindFlow (s : State) (c : Cmd) : State × Cmd :=
  let k := c.a0 % 1024
  let v := bitsOf c.a0 16 8
  let f := s.flow k
  let x := s.session v
  if !f.live then (s, c.ends 0x0107 0x28 0)
  else if v = 0xFF then (s.setFlow k { f with session := none, waiting := [] }, c.done)
  else if x.mode != .opened || (f.egress && x.dir == 1) || (!f.egress && x.dir == 0) then (s, c.ends 0x0107 0x2A 0)
  else (s.setFlow k { f with session := some v, waiting := [] }, c.done)

def execFlowBind (q : Fin 16) (s : State) : Host.Outcome State Fault Refusal :=
  run (fun s => s.serve q.val 0x0405
    (fun _ c =>
      let v := bitsOf c.a0 16 8
      { m0 := 0xFF03FF, bad := [(decide (v > 63) && v != 0xFF, 0x2A)] })
    State.bindFlow) s

end Sys2Proof.Machine
end

