-- ==== Sys2Proof/Machine/Lanes.lean ====
section
/-! DEFINITION. What the lanes do by themselves: lock and relock (13 R686 to R689), SDI lines and ancillary packets (13 R694 to
R700; 14 R751, R752), Ethernet link faults (13 R705; 14 R762, R777), and the analysis record unit's timed actions (11 R598,
R600). -/

namespace Sys2Proof.Machine

/-! ### The analysis record unit (11 R598, R600) -/

/-- 1 µs passes with no further record. -/
def execAruPartialWrite (n : Fin 4) (s : State) : Host.Outcome State Fault Refusal :=
  run (fun s => if (s.pipe n.val).aruStaged.isEmpty then s else (s.advance 1000).aruFlush n.val) s

/-- READ_IDX of the ring of session `i` is read again by the ARU of pipe `n`. -/
def State.rereadSession (s : State) (n i : Nat) : State :=
  let x := s.session i
  if x.mode == .closed || x.firstPipe != n || x.ring.size == 0 || !(s.dramReady x.ring.addr 64) || s.asleep (x.ring.addr / 2 ^ 33) then s
  else
    let y := s.ringReread n x.ring
    y.1.setSession i { y.1.session i with ring := y.2 }

def execAruReadIdxReread (n : Fin 4) (s : State) : Host.Outcome State Fault Refusal :=
  run (fun s =>
    if (s.pipe n.val).aruHigh then (foldRange (fun i t => t.rereadSession n.val i) 64 (s.advance 10000)).aruLevel n.val else s) s

/-! ### Lock and relock -/

/-- The lanes that gain and lose lock with lane `n` (R686, R725). -/
def State.laneGroup (s : State) (n : Nat) : List Nat := if (s.lane n).mode = 8 then portLanes (n / 4 * 4) 8 else [n]

/-- A lane has gained lock: its readiness bit, LOCK_GAINED for a lock regained, and the first valid EAV of an SDI receiver
(R686, R688). -/
def State.laneGains (s : State) (n : Nat) : State :=
  let l := s.lane n
  (s.setLane n { l with relocking := false, eavs := b2n l.rxEn, events := if l.relocking then l.events ||| 2 else l.events }).setReady (24 + n)

/-- A relock of a port that the watchdog has declared down is discarded; the lane then makes a fresh lock (R689). -/
def State.lateLock (s : State) (l : List Nat) : State :=
  (l.foldl (fun t n => t.setLane n { t.lane n with watchdog := false }) s).report 43 (3 * 256)

def execLaneLock (n : Fin 16) (s : State) : Host.Outcome State Fault Refusal :=
  run (fun s =>
    let l := s.lane n.val
    if l.enabled && s.pll (3 + n.val / 4) == .locked && !s.ready (24 + n.val) then
      (if l.watchdog then s.lateLock (s.laneGroup n.val) else (s.laneGroup n.val).foldl State.laneGains s)
    else s) s

def execLaneLockLoss (n : Fin 16) (s : State) : Host.Outcome State Fault Refusal :=
  run (fun s => if s.ready (24 + n.val) then (s.laneGroup n.val).foldl State.laneLost s else s) s

def execRelockAttemptFailed (n : Fin 16) (s : State) : Host.Outcome State Fault Refusal :=
  run (fun s =>
    let l := s.lane n.val
    if l.enabled && l.relocking then s.setLane n.val { l with relockFails := satAdd 16 l.relockFails 1 } else s) s

/-- The watchdog has seen the port relock for at least 8 ms (R689). -/
def execLaneWatchdog (n : Fin 16) (s : State) : Host.Outcome State Fault Refusal :=
  run (fun s =>
    if (s.lane n.val).relocking then
      (s.laneGroup n.val).foldl (fun t k => t.setLane k { t.lane k with watchdog := true }) s
    else s) s

/-! ### SDI transmission (13 R694, R695, R699; 14 R751, R752) -/

/-- Blanking values of a line of `w` samples: Y 64 and C 512 (R695). -/
def blankLine (w : Nat) : List Byte :=
  (List.replicate w [64, 0]).flatten ++ (List.replicate w [0, 2]).flatten

/-- The payload ID of a transmitter, on the lines that carry it (R699). -/
def Lane.idOn (l : Lane) (line : Nat) : Option Nat :=
  let f := l.format
  if !bitAt (blkByte l.block 9) 0 && (line == 10 || (line == 572 && f.interlaced && f.mode == 1)) then
    some (if blkField l.block 0xC 4 = 0 then Config.payloadId (blkByte l.block 8) else blkField l.block 0xC 4)
  else none

/-- The line, the stream, the word count and the words of an ancillary entry (14 R751). -/
def ancWords (b : List Byte) : List Nat := (List.range (blkByte b 3)).map fun i => blkField b (8 + 2 * i) 2

/-- The ancillary flows of a port. -/
def State.ancFlows (s : State) (n : Nat) : List Nat :=
  (s.flows.filter fun e => e.2.live && e.2.egress && e.2.kind == 6 && e.2.port == n).map (·.1)

/-- The entries read for the line that is due: each is inserted where its stream has room, ancillary data flag and checksum
beside its words; another is not sent and is counted as ANC_LOST. A word count that the spec does not provide for is not sent
(log 79). `room` is what each stream still has. -/
def insertAnc (f : Flow) (room : Nat × Nat) : List (List Byte) → Flow × (Nat × Nat) × List (Nat × List Nat)
  | [] => (f, room, [])
  | b :: l =>
    let c := blkByte b 2 % 2
    let k := blkByte b 3 + 4
    let has := if c = 1 then room.2 else room.1
    if k ≤ has ∧ 7 ≤ k ∧ k ≤ 32 then
      let y := insertAnc { f with packets := satAdd 64 f.packets 1 } (if c = 1 then (room.1, room.2 - k) else (room.1 - k, room.2)) l
      (y.1, y.2.1, (c, ancWords b) :: y.2.2)
    else insertAnc { f with w20l := satAdd 16 f.w20l 1 } room l

/-- Every ancillary flow of the port inserts what it has read for this line. -/
def State.insertAll (s : State) (room : Nat × Nat) : List Nat → State × List (Nat × List Nat)
  | [] => (s, [])
  | k :: l =>
    let y := insertAnc (s.flow k) room (s.flow k).staged
    let z := State.insertAll (s.setFlow k { y.1 with staged := [] }) y.2.1 l
    (z.1, y.2.2 ++ z.2)

/-- A flow reads the entries of line `line` from its list; one that is poisoned is counted as ANC_LOST (log 79). -/
def State.readAnc (s : State) (n k line : Nat) : Nat → State
  | 0 => s
  | i + 1 =>
    let t := State.readAnc s n k line i
    let f := t.flow k
    let a := f.bufAddr + 64 * i
    if t.raw a 2 = line then
      match t.rtRead (8 + n / 4) a 64 with
      | (some b, u) => u.setFlow k { u.flow k with staged := (u.flow k).staged ++ [b] }
      | (none, u) => u.setFlow k { u.flow k with w20l := satAdd 16 (u.flow k).w20l 1 }
    else t

/-- The entries of the line after `line` are read during it (14 R751). -/
def State.readNext (s : State) (n line : Nat) : State :=
  let next := if line = (s.lane n).format.total then 1 else line + 1
  (s.ancFlows n).foldl (fun t k => t.readAnc n k next ((t.flow k).f4 0x68)) s

/-- The samples of active line `y` of the frame that is being sent; blanking for a line that has not arrived or that meets
poison, and whether it is such a line. -/
def State.txSamples (s : State) (n y : Nat) (arrived : Bool) : State × List Byte × Bool :=
  let l := s.lane n
  let f := l.format
  if arrived then
    let a := s.rtRead (8 + n / 4) (l.txSlot + lumaAt l.pitch y) (2 * f.w)
    let b := a.2.rtRead (8 + n / 4) (l.txSlot + chromaAt l.pitch f.h y) (2 * f.w)
    match a.1, b.1 with
    | some c, some d => (b.2, c ++ d, false)
    | _, _ => (b.2, blankLine f.w, true)
  else (s, blankLine f.w, true)

/-- A line is sent. -/
def State.sendLine (s : State) (n line : Nat) (active : Option Nat) (arrived : Bool) : State :=
  let l := s.lane n
  let f := l.format
  let x := match active with
    | some y => if y < f.h then s.txSamples n y arrived else (s, [], false)
    | none => (s, [], false)
  let id := l.idOn line
  let room := Config.ancRoom (blkByte l.block 8) active.isNone id.isSome
  let z := x.1.insertAll (room, room) (x.1.ancFlows n)
  let l := z.1.lane n
  let t := z.1.setLane n { l with txUnits := satAdd 64 l.txUnits 1, w2ch := satAdd 16 l.w2ch (b2n x.2.2)
                                  events := if x.2.2 then l.events ||| 16 else l.events }
  let sent : SdiSent := { line := line, lineNumber := if bitAt (blkByte l.block 9) 2 then 0 else line
                          crcInverted := bitAt (blkByte l.block 9) 1, payloadId := id, anc := z.2, samples := x.2.1 }
  ({ t with outs := t.outs ++ [Out.line n sent] }).readNext n line

/-- The transmitter has its clock: the lane is enabled and its quad PLL is locked. -/
def State.txRuns (s : State) (n : Nat) : Bool := (s.lane n).txEn && (s.lane n).enabled && s.pll (3 + n / 4) == .locked

/-- A new frame begins: the last one has been sent (R694, R717). -/
def Lane.txStart (l : Lane) : Lane :=
  if l.txOn then { l with txFrame := l.txFrame + 1, txFrames := satAdd 64 l.txFrames 1 } else { l with txOn := true }

def execSdiLineTransmit (n : Fin 16) (arrived frameStart : Bool) (line : Nat) (active : Option Nat) (s : State) :
    Host.Outcome State Fault Refusal :=
  run (fun s =>
    if s.txRuns n.val && (frameStart || (s.lane n.val).txOn) then
      (if frameStart then s.setLane n.val (s.lane n.val).txStart else s).sendLine n.val line active arrived
    else s) s

/-! ### SDI reception (13 R694, R696 to R699) -/

/-- The bits of a line-status byte (R696). -/
def sdiStatus (x : SdiLine) : Nat :=
  b2n x.yCrcBad + 2 * b2n x.cCrcBad + 4 * b2n x.lineNumberBad + 8 * b2n x.trsError + 16 * b2n x.late

/-- TRS is lost at an expected EAV that is not valid, and regained at the second of two valid ones (R698). -/
def Lane.trsOf (l : Lane) (ok : Bool) : Lane :=
  if ok then { l with eavs := min 2 (l.eavs + 1), trs := l.trs || 2 ≤ l.eavs + 1 } else { l with eavs := 0, trs := false }

/-- The payload ID of a received ST 352 packet (R699). -/
def Lane.idOf (l : Lane) (v : Option Nat) (detected : Nat) : Lane :=
  match v with
  | none => l
  | some i =>
    { l with payloadId := some i, events := if l.payloadId = some i then l.events else l.events ||| 4
             w28l := satAdd 16 l.w28l (b2n (detected != 0 && Config.payloadFormat i != detected)) }

/-- A new frame begins: the last one has been received (R694, R717). -/
def Lane.rxStart (l : Lane) (frameStart : Bool) : Lane :=
  if frameStart && l.rxOn then { l with rxFrame := l.rxFrame + 1, rxFrames := satAdd 64 l.rxFrames 1, rxLines := [] } else { l with rxOn := true }

/-- What the lane's registers and counters take from a line (R696 to R699, R717, R719). -/
def Lane.lineIn (l : Lane) (x : SdiLine) : Lane :=
  let l := ((l.rxStart x.frameStart).trsOf x.eavOk).idOf x.payloadId x.detected
  { l with rxUnits := satAdd 64 l.rxUnits 1, detected := x.detected, family := x.family
           w20h := satAdd 16 l.w20h (b2n x.yCrcBad), w20l := satAdd 16 l.w20l (b2n x.cCrcBad)
           w24h := satAdd 16 l.w24h (b2n x.lineNumberBad), w24l := satAdd 16 l.w24l (b2n x.trsError)
           w2cl := satAdd 16 l.w2cl (b2n x.late) }

/-- An active line reaches its slot, with its status byte; a line that is late keeps what the slot held (R696, R697). -/
def State.lineToSlot (s : State) (n y : Nat) (x : SdiLine) : State :=
  let l := s.lane n
  let f := l.format
  let t := if x.late then s else
    (s.rtWrite (12 + n / 4) (l.rxSlot + lumaAt l.pitch y) (x.samples.take (2 * f.w))).rtWrite (12 + n / 4)
      (l.rxSlot + chromaAt l.pitch f.h y) ((x.samples.drop (2 * f.w)).take (2 * f.w))
  let t := t.rtWrite (12 + n / 4) (l.rxSlot + statusAt l.pitch f.h y) [BitVec.ofNat 8 (sdiStatus x)]
  t.setLane n { t.lane n with rxLines := y :: (t.lane n).rxLines }

def execSdiLineReceive (n : Fin 16) (x : SdiLine) (s : State) : Host.Outcome State Fault Refusal :=
  run (fun s =>
    if (s.lane n.val).rxEn && s.ready (24 + n.val) then
      let t := s.setLane n.val ((s.lane n.val).lineIn x)
      match x.active with
      | some y => if y < (t.lane n.val).format.h then t.lineToSlot n.val y x else t
      | none => t
    else s) s

/-! ### Ancillary packets (13 R700) -/

/-- ST 352 and EDH packets are not copied; their DID and SDID are those of the standards. -/
def ancCopied (p : AncPacket) : Bool :=
  let did := p.words.getD 0 0 % 256
  !(did == 0x41 && p.words.getD 1 0 % 256 == 1) && did != 0xF4

/-- A packet as the ring holds it. -/
def ancEntry (p : AncPacket) : List Byte :=
  leBytes 8 (p.line % 65536 + p.sample % 65536 * 2 ^ 16 + b2n p.chroma * 2 ^ 32 + b2n p.csumBad * 2 ^ 33)
    ++ (p.words.map fun w => leBytes 2 (w % 1024)).flatten

/-- A packet reaches the ancillary ring. -/
def State.ancToRing (s : State) (n : Nat) (p : AncPacket) : State :=
  let y := s.ringEntry (12 + n / 4) (s.lane n).anc (ancEntry p)
  let l := y.1.lane n
  let t := y.1.setLane n { l with anc := y.2.1, w30 := satAdd 32 l.w30 (b2n y.2.2)
                                  events := if y.2.2 then l.events else l.events ||| 32 }
  t.ringIndex (12 + n / 4) y.2.1

def execAncPacketReceive (n : Fin 16) (p : AncPacket) (s : State) : Host.Outcome State Fault Refusal :=
  run (fun s =>
    let l := s.lane n.val
    if l.rxEn && s.ready (24 + n.val) && ancCopied p then
      let t := s.setLane n.val { l with w28h := satAdd 16 l.w28h (b2n p.csumBad) }
      if l.anc.size = 0 then t else t.ancToRing n.val p
    else s) s

/-! ### Ethernet link faults (13 R705; 14 R762, R777) -/

/-- A paced flow numbers packets from the SMPTE epoch: one step back or forward is a packet. -/
def Flow.back (f : Flow) (per : Nat) : Flow :=
  if f.pktNo = 0 then { f with frameNo := f.frameNo - 1, pktNo := per - 1 } else { f with pktNo := f.pktNo - 1 }

/-- A fetched frame returns to where it was fetched from, to be fetched again. -/
def State.putBack (s : State) (x : Frame) : State :=
  let f := s.flow x.flow
  if f.kind = 1 then s.setFlow x.flow { f.back f.framePackets with seqOut := (f.seqOut + 2 ^ 32 - 1) % 2 ^ 32 }
  else
    let a := match f.aus with
      | [] => ([1], 0, 0)
      | k :: l =>
        if f.paced ∧ f.pktNo = 0 ∧ f.auSize ≠ 0 then (1 :: k :: l, 0, 0)
        else ((k + 1) :: l, f.auSize, f.pktNo - b2n f.paced)
    s.setFlow x.flow { f with queue := x.bytes :: f.queue, aus := a.1, auSize := a.2.1, pktNo := a.2.2 }

/-- The egress flows of a port. -/
def State.egressFlows (s : State) (p : Nat) : List Nat :=
  (s.flows.filter fun e => e.2.live && e.2.egress && e.2.port == p).map (·.1)

/-- The port goes down: its FIFO is flushed, and its flows are held. -/
def State.holdPort (s : State) (n : Nat) : State :=
  let t := ((s.lane n).fifo.reverse).foldl State.putBack s
  let t := t.setLane n { t.lane n with fifo := [] }
  (t.egressFlows n).foldl (fun u k => u.event 2 2 0 k) t

def execLinkFault (n : Fin 16) (remote : Bool) (s : State) : Host.Outcome State Fault Refusal :=
  run (fun s =>
    let l := s.lane n.val
    if ethMode (s.portMode n.val) && l.enabled then
      let t := s.setLane n.val { l with localFault := l.localFault || !remote, remoteFault := l.remoteFault || remote, events := l.events ||| 8 }
      if l.down then t else t.holdPort n.val
    else s) s

/-- Frame period in ns as a fraction: that of the format, or of the bound session's picture rate (14 R758). -/
def State.period (s : State) (f : Flow) : Nat × Nat :=
  if f.kind = 1 then (f.format.den * 1000000000, f.format.num)
  else
    match f.session with
    | some v => let b := (s.session v).body; (max 1 (blkField b 0x1C 4) * 1000000000, max 1 (blkField b 0x18 4))
    | none => (40000000, 1)

/-- TRO and PHASE_NS of a paced flow (14 R729). -/
def Flow.offset (f : Flow) : Nat := (if f.f4 0x54 = 0 then Config.troDefault (f.f1 0x52) else f.f4 0x54) + f.f4 0x58

/-- The number of the frame whose period, shifted by the flow's offset, holds the present. -/
def State.frameNow (s : State) (f : Flow) : Nat := (s.ptpNs - f.offset) * (s.period f).2 / (s.period f).1

/-- A flow of a port that comes back up: HOLD_FRAMES of an ST2110_20 flow; the next frame boundary for the head access unit of a
queued paced one, LATE_AU (14 R762). -/
def State.resumeFlow (s : State) (k : Nat) : State :=
  let f := s.flow k
  let now := s.frameNow f
  if f.kind = 1 then
    (if f.frameNo ≤ now then
      s.setFlow k { f with w1ch := satAdd 16 f.w1ch (now + 1 - f.frameNo), frameNo := now + 1, pktNo := 0 } else s)
  else if f.paced && !f.queue.isEmpty then
    s.setFlow k { f with frameNo := now + 1, w18l := satAdd 16 f.w18l (f.aus.filter fun a => 0 < a).length }
  else s

def execLinkFaultCleared (n : Fin 16) (remote : Bool) (s : State) : Host.Outcome State Fault Refusal :=
  run (fun s =>
    let l := s.lane n.val
    if ethMode (s.portMode n.val) then
      let m := { l with localFault := l.localFault && remote, remoteFault := l.remoteFault && !remote }
      let t := s.setLane n.val m
      if l.down && !m.down then (t.egressFlows n.val).foldl State.resumeFlow t else t
    else s) s

end Sys2Proof.Machine
end

