-- ==== Sys2Proof/Machine/EthIn.lean ====
section
/-! DEFINITION. A received Ethernet frame: the MAC's checks, capture, classification, policing and delivery (13 R701 to R711; 14
R733 to R747), and the ageing of the flow table (14 R737). -/

namespace Sys2Proof.Machine

/-! ### The MAC (13 R701, R702) -/

/-- How the MAC takes a frame. -/
inductive MacCheck where
  | good | badFcs | runt | long | control
  deriving DecidableEq, Repr

/-- MTU in force (13 R691). -/
def Lane.mtu (l : Lane) : Nat := blkField l.block 0xE 2

def Lane.check (l : Lane) (f : EthFrame) : MacCheck :=
  if f.fcsBad || f.fecBad then .badFcs else if f.len < 64 then .runt else if l.mtu < f.len then .long else if f.macControl then .control else .good

/-- What the MAC counts (13 R717, R720). -/
def Lane.macIn (l : Lane) (f : EthFrame) : Lane :=
  let l := { l with rxUnits := satAdd 64 l.rxUnits f.len, w30 := satAdd 32 l.w30 f.fecCorrected }
  match l.check f with
  | .badFcs => { l with w20h := satAdd 16 l.w20h 1 }
  | .runt => { l with w20l := satAdd 16 l.w20l 1 }
  | .long => { l with w24h := satAdd 16 l.w24h 1 }
  | .control => { l with w24l := satAdd 16 l.w24l 1 }
  | .good => l

/-! ### The flow table (14 R734 to R737) -/

/-- A static entry matches a frame. -/
def Entry.hits (e : Entry) (n : Nat) (f : EthFrame) : Bool :=
  e.valid && !e.learned && e.port == n && e.vlan == f.vlan && e.ipv6 == f.ipv6 && e.dstAddr == f.dstAddr && e.dstPort == f.dstPort
    && (!e.exact || (e.srcAddr == f.srcAddr && e.srcPort == f.srcPort))

/-- The static entry that a frame hits: one with SRC_EXACT wins (R734). -/
def State.lookup (s : State) (n : Nat) (f : EthFrame) : Option Nat :=
  match s.entries.find? fun e => e.2.hits n f && e.2.exact with
  | some e => some e.1
  | none => (s.entries.find? fun e => e.2.hits n f).map (·.1)

/-- Where a frame goes after the MAC (13 R706, R707; 14 R733). -/
inductive Route where
  | ignored | unclassified | hazelB | ipCsum | fragment | udpCsum
  | flow (entry : Nat)
  deriving DecidableEq, Repr

def State.route (s : State) (n : Nat) (f : EthFrame) : Route :=
  if !f.accepted then .ignored
  else if f.doubleTag then .unclassified
  else match f.l3 with
    | .hazelB => .hazelB
    | .other => .unclassified
    | .udp =>
      if f.ipCsumBad && !f.ipv6 then .ipCsum
      else if f.fragment && !f.ipv6 then .fragment
      else if f.udpCsumBad then .udpCsum
      else match s.lookup n f with
        | some e => .flow e
        | none => if f.ownUnicast then .hazelB else .unclassified

/-- A learned entry of the source of a frame. -/
def Entry.ofSource (e : Entry) (k : Nat) (f : EthFrame) (ssrc : Nat) : Bool :=
  e.valid && e.learned && e.flow == k && e.srcAddr == f.srcAddr && e.srcPort == f.srcPort && e.ssrc == ssrc

/-- The source of a packet is learned, or its entry counts it (R735). -/
def State.learn (s : State) (k : Nat) (f : EthFrame) : State :=
  let x := s.flow k
  let ssrc := match f.rtp with | some r => r.1 | none => 0
  if !x.flag 4 then s
  else match s.entries.find? fun e => e.2.ofSource k f ssrc with
    | some e => s.setEntry e.1 { e.2 with hitAt := s.now, packets := satAdd 32 e.2.packets 1 }
    | none =>
      match if x.learned < x.f2 0x38 then freeEntry s.entries else none with
      | none => s.setFlow k { x with w20h := satAdd 16 x.w20h 1 }
      | some i =>
        (s.setFlow k { x with learned := x.learned + 1 }).setEntry i
          { valid := true, learned := true, ipv6 := f.ipv6, flow := k, port := x.port, vlan := f.vlan, dstAddr := f.dstAddr, dstPort := f.dstPort
            srcPort := f.srcPort, srcAddr := f.srcAddr, ssrc := ssrc, hitAt := s.now, packets := 1 }

/-- A hit sets the age to 0, and returns an IDLE entry to ACTIVE (R737). -/
def State.hit (s : State) (i : Nat) : State :=
  let e := s.entry i
  let t := s.setEntry i { e with hitAt := s.now, packets := satAdd 32 e.packets 1, idle := false }
  if e.idle then (t.setFlow e.flow { t.flow e.flow with mode := .active }).event 0 2 i e.flow else t

/-- The SSRC or the payload type is not the flow's (R734). -/
def Flow.filters (x : Flow) (f : EthFrame) : Bool :=
  let ssrc := x.f4 0x30
  let pt := x.f1 0x34
  match f.rtp with
  | some r => (ssrc != 0 && r.1 != ssrc) || (pt != 0 && r.2.1 != pt)
  | none => ssrc != 0 || pt != 0

/-- The age-out of an entry: a learned one is removed, a static one goes IDLE (R737). -/
def State.ageOut (s : State) (i : Nat) : State :=
  let e := s.entry i
  let x := s.flow e.flow
  if e.learned then
    ((s.setEntry i {}).setFlow e.flow { x with learned := x.learned - 1 }).event 0 0 i e.flow
  else if e.idle then s
  else
    ((s.setEntry i { e with idle := true }).setFlow e.flow { x with mode := .idle, w20l := satAdd 16 x.w20l 1 }).event 0 1 i e.flow

def execFlowEntryAgeOut (i : Fin 4096) (s : State) : Host.Outcome State Fault Refusal :=
  run (fun s =>
    let e := s.entry i.val
    if e.valid then (s.until (e.hitAt + (s.flow e.flow).f2 0x36 * 1000000)).ageOut i.val else s) s

/-! ### Policing (14 R738, R739) -/

/-- A bucket of `cap` bytes filled at `rate` kbit/s for `d` ns, in 1 / 65536 bytes. -/
def fillBucket (v cap rate d : Nat) : Nat := min (cap * 65536) (v + rate * d * 65536 / 8000000)

/-- The buckets as a packet finds them: the refill is applied first (R779). -/
def Flow.refill (x : Flow) (now : Nat) : Flow :=
  { x with committed := fillBucket x.committed (x.f4 0x44) (x.f4 0x40) (now - x.filled)
           peak := fillBucket x.peak (x.f4 0x4C) (x.f4 0x48) (now - x.filled), filled := now }

/-- The flow polices a packet of wire length `n`: whether it passes. -/
def State.police (s : State) (k n : Nat) : State × Bool :=
  let x := s.flow k
  if x.f4 0x40 = 0 then (s, true)
  else
    let x := x.refill s.now
    if x.peak < n * 65536 then
      let t := s.setFlow k { x with w10 := satAdd 32 x.w10 1, lastDrop := some s.now }
      let first := match x.lastDrop with | none => true | some d => decide (d + 1000000000 ≤ s.now)
      (if first then t.event 1 0 0 k else t, false)
    else if x.committed < n * 65536 then
      (s.setFlow k { x with peak := x.peak - n * 65536, w14 := satAdd 32 x.w14 1 }, true)
    else (s.setFlow k { x with peak := x.peak - n * 65536, committed := x.committed - n * 65536 }, true)

/-! ### Delivery (14 R740 to R742) -/

/-- Packets and wire bytes delivered. -/
def Flow.delivered (x : Flow) (n : Nat) : Flow := { x with packets := satAdd 64 x.packets 1, bytes := satAdd 64 x.bytes n }

/-- A discontinuity at the end of the stream so far. -/
def Flow.gap (x : Flow) : Flow := if x.gaps.contains x.buffer.length then x else { x with gaps := x.gaps ++ [x.buffer.length] }

/-- The packet's bytes go to the LFS buffer, or find it full (R741). -/
def Flow.take (x : Flow) (f : EthFrame) : Flow :=
  if x.f4 0x3C * 1024 < x.buffer.length + f.payload.length then { x.gap with w18h := satAdd 16 x.w18h 1 }
  else { x with buffer := x.buffer ++ f.payload }.delivered (f.len + 20)

/-- The depacketiser: sequence numbers, or continuity (R740). -/
def Flow.depacketise (x : Flow) (f : EthFrame) : Flow :=
  match f.rtp with
  | none => (if f.tsGap then x.gap else x).take f
  | some r =>
    let seq := r.2.2.1 % 65536
    match x.expected with
    | none => { x with expected := some ((seq + 1) % 65536) }.take f
    | some w =>
      let d := (seq + 65536 - w) % 65536
      if d = 0 then { x with expected := some ((seq + 1) % 65536) }.take f
      else if d ≤ 32767 then
        { x.gap with expected := some ((seq + 1) % 65536), w1ch := satAdd 16 x.w1ch d }.take f
      else { x with w18l := satAdd 16 x.w18l 1 }

/-- One pgroup's samples: Cb, Y0, Cr, Y1, ten bits each, most significant bit first; the luma pair and the chroma pair as they
are held. -/
def pgroup (b : List Byte) : List Byte × List Byte :=
  let v := leNat (b.take 5).reverse
  let p (i : Nat) : List Byte := leBytes 2 (bitsOf v (30 - 10 * i) 10)
  (p 1 ++ p 3, p 0 ++ p 2)

/-- `n` pgroups from sample `x` of line `y`. -/
def pgroups (b : List Byte) : Nat → List Byte × List Byte
  | 0 => ([], [])
  | n + 1 => let g := pgroup b; let r := pgroups (b.drop 5) n; (g.1 ++ r.1, g.2 ++ r.2)

/-- The slot that an ST2110_20 flow uses. -/
def Flow.slotAt (x : Flow) (i : Nat) : Nat := x.bufAddr + i % x.f1 0x53 * slotSpan (x.f4 0x5C) x.format.h

/-- The pgroups that a line of the slot has received. -/
def Flow.got (x : Flow) (y : Nat) : Nat := Table.get 0 x.lines y

/-- The status bytes of a slot that is left: bit 4 for a line that lacks pgroups (R742). -/
def Flow.slotStatus (x : Flow) : List Byte :=
  (List.range x.format.h).map fun y => if x.got y < x.format.w / 2 then 16 else 0

/-- A new RTP timestamp starts the next slot (R742). -/
def State.newStamp (s : State) (k ts : Nat) : State :=
  let x := s.flow k
  match x.stamp with
  | none => s.setFlow k { x with stamp := some ts }
  | some w =>
    if w = ts then s
    else
      let t := s.rtWrite (12 + x.port / 4) (x.slotAt x.slot + statusAt (x.f4 0x5C) x.format.h 0) x.slotStatus
      t.setFlow k { x with stamp := some ts, slot := (x.slot + 1) % x.f1 0x53, lines := [] }

/-- The pgroups of a packet go to their line. -/
def State.putPgroups (s : State) (k : Nat) (f : EthFrame) : State :=
  let x := s.flow k
  let m := x.format
  let g := f.rowOffset / 2
  let n := min (f.payload.length / 5) (m.w / 2 - g)
  if f.row < m.h ∧ 0 < n then
    let d := pgroups f.payload n
    let base := x.slotAt x.slot
    let t := s.rtWrite (12 + x.port / 4) (base + lumaAt (x.f4 0x5C) f.row + 4 * g) d.1
    let t := t.rtWrite (12 + x.port / 4) (base + chromaAt (x.f4 0x5C) m.h f.row + 4 * g) d.2
    t.setFlow k { x with lines := Table.set 0 x.lines f.row (x.got f.row + n) }
  else s

/-- A packet that has passed its policer is delivered. -/
def State.deliver (s : State) (k : Nat) (f : EthFrame) : State :=
  let x := s.flow k
  if x.kind = 1 then
    let ts := match f.rtp with | some r => r.2.2.2 | none => 0
    let t := (s.newStamp k ts).putPgroups k f
    t.setFlow k ((t.flow k).delivered (f.len + 20))
  else if x.session.isNone then s.setFlow k (x.delivered (f.len + 20))
  else s.setFlow k (x.depacketise f)

/-- A packet of a flow: hit, learning, filter, policer, delivery. -/
def State.flowPacket (s : State) (i : Nat) (f : EthFrame) : State :=
  let k := (s.entry i).flow
  let t := (s.hit i).learn k f
  let x := t.flow k
  if x.filters f then t.setFlow k { x with w1cl := satAdd 16 x.w1cl 1 }
  else
    let y := t.police k (f.len + 20)
    if y.2 then y.1.deliver k f else y.1

/-! ### Capture (13 R703; 14 R745 to R747) -/

/-- The flags word of a captured frame. -/
def captureFlags (l : Lane) (f : EthFrame) : Nat :=
  b2n (f.fcsBad || f.fecBad) + 2 * b2n f.fecBad + 4 * b2n (f.len < 64) + 8 * b2n (l.mtu < f.len) + 16 * b2n (f.ipCsumBad && !f.ipv6)
    + 32 * b2n f.udpCsumBad + 64 * b2n (f.fragment && !f.ipv6)

/-- The slots of a captured frame: its header, its first bytes, and zeros (R745). -/
def captureSlots (b : List Byte) : Nat → List (List Byte)
  | 0 => []
  | n + 1 => (b ++ List.replicate 64 0).take 64 :: captureSlots (b.drop 64) n

def State.captured (s : State) (n snap : Nat) (f : EthFrame) (matched : Nat) : List (List Byte) :=
  let l := s.lane n
  let k := min (min f.len snap) l.mtu
  let b := leBytes 4 s.ptp.ns ++ leBytes 6 s.ptp.sec ++ leBytes 2 f.len ++ leBytes 2 (captureFlags l f) ++ leBytes 1 n ++ leBytes 1 0
    ++ leBytes 2 matched ++ leBytes 14 0 ++ f.bytes.take k
  captureSlots b ((32 + k + 63) / 64)

/-- Write slots at the ring's index, and then WRITE_IDX (R746). -/
def State.writeSlots (s : State) (k : Nat) (b : List (List Byte)) : State :=
  let x := s.flow k
  let y := b.foldl (fun (p : State × Ring) c =>
    (p.1.rtWrite (12 + x.port / 4) (p.2.addr + 64 + 64 * (p.2.w % ringSlots p.2.size)) c, { p.2 with w := p.2.w + 1 })) (s, x.ring)
  (y.1.setFlow k { y.1.flow k with ring := y.2 }).ringIndex (12 + x.port / 4) y.2

/-- The ring's stack serves now. -/
def State.ringServes (s : State) (g : Ring) : Bool := s.dramReady g.addr 64 && !s.asleep (g.addr / 2 ^ 33)

/-- The staged slots leave in groups of four; all of them where the group may be partial. -/
def State.drainCapture (s : State) (k : Nat) (partly : Bool) : State :=
  let x := s.flow k
  let c := if partly then x.staged.length else x.staged.length / 4 * 4
  if c = 0 then s
  else if s.ringServes x.ring then
    (s.setFlow k { x with staged := x.staged.drop c }).writeSlots k (x.staged.take c)
  else if s.asleep (x.ring.addr / 2 ^ 33) then s.wakeStack (x.ring.addr / 2 ^ 33) 2 else s

/-- A frame that is lost to capture (R747). -/
def State.captureLost (s : State) (n k : Nat) : State :=
  let l := s.lane n
  let x := s.flow k
  let g := { x.ring with lost := satAdd 64 x.ring.lost 1 }
  ((s.setLane n { l with capLost := satAdd 32 l.capLost 1 }).setFlow k { x with ring := g }).ringIndex (12 + n / 4) g

/-- A frame's slots are staged where the ring and the staging have room. -/
def State.captureIn (s : State) (n k : Nat) (b : List (List Byte)) : State :=
  let x := s.flow k
  let room (g : Ring) : Bool := g.w + x.staged.length + b.length - g.r < ringSlots g.size
  let y := if room x.ring || !s.ringServes x.ring then (s, x.ring) else s.rtReread (12 + n / 4) x.ring
  let t := y.1.setFlow k { y.1.flow k with ring := y.2 }
  if room y.2 && (t.ringServes y.2 || x.staged.length + b.length ≤ 64) then
    let l := t.lane n
    ((t.setLane n { l with capFrames := satAdd 32 l.capFrames 1 }).setFlow k { t.flow k with staged := x.staged ++ b }).drainCapture k false
  else t.captureLost n k

/-- The CAPTURE flow of a port. -/
def State.captureFlow (s : State) (n : Nat) : Option Nat :=
  (s.flows.find? fun e => e.2.live && e.2.kind == 5 && e.2.port == n).map (·.1)

/-- The copy that capture takes of every received frame. -/
def State.capture (s : State) (n : Nat) (f : EthFrame) : State :=
  let l := s.lane n
  if !l.capture then s
  else match s.captureFlow n with
    | none => s.setLane n { l with capNoRing := satAdd 16 l.capNoRing 1 }
    | some k =>
      let matched := if l.check f = .good then (match s.route n f with | .flow e => (s.entry e).flow | _ => 0xFFFF) else 0xFFFF
      s.captureIn n k (s.captured n ((s.flow k).f2 0x6C) f matched)

def execCaptureFlush (n : Fin 16) (s : State) : Host.Outcome State Fault Refusal :=
  run (fun s =>
    match s.captureFlow n.val with
    | some k => if (s.flow k).staged.isEmpty then s else (s.advance ((s.flow k).f2 0x6E * 1000)).drainCapture k true
    | none => s) s

/-! ### A frame -/

/-- A PTP event message is stamped (13 R711). -/
def State.stampRx (s : State) (n : Nat) (f : EthFrame) : State :=
  match f.ptpEvent with
  | none => s
  | some e =>
    if s.ptp.fifo.length < 64 then
      s.setPtp { s.ptp with fifo := s.ptp.fifo ++ [⟨s.ptp.ns, s.ptp.sec, n, false, e.1 % 16, e.2 % 65536⟩] }
    else let l := s.lane n; s.setLane n { l with w2cl := satAdd 16 l.w2cl 1 }

/-- A frame that was delivered or classified is counted (13 R717). -/
def State.classed (s : State) (n : Nat) : State := let l := s.lane n; s.setLane n { l with rxFrames := satAdd 64 l.rxFrames 1 }

/-- A frame that the MAC has passed. -/
def State.classify (s : State) (n : Nat) (f : EthFrame) : State :=
  let l := s.lane n
  match s.route n f with
  | .ignored => s
  | .unclassified => s.setLane n { l with unclassified := satAdd 16 l.unclassified 1 }
  | .hazelB => (s.classed n).stampRx n f
  | .ipCsum => s.setLane n { l with w28h := satAdd 16 l.w28h 1 }
  | .fragment => s.setLane n { l with w28l := satAdd 16 l.w28l 1 }
  | .udpCsum => s.setLane n { l with w2ch := satAdd 16 l.w2ch 1 }
  | .flow e => (s.classed n).flowPacket e f

def execEthFrameReceive (n : Fin 16) (f : EthFrame) (s : State) : Host.Outcome State Fault Refusal :=
  run (fun s =>
    if ethMode (s.portMode n.val) && s.ready (24 + n.val) then
      let t := (s.setLane n.val ((s.lane n.val).macIn f)).capture n.val f
      if (s.lane n.val).check f = .good then t.classify n.val f else t
    else s) s

end Sys2Proof.Machine
end

