-- ==== Sys2Proof/Machine/EthOut.lean ====
section
/-! DEFINITION. The egress side: the packetiser and back-pressure (14 R748, R749), injection (10 R552), the end of a job that feeds
flows, and the egress reader (14 R750, R753, R758). -/

namespace Sys2Proof.Machine

/-! ### Packets of an access unit (14 R748; 10 R552) -/

/-- One packet of an access unit: its payload, its index, what injection changes in it. -/
structure Pkt where
  payload : List Byte
  idx : Nat
  inj : Inject := {}
  /-- Added to the continuity counters of a transport-stream packet. -/
  cc : Nat := 0
  dropped : Bool := false
  deriving DecidableEq, Repr

def numbered : List (List Byte) → Nat → List Pkt
  | [], _ => []
  | b :: l, i => { payload := b, idx := i } :: numbered l (i + 1)

/-- The packet is sent again in the next slot. -/
def duplicated (w : Nat) : List Pkt → List Pkt
  | [] => []
  | p :: l => if p.idx = w then p :: p :: l else p :: duplicated w l

/-- The packet and the next one exchange their slots. -/
def swapped (w : Nat) : List Pkt → List Pkt
  | p :: q :: l => if p.idx = w then q :: p :: l else p :: swapped w (q :: l)
  | l => l

def changed (w : Nat) (f : Pkt → Pkt) (l : List Pkt) : List Pkt := l.map fun p => if p.idx = w then f p else p

/-- One level 3 entry (10 R552). -/
def injected (e : List Byte) (l : List Pkt) : List Pkt :=
  let w := blkField e 8 4
  let v := blkField e 12 4
  match blkByte e 1 with
  | 0 => changed w (fun p => { p with dropped := true }) l
  | 1 => duplicated w l
  | 2 => swapped w l
  | 3 => changed w (fun p => { p with inj := { p.inj with seq := (p.inj.seq + v) % 65536 }, cc := (p.cc + v) % 16 }) l
  | 4 => changed w (fun p => { p with inj := { p.inj with ts := (p.inj.ts + v) % 2 ^ 32 } }) l
  | 5 => changed w (fun p => { p with inj := { p.inj with csum := !p.inj.csum } }) l
  | 6 => changed w (fun p => { p with inj := { p.inj with fcs := !p.inj.fcs } }) l
  | _ => l

/-- The entries of a table, 16 bytes each. -/
def entries16 (b : List Byte) : Nat → List (List Byte)
  | 0 => []
  | n + 1 => b.take 16 :: entries16 (b.drop 16) n

/-- Entries of the pictures `first` to `first + n - 1`, in table order (10 R554). -/
def injectedAll (table : List Byte) (first n : Nat) (l : List Pkt) : List Pkt :=
  ((entries16 table (table.length / 16)).filter fun e => blkByte e 0 == 3 && first ≤ blkField e 4 4 && blkField e 4 4 < first + n).foldl
    (fun m e => injected e m) l

/-- The continuity counters of the video packets in a transport-stream payload are moved on. -/
def bumpCc (pid cc : Nat) (b : List Byte) : Nat → List Byte
  | 0 => b
  | n + 1 =>
    let h := b.take 188
    let q := blkByte h 1 % 32 * 256 + blkByte h 2
    let h := if q = pid then putBytes h 3 [BitVec.ofNat 8 (blkByte h 3 / 16 * 16 + (blkByte h 3 + cc) % 16)] else h
    h ++ bumpCc pid cc (b.drop 188) n

/-- Whether a flow's packets have an RTP header. -/
def Flow.rtp (f : Flow) : Bool := f.kind != 4 || f.flag 2

/-- The payloads of an access unit, with free values for what the format carries beside it. -/
def State.payloadsOf (s : State) (f : Flow) (codec : Nat) (au : List Byte) : List (List Byte) :=
  Config.payloads f.kind codec (if f.kind = 4 then f.f2 0x70 else 0) (if f.kind = 4 then 1316 else f.f2 0x3A) s.freeVal au

/-- A packet as the frame that the queue holds; one that is dropped leaves an empty slot. -/
def Flow.pktFrame (f : Flow) (port : List Byte) (ts last : Nat) (p : Pkt) : List Byte :=
  if p.dropped then []
  else
    let b := if f.rtp then p.payload else bumpCc (f.f2 0x70) p.cc p.payload 7
    f.frame port f.rtp (f.seqOut + p.idx) ts (p.idx + 1 == last) p.inj b

/-! ### The queue and back-pressure (14 R749) -/

/-- Bytes that the queue holds. -/
def queued (q : List (List Byte)) : Nat := sumBy List.length q

/-- Waiting packets enter the queue while they fit. -/
def Flow.takeIn (f : Flow) : List (List Byte) → Flow
  | [] => { f with waiting := [] }
  | b :: l => if queued f.queue + b.length ≤ f.f4 0x3C * 1024 then { f with queue := f.queue ++ [b] }.takeIn l else { f with waiting := b :: l }

/-- Packets reach the queue of a flow; what does not fit waits, and an episode of waiting is counted. -/
def State.queueFrames (s : State) (k : Nat) (l : List (List Byte)) : State :=
  let f := s.flow k
  let g := f.takeIn (f.waiting ++ l)
  if f.waiting.isEmpty && !g.waiting.isEmpty then
    (s.setFlow k { g with w10 := satAdd 32 g.w10 1, bpSince := s.now }).event 2 0 0 k
  else s.setFlow k g

/-- An access unit of a job of `x` goes to the flow. -/
def State.feedFlow (s : State) (x : Session) (table : List Byte) (pics : Nat) (au : List Byte) (k : Nat) : State :=
  let f := s.flow k
  let l := s.payloadsOf f x.codec au
  let t := s.tookFree
  let fr := (injectedAll table x.pictures pics (numbered l 0)).map (f.pktFrame (t.lane f.port).block t.freeVal l.length)
  (t.tookFree.setFlow k { f with seqOut := (f.seqOut + l.length) % 2 ^ 32, aus := f.aus ++ [fr.length] }).queueFrames k fr

/-- The egress flows that a job of a session feeds: bound, and not removed before the job was taken (R775). -/
def State.fedFlows (s : State) (sess taken : Nat) : List Nat :=
  (s.flows.filter fun e => e.2.live && e.2.egress && 2 ≤ e.2.kind && e.2.kind ≤ 4 && e.2.session == some sess
    && (e.2.mode != .removing || taken ≤ e.2.removedAt)).map (·.1)

/-- A job's access unit goes to the packetiser (R748): what it is, is what OUT holds. -/
def State.feed (s : State) (sess : Nat) (c : Cmd) (r : Run) : State :=
  let x := s.session sess
  let out := blkField c.body 0x28 4
  let n := min s.freeVal out
  let m := s.encoded x { r with fed := some (n, false) } c
  let t := s.tookFree
  let t := t.setSession sess { x with run := some { r with fed := some (n, decide (out < s.freeVal)) } }
  let au := t.bytesAt (blkField c.body 0x20 8) n
  let inj := injTable x.body
  let table := if x.enc then t.bytesAt x.work inj.2 else []
  if n = 0 then t
  else (t.fedFlows sess c.taken).foldl (fun u k => u.feedFlow x table m.pictures au k) { t with free := t.free + n + inj.2 }

/-- A bound flow still has packets of the session waiting (R749). -/
def State.backPressed (s : State) (sess : Nat) : Bool := s.flows.any fun e => e.2.egress && e.2.session == some sess && !e.2.waiting.isEmpty

/-! ### The end of a job on its pipes (07 R404; 11 R598; 14 R749) -/

/-- The job of a session ends on its pipes; one that feeds flows ends once its last packet is queued. -/
def State.jobEnds (s : State) (n sess : Nat) : State :=
  match s.runningJob sess, (s.session sess).run with
  | some i, some r =>
    let c := s.hazel.jobs.getD i {}
    if (s.session sess).firstPipe != n || !s.threadsEnded sess then s
    else match s.endWaits sess c with
      | some k => s.wakeStack k (s.session sess).cls
      | none =>
        if c.opcode = 0x304 then
          match s.measureReads n (measureOf c.body) with
          | (t, some e) => t.stopRun sess 0x0303 e.1 e.2
          | (t, none) => t.stopRun sess 0 0 0
        else if c.opcode = 0x302 then s.stopRun sess 0 0 0
        else
          let t := if r.fed.isNone then s.feed sess c r else s
          if t.backPressed sess then t else t.stopRun sess 0 0 0
  | _, _ => s

def execPipeJobEnd (n : Fin 4) (session : Fin 64) (s : State) : Host.Outcome State Fault Refusal :=
  run (fun s => if s.fwUp then s.jobEnds n.val session.val else s) s

/-- Room appears in the queue of a back-pressured flow (R749). -/
def State.resumeQueue (s : State) (k : Nat) : State :=
  let f := s.flow k
  if f.waiting.isEmpty then s
  else
    let g := f.takeIn f.waiting
    (s.setFlow k (if g.waiting.isEmpty then { g with w14 := satAdd 32 g.w14 ((s.now - f.bpSince) / 1000) } else g)).progress

def execPacketiserResume (flow : Fin 1024) (s : State) : Host.Outcome State Fault Refusal := run (fun s => s.resumeQueue flow.val) s

/-! ### Pacing (14 R758, R759) -/

/-- The eligible time of packet `k` of frame `n`, whose frame has `np` packets, in PTP ns; groups of WIDE_BURST leave together. -/
def State.dueOf (s : State) (f : Flow) (n k np : Nat) : Nat :=
  let t := s.period f
  let b := if f.pacing ≥ 3 then max 1 (f.f1 0x51) else 1
  let r := if f.kind = 1 ∧ f.gapped then (f.format.h, f.format.total) else (1, 1)
  let den := t.2 * np * r.2
  f.offset + (n * t.1 * np * r.2 + k / b * b * t.1 * r.1 + den - 1) / den

/-- The narrow or the wide CMAX of a flow (R759; log 78). -/
def State.cmax (s : State) (f : Flow) (np : Nat) : Nat :=
  let t := s.period f
  let r := if f.kind = 1 ∧ f.pacing = 1 then (f.format.h, f.format.total) else (1, 1)
  if f.pacing ≤ 2 then max 4 (np * t.2 * r.2 * 1000000000 / (43200 * t.1 * r.1)) else max 16 (np * t.2 * 1000000000 / (21600 * t.1))

/-- CINST after a departure, in 1 / 65536 packets: the model drains 1.1 times NPACKETS in a frame (log 78). -/
def State.cinstNext (s : State) (f : Flow) (np : Nat) : Nat :=
  let t := s.period f
  f.cinst - (s.now - f.cinstAt) * np * 11 * t.2 * 65536 / (10 * t.1) + 65536

/-- Packets of the frame or access unit that a paced flow sends. -/
def Flow.npackets (f : Flow) : Nat := max 1 (if f.kind = 1 then f.framePackets else f.auSize)

/-! ### ST 2110-20 packets (14 R750) -/

/-- Line pairs as pgroups: Cb, Y0, Cr, Y1 (13 R709). -/
def pgroupBytes (y c : List Byte) : Nat → List Byte
  | 0 => []
  | n + 1 =>
    let v := blkField c 0 2 % 1024 * 2 ^ 30 + blkField y 0 2 % 1024 * 2 ^ 20 + blkField c 2 2 % 1024 * 2 ^ 10 + blkField y 2 2 % 1024
    beBytes 5 v ++ pgroupBytes (y.drop 4) (c.drop 4) n

/-- Where a packet of a frame stands: field, row in the field, line of the frame, first pgroup, pgroups, last of its field. -/
structure Row where
  field : Nat
  row : Nat
  line : Nat
  first : Nat
  count : Nat
  last : Bool
  deriving DecidableEq, Repr

def Flow.rowOf (f : Flow) (k : Nat) : Row :=
  let m := f.format
  let l := k / f.linePackets
  let j := k % f.linePackets
  let half := (m.h + 1) / 2
  let field := if m.interlaced ∧ half ≤ l then 1 else 0
  let row := l - field * half
  let first := j * f.pgroups
  { field := field, row := row, line := if m.interlaced then 2 * row + field else row, first := first, count := min f.pgroups (m.w / 2 - first)
    last := j + 1 == f.linePackets && (l + 1 == m.h || (m.interlaced && l + 1 == half)) }

/-- The next packet of an ST2110_20 flow, read from its slot; poison inverts its FCS (R752). -/
def State.readPacket (s : State) (k : Nat) : List Byte × State :=
  let f := s.flow k
  let m := f.format
  let r := f.rowOf f.pktNo
  let base := f.slotAt f.frameNo
  let y := s.rtGet (8 + f.port / 4) (base + lumaAt (f.f4 0x5C) r.line + 4 * r.first) (4 * r.count)
  let c := y.2.rtGet (8 + f.port / 4) (base + chromaAt (f.f4 0x5C) m.h r.line + 4 * r.first) (4 * r.count)
  let ts := (2 * f.frameNo + r.field) * m.den * 45000 / m.num % 2 ^ 32
  let head := beBytes 2 (f.seqOut / 65536) ++ beBytes 2 (5 * r.count) ++ beBytes 2 (r.field * 32768 + r.row) ++ beBytes 2 (2 * r.first)
  let bad := y.1.2 || c.1.2
  let b := f.frame (s.lane f.port).block true f.seqOut ts r.last { fcs := bad } (head ++ pgroupBytes y.1.1 c.1.1 r.count)
  let g := { f with seqOut := (f.seqOut + 1) % 2 ^ 32, w20h := satAdd 16 f.w20h (b2n bad) }
  let g := if f.pktNo + 1 = f.framePackets then { g with frameNo := f.frameNo + 1, pktNo := 0 } else { g with pktNo := f.pktNo + 1 }
  (b, c.2.setFlow k g)

/-! ### The egress reader (14 R753) -/

/-- Bytes of a lane's egress FIFO (14 R743). -/
def fifoDepth (mode : Nat) : Nat := if mode = 8 then 65536 else 16384

/-- A paced flow stands at the frame it sends next: an ST2110_20 flow that begins a frame takes the present or the next one, and
an access unit at the head of a queue takes the next frame boundary. -/
def State.atFrame (s : State) (k : Nat) : State :=
  let f := s.flow k
  let now := s.frameNow f
  if f.kind = 1 then
    (if f.pktNo = 0 ∧ (f.frameNo < now ∨ now + 1 < f.frameNo) then s.setFlow k { f with frameNo := now + 1 } else s)
  else
    let a := f.aus.dropWhile (· == 0)
    if f.auSize = 0 ∨ a.length < f.aus.length then
      s.setFlow k { f with aus := a, auSize := a.headD 1, pktNo := 0, frameNo := max (f.frameNo + 1) (now + 1) }
    else s

/-- The port's paced flows that have a packet to be fetched. -/
def State.pacedReady (s : State) (n : Nat) : List Nat :=
  (s.egressFlows n).filter fun k => (s.flow k).paced && ((s.flow k).kind == 1 || !(s.flow k).queue.isEmpty)

/-- The next paced packet: the eligible time and the flow; the earliest, then the lowest flow. -/
def State.nextPaced (s : State) (l : List Nat) : Option (Nat × Nat) :=
  l.foldl (fun m k =>
    let f := s.flow k
    let d := s.dueOf f f.frameNo f.pktNo f.npackets
    match m with
    | some b => if b.1 ≤ d then some b else some (d, k)
    | none => some (d, k)) none

/-- The lowest shaped flow whose head packet is not yet in the FIFO. -/
def State.nextShaped (s : State) (n : Nat) : Option Nat :=
  (s.egressFlows n).find? fun k =>
    !(s.flow k).paced && !(s.flow k).queue.isEmpty && !((s.lane n).fifo.any fun x => x.flow == k)

/-- A frame enters the FIFO. -/
def State.fifoPut (s : State) (n : Nat) (x : Frame) : State :=
  let l := s.lane n
  s.setLane n { l with fifo := l.fifo ++ [x] }

/-- The head of a flow's queue is fetched. -/
def State.fetchHead (s : State) (n k : Nat) (due : Option Nat) : State :=
  let f := s.flow k
  match f.queue with
  | [] => s
  | b :: l =>
    let a := match f.aus.dropWhile (· == 0) with | c :: m => (c - 1) :: m | [] => []
    (s.setFlow k { f with queue := l, aus := a, pktNo := f.pktNo + b2n due.isSome }).fifoPut n ⟨k, b, due⟩

/-- A paced packet is fetched 4 µs before its eligible time. -/
def State.fetchPaced (s : State) (n d k : Nat) : State :=
  let t := s.untilPtp (d - 4000)
  if (t.flow k).kind = 1 then let y := t.readPacket k; y.2.fifoPut n ⟨k, y.1, some d⟩ else t.fetchHead n k (some d)

/-- The FIFO has room for a frame of a full MTU. -/
def State.fifoRoom (s : State) (n : Nat) : Bool :=
  sumBy (fun x => x.bytes.length) (s.lane n).fifo + (s.lane n).mtu ≤ fifoDepth (s.portMode n)

/-- A port that is down: each ST2110_20 frame that has passed unsent (R762). -/
def State.holdFrames (s : State) (k : Nat) : State :=
  let f := s.flow k
  let now := s.frameNow f
  if f.kind = 1 ∧ f.frameNo < now then
    s.setFlow k { f with w1ch := satAdd 16 f.w1ch (now - f.frameNo), frameNo := now, pktNo := 0 } else s

def State.fetchNext (s : State) (n : Nat) : State :=
  let t := (s.pacedReady n).foldl State.atFrame s
  match t.nextPaced (t.pacedReady n), t.nextShaped n with
  | some p, some k => if t.ptpNs + 4000 < p.1 then t.fetchHead n k none else t.fetchPaced n p.1 p.2
  | some p, none => t.fetchPaced n p.1 p.2
  | none, some k => t.fetchHead n k none
  | none, none => t

def execEgressFetch (n : Fin 16) (s : State) : Host.Outcome State Fault Refusal :=
  run (fun s =>
    if ethMode (s.portMode n.val) && (s.lane n.val).enabled then
      (if (s.lane n.val).down then (s.egressFlows n.val).foldl State.holdFrames s
       else if s.fifoRoom n.val then (s.fetchNext n.val).progress else s)
    else s) s

/-! ### The order in which a port sends (14 R754 to R757, R760) -/

/-- A bucket in 1 / 8 000 000 bytes. -/
def fillInt (v : Int) (cap rate d : Nat) : Int := min ((cap * 8000000 : Nat) : Int) (v + ((rate * d : Nat) : Int))

/-- The credit of a shaped flow (R757). -/
def State.shape (s : State) (k : Nat) : State :=
  let f := s.flow k
  s.setFlow k { f with credit := fillInt f.credit (f.f4 0x44) (f.f4 0x40) (s.now - f.shapedAt), shapedAt := s.now }

def State.schedOf (s : State) (n v : Nat) : Sched := Table.get {} s.sched (n * 64 + v)
def State.setSched (s : State) (n v : Nat) (x : Sched) : State := { s with sched := Table.set {} s.sched (n * 64 + v) x }

/-- The buckets of a scheduler session (R756). -/
def State.fillSched (s : State) (n v : Nat) : State :=
  let x := s.schedOf n v
  s.setSched n v { x with committed := fillInt x.committed x.cbs x.cir (s.now - x.filled)
                          peak := fillInt x.peak x.pbs x.pir (s.now - x.filled), filled := s.now }

/-- A session's state: GUARANTEED in the first pass, EXCESS in the second (R756). -/
def Sched.serves (x : Sched) (first : Bool) : Bool :=
  let g := x.cir != 0 && 0 ≤ x.committed
  (if first then g else !g) && (x.pir == 0 || 0 ≤ x.peak)

/-- The head frame of a shaped flow in the FIFO. -/
def State.headOf (s : State) (n k : Nat) : Option Frame := (s.lane n).fifo.find? fun x => x.flow == k && x.due.isNone

/-- A shaped flow is eligible (R757). -/
def State.eligible (s : State) (n k : Nat) : Bool :=
  let f := s.flow k
  !f.paced && (f.f4 0x40 == 0 || 0 ≤ f.credit) && (s.headOf n k).isSome

/-- The eligible flows of a session of the port. -/
def State.inSession (s : State) (n v : Nat) : List Nat := (s.egressFlows n).filter fun k => (s.flow k).f1 0x35 == v && s.eligible n k

/-- The first member from `turn` on, in a circle. -/
def nextMember (l : List Nat) (turn : Nat) : Option Nat :=
  match l.find? fun k => turn ≤ k with
  | some k => some k
  | none => l.head?

/-- The inner round robin of a session reaches the flow that sends next (R755). -/
def State.innerRound (s : State) (n v : Nat) (l : List Nat) : Nat → State × Option Frame
  | 0 => (s, none)
  | fuel + 1 =>
    let x := s.schedOf n v
    match nextMember l x.turn with
    | none => (s, none)
    | some k =>
      let f := s.flow k
      let t := if x.visiting && x.turn == k then s else s.setFlow k { f with deficit := f.deficit + f.f4 0x72 }
      match t.headOf n k with
      | none => (t, none)
      | some h =>
        if wireLen h.bytes ≤ (t.flow k).deficit then (t.setSched n v { x with turn := k, visiting := true }, some h)
        else State.innerRound (t.setSched n v { x with turn := k + 1, visiting := false }) n v l fuel

/-- The outer round robin reaches the session whose flow sends next. -/
def State.outerRound (s : State) (n : Nat) (l : List Nat) : Nat → State × Option Frame
  | 0 => (s, none)
  | fuel + 1 =>
    let p := s.lane n
    match nextMember l p.turn with
    | none => (s, none)
    | some v =>
      let x := s.schedOf n v
      let t := if p.visiting && p.turn == v then s else s.setSched n v { x with deficit := x.deficit + x.quantum }
      match t.innerRound n v (t.inSession n v) 20000 with
      | (u, none) => (u, none)
      | (u, some h) =>
        if wireLen h.bytes ≤ (u.schedOf n v).deficit then (u.setLane n { u.lane n with turn := v, visiting := true }, some h)
        else State.outerRound (u.setLane n { u.lane n with turn := v + 1, visiting := false }) n l fuel

/-- Members that have nothing eligible lose their deficit (R755). -/
def State.clearDeficits (s : State) (n : Nat) : State :=
  let t := (s.egressFlows n).foldl (fun u k =>
    if u.eligible n k then u else
      let f := u.flow k
      let x := u.schedOf n (f.f1 0x35)
      let w := if x.turn = k ∧ x.visiting then u.setSched n (f.f1 0x35) { x with visiting := false } else u
      w.setFlow k { f with deficit := 0 }) s
  foldRange (fun v u =>
    if (u.inSession n v).isEmpty then
      let p := u.lane n
      let w := if p.turn = v ∧ p.visiting then u.setLane n { p with visiting := false } else u
      w.setSched n v { w.schedOf n v with deficit := 0 }
    else u) 64 t

/-- The sessions that a pass serves. -/
def State.passOf (s : State) (n : Nat) (first : Bool) : List Nat :=
  (List.range 64).filter fun v => (s.schedOf n v).serves first && !(s.inSession n v).isEmpty

/-- The NORMAL band: two passes (R755). -/
def State.normal (s : State) (n : Nat) : State × Option Frame :=
  let t := (s.egressFlows n).foldl State.shape s
  let t := (foldRange (fun v u => u.fillSched n v) 64 t).clearDeficits n
  let l := if (t.passOf n true).isEmpty then t.passOf n false else t.passOf n true
  t.outerRound n l 20000

/-- The RT frame that starts next: the earliest eligible time, then the lowest flow. -/
def earliest (l : List Frame) : Option (Nat × Frame) :=
  l.foldl (fun m x =>
    match x.due, m with
    | none, _ => m
    | some d, none => some (d, x)
    | some d, some b => if d < b.1 ∨ (d = b.1 ∧ x.flow < b.2.flow) then some (d, x) else m) none

/-- A frame starts on the line: it leaves the device, and the line is busy while it lasts. -/
def State.startFrame (s : State) (n : Nat) (b : List Byte) : State :=
  let l := s.lane n
  let t := s.setLane n { l with lineFree := s.now + wireNs (s.portMode n) (wireLen b), txFrames := satAdd 64 l.txFrames 1
                                txUnits := satAdd 64 l.txUnits b.length }
  { t with outs := t.outs ++ [Out.frame n b] }

/-- A fetched frame leaves the FIFO. -/
def State.fifoTake (s : State) (n : Nat) (x : Frame) : State :=
  let l := s.lane n
  s.setLane n { l with fifo := l.fifo.erase x }

/-- The flow's counters for a packet sent. -/
def Flow.sent (f : Flow) (b : List Byte) : Flow := { f with packets := satAdd 64 f.packets 1, bytes := satAdd 64 f.bytes (wireLen b) }

/-- A paced packet is sent (R758 to R760). -/
def State.sendPaced (s : State) (n d : Nat) (x : Frame) : State :=
  let t := s.fifoTake n x
  if x.bytes.isEmpty then t
  else
    let f := t.flow x.flow
    let c := t.cinstNext f f.npackets
    let late := decide (t.cmax f f.npackets * 65536 < c)
    let g := { f.sent x.bytes with cinst := c, cinstAt := t.now, maxLate := max f.maxLate (min (t.ptpNs - d) (satMax 32))
                                   w1cl := satAdd 16 f.w1cl (b2n late) }
    let u := t.setFlow x.flow g
    (if late then u.event 2 1 0 x.flow else u).startFrame n x.bytes

/-- A shaped packet is sent: its flow's credit, the deficits and the session's buckets pay for it (R755 to R757). -/
def State.sendShaped (s : State) (n : Nat) (x : Frame) : State :=
  let t := s.fifoTake n x
  if x.bytes.isEmpty then t
  else
    let k := wireLen x.bytes
    let f := t.flow x.flow
    let v := f.f1 0x35
    let y := t.schedOf n v
    let u := t.setFlow x.flow { f.sent x.bytes with deficit := f.deficit - k, credit := f.credit - ((k * 8000000 : Nat) : Int) }
    (u.setSched n v { y with deficit := y.deficit - k, committed := y.committed - ((k * 8000000 : Nat) : Int)
                             peak := y.peak - ((k * 8000000 : Nat) : Int) }).startFrame n x.bytes

/-- A CONTROL frame is sent, shaped to 100 Mbit/s (R754). -/
def State.sendControl (s : State) (n : Nat) : State :=
  let l := s.lane n
  match l.control with
  | [] => s
  | b :: m => (s.setLane n { l with control := m, controlAt := s.now + 80 * wireLen b }).startFrame n b

/-- The next frame from the first band that has an eligible one; `none` where no band has (R754). -/
def State.sendNow (s : State) (n : Nat) : Option State :=
  let l := s.lane n
  match earliest (l.fifo.filter fun x => match x.due with | some d => decide (d ≤ s.ptpNs) | none => false) with
  | some x => some (s.sendPaced n x.1 x.2)
  | none =>
    if !l.control.isEmpty && l.controlAt ≤ s.now then some (s.sendControl n)
    else match s.normal n with
      | (t, some x) => some (t.sendShaped n x)
      | (_, none) => none

/-- Time passes until a band has an eligible frame: the first eligible time in the FIFO, or the CONTROL shaper. -/
def State.untilFrame (s : State) (n : Nat) : State :=
  let l := s.lane n
  match earliest l.fifo with
  | some x => s.untilPtp x.1
  | none => if l.control.isEmpty then s else s.until l.controlAt

/-- The line is free. -/
def State.transmit (s : State) (n : Nat) : State :=
  let t := s.until (s.lane n).lineFree
  match t.sendNow n with
  | some u => u
  | none => let w := t.untilFrame n; (w.sendNow n).getD w

def execEthFrameTransmit (n : Fin 16) (s : State) : Host.Outcome State Fault Refusal :=
  run (fun s =>
    let l := s.lane n.val
    if ethMode (s.portMode n.val) && l.enabled && s.ready (24 + n.val) && !l.down then s.transmit n.val else s) s

end Sys2Proof.Machine
end

