-- ==== Sys2Proof/Machine/Dispatch.lean ====
section
/-! DEFINITION. One arm per command. -/

namespace Sys2Proof.Machine

def exec (i : Instr) (s : State) : Host.Outcome State Fault Refusal :=
  match i with
  | .registerWrite p addr v => Sys2Proof.Machine.execRegisterWrite p addr v s
  | .rcRead p addr => Sys2Proof.Machine.execRcRead p addr s
  | .counterLowHalfRead p addr => Sys2Proof.Machine.execCounterLowHalfRead p addr s
  | .counterHighHalfRead p addr => Sys2Proof.Machine.execCounterHighHalfRead p addr s
  | .counter64Read p addr => Sys2Proof.Machine.execCounter64Read p addr s
  | .powerOnResetRelease strap hpEn wakeIn => Sys2Proof.Machine.execPowerOnResetRelease strap hpEn wakeIn s
  | .vaonFall => Sys2Proof.Machine.execVaonFall s
  | .chipReset => Sys2Proof.Machine.execChipReset s
  | .hazelReset => Sys2Proof.Machine.execHazelReset s
  | .pipReset => Sys2Proof.Machine.execPipReset s
  | .blockReset b => Sys2Proof.Machine.execBlockReset b s
  | .dormantEntry coincident => Sys2Proof.Machine.execDormantEntry coincident s
  | .wakeInEdge rising => Sys2Proof.Machine.execWakeInEdge rising s
  | .hpEnRise => Sys2Proof.Machine.execHpEnRise s
  | .smbusWakeMatch => Sys2Proof.Machine.execSmbusWakeMatch s
  | .alarm => Sys2Proof.Machine.execAlarm s
  | .pipTimer => Sys2Proof.Machine.execPipTimer s
  | .pipStop => Sys2Proof.Machine.execPipStop s
  | .mainOn => Sys2Proof.Machine.execMainOn s
  | .mainOff => Sys2Proof.Machine.execMainOff s
  | .goDormant => Sys2Proof.Machine.execGoDormant s
  | .mainOffAnswer => Sys2Proof.Machine.execMainOffAnswer s
  | .mainOffTimeout => Sys2Proof.Machine.execMainOffTimeout s
  | .mainOffSelfRefresh => Sys2Proof.Machine.execMainOffSelfRefresh s
  | .pgRise r => Sys2Proof.Machine.execPgRise r s
  | .enSrdRaise => Sys2Proof.Machine.execEnSrdRaise s
  | .pgTimeout r => Sys2Proof.Machine.execPgTimeout r s
  | .pgFall r => Sys2Proof.Machine.execPgFall r s
  | .railEnableLower => Sys2Proof.Machine.execRailEnableLower s
  | .hpEnFall => Sys2Proof.Machine.execHpEnFall s
  | .pipRemovalRecord => Sys2Proof.Machine.execPipRemovalRecord s
  | .thermalCrit => Sys2Proof.Machine.execThermalCrit s
  | .xt32Qualified => Sys2Proof.Machine.execXt32Qualified s
  | .xt32QualifyTimeout => Sys2Proof.Machine.execXt32QualifyTimeout s
  | .xt32EdgeLoss => Sys2Proof.Machine.execXt32EdgeLoss s
  | .xoSettleExpiry => Sys2Proof.Machine.execXoSettleExpiry s
  | .xoLoss early => Sys2Proof.Machine.execXoLoss early s
  | .pllLock p => Sys2Proof.Machine.execPllLock p s
  | .pllLockTimeout p => Sys2Proof.Machine.execPllLockTimeout p s
  | .pllLossOfLock p => Sys2Proof.Machine.execPllLossOfLock p s
  | .pllIdleStop p => Sys2Proof.Machine.execPllIdleStop p s
  | .pllRetry t => Sys2Proof.Machine.execPllRetry t s
  | .clockGate b => Sys2Proof.Machine.execClockGate b s
  | .vtcLocked => Sys2Proof.Machine.execVtcLocked s
  | .vtcSourceLoss => Sys2Proof.Machine.execVtcSourceLoss s
  | .vtcHoldExpiry => Sys2Proof.Machine.execVtcHoldExpiry s
  | .vtcReacquire => Sys2Proof.Machine.execVtcReacquire s
  | .pipBoot => Sys2Proof.Machine.execPipBoot s
  | .hazelStart => Sys2Proof.Machine.execHazelStart s
  | .hazelImageStart => Sys2Proof.Machine.execHazelImageStart s
  | .pacLoad => Sys2Proof.Machine.execPacLoad s
  | .pacRequest r cls => Sys2Proof.Machine.execPacRequest r cls s
  | .pacGrant => Sys2Proof.Machine.execPacGrant s
  | .pacRelease r => Sys2Proof.Machine.execPacRelease r s
  | .pacWithdraw r => Sys2Proof.Machine.execPacWithdraw r s
  | .pacTimeout r => Sys2Proof.Machine.execPacTimeout r s
  | .pacThermalSample tj => Sys2Proof.Machine.execPacThermalSample tj s
  | .clampSet => Sys2Proof.Machine.execClampSet s
  | .pacBudgetWrite r v => Sys2Proof.Machine.execPacBudgetWrite r v s
  | .linkTrainingL0 => Sys2Proof.Machine.execLinkTrainingL0 s
  | .linkDown => Sys2Proof.Machine.execLinkDown s
  | .hotReset => Sys2Proof.Machine.execHotReset s
  | .perstNAssert => Sys2Proof.Machine.execPerstNAssert s
  | .perstNDeassert sris => Sys2Proof.Machine.execPerstNDeassert sris s
  | .flrInitiate => Sys2Proof.Machine.execFlrInitiate s
  | .flrComplete => Sys2Proof.Machine.execFlrComplete s
  | .configRequest a => Sys2Proof.Machine.execConfigRequest a s
  | .d3hotEntry => Sys2Proof.Machine.execD3hotEntry s
  | .d0Return => Sys2Proof.Machine.execD0Return s
  | .bar2Read offset len => Sys2Proof.Machine.execBar2Read offset len s
  | .bar2Write offset data ep => Sys2Proof.Machine.execBar2Write offset data ep s
  | .bar2WakeTimeout n => Sys2Proof.Machine.execBar2WakeTimeout n s
  | .upstreamCompletion tag st data => Sys2Proof.Machine.execUpstreamCompletion tag st data s
  | .completionTimeout tag => Sys2Proof.Machine.execCompletionTimeout tag s
  | .tlpReplay rollover => Sys2Proof.Machine.execTlpReplay rollover s
  | .msixUnmask v => Sys2Proof.Machine.execMsixUnmask v s
  | .mbxDataLoWrite m v => Sys2Proof.Machine.execMbxDataLoWrite m v s
  | .mbxDataHiWrite m hi lo => Sys2Proof.Machine.execMbxDataHiWrite m hi lo s
  | .mbxDataHiRead m => Sys2Proof.Machine.execMbxDataHiRead m s
  | .fwServicePass => Sys2Proof.Machine.execFwServicePass s
  | .icuEdgeRequest src => Sys2Proof.Machine.execIcuEdgeRequest src s
  | .icuLevelChange src level => Sys2Proof.Machine.execIcuLevelChange src level s
  | .icuClaim t v => Sys2Proof.Machine.execIcuClaim t v s
  | .icuComplete t id => Sys2Proof.Machine.execIcuComplete t id s
  | .icuPendWrite t k v => Sys2Proof.Machine.execIcuPendWrite t k v s
  | .icuSwiSet t v => Sys2Proof.Machine.execIcuSwiSet t v s
  | .waitForInterrupt t coincident => Sys2Proof.Machine.execWaitForInterrupt t coincident s
  | .coreWake t => Sys2Proof.Machine.execCoreWake t s
  | .identify q => Sys2Proof.Machine.execIdentify q s
  | .getVersions q => Sys2Proof.Machine.execGetVersions q s
  | .nop q => Sys2Proof.Machine.execNop q s
  | .queueConfig q => Sys2Proof.Machine.execQueueConfig q s
  | .queueStatus q => Sys2Proof.Machine.execQueueStatus q s
  | .powerState q => Sys2Proof.Machine.execPowerState q s
  | .reset q => Sys2Proof.Machine.execReset q s
  | .deferredReset => Sys2Proof.Machine.execDeferredReset s
  | .sessionOpen q => Sys2Proof.Machine.execSessionOpen q s
  | .sessionClose q => Sys2Proof.Machine.execSessionClose q s
  | .sessionQuery q => Sys2Proof.Machine.execSessionQuery q s
  | .sessionSet q => Sys2Proof.Machine.execSessionSet q s
  | .sessionSize q => Sys2Proof.Machine.execSessionSize q s
  | .podLoad q => Sys2Proof.Machine.execPodLoad q s
  | .podUnload q => Sys2Proof.Machine.execPodUnload q s
  | .podStore q => Sys2Proof.Machine.execPodStore q s
  | .podDelete q => Sys2Proof.Machine.execPodDelete q s
  | .jobEncode q => Sys2Proof.Machine.execJobEncode q s
  | .jobDecode q => Sys2Proof.Machine.execJobDecode q s
  | .jobLoopback q => Sys2Proof.Machine.execJobLoopback q s
  | .jobMeasure q => Sys2Proof.Machine.execJobMeasure q s
  | .jobCancel q => Sys2Proof.Machine.execJobCancel q s
  | .portConfig q => Sys2Proof.Machine.execPortConfig q s
  | .portQuery q => Sys2Proof.Machine.execPortQuery q s
  | .flowAdd q => Sys2Proof.Machine.execFlowAdd q s
  | .flowRemove q => Sys2Proof.Machine.execFlowRemove q s
  | .flowBind q => Sys2Proof.Machine.execFlowBind q s
  | .schedConfig q => Sys2Proof.Machine.execSchedConfig q s
  | .vtcConfig q => Sys2Proof.Machine.execVtcConfig q s
  | .ptpConfig q => Sys2Proof.Machine.execPtpConfig q s
  | .mcast q => Sys2Proof.Machine.execMcast q s
  | .memCopy q => Sys2Proof.Machine.execMemCopy q s
  | .memFill q => Sys2Proof.Machine.execMemFill q s
  | .memPin q => Sys2Proof.Machine.execMemPin q s
  | .userRead q => Sys2Proof.Machine.execUserRead q s
  | .userWrite q => Sys2Proof.Machine.execUserWrite q s
  | .scrubConfig q => Sys2Proof.Machine.execScrubConfig q s
  | .counterRead q => Sys2Proof.Machine.execCounterRead q s
  | .counterClear q => Sys2Proof.Machine.execCounterClear q s
  | .faultConfig q => Sys2Proof.Machine.execFaultConfig q s
  | .faultLogRead q => Sys2Proof.Machine.execFaultLogRead q s
  | .faultInject q => Sys2Proof.Machine.execFaultInject q s
  | .faultClear q => Sys2Proof.Machine.execFaultClear q s
  | .selftest q => Sys2Proof.Machine.execSelftest q s
  | .fwStage q => Sys2Proof.Machine.execFwStage q s
  | .fwCommit q => Sys2Proof.Machine.execFwCommit q s
  | .commandTimeout q seq => Sys2Proof.Machine.execCommandTimeout q seq s
  | .pipeJobStart n => Sys2Proof.Machine.execPipeJobStart n s
  | .pipeJobEnd n session => Sys2Proof.Machine.execPipeJobEnd n session s
  | .pageFetchComplete n => Sys2Proof.Machine.execPageFetchComplete n s
  | .threadDeadlock n session => Sys2Proof.Machine.execThreadDeadlock n session s
  | .unitResultReturn r => Sys2Proof.Machine.execUnitResultReturn r s
  | .threadWaitRelease r => Sys2Proof.Machine.execThreadWaitRelease r s
  | .periodicSelftest n => Sys2Proof.Machine.execPeriodicSelftest n s
  | .pipeSelftestEnd n failCode => Sys2Proof.Machine.execPipeSelftestEnd n failCode s
  | .pipeSelftestAbort n => Sys2Proof.Machine.execPipeSelftestAbort n s
  | .selftestWaitExpired n => Sys2Proof.Machine.execSelftestWaitExpired n s
  | .memorySelftestEnd k failCode => Sys2Proof.Machine.execMemorySelftestEnd k failCode s
  | .add r => Sys2Proof.Machine.execAdd r s
  | .sub r => Sys2Proof.Machine.execSub r s
  | .mul r => Sys2Proof.Machine.execMul r s
  | .divu r => Sys2Proof.Machine.execDivu r s
  | .divs r => Sys2Proof.Machine.execDivs r s
  | .remu r => Sys2Proof.Machine.execRemu r s
  | .and r => Sys2Proof.Machine.execAnd r s
  | .or r => Sys2Proof.Machine.execOr r s
  | .xor r => Sys2Proof.Machine.execXor r s
  | .shl r => Sys2Proof.Machine.execShl r s
  | .shru r => Sys2Proof.Machine.execShru r s
  | .shrs r => Sys2Proof.Machine.execShrs r s
  | .min r => Sys2Proof.Machine.execMin r s
  | .max r => Sys2Proof.Machine.execMax r s
  | .mov r => Sys2Proof.Machine.execMov r s
  | .cmp r => Sys2Proof.Machine.execCmp r s
  | .tstb r => Sys2Proof.Machine.execTstb r s
  | .ext r => Sys2Proof.Machine.execExt r s
  | .ins r => Sys2Proof.Machine.execIns r s
  | .ldc r => Sys2Proof.Machine.execLdc r s
  | .clz r => Sys2Proof.Machine.execClz r s
  | .wlen r => Sys2Proof.Machine.execWlen r s
  | .sel r => Sys2Proof.Machine.execSel r s
  | .nopStep r => Sys2Proof.Machine.execNopStep r s
  | .br r => Sys2Proof.Machine.execBr r s
  | .brx r => Sys2Proof.Machine.execBrx r s
  | .call r => Sys2Proof.Machine.execCall r s
  | .ret r => Sys2Proof.Machine.execRet r s
  | .endStep r => Sys2Proof.Machine.execEndStep r s
  | .waitCnt r => Sys2Proof.Machine.execWaitCnt r s
  | .waitUnit r => Sys2Proof.Machine.execWaitUnit r s
  | .signal r => Sys2Proof.Machine.execSignal r s
  | .emit r => Sys2Proof.Machine.execEmit r s
  | .fetch r => Sys2Proof.Machine.execFetch r s
  | .list r => Sys2Proof.Machine.execList r s
  | .grid r => Sys2Proof.Machine.execGrid r s
  | .predict r => Sys2Proof.Machine.execPredict r s
  | .interp r => Sys2Proof.Machine.execInterp r s
  | .sad r => Sys2Proof.Machine.execSad r s
  | .sse r => Sys2Proof.Machine.execSse r s
  | .satd r => Sys2Proof.Machine.execSatd r s
  | .rate r => Sys2Proof.Machine.execRate r s
  | .fwdQ r => Sys2Proof.Machine.execFwdQ r s
  | .deqInv r => Sys2Proof.Machine.execDeqInv r s
  | .deblock r => Sys2Proof.Machine.execDeblock r s
  | .sao r => Sys2Proof.Machine.execSao r s
  | .alf r => Sys2Proof.Machine.execAlf r s
  | .cdef r => Sys2Proof.Machine.execCdef r s
  | .stats r => Sys2Proof.Machine.execStats r s
  | .encode r => Sys2Proof.Machine.execEncode r s
  | .decode r => Sys2Proof.Machine.execDecode r s
  | .init r => Sys2Proof.Machine.execInit r s
  | .flush r => Sys2Proof.Machine.execFlush r s
  | .startUnit r => Sys2Proof.Machine.execStartUnit r s
  | .endUnit r => Sys2Proof.Machine.execEndUnit r s
  | .raw r => Sys2Proof.Machine.execRaw r s
  | .inject r => Sys2Proof.Machine.execInject r s
  | .sseSums r => Sys2Proof.Machine.execSseSums r s
  | .ssimSums r => Sys2Proof.Machine.execSsimSums r s
  | .compare r => Sys2Proof.Machine.execCompare r s
  | .rcStep r => Sys2Proof.Machine.execRcStep r s
  | .hrdStep r => Sys2Proof.Machine.execHrdStep r s
  | .refAlloc r => Sys2Proof.Machine.execRefAlloc r s
  | .refFree r => Sys2Proof.Machine.execRefFree r s
  | .picOut r => Sys2Proof.Machine.execPicOut r s
  | .flowRead r => Sys2Proof.Machine.execFlowRead r s
  | .timeNow r => Sys2Proof.Machine.execTimeNow r s
  | .portFill r => Sys2Proof.Machine.execPortFill r s
  | .aruPartialWrite n => Sys2Proof.Machine.execAruPartialWrite n s
  | .aruReadIdxReread n => Sys2Proof.Machine.execAruReadIdxReread n s
  | .dramTrained n => Sys2Proof.Machine.execDramTrained n s
  | .dramInitDone n => Sys2Proof.Machine.execDramInitDone n s
  | .lfsInitDone => Sys2Proof.Machine.execLfsInitDone s
  | .dramSelfRefreshEntry n => Sys2Proof.Machine.execDramSelfRefreshEntry n s
  | .dramSelfRefreshExit n => Sys2Proof.Machine.execDramSelfRefreshExit n s
  | .dramReread word recovered => Sys2Proof.Machine.execDramReread word recovered s
  | .correctionWriteBack word => Sys2Proof.Machine.execCorrectionWriteBack word s
  | .scrubBurst => Sys2Proof.Machine.execScrubBurst s
  | .scrubCatchUp n => Sys2Proof.Machine.execScrubCatchUp n s
  | .mramBurstEnd => Sys2Proof.Machine.execMramBurstEnd s
  | .fabTimeout port => Sys2Proof.Machine.execFabTimeout port s
  | .start n => Sys2Proof.Machine.execStart n s
  | .abort n => Sys2Proof.Machine.execAbort n s
  | .clear n => Sys2Proof.Machine.execClear n s
  | .dmaEndOfCount n => Sys2Proof.Machine.execDmaEndOfCount n s
  | .dmaErrorStop n => Sys2Proof.Machine.execDmaErrorStop n s
  | .laneLock n => Sys2Proof.Machine.execLaneLock n s
  | .laneLockLoss n => Sys2Proof.Machine.execLaneLockLoss n s
  | .relockAttemptFailed n => Sys2Proof.Machine.execRelockAttemptFailed n s
  | .laneWatchdog n => Sys2Proof.Machine.execLaneWatchdog n s
  | .sdiLineTransmit n arrived frameStart line active => Sys2Proof.Machine.execSdiLineTransmit n arrived frameStart line active s
  | .sdiLineReceive n l => Sys2Proof.Machine.execSdiLineReceive n l s
  | .ancPacketReceive n p => Sys2Proof.Machine.execAncPacketReceive n p s
  | .ethFrameReceive n f => Sys2Proof.Machine.execEthFrameReceive n f s
  | .ethFrameTransmit n => Sys2Proof.Machine.execEthFrameTransmit n s
  | .egressFetch n => Sys2Proof.Machine.execEgressFetch n s
  | .linkFault n remote => Sys2Proof.Machine.execLinkFault n remote s
  | .ptpLoss => Sys2Proof.Machine.execPtpLoss s
  | .runSet => Sys2Proof.Machine.execRunSet s
  | .runClr => Sys2Proof.Machine.execRunClr s
  | .step => Sys2Proof.Machine.execStep s
  | .lossSet => Sys2Proof.Machine.execLossSet s
  | .lossClr => Sys2Proof.Machine.execLossClr s
  | .lockSet => Sys2Proof.Machine.execLockSet s
  | .lockClr => Sys2Proof.Machine.execLockClr s
  | .ptpNsRead p addr => Sys2Proof.Machine.execPtpNsRead p addr s
  | .ptpTsFifoPop => Sys2Proof.Machine.execPtpTsFifoPop s
  | .ptpTarget => Sys2Proof.Machine.execPtpTarget s
  | .ppsIn => Sys2Proof.Machine.execPpsIn s
  | .fsyncIn => Sys2Proof.Machine.execFsyncIn s
  | .ppsOut rising => Sys2Proof.Machine.execPpsOut rising s
  | .fsyncOut rising => Sys2Proof.Machine.execFsyncOut rising s
  | .flowEntryAgeOut e => Sys2Proof.Machine.execFlowEntryAgeOut e s
  | .captureFlush n => Sys2Proof.Machine.execCaptureFlush n s
  | .packetiserResume flow => Sys2Proof.Machine.execPacketiserResume flow s
  | .eventFifoRead k => Sys2Proof.Machine.execEventFifoRead k s
  | .faultReport src detail => Sys2Proof.Machine.execFaultReport src detail s
  | .conditionEnd src => Sys2Proof.Machine.execConditionEnd src s
  | .quietExpiry src => Sys2Proof.Machine.execQuietExpiry src s
  | .fltActiveClear src => Sys2Proof.Machine.execFltActiveClear src s
  | .causeReopen => Sys2Proof.Machine.execCauseReopen s
  | .comparatorProof pairB detected => Sys2Proof.Machine.execComparatorProof pairB detected s
  | .hazelWdog pairB => Sys2Proof.Machine.execHazelWdog pairB s
  | .pipWdog => Sys2Proof.Machine.execPipWdog s
  | .logReinit => Sys2Proof.Machine.execLogReinit s
  | .lrClear => Sys2Proof.Machine.execLrClear s
  | .errForceSet => Sys2Proof.Machine.execErrForceSet s
  | .errForceClr => Sys2Proof.Machine.execErrForceClr s
  | .persistentEntryWrite => Sys2Proof.Machine.execPersistentEntryWrite s
  | .smbusWrite addr v pec => Sys2Proof.Machine.execSmbusWrite addr v pec s
  | .smbusRead addr => Sys2Proof.Machine.execSmbusRead addr s
  | .smbusClockTimeout => Sys2Proof.Machine.execSmbusClockTimeout s
  | .alertResponse => Sys2Proof.Machine.execAlertResponse s
  | .cfgKey v => Sys2Proof.Machine.execCfgKey v s
  | .stage => Sys2Proof.Machine.execStage s
  | .commit => Sys2Proof.Machine.execCommit s
  | .cfgCommitEnd ok => Sys2Proof.Machine.execCfgCommitEnd ok s
  | .read => Sys2Proof.Machine.execRead s
  | .discard => Sys2Proof.Machine.execDiscard s
  | .jtagUnlock t => Sys2Proof.Machine.execJtagUnlock t s
  | .jtagTokenDecision => Sys2Proof.Machine.execJtagTokenDecision s
  | .mramBankDReady => Sys2Proof.Machine.execMramBankDReady s
  | .linkFaultCleared n remote => Sys2Proof.Machine.execLinkFaultCleared n remote s

end Sys2Proof.Machine
end

