-- ==== Sys2Proof/Safety.lean ====
section
/-! DEFINITION. The terms in which claims are stated. What every run keeps, whatever the commands: memory and the check
bits in their canonical form. What a command completes with, which parts of the device it can have changed, and when a
thread's step can be issued. -/

namespace Sys2Proof.Machine

/-- Memory holds its canonical form: addresses rise strictly and no listed byte is 0 (log 7). -/
def Memory.wf (m : List Host.Cell) : Bool := Table.wf 0 m

/-- Memory and the marks of its words are canonical. -/
def State.memOk (s : State) : Bool := Memory.wf s.mem && Table.wf Mark.clean s.marks

/-- The command completes, and `P` holds of the state it answers. -/
def Does (c : Instr) (s : State) (P : State → Prop) : Prop := ∃ t, exec c s = .next t ∧ P t

/-- The command's own effect makes `P` true of a state from which firmware then carries on its commands and posts what
has ended (06 R346). -/
def Leads (c : Instr) (s : State) (P : State → Prop) : Prop := ∃ u, exec c s = .next u.progress.settle ∧ P u

/-- From a state `u` the entry at place `i` of the job table becomes `e`, and Hazel posts what can be posted (06 R336, R346). -/
def Posts (c : Instr) (s u : State) (i : Nat) (e : Cmd) : Prop := exec c s = .next (u.setJob i e).post.settle

/-- As `Posts`, after which firmware carries on the commands and self-tests that the change lets go on. -/
def PostsOn (c : Instr) (s u : State) (i : Nat) (e : Cmd) : Prop := exec c s = .next (u.setJob i e).post.progress.settle

/-- Firmware starts command `c` of queue `k`, at place `i` of the job table, and its shape `h` passes the body test, checks
8 and 9 and the tests of the stacks it touches (06 R335, R345). -/
def State.Serves (s : State) (k op i : Nat) (c : Cmd) (h : Shape) : Prop :=
  s.fwUp = true ∧ s.starts k op = some i ∧ s.hazel.jobs.getD i {} = c ∧ c.bodyPoison = 0 ∧ c.badField h = none
    ∧ h.badAddr = none ∧ s.deadStack h = none ∧ s.sleeping h = none

/-- A report of the source resets no block: its reaction mask names neither a block reset nor an NMI (15 R789, R790). -/
def State.mildly (s : State) (src : Nat) : Prop := s.reactMask src &&& 6 = 0

/-- The words of `n` bytes from `a` have clean check bits and hold specified data (12 R615, R619). -/
def State.Plain (s : State) (a n : Nat) : Prop := ∀ i, i < n → s.mark ((a + i) / 8) = .clean ∧ s.unspecified (a + i) = false

/-- The bytes of memory from `a` are `l`, and every other byte is the same in both states. -/
def StoredAt (a : Nat) (l : List Byte) (s t : State) : Prop :=
  (∀ i, i < l.length → Table.get 0 t.mem (a + i) = l.getD i 0)
    ∧ ∀ x, x < a ∨ a + l.length ≤ x → Table.get 0 t.mem x = Table.get 0 s.mem x

/-- No session runs a job. -/
def State.NoRun (s : State) : Prop := ∀ k, (s.session k).run = none

/-- What every chip reset clears (01 R57): PLLs, VTC, PAC, mailboxes, Hazel, the stacks, the channels, the pipes, the
lanes, the flows, PTP and RDY_FELL hold their reset values. -/
def Cleared (t : State) : Prop :=
  t.plls = [] ∧ t.vtc = {} ∧ t.pac = {} ∧ t.mbx = [] ∧ t.hazel = {} ∧ t.dram = [] ∧ t.dma = [] ∧ t.pipes = [] ∧ t.lanes = []
    ∧ t.flows = [] ∧ t.ptp = {} ∧ t.fell = 0

/-! ### Frames -/

/-- The parts of the device: every field of State but the queue, the answer and what leaves the device. -/
inductive Part where
  | time | free | ready | husk | plls | vtc | pac | pcie | mbx | icu | flt | board | bankM | latches | hazel | memory | dram
  | lfs | scrub | mram | fab | dma | pipes | ptp | lanes | flows | entries | sched | events
  deriving DecidableEq, Repr

/-- The Husk but for whether Pip runs (02 R67): that follows from the rest after every command. -/
def Husk.kept (h : Husk) : Husk := { h with pipRun := false, power := if h.power = .awake then .idle else h.power }

/-- A target of the interrupt controller but for its line and its NOTIFIED state, which follow from the rest (05 R291). -/
def IcuTgt.kept (t : IcuTgt) : IcuTgt := { t with line := false, notified := false }

/-- The interrupt controller but for levels, lines and vectors, which follow from the rest (05 R289 to R292). -/
def Icu.kept (u : Icu) : Icu :=
  { u with level := 0, vlines := 0, vnotified := 0, hazelA := u.hazelA.kept, hazelB := u.hazelB.kept, pip := u.pip.kept
           host := u.host.kept }

/-- The endpoint but for its pending bits, which follow the vectors (04 R231). -/
def Pcie.kept (p : Pcie) : Pcie := { p with pba := 0 }

/-- The part is the same in both states. The board and MRAM are compared only while no configuration command waits for
Pip: a waiting one is carried out as soon as Pip runs (17 R906). -/
def Part.same (p : Part) (s t : State) : Prop :=
  match p with
  | .time => t.now = s.now
  | .free => t.free = s.free
  | .ready => t.rdy = s.rdy ∧ t.ever = s.ever ∧ t.fell = s.fell
  | .husk => t.husk.kept = s.husk.kept
  | .plls => t.plls = s.plls
  | .vtc => t.vtc = s.vtc
  | .pac => t.pac = s.pac
  | .pcie => t.pcie.kept = s.pcie.kept
  | .mbx => t.mbx = s.mbx ∧ t.rstCnt = s.rstCnt ∧ t.mbxClosed = s.mbxClosed
  | .icu => t.icu.kept = s.icu.kept
  | .flt => t.flt = s.flt
  | .board => s.board.cfgHeld = 0 → t.board = s.board
  | .bankM => t.bankM = s.bankM
  | .latches => t.latches = s.latches
  | .hazel => t.hazel = s.hazel
  | .memory => t.mem = s.mem ∧ t.marks = s.marks
  | .dram => t.dram = s.dram
  | .lfs => t.lfs = s.lfs
  | .scrub => t.scrub = s.scrub
  | .mram => s.board.cfgHeld = 0 → t.mram = s.mram
  | .fab => t.fab = s.fab
  | .dma => t.dma = s.dma
  | .pipes => t.pipes = s.pipes
  | .ptp => t.ptp = s.ptp
  | .lanes => t.lanes = s.lanes
  | .flows => t.flows = s.flows
  | .entries => t.entries = s.entries
  | .sched => t.sched = s.sched
  | .events => t.events = s.events

/-- From `s` to `t` only parts of `l` have changed; the waiting commands are as they were. -/
def Only (l : List Part) (s t : State) : Prop := t.pending = s.pending ∧ ∀ p, p ∉ l → p.same s t

/-! ### Steps of threads -/

/-- The command ends with firmware carrying on what it can from the state `u` (06 R346). -/
def Carries (c : Instr) (s u : State) : Prop := exec c s = .next u.progress.settle

/-- PTP time is in its format: a fraction of a nanosecond, nanoseconds of a second, 48 bits of seconds. -/
def Ptp.legal (p : Ptp) : Prop := p.frac < 256000000000 ∧ p.ns < 1000000000 ∧ p.sec < 2 ^ 48

/-- The next step of a thread. -/
def State.stepOf (s : State) (x : Thread) : Nat := (s.pod x.handle).step x.handle x.pc

/-- Thread `x` at place `r` can issue its next step `w` now: it is active and not blocked, its job runs and the core PLL is locked, no
unit still owes it an operand, the step's page is resident, and it may write DST (07 R405, R411; 08 R468). -/
def State.Steps (s : State) (r : PipeRef) (x : Thread) (w : Nat) : Prop :=
  x.active = true ∧ x.block = .free
    ∧ (s.session x.session).run ≠ none ∧ s.pll 2 = .locked ∧ x.waits w = false
    ∧ (s.pipe r.pipe).resident x.handle (x.pc / 256) = true ∧ s.notOwner r.pipe x (stDst w) = false

/-- The Pod has a step after the thread's next one (08 R473). -/
def State.More (s : State) (x : Thread) : Prop := x.pc + 1 < podSteps (s.image x)

/-- A pipe but for its threads once thread `t`, which was `x`, has issued a step: the step is counted, its page and its
thread become the latest, and the pipe scalars are `l`. -/
def Pipe.stepped (p : Pipe) (t : Nat) (x : Thread) (l : List (Nat × Nat)) : Pipe :=
  { p.touchPage x.handle (x.pc / 256) with threads := [], steps := satAdd 64 p.steps 1, lastIssued := t, scalars := l }

/-- A step has been issued at `r`, and its thread is now `y`; the pipe scalars are `l`, and every other thread and pipe is
as it was. -/
def Stepped (s t : State) (r : PipeRef) (y : Thread) (l : List (Nat × Nat)) : Prop :=
  t.thread r.pipe r.thread = y ∧ (∀ k, k ≠ r.thread.val → t.thread r.pipe k = s.thread r.pipe k)
    ∧ { t.pipe r.pipe with threads := [] } = (s.pipe r.pipe).stepped r.thread (s.thread r.pipe r.thread) l
    ∧ ∀ k, k ≠ r.pipe.val → t.pipe k = s.pipe k

/-- The pipe scalars of pipe `n` once thread `x` has written `v` to operand code `d`. -/
def State.scalarsOf (s : State) (n : Nat) (x : Thread) (d v : Nat) : List (Nat × Nat) :=
  if 256 ≤ d then Table.set 0 (s.pipe n).scalars (scalarKey x.session x.dec (d - 256)) v else (s.pipe n).scalars

/-- The thread scalars once `v` has been written to operand code `d`. -/
def Thread.scalarsOf (x : Thread) (d v : Nat) : List (Nat × Nat) := if d < 32 then Table.set 0 x.s d v else x.s

/-- Step `w` of thread `x` writes `v` to its DST, which may be a thread scalar, a pipe scalar or ZERO, leaves the flags of
`y`, and the thread goes on to the step that follows. -/
def Yields (c : Instr) (s : State) (r : PipeRef) (x : Thread) (w : Nat) (v : W) (y : Thread) : Prop :=
  Does c s fun t =>
    Stepped s t r { y with s := x.scalarsOf (stDst w) v.toNat, pc := x.pc + 1 } (s.scalarsOf r.pipe x (stDst w) v.toNat)
      ∧ Only [.pipes, .free] s t

/-- The job at place `i` that thread `x` serves ends with `status` because the thread faults: DETAIL names the fault, the step
and the thread (07 R413). -/
def Faults (c : Instr) (s : State) (r : PipeRef) (x : Thread) (i code step : Nat) : Prop :=
  let u := s.begin.issued r.pipe r.thread x
  Carries c s ((u.setPipe r.pipe { u.pipe r.pipe with faultUnserved := true, faults := satAdd 16 (u.pipe r.pipe).faults 1 }).endJobAt i
    0x0305 (code * 2 ^ 24 + step % 65536 * 2 ^ 8 + r.pipe * 2 ^ 6 + x.tid % 64) 0)

/-- The job at place `i` that thread `x` serves ends because its step breaks the sandbox rule `code`, which is also reported
(07 R413; 08 R468, R469). -/
def Violates (c : Instr) (s : State) (r : PipeRef) (x : Thread) (i code : Nat) : Prop :=
  Carries c s (((s.begin.setPipe r.pipe { s.pipe r.pipe with faultUnserved := true }).report 33 r.pipe).endJobAt i 0x0403
    (code * 2 ^ 24 + x.pc % 65536 * 2 ^ 8 + r.pipe * 2 ^ 6 + x.tid % 64) 0)

/-- Ranges of memory that a pipe can use now: in stacks that are ready and awake, their words with clean check bits. -/
def State.Usable (s : State) (l : List (Nat × Nat)) : Prop :=
  ∀ e ∈ l, s.Plain e.1 e.2 ∧ (e.1 < 2 ^ 34 → s.dramReady e.1 e.2 = true ∧ s.asleep (e.1 / 2 ^ 33) = false)

/-- Thread `x` can issue step `w`, which asks function `fn` of `unit` for `q`; its operands are in range, its accesses keep to
the sandbox, and memory serves them (08 R468, R476 to R478). -/
def State.Asks (s : State) (r : PipeRef) (x : Thread) (w unit fn : Nat) (q : UnitAsk) : Prop :=
  s.Steps r x w ∧ s.More x ∧ stOp w = 0x50 ∧ stUnit w = unit ∧ stFn w = fn ∧ q.bad = false
    ∧ (∀ a ∈ q.acc, s.accessBad x unit a = none) ∧ s.Usable (s.askReads r.pipe x q ++ s.askWrites r.pipe x w q)

/-- The result word of the thread's newest request. -/
def newestResult (x : Thread) : Nat := match x.reqs.getLast? with | some e => e.result | none => 0

/-- The request is taken: it is outstanding with its unit, function, DST and result, which has no POISON, has RANGE only where
`q` allows it, and whose low 62 bits are what `q` gives; memory changes only where `q` writes; the thread goes on. -/
def Issues (c : Instr) (s : State) (r : PipeRef) (x : Thread) (w : Nat) (q : UnitAsk) : Prop :=
  Does c s fun t => ∀ v, v = newestResult (t.thread r.pipe r.thread) →
    Stepped s t r { x with reqs := x.reqs ++ [⟨stUnit w, stFn w, stDst w, v⟩], pc := x.pc + 1 } (s.pipe r.pipe).scalars
      ∧ bitAt v 62 = false ∧ (q.range = false → bitAt v 63 = false) ∧ (∀ k, q.result = some k → v % 2 ^ 62 = k % 2 ^ 62)
      ∧ (∀ a, (∀ e ∈ s.askWrites r.pipe x w q, a < e.1 ∨ e.1 + e.2 ≤ a) → Table.get 0 t.mem a = Table.get 0 s.mem a)
      ∧ Only [.pipes, .free, .memory, .fab, .dram] s t

end Sys2Proof.Machine
end

