-- ==== Sys2Proof/Certificates/Slice0/Obligations.lean ====
section
/-! DEFINITION. What the provers are asked to prove of the model, in the terms of Safety. The clauses on one command lie in one
statement with those on the commands of its kind. -/

open Sys2Proof Sys2Proof.Machine

/-- 02 R71, R72, R117, R120, R121; 04 R243. 02 R66, R67, R116, R129. -/
def Obligations.TheHuskSleepsAndWakes : Prop :=
  (∀ s : State,
  (s.huskUp = true → Does .pipTimer s fun t => t.husk.timerExpired = true ∧ Only [.husk] s t) ∧
  (∀ rising, s.husk.edgeSelected rising = false →
    Does (.wakeInEdge rising) s fun t => t.husk.wakeIn = rising ∧ t.husk.wakeCause = s.husk.wakeCause ∧ Only [.husk] s t) ∧
  (s.husk.power = .dormant →
    (∀ rising, s.husk.edgeSelected rising = true →
      Does (.wakeInEdge rising) s fun t =>
        t.husk.wakeIn = rising ∧ t.husk.wakeCause = s.husk.wakeCause ||| 1 ∧ t.husk.power ≠ .dormant ∧ Only [.husk] s t) ∧
    (s.husk.hpEn = false → s.husk.wakeEnabled .hpEn = true →
      Does .hpEnRise s fun t => t.husk.hpEn = true ∧ t.husk.gateClosed = false ∧ t.husk.wakeCause = s.husk.wakeCause ||| 2 ∧
        t.husk.power ≠ .dormant ∧ Only [.husk] s t) ∧
    (s.husk.hpEn = false → s.husk.wakeEnabled .hpEn = false →
      Does .hpEnRise s fun t => t.husk.hpEn = true ∧ t.husk.gateClosed = false ∧ t.husk.power = .dormant ∧ Only [.husk] s t) ∧
    (s.husk.wakeEnabled .smbus = true →
      Does .smbusWakeMatch s fun t => t.answer = .nack ∧ t.husk.wakeCause = s.husk.wakeCause ||| 4 ∧ t.husk.power ≠ .dormant ∧
        Only [.husk] s t) ∧
    (s.husk.alarm ≠ 0 → s.husk.wakeEnabled .alarm = true →
      Does .alarm s fun t => t.husk.alarm = 0 ∧ t.husk.wakeCause = s.husk.wakeCause ||| 8 ∧ t.husk.power ≠ .dormant ∧
        Only [.husk, .time, .ptp] s t)) ∧
  (s.huskUp = true → Does .smbusWakeMatch s fun t => t.answer = .ack ∧ Only [] s t)) ∧
  (∀ s : State,
  (s.husk.power = .idle → s.husk.wakeCause = 0 → s.husk.goDormant = true ∨ bitsOf s.husk.cfg 16 16 ≠ 0 →
    (Does (.dormantEntry none) s fun t => t.husk.power = .dormant ∧ t.husk.goDormant = false ∧ t.ready 1 = false ∧
      Only [.husk, .ready] s t) ∧
    (∀ w, s.husk.pipMode = .boot →
      Does (.dormantEntry (some w)) s fun t => t.husk.power ≠ .dormant ∧ t.husk.goDormant = false ∧
        t.husk.wakeCause &&& 16 = 16 ∧ Only [.husk] s t)) ∧
  (s.husk.power ≠ .idle → ∀ w, Does (.dormantEntry w) s fun t => Only [] s t) ∧
  (s.pipServes = true → s.husk.pipRun = true →
    Does .pipStop s fun t => t.husk.wakeCause = s.husk.wakeCause &&& ~~~s.husk.causeSeen ∧ t.husk.causeSeen = 0 ∧
      t.husk.ctrlWritten = false ∧ t.husk.timerExpired = false ∧ Only [.husk] s t))

/-- 02 R70, R72, R80, R82, R116: what Pip does on a write of HSK_CTRL while no wake cause, request or removal stands. 02 R70:
Hazel's answer, or 100 ms without one, starts the removal of the rails. -/
def Obligations.HuskRequestsAndMainOff : Prop :=
  (∀ s : State,
  s.pipServes = true → s.husk.ctrl = 0 → s.husk.wakeCause = 0 → s.husk.keptOn = false → s.husk.removal = none →
  s.husk.mainOff = false →
  (s.husk.hpEn = true → s.heldHot = false → s.husk.enMain = false → s.husk.power ≠ .mainOn → s.husk.pgMain = false →
    Does .mainOn s fun t => t.husk.enMain = true ∧ t.husk.ctrl = 0 ∧ Only [.husk] s t) ∧
  (s.husk.hpEn = false →
    Does .mainOn s fun t => t.husk.enMain = s.husk.enMain ∧ t.husk.ctrl = 0 ∧ Only [.husk] s t) ∧
  (s.husk.power = .mainOn → s.hazel.mode = .stopped →
    Does .mainOff s fun t => t.husk.mainOff = true ∧ t.husk.mainOffAt = s.now ∧ Only [.husk] s t) ∧
  (s.husk.power ≠ .mainOn → s.husk.enMain = false →
    Does .goDormant s fun t => t.husk.goDormant = true ∧ t.husk.enMain = false ∧ Only [.husk] s t)) ∧
  (∀ s : State, s.husk.mainOff = true →
  (Does .mainOffAnswer s fun t => t.husk.removal = some .orderly ∧ t.husk.mainOff = false ∧ t.husk.srdDue = false ∧
    Only [.husk] s t) ∧
  (Does .mainOffTimeout s fun t => t.husk.removal = some .orderly ∧ t.husk.mainOff = false ∧ t.husk.srdDue = false ∧
    s.husk.mainOffAt + 100000000 ≤ t.now ∧ Only [.husk, .time, .ptp] s t))

/-- 02 R66, R80, R86, R869: a power-good input that rises. -/
def Obligations.PowerGoodRaisesTheNextRail : Prop := ∀ s : State,
  (∀ r, s.husk.en r = false →
    Does (.pgRise r) s fun t => t.husk.kept = (s.husk.setPg r true).kept ∧ Only [.husk] s t) ∧
  (s.husk.power ≠ .held → s.husk.removal = none →
    (s.husk.enMain = true → s.husk.pgMain = false →
      Does (.pgRise .main) s fun t => t.husk.pgMain = true ∧ t.husk.power = .mainOn ∧ t.husk.xoOn = true ∧ t.husk.srdDue = true ∧
        t.husk.settled = false ∧ t.husk.settleDue = s.now + ticksNs s.husk.xoSettle ∧ Only [.husk] s t) ∧
    (s.husk.enDram = true → s.husk.pgDram = false →
      Does (.pgRise .dram) s fun t => t.husk.pgDram = true ∧
        (∀ n, n < 2 → (t.stack n).mode = if (s.stack n).mode = .off ∧ s.pac.held.contains ⟨.dramWake, n⟩ then .training else (s.stack n).mode) ∧
        Only [.husk, .dram] s t) ∧
    (s.husk.srdDue = true → s.husk.power = .mainOn → s.pcie.perstN = false →
      Does .enSrdRaise s fun t => t.husk.enSrd = true ∧ t.husk.srdDue = false ∧ Only [.husk] s t))

/-- 02 R83, R136; 04 R243: HP_EN falls, and a power-good input falls with its enable low. -/
def Obligations.EnableAndPowerGoodFalls : Prop := ∀ s : State,
  (s.husk.hpEn = true →
    Does .hpEnFall s fun t => t.husk.hpEn = false ∧ t.husk.gateClosed = true ∧ t.husk.removalDue = true ∧ t.husk.hpFellAt = s.now ∧
      t.husk.keptOn = false ∧
      t.husk.removal = (if (s.husk.enMain || s.husk.enSrd || s.husk.enDram) && s.husk.removal != some .thermal then some .hpFall
        else s.husk.removal) ∧ Only [.husk] s t) ∧
  (∀ r, s.husk.removal = none → s.husk.en r = false →
    Does (.pgFall r) s fun t => t.husk.kept = (s.husk.setPg r false).kept ∧ Only [.husk] s t) ∧
  (s.husk.removal ≠ none → s.husk.enDram = true →
    Does .railEnableLower s fun t => t.husk.enDram = false ∧ (t.stack 0).mode = .off ∧ (t.stack 1).mode = .off ∧
      t.ready 6 = false ∧ t.ready 7 = false ∧ (∀ a, 2 ^ 34 ≤ a → Table.get 0 t.mem a = Table.get 0 s.mem a) ∧
      Only [.husk, .dram, .memory, .pac, .ready] s t) ∧
  (s.husk.removal ≠ none → s.husk.enDram = false → s.husk.enSrd = false → s.husk.enMain = false → s.husk.pipMode = .boot →
    Does .railEnableLower s fun t => t.husk.removal = none ∧ Only [.husk] s t)

/-- 01 R52, R57; 02 R66, R925. Power is lost and comes back. -/
def Obligations.PowerLossAndPowerOn : Prop := ∀ s : State,
  (Does .vaonFall s fun t => t.husk.power = .held ∧ t.husk.vaon = false ∧ t.rdy = 0 ∧ Cleared t ∧
    (∀ a, inBankD a = true → Table.get 0 t.mem a = Table.get 0 s.mem a) ∧ t.bankM.items = s.bankM.items ∧
    t.pending = s.pending) ∧
  (s.husk.power = .held → ∀ strap hpEn wakeIn,
    Does (.powerOnResetRelease strap hpEn wakeIn) s fun t =>
      t.husk.power = .awake ∧ t.husk.rstCause = .por ∧ t.husk.pipMode = .boot ∧ t.husk.strap = strap.val ∧ t.husk.hpEn = hpEn ∧
        t.husk.wakeIn = wakeIn ∧ t.rdy = rdyBit 0 ∧ t.ever = rdyBit 0 ∧ t.now = s.now + ticksNs 64 ∧ Cleared t) ∧
  (s.husk.power ≠ .held → ∀ strap hpEn wakeIn, Does (.powerOnResetRelease strap hpEn wakeIn) s fun t => Only [] s t)

/-- 01 R52, R57; 02 R83, R85, R131, R137; 15 R789. Every cause of a chip reset records itself and clears the device. -/
def Obligations.ChipResetsRecordTheirCause : Prop := ∀ s : State,
  (∀ c src, s.husk.resetDue = some (c, src) →
    Does .chipReset s fun t => t.husk.rstCause = c ∧ t.husk.pipMode = .boot ∧ Cleared t ∧
      t.husk.power = (if s.mainOn then .mainOn else .awake) ∧
      t.rdy = if s.mainOn && s.ready 2 then rdyBit 0 ||| rdyBit 2 ||| rdyBit 14 ||| rdyBit 15 else rdyBit 0) ∧
  (s.husk.enMain = true →
    Does .thermalCrit s fun t => t.husk.rstCause = (if s.husk.hpEn then .thermal else .hpRemoval) ∧ t.husk.enMain = false ∧
      t.husk.enSrd = false ∧ t.husk.enDram = false ∧ t.husk.thermalHold = true ∧ t.rdy = rdyBit 0 ∧ Cleared t) ∧
  (s.husk.power ≠ .held → s.husk.removal = none → ∀ r, s.husk.en r = true → s.husk.pg r = true →
    Does (.pgFall r) s fun t => t.husk.rstCause = .mainLoss ∧ t.husk.enMain = false ∧ t.husk.enSrd = false ∧
      t.husk.enDram = false ∧ t.rdy = rdyBit 0 ∧ Cleared t) ∧
  (∀ r, s.husk.removal = some r → s.husk.enDram = false → s.husk.enSrd = false → s.husk.enMain = true → s.mainOn = true →
    s.husk.pgMain = true →
    Does .railEnableLower s fun t => t.husk.rstCause = r.cause ∧ t.husk.enMain = false ∧ t.rdy = rdyBit 0 ∧ Cleared t) ∧
  (s.ready 2 = true → s.mainOn = true → satAdd 4 s.husk.earlyCount 1 < 3 →
    Does (.xoLoss true) s fun t => t.husk.rstCause = .fault ∧ t.ready 2 = false ∧ t.husk.power = .mainOn ∧ Cleared t)

/-- 01 R57; 02 R139, R920; 05 R325; 06 R384. What a Hazel reset and a Pip reset reach. -/
def Obligations.HazelAndPipResets : Prop := ∀ s : State,
  (s.mainOn = true → s.hazelUp = true →
    Does .hazelReset s fun t => t.hazel.mode = .stopped ∧ t.hazel.deferred = [] ∧ t.ready 9 = false ∧ t.ready 10 = false ∧
      t.ready 11 = false ∧ t.icu.hazelA.en = 0 ∧ t.icu.hazelA.pend = 0 ∧ t.icu.hazelB.en = 0 ∧ t.icu.hazelB.pend = 0 ∧
      t.flt.nmiPending = false ∧ (∀ i, 8 ≤ i → i < 16 → t.chan i = (s.chan i).reset) ∧ (∀ i, i < 8 → t.chan i = s.chan i) ∧
      Only [.dma, .mbx, .icu, .flt, .hazel, .ready] s t) ∧
  (s.huskUp = true →
    Does .pipReset s fun t => t.husk.pipMode = .boot ∧ t.ready 1 = false ∧ t.icu.pip.en = 0 ∧ t.icu.pip.pend = 0 ∧
      t.icu.hazelA.pend = s.icu.hazelA.pend ∧ t.icu.host.pend = s.icu.host.pend ∧ Only [.husk, .icu, .ready] s t)

/-- 01 R42, R57; 06 R384; 12 R628. What each block reset reaches. -/
def Obligations.BlockResetsReachTheirBlock : Prop := ∀ s : State, s.mainOn = true →
  (∀ n : Fin 4, Does (.blockReset (.pipe n)) s fun t =>
    t.ready (16 + n.val) = (s.ever.getLsbD (16 + n.val) && !(s.pipe n.val).failed) ∧ Only [.hazel, .pipes, .pac, .ready] s t) ∧
  (∀ n : Fin 16, Does (.blockReset (.lane n)) s fun t =>
    t.lane n.val = {} ∧ t.ready (24 + n.val) = false ∧ Only [.hazel, .lanes, .pac, .ready] s t) ∧
  (s.husk.enDram = false → ∀ n : Fin 2, Does (.blockReset (.stack n)) s fun t =>
    t.ready (6 + n.val) = false ∧ (t.stack n.val).mode = .off ∧ (t.stack n.val).initDone = false ∧
      (∀ a, inStack n.val a = false → Table.get 0 t.mem a = Table.get 0 s.mem a) ∧
      Only [.memory, .dram, .hazel, .pac, .ready] s t) ∧
  (∀ n : Fin 16, Does (.blockReset (.channel n)) s fun t =>
    t.chan n.val = {} ∧ (∀ i, i ≠ n.val → t.chan i = s.chan i) ∧ Only [.dma, .hazel] s t) ∧
  (Does (.blockReset .vtc) s fun t => t.vtc = {} ∧ t.pll 8 = .stopped ∧ t.ready 20 = false ∧
    Only [.vtc, .plls, .hazel, .pac, .icu, .ready] s t) ∧
  (Does (.blockReset .ptp) s fun t => t.ptp = {} ∧ t.ready 21 = false ∧ Only [.ptp, .ready] s t) ∧
  (Does (.blockReset .scheduler) s fun t => t.sched = [] ∧ t.ready 22 = s.ready 10 ∧ Only [.sched, .ready] s t) ∧
  (Does (.blockReset .scrubber) s fun t => t.scrub.enable = s.scrub.enable ∧ t.scrub.passHours = s.scrub.passHours ∧
    t.scrub.log = [] ∧ t.ready 23 = (s.ready 10 && s.scrub.enable && (s.ready 6 || s.ready 7)) ∧ Only [.scrub, .ready] s t) ∧
  (Does (.blockReset .lfs) s fun t => t.ready 5 = false ∧ t.hazel.jobs = [] ∧
    (∀ a, inLfs a = false → Table.get 0 t.mem a = Table.get 0 s.mem a) ∧ Only [.lfs, .hazel, .memory, .ready] s t) ∧
  (Does (.blockReset .bankD) s fun t => t.ready 8 = false ∧ Only [.pac, .ready] s t) ∧
  (Does (.blockReset .dmaEngine) s fun t => t.dma = [] ∧ t.ready 13 = s.ready 4 ∧ Only [.dma, .hazel, .ready] s t)

/-- 02 R75 to R78, R82, R123. A power-good input that stays low, and the 32.768 kHz source. 02 R86, R130 to R133, R921. The XO
settles, and is lost. -/
def Obligations.LateRailsAndClockSources : Prop :=
  (∀ s : State,
  (s.huskUp = true → s.husk.removal = none → ∀ r, s.husk.en r = true → s.husk.pg r = false → (r = .srd → s.pcie.linkUp = false) →
    Does (.pgTimeout r) s fun t => t.husk.en r = false ∧
      t.husk.railFault = s.husk.railFault ||| BitVec.ofNat 7 (2 ^ railNo r) ∧
      Only [.husk, .plls, .pac, .lanes, .dram, .memory, .ready, .flt] s t) ∧
  (s.husk.power ≠ .held → bitsOf s.husk.cfg 1 2 < 2 →
    Does .xt32Qualified s (fun t => t.husk.slowSrc = true ∧ t.husk.xtFail = s.husk.xtFail ∧ Only [.husk, .flt] s t) ∧
    (s.husk.slowSrc = false →
      Does .xt32QualifyTimeout s fun t => t.husk.slowSrc = false ∧ t.husk.xtFail = true ∧ s.husk.porAt + 2000000000 ≤ t.now ∧
        Only [.husk, .flt, .time, .ptp] s t) ∧
    (s.husk.slowSrc = true →
      Does .xt32EdgeLoss s fun t => t.husk.slowSrc = false ∧ t.husk.xtFail = true ∧ Only [.husk, .flt] s t))) ∧
  (∀ s : State, s.mainOn = true →
  (s.husk.xoOn = true → s.ready 2 = false → s.ready 15 = true →
    Does .xoSettleExpiry s fun t => t.ready 2 = true ∧ t.husk.settled = true ∧ s.husk.settleDue ≤ t.now ∧ t.husk.xoSetAt = t.now ∧
      Only [.husk, .ready, .flt, .pac, .time, .ptp] s t) ∧
  (s.husk.xoOn = true → s.ready 2 = false → s.ready 15 = false →
    Does .xoSettleExpiry s fun t => t.rdy = s.rdy ||| rdyBit 2 ||| rdyBit 14 ||| rdyBit 15 ∧
      Only [.husk, .ready, .flt, .pac, .time, .ptp] s t) ∧
  (s.ready 2 = true → (∀ p : Pll, s.pll p.idx ≠ .starting) →
    Does (.xoLoss false) s (fun t => t.ready 2 = false ∧ t.husk.settled = false ∧ t.husk.earlyCount = s.husk.earlyCount ∧
      t.husk.settleDue = s.now + ticksNs s.husk.xoSettle ∧ Only [.husk, .ready, .flt] s t) ∧
    (3 ≤ satAdd 4 s.husk.earlyCount 1 →
      Does (.xoLoss true) s fun t => t.ready 2 = false ∧ t.husk.xoFail = true ∧ t.husk.earlyCount = satAdd 4 s.husk.earlyCount 1 ∧
        t.husk.removal = some (s.husk.removal.getD .xoFail) ∧ Only [.husk, .ready, .flt] s t)))

/-- 12 R615, R616, R618, R628, R659 to R661. How the stacks and the Local Frame Store come into service and sleep. -/
def Obligations.StacksServeAndSleep : Prop := ∀ s : State, ∀ n : Fin 2,
  ((s.stack n).mode = .training → (∀ r ∈ s.pcie.heldReqs, r.stack ≠ n) →
    Leads (.dramTrained n) s fun u => (u.stack n).mode = .awake ∧ (u.stack n).initDone = false ∧ u.ready (6 + n) = true ∧
      Only [.dram, .ready] s u) ∧
  (s.ready (6 + n) = true → (s.stack n).initDone = false →
    Does (.dramInitDone n) s fun t => (t.stack n).initDone = true ∧ t.mem = s.mem ∧
      (∀ w, inStack n (8 * w) = true → t.mark w ≠ .written) ∧
      (∀ w, inStack n (8 * w) = false → t.mark w = s.mark w) ∧ Only [.dram, .memory] s t) ∧
  (s.ready 4 = true → s.ready 5 = false → Does .lfsInitDone s fun t => t.ready 5 = true ∧ Only [.ready] s t) ∧
  (s.awake n = true → (s.stack n).pinned = false → (s.stack n).srIdle ≠ 0 → s.dmaTouches n = false →
    Does (.dramSelfRefreshEntry n) s fun t => (t.stack n).mode = .selfRefresh ∧ ⟨.dramWake, n.val⟩ ∉ t.pac.held ∧
      (t.stack n).srEntries = satAdd 16 (s.stack n).srEntries 1 ∧ t.rdy = s.rdy ∧ Only [.dram, .pac] s t) ∧
  ((s.stack n).mode = .leaving → (∀ r ∈ s.pcie.heldReqs, r.stack ≠ n) →
    Leads (.dramSelfRefreshExit n) s fun u => (u.stack n).mode = .awake ∧ Only [.dram, .ready] s u) ∧
  (s.husk.mainOff = true → s.fwUp = true →
    Does .mainOffSelfRefresh s fun t => t.pcie.bar2Closed = true ∧ (s.awake n = true → (t.stack n).mode = .selfRefresh) ∧
      Only [.dram, .pac, .pcie, .time, .ptp] s t)

/-- 12 R619 to R621, R672; 15 R782. Re-reads, correction write-backs and fabric timeouts. -/
def Obligations.CheckBitsAreMendedOrPoisoned : Prop := ∀ s : State, ∀ w,
  (∀ n, 8 * w < 2 ^ 34 → n = 8 * w / 2 ^ 33 → s.awake n = true → s.mark w ≠ .poison →
    (s.mark w ≠ .written →
      Does (.dramReread w true) s fun t => t.mark w = .clean ∧ t.mem = s.mem ∧
        (t.stack n).transient = satAdd 16 (s.stack n).transient 1 ∧ (∀ x, x ≠ w → t.mark x = s.mark x) ∧ Only [.dram, .memory] s t) ∧
    (s.mildly 22 →
      Does (.dramReread w false) s fun t => t.mark w = .poison ∧ t.mem = s.mem ∧ (∀ x, x ≠ w → t.mark x = s.mark x) ∧
        (t.stack n).ueValid = true ∧ (t.stack n).ueAddr = 8 * w ∧ (t.stack n).poisoned = satAdd 16 (s.stack n).poisoned 1 ∧
        Only [.dram, .memory, .flt, .husk] s t)) ∧
  (s.mark w = .data ∨ s.mark w = .check →
    Does (.correctionWriteBack w) s fun t => t.mark w = .clean ∧ t.mem = s.mem ∧ (∀ x, x ≠ w → t.mark x = s.mark x) ∧
      Only [.memory] s t) ∧
  (s.mark w ≠ .data → s.mark w ≠ .check → Does (.correctionWriteBack w) s fun t => Only [] s t) ∧
  (∀ port, s.mainOn = true → s.ready 15 = true → (s.fltSrc 31).open_ = false → 
    Does (.fabTimeout port) s fun t => (t.fltSrc 31).open_ = true ∧ (t.fltSrc 31).detail = port.val ∧
      (t.fltSrc 31).cnt = satAdd 16 (s.fltSrc 31).cnt 1 ∧ Only [.flt, .husk] s t)

/-- 12 R625 to R627. The scrubber's bursts, its pass, and the wake of a stack that has fallen behind. 12 R631 to R634, R679; 03
R148. A journal record reaches its home, at its burst or at the scan. -/
def Obligations.ScrubberAndJournal : Prop :=
  (∀ s : State, s.ready 23 = true → s.scrub.enable = true →
  (s.scrub.pos0 + 1 < 2 ^ 25 → s.scrubbable 0 = true → (∀ i, i < 32 → s.mark (32 * s.scrub.pos0 + i) = .clean) →
    Does .scrubBurst s fun t => t.scrub = { s.scrub with pos0 := s.scrub.pos0 + 1 } ∧ t.mem = s.mem ∧ t.marks = s.marks ∧
      (t.port16 7).requests = satAdd 64 (s.port16 7).requests 1 ∧
      (t.stack 0).bytes = satAdd 64 (s.stack 0).bytes 256 ∧ Only [.scrub, .fab, .dram] s t) ∧
  (s.scrub.pos0 = 2 ^ 25 → s.scrub.pos1 = 2 ^ 25 → s.scrub.posL = 2 ^ 18 - 1 → s.ready 5 = true →
    (∀ i, i < 32 → s.mark (0x1007FFFE0 + i) = .clean) →
    Does .scrubBurst s fun t => t.scrub.pos0 = 0 ∧ t.scrub.pos1 = 0 ∧ t.scrub.posL = 0 ∧ t.scrub.behind0 = false ∧
      t.scrub.behind1 = false ∧ t.scrub.passes = satAdd 32 s.scrub.passes 1 ∧ Only [.scrub, .fab] s t) ∧
  (∀ n : Fin 2, s.ready (6 + n) = true → (s.stack n).mode = .selfRefresh → ⟨.dramWake, n.val⟩ ∉ s.pac.held →
    (∀ q ∈ s.pac.queue, q.who ≠ ⟨.dramWake, n.val⟩) → s.ready 3 = true → s.pacBars ⟨.dramWake, n.val⟩ = none →
    Does (.scrubCatchUp n) s fun t => (if n = 0 then t.scrub.behind0 else t.scrub.behind1) = true ∧
      (∃ q ∈ t.pac.queue, q.who = ⟨.dramWake, n.val⟩ ∧ q.cls = 0 ∧ q.at_ = s.now) ∧ Only [.scrub, .dram, .pac] s t)) ∧
  (∀ s : State,
  (∀ r js, s.pac.held.contains ⟨.mramBurst, 0⟩ = true → s.husk.gateClosed = false → s.mram.journalD = r :: js →
    (∀ c ∈ s.hazel.jobs, c.wait ≠ some ⟨.mramBurst, 0⟩) → s.board.cfgHeld = 0 →
    Does .mramBurstEnd s fun t => t.mram.journalD = js ∧ ⟨.mramBurst, 0⟩ ∉ t.pac.held ∧
      StoredAt (regionBase r.region + r.offset) r.data s t ∧
      Only [.memory, .mram, .flt, .husk, .pac, .icu] s t) ∧
  (s.ready 4 = true → s.ready 8 = false → s.board.cfgHeld = 0 →
    (s.mram.journalD = [] → Does .mramBankDReady s fun t => t.ready 8 = true ∧ Only [.ready] s t) ∧
    (∀ r, s.mram.journalD = [r] → r.crcOk = true → 5 ≤ r.region →
      Does .mramBankDReady s fun t => t.ready 8 = true ∧ t.mram.journalD = [] ∧
        StoredAt (regionBase r.region + r.offset) r.data s t ∧ Only [.memory, .bankM, .mram, .ready] s t) ∧
    (∀ r, s.mram.journalD = [r] → r.crcOk = false →
      Does .mramBankDReady s fun t => t.ready 8 = true ∧ t.mram.journalD = [] ∧ t.mem = s.mem ∧
        t.mram.torn = satAdd 16 s.mram.torn 1 ∧ Only [.mram, .flt, .husk, .ready] s t)))

/-- 02 R104, R105; 03 R169. Pip's boot ROM tries the active slot, then the other, then serves itself. 02 R107 to R111, R920; 01
R43; 04 R244; 15 R808. Pip hands the boot word over, Hazel starts, and a removal is recorded. -/
def Obligations.PipAndHazelStart : Prop :=
  (∀ s : State, ∀ first,
  s.huskUp = true → s.husk.pipRun = true → s.husk.pipMode = .boot → s.bankM.pipB = first →
  s.husk.ctrl = 0 → s.husk.keptOn = false → s.husk.wakeCause &&& ~~~s.husk.causeSeen = 0 →
  ((s.bankM.pipSlot first).passes = true →
    Does .pipBoot s fun t => t.husk.pipMode = .firmware ∧ t.husk.pipSlotB = first ∧ t.ready 1 = true ∧
      t.husk.pipVersion = (s.bankM.pipSlot first).version ∧ t.husk.pipIf = (s.bankM.pipSlot first).pipIf ∧
      Only [.husk, .ready] s t) ∧
  (s.mildly 45 → (s.bankM.pipSlot first).passes = false → (s.bankM.pipSlot !first).passes = true →
    Does .pipBoot s fun t => t.husk.pipMode = .firmware ∧ t.husk.pipSlotB = !first ∧ t.ready 1 = true ∧
      t.husk.pipVersion = (s.bankM.pipSlot !first).version ∧ (t.fltSrc 45).open_ = true ∧ Only [.husk, .ready, .flt] s t) ∧
  (s.mildly 45 → (s.bankM.pipSlot first).passes = false → (s.bankM.pipSlot !first).passes = false → s.pac.queue = [] →
    Does .pipBoot s fun t => t.husk.pipMode = .rom ∧ t.husk.pipVersion = 0 ∧ t.husk.pipIf = 0x0100 ∧ t.ready 1 = s.ready 1 ∧
      (if s.ready 3 then t.pac.clamped else t.pac.clampHeld) = true ∧ Only [.husk, .flt, .pac] s t)) ∧
  (∀ s : State,
  (s.mainOn = true → s.pipServes = true → s.pll 1 = .locked → s.hazel.mode = .stopped → (s.box 33).full = false →
    s.husk.gateClosed = false → s.bankM.epoch < 65536 →
    Does .hazelStart s fun t => t.hazel.mode = .boot ∧ t.bankM.epoch = nextEpoch s.bankM.epoch ∧ t.bankM.epoch ≠ 0 ∧
      (t.box 33).full = true ∧ (t.box 33).value = s.handover (nextEpoch s.bankM.epoch) ∧
      Only [.bankM, .mram, .mbx, .hazel, .flt, .husk] s t) ∧
  (∀ v, s.hazel.mode = .boot → s.ready 8 = true → (s.box 33).full = true → s.pll 1 = .locked → (s.box 33).value = v →
    s.hazel.jobs = [] → s.hazel.sessions = [] → s.pac.queue = [] → s.mildly 45 → s.mildly 46 →
    ((s.bankM.hazelSlot (bitAt v 16)).passes = true →
      Does .hazelImageStart s fun t => t.ready 9 = true ∧ t.ready 10 = true ∧ t.ready 21 = true ∧ t.ready 22 = true ∧
        t.ptp.run = true ∧ t.vtc.configured = true ∧ (t.box 33).full = false ∧ t.hazel.epoch = v % 65536 ∧
        t.hazel.image = s.bankM.hazelSlot (bitAt v 16) ∧ t.hazel.slotB = bitAt v 16 ∧
        t.hazel.mode = imageMode (s.bankM.hazelSlot (bitAt v 16)) (bitAt v 17) (bitsOf v 36 4 * 256 + bitsOf v 32 4) (v / 2 ^ 40)) ∧
    ((s.bankM.hazelSlot false).passes = false → (s.bankM.hazelSlot true).passes = false →
      Does .hazelImageStart s fun t => t.hazel.mode = .recovery ∧ t.ready 9 = true ∧ t.ready 10 = true ∧ t.ready 21 = s.ready 21 ∧
        t.ready 22 = s.ready 22 ∧ (t.box 33).full = false ∧ t.hazel.epoch = v % 65536)) ∧
  (s.husk.removalDue = true → s.husk.hpEn = false → s.huskUp = true →
    Does .pipRemovalRecord s fun t => t.husk.removalDue = false ∧ s.husk.hpFellAt + 10000000 ≤ t.now ∧
      t.flt.plogDue.length = s.flt.plogDue.length + 1 ∧ Only [.husk, .flt, .time, .ptp] s t))

/-- 02 R91 to R95, R112. A PLL that has its grant locks, or fails to. 02 R94, R96, R97, R923, R924; 12 R618. A locked PLL loses
lock or stops unused; a request is made again. -/
def Obligations.PllsLockFailAndStop : Prop :=
  (∀ s : State,
  (s.pll 0 = .starting →
    Leads (.pllLock .fabric) s fun u => u.pll 0 = .locked ∧ u.ready 4 = true ∧ u.ready 13 = true ∧
      Only [.plls, .ready, .dram, .pac, .icu, .hazel, .dma] s u) ∧
  (s.pll 8 = .starting →
    Leads (.pllLock .vtc) s fun u => u.pll 8 = .locked ∧ u.ready 20 = true ∧ u.vtc.activeSrc = s.vtc.srcSel ∧
      u.vtc.mode = (if s.vtc.srcSel = 17 then .locked else .acquiring) ∧ Only [.plls, .ready, .vtc, .icu] s u) ∧
  (∀ p : Pll, p ≠ .fabric → p ≠ .vtc → s.pll p.idx = .starting →
    Leads (.pllLock p) s fun u => u.pll p.idx = .locked ∧ Only [.plls] s u) ∧
  (∀ p : Pll, s.pll p.idx = .starting → s.mildly 20 →
    (p = .hazel ∨ p = .fabric ∨ p = .phy →
      Leads (.pllLockTimeout p) s fun u => u.pll p.idx = .retrying ∧ p.who ∉ u.pac.held ∧ Only [.plls, .pac, .flt, .husk] s u) ∧
    (p = .vtc →
      Leads (.pllLockTimeout p) s fun u => u.pll 8 = (if s.vtc.configured then .retrying else .stopped) ∧ p.who ∉ u.pac.held ∧
        (∀ (i : Nat) (c : Cmd), s.hazel.jobs[i]? = some c → c.wait = some p.who → c.live = true →
          u.hazel.jobs[i]? = some (c.finish 0x0201 20 0)) ∧ Only [.plls, .pac, .flt, .husk, .hazel] s u) ∧
    (∀ q, p = .quad q →
      Leads (.pllLockTimeout p) s fun u => u.pll p.idx = .stopped ∧ p.who ∉ u.pac.held ∧
        Only [.plls, .pac, .flt, .husk, .hazel, .lanes] s u) ∧
    (p = .core →
      Leads (.pllLockTimeout p) s fun u => p.who ∉ u.pac.held ∧ Only [.plls, .pac, .flt, .husk, .hazel, .pipes] s u))) ∧
  (∀ s : State,
  (∀ p : Pll, s.pll p.idx = .locked → s.mainOn = true → s.mildly 20 → s.ready 3 = true → s.pacBars p.who = none →
    (∀ q ∈ s.pac.queue, q.who ≠ p.who) →
    (p = .hazel ∨ p = .core ∨ p = .vtc ∨ p = .fabric →
      Does (.pllLossOfLock p) s fun t => t.pll p.idx = .requested ∧ p.who ∉ t.pac.held ∧
        (∃ q ∈ t.pac.queue, q.who = p.who ∧ q.at_ = s.now) ∧ (p = .fabric → t.ready 4 = false) ∧ (p = .vtc → t.ready 20 = false) ∧
        Only [.plls, .pac, .flt, .husk, .ready] s t)) ∧
  (∀ q : Fin 4, s.pll (3 + q) = .locked → s.mainOn = true →
    Does (.pllLossOfLock (.quad q)) s fun t => t.pll (3 + q) ≠ .locked ∧ ∀ i, i < 4 → t.ready (24 + 4 * q + i) = false) ∧
  (s.pll 7 = .locked → s.mainOn = true →
    Does (.pllLossOfLock .phy) s fun t => t.pll 7 ≠ .locked ∧ t.pcie.linkUp = false) ∧
  (∀ p : Pll, s.pll p.idx = .locked → s.pllUnused p = true →
    Does (.pllIdleStop p) s fun t => t.pll p.idx = .stopped ∧ p.who ∉ t.pac.held ∧ t.rdy = s.rdy ∧ Only [.plls, .pac] s t) ∧
  (∀ p : Pll, p ≠ .core → p ≠ .phy → s.pll p.idx = .retrying → s.ready 3 = true → s.pacBars p.who = none →
    p.who ∉ s.pac.held → (∀ q ∈ s.pac.queue, q.who ≠ p.who) →
    Does (.pllRetry (.pll p)) s fun t => t.pll p.idx = .requested ∧ (∃ q ∈ t.pac.queue, q.who = p.who ∧ q.at_ = s.now) ∧
      Only [.plls, .pac] s t) ∧
  (∀ n : Fin 2, (s.stack n).retrying = true → (s.stack n).mode = .off → s.ready 3 = true → s.pacBars ⟨.dramWake, n⟩ = none →
    ⟨.dramWake, n.val⟩ ∉ s.pac.held → (∀ q ∈ s.pac.queue, q.who ≠ ⟨.dramWake, n⟩) →
    Does (.pllRetry (.stack n)) s fun t => (t.stack n).retrying = false ∧ (∃ q ∈ t.pac.queue, q.who = ⟨.dramWake, n⟩) ∧
      Only [.dram, .pac] s t) ∧
  (∀ b, Does (.clockGate b) s fun t => Only [] s t))

/-- 02 R99 to R101, R125 to R128; 13 R698. The VTC's modes and its counters. -/
def Obligations.TheVtcFollowsItsSource : Prop := ∀ s : State,
  (s.ready 20 = true → s.vtc.mode = .acquiring → s.vtcPresent = true → s.vtcFamily = true →
    Does .vtcLocked s fun t => t.vtc = { s.vtc with mode := .locked } ∧ Only [.vtc, .icu] s t) ∧
  (s.ready 20 = true → s.vtc.mode = .locked ∨ s.vtc.mode = .acquiring → s.vtc.srcSel ≠ 17 → s.mildly 21 →
    Does .vtcSourceLoss s fun t => t.vtc = { s.vtc with mode := .holdover, losses := satAdd 16 s.vtc.losses 1 } ∧
      (t.ready 15 = true → (t.fltSrc 21).cnt = satAdd 16 (s.fltSrc 21).cnt 1) ∧ Only [.vtc, .icu, .flt, .husk] s t) ∧
  (s.vtc.mode = .holdover → s.vtc.holdLimit ≠ 0 →
    Does .vtcHoldExpiry s fun t =>
      t.vtc = { s.vtc with mode := .freeRun, activeSrc := 17, freeRuns := satAdd 16 s.vtc.freeRuns 1 } ∧ Only [.vtc, .icu] s t) ∧
  (s.vtc.mode = .holdover → s.vtc.holdLimit = 0 → Does .vtcHoldExpiry s fun t => Only [] s t) ∧
  (s.ready 20 = true → s.vtcPresent = true → s.vtc.mode = .holdover ∨ (s.vtc.mode = .freeRun ∧ s.vtc.revert = true) →
    Does .vtcReacquire s fun t => t.vtc = { s.vtc with mode := .acquiring, activeSrc := s.vtc.srcSel } ∧ Only [.vtc, .icu] s t)

/-- 03 R145, R146, R155, R158, R162. A request queues in its class, is raised to a higher class, or is refused at once. -/
def Obligations.RequestsQueueOrAreRefused : Prop := ∀ s : State, ∀ r, ∀ cls : Fin 3, s.mainOn = true →
  (r ∈ s.pac.held → Does (.pacRequest r cls) s fun t => Only [] s t) ∧
  (r ∉ s.pac.held → (∀ q ∈ s.pac.queue, q.who ≠ r) →
    (s.ready 3 = false ∨ s.pacBars r = none →
      Does (.pacRequest r cls) s fun t => t.pac = { s.pac with queue := pacInsert ⟨r, cls, s.now, s.pac.timeout, s.now⟩ s.pac.queue } ∧
        Only [.pac] s t) ∧
    (∀ code, s.ready 3 = true → s.pacBars r = some code →
      Does (.pacRequest r cls) s fun t =>
        t.pac.lastDeny = r.kind.code + r.inst % 16 * 2 ^ 8 + code * 2 ^ 12 + cls * 2 ^ 16 ∧
          t.pac.denyFit = satAdd 16 s.pac.denyFit 1 ∧ t.pac.denyTimeout = s.pac.denyTimeout ∧
          Only [.pac, .icu, .hazel, .pipes, .plls, .lanes, .dram, .dma] s t)) ∧
  (r ∉ s.pac.held → (∃ q ∈ s.pac.queue, q.who = r) →
    Does (.pacRequest r cls) s fun t =>
      t.pac.queue = (s.pac.queue.map fun q => if q.who = r then { q with cls := max q.cls cls } else q) ∧ Only [.pac] s t)

/-- 03 R153, R155 to R162, R188 to R192. The head is granted; grants and requests are given back; a request times out. -/
def Obligations.GrantsReleasesAndTimeouts : Prop := ∀ s : State,
  (∀ q, pacHead s.pac.queue = some q → s.pacGrantable q = true →
    Leads .pacGrant s fun u => q.who ∈ u.pac.held ∧ (∀ x ∈ u.pac.queue, x.who ≠ q.who) ∧ s.pac.slotEnd ≤ u.now ∧
      (∀ p, q.who.pll? = some p → u.pac.slotEnd = u.now + 1000 * s.pac.slot ∧ u.pac.grants = satAdd 32 s.pac.grants 1 ∧
        u.pll p = .starting ∧ Only [.pac, .plls, .time, .ptp] s u) ∧
      (q.who.kind = .pipeJob ∨ q.who.kind = .laneEnable →
        u.pac.slotEnd = u.now + 1000 * s.pac.slot ∧ u.pac.grants = satAdd 32 s.pac.grants 1 ∧ Only [.pac, .time, .ptp] s u)) ∧
  (∀ q, pacHead s.pac.queue = some q → s.pacGrantable q = false → Does .pacGrant s fun t => Only [] s t) ∧
  (∀ r, Does (.pacRelease r) s fun t => r ∉ t.pac.held ∧ (∀ x, x ≠ r → (x ∈ t.pac.held ↔ x ∈ s.pac.held)) ∧
    t.pac.queue = s.pac.queue ∧ Only [.pac] s t) ∧
  (∀ r, Does (.pacWithdraw r) s fun t => (∀ q, q ∈ t.pac.queue ↔ q ∈ s.pac.queue ∧ q.who ≠ r) ∧ t.pac.held = s.pac.held ∧
    Only [.pac] s t) ∧
  (∀ q, s.pac.queue = [q] → s.ready 3 = true → s.ready 2 = true → s.pacFits q.who = false → q.who.kind = .pipeJob →
    Leads (.pacTimeout q.who) s fun u => u.pac.queue = [] ∧ q.from_ + 1000000 * q.timeoutMs ≤ u.now ∧
      u.pac.denyTimeout = satAdd 16 s.pac.denyTimeout 1 ∧
      u.pac.lastDeny = q.who.kind.code + q.who.inst % 16 * 2 ^ 8 + (if q.cls = 0 ∧ s.pac.warn then 4 else 1) * 2 ^ 12 + q.cls * 2 ^ 16)

/-- 02 R112, R90; 03 R165, R168, R170, R175 to R180, R193. The load, the temperature, the clamp and the budgets. -/
def Obligations.BudgetsFollowTheLoadTheClampAndHeat : Prop := ∀ s : State,
  (s.ready 2 = true → s.ready 3 = false → s.ready 15 = true → Does .pacLoad s fun t => t.ready 3 = true ∧
    t.pac.timeout = (s.bankM.pacItem 0x10).1 / 65536 ∧ t.pac.slot = (s.bankM.pacItem 0x10).1 % 1024 ∧
    t.pac.warnC = (s.bankM.pacItem 0x11).1 % 256 ∧ t.pac.budget.core = (s.bankM.pacItem 0x12).1 % 65536 ∧
    t.pac.step.core = (s.bankM.pacItem 0x12).1 / 65536 ∧ t.pac.clamped = (s.pac.clamped || s.pac.clampHeld) ∧
    t.now = s.now + 20) ∧
  (∀ tj : Int, s.ready 3 = true →
    (tj ≥ (s.pac.warnC : Int) → Does (.pacThermalSample tj) s fun t => t.husk.tj = tj ∧ t.pac.tj = tj ∧ t.pac.warn = true ∧
      Only [.husk, .pac, .flt] s t) ∧
    (tj ≤ (s.pac.warnC : Int) - 5 → Does (.pacThermalSample tj) s fun t => t.husk.tj = tj ∧ t.pac.tj = tj ∧ t.pac.warn = false ∧
      Only [.husk, .pac, .flt] s t) ∧
    (tj < (s.pac.warnC : Int) → (s.pac.warnC : Int) - 5 < tj →
      Does (.pacThermalSample tj) s fun t => t.pac.tj = tj ∧ t.pac.warn = s.pac.warn ∧ Only [.husk, .pac] s t)) ∧
  (∀ tj : Int, s.ready 3 = false → Does (.pacThermalSample tj) s fun t => t.husk.tj = tj ∧ Only [.husk] s t) ∧
  (s.ready 3 = true → s.pac.queue = [] → Does .clampSet s fun t => t.pac = { s.pac with clamped := true } ∧ Only [.pac] s t) ∧
  (s.ready 3 = false → s.huskUp = true → Does .clampSet s fun t => t.pac = { s.pac with clampHeld := true } ∧ Only [.pac] s t) ∧
  (∀ r, ∀ v : Word32, s.ready 3 = true → s.pac.queue = [] →
    Does (.pacBudgetWrite r v) s fun t =>
      t.pac.budget.of r = (if v.toNat % 65536 = 0 ∨ v.toNat % 65536 > budgetLimit r then s.pac.budget.of r else v.toNat % 65536) ∧
      t.pac.step.of r = (if v.toNat / 65536 = 0 ∨ v.toNat / 65536 > budgetLimit r then s.pac.step.of r else v.toNat / 65536) ∧
      (∀ x, x ≠ r → t.pac.budget.of x = s.pac.budget.of x ∧ t.pac.step.of x = s.pac.step.of x) ∧ Only [.pac] s t)

/-- 04 R203 to R207, R232 to R236, R253, R259; 05 R276 to R278. The link trains, is lost, is reset, and sleeps. -/
def Obligations.TheLinkTrainsAndResets : Prop := ∀ s : State,
  (s.pcie.perstN = true → s.husk.enSrd = true → s.husk.pgSrd = true → s.pll 7 = .locked → s.pcie.linkUp = false →
    Does .linkTrainingL0 s fun t => t.pcie.linkUp = true ∧ t.ready 12 = true ∧ t.mbxClosed = false ∧ Only [.pcie, .mbx, .ready] s t) ∧
  (s.pcie.linkUp = true → s.NoRun →
    (Does .hotReset s fun t => t.pcie.linkUp = false ∧ t.ready 12 = false ∧ t.pcie.exits = satAdd 16 s.pcie.exits 1 ∧
      t.pcie.surprise = s.pcie.surprise ∧ t.pcie.mse = false ∧ t.pcie.bme = false ∧ t.icu.host.en = 0 ∧ t.icu.host.pend &&& ~~~icuBit 94 = 0 ∧
      t.mbxClosed = true ∧ t.rstCnt = satAdd 16 s.rstCnt 1 ∧ t.hazel.sessions = [] ∧
      (∀ k, k < 32 → (t.box k).full = false) ∧ (∀ i, i < 8 → t.chan i = (s.chan i).reset) ∧ ∀ i, 8 ≤ i → t.chan i = s.chan i) ∧
    Does .linkDown s (fun t => t.pcie.linkUp = false ∧ t.ready 12 = false ∧ t.pcie.exits = satAdd 16 s.pcie.exits 1 ∧
      t.pcie.surprise = (if s.offInProgress then s.pcie.surprise else satAdd 16 s.pcie.surprise 1) ∧ t.mbxClosed = true ∧
      t.hazel.sessions = []) ∧
    (s.pcie.flr = false →
      Does .flrInitiate s fun t => t.pcie.flr = true ∧ t.pcie.linkUp = true ∧ t.fell = 0 ∧ t.pcie.uncStatus = s.pcie.uncStatus ∧
        t.icu.host.en = 0 ∧ t.mbxClosed = true ∧ t.hazel.sessions = [] ∧ ∀ i, i < 8 → t.chan i = (s.chan i).reset)) ∧
  (s.pcie.linkUp = false → Does .hotReset s (fun t => Only [] s t) ∧ Does .linkDown s fun t => Only [] s t) ∧
  (s.pcie.perstN = true → s.mainOn = true → s.NoRun →
    Does .perstNAssert s fun t => t.pcie.perstN = false ∧ t.pcie.linkUp = false ∧ t.ready 12 = false ∧ t.fell = 0 ∧
      t.pll 7 = .stopped ∧ ⟨.phyPll, 0⟩ ∉ t.pac.held ∧ t.pcie.uncStatus = 0 ∧ t.icu.host.en = 0 ∧ t.hazel.sessions = []) ∧
  (s.pcie.perstN = false ∨ s.mainOn = false → Does .perstNAssert s fun t => t.pcie.perstN = false ∧ Only [.pcie] s t) ∧
  (∀ sris, s.pcie.perstN = false → s.husk.enSrd = false ∨ s.husk.pgSrd = false ∨ s.ready 3 = false →
    Does (.perstNDeassert sris) s fun t => t.pcie.perstN = true ∧ t.pcie.sris = sris ∧ Only [.pcie] s t) ∧
  (∀ sris, s.pcie.perstN = false → s.husk.enSrd = true → s.husk.pgSrd = true → s.ready 3 = true → s.pll 7 = .stopped →
    s.pacBars ⟨.phyPll, 0⟩ = none → ⟨.phyPll, 0⟩ ∉ s.pac.held → (∀ q ∈ s.pac.queue, q.who ≠ ⟨.phyPll, 0⟩) →
    Does (.perstNDeassert sris) s fun t => t.pcie.perstN = true ∧ t.pcie.sris = sris ∧ t.pll 7 = .requested ∧
      (∃ q ∈ t.pac.queue, q.who = ⟨.phyPll, 0⟩) ∧ Only [.pcie, .plls, .pac] s t)

/-- 04 R207 to R211, R229 to R231, R235, R236. Function-level reset ends, D3hot, configuration space, MSI-X, replays. -/
def Obligations.ThePcieFunctionAnswersItsHost : Prop := ∀ s : State,
  (s.pcie.flr = true → Does .flrComplete s fun t => t.pcie.flr = false ∧ t.mbxClosed = false ∧ Only [.pcie, .mbx] s t) ∧
  (s.pcie.linkUp = true → Does .d3hotEntry s fun t => t.pcie.d3 = true ∧ Only [.pcie] s t) ∧
  (s.pcie.linkUp = true → s.pcie.d3 = true →
    Does .d0Return s fun t => t.pcie.d3 = false ∧ (∀ v : Fin 64, t.pcie.canSend v = true → t.pcie.pba.getLsbD v = false) ∧
      Only [.pcie] s t) ∧
  (s.pcie.linkUp = true → s.pcie.flr = false →
    (∀ o, Does (.configRequest ⟨o, none⟩) s fun t => t.answer = .data (BitVec.ofNat 64 (s.cfgSpace o)) ∧ Only [] s t) ∧
    (∀ v : Word32, Does (.configRequest ⟨0x004, some v⟩) s fun t =>
      t.pcie.mse = bitAt v.toNat 1 ∧ t.pcie.bme = bitAt v.toNat 2 ∧ Only [.pcie] s t) ∧
    (∀ v : Word32, Does (.configRequest ⟨0x044, some v⟩) s fun t =>
      t.pcie.d3 = (if v.toNat % 4 = 3 then true else if v.toNat % 4 = 0 then false else s.pcie.d3) ∧ Only [.pcie] s t) ∧
    (∀ v : Word32, Does (.configRequest ⟨0x104, some v⟩) s fun t =>
      t.pcie.uncStatus = s.pcie.uncStatus - (s.pcie.uncStatus &&& v.toNat) ∧ Only [.pcie] s t)) ∧
  (s.pcie.linkUp = true → s.pcie.flr = true → ∀ a, Does (.configRequest a) s fun t => t.answer = .unsupported ∧ Only [] s t) ∧
  (s.pcie.linkUp = false → ∀ a, Does (.configRequest a) s fun t => t.answer = .none ∧ Only [] s t) ∧
  (∀ v : Fin 64, s.hostUp = true →
    Does (.msixUnmask v) s fun t => (Table.get {} t.pcie.msix v).masked = false ∧
      (∀ w : Fin 64, t.pcie.canSend w = true → t.pcie.pba.getLsbD w = false) ∧ Only [.pcie] s t) ∧
  (s.pcie.linkUp = true →
    Does (.tlpReplay false) s (fun t => t.pcie.replays = satAdd 32 s.pcie.replays 1 ∧ Only [.pcie] s t) ∧
    Does (.tlpReplay true) s fun t => t.pcie.replays = satAdd 32 s.pcie.replays 1 ∧ t.pcie.corStatus = s.pcie.corStatus ||| 2 ^ 8 ∧
      Only [.pcie, .flt, .husk] s t)

/-- 04 R217 to R222, R242, R250, R251, R261. BAR2 reads and writes DRAM while its stack serves, and refuses otherwise. -/
def Obligations.Bar2ReachesDram : Prop := ∀ s : State,
  (∀ o len, s.hostUp = true → s.pcie.bar2Closed = false → s.dramReady o len = true → s.awake (bar2Stack o) = true →
    0 < len → s.Plain o len →
    Does (.bar2Read o len) s fun t => t.answer = .bytes ((List.range len).map fun i => Table.get 0 s.mem (o + i)) ∧
      t.mem = s.mem ∧ t.marks = s.marks ∧ Only [.fab, .dram] s t) ∧
  (∀ o len, s.hostUp = true → s.pcie.bar2Closed = true ∨ s.dramReady o len = false →
    Does (.bar2Read o len) s fun t => t.answer = .abort ∧ t.pcie.abortOther = satAdd 16 s.pcie.abortOther 1 ∧
      t.pcie.uncStatus = s.pcie.uncStatus ||| 2 ^ 15 ∧ Only [.pcie, .flt, .husk] s t) ∧
  (∀ o len, s.pcie.linkUp = true → s.pcie.flr = true → Does (.bar2Read o len) s fun t => t.answer = .unsupported ∧ Only [] s t) ∧
  (∀ o, ∀ bs : List Byte, s.hostUp = true → s.pcie.bar2Closed = false → s.dramReady o bs.length = true →
    s.awake (bar2Stack o) = true → s.Plain o bs.length →
    Does (.bar2Write o (bs.map some) false) s fun t => StoredAt o bs s t ∧ Only [.memory, .fab, .dram] s t) ∧
  (∀ o bs, s.hostUp = true → s.pcie.bar2Closed = false → s.dramReady o bs.length = true → s.awake (bar2Stack o) = true →
    Does (.bar2Write o bs true) s fun t => t.mem = s.mem ∧ (∀ i, i < bs.length → t.mark ((o + i) / 8) = .poison) ∧
      t.pcie.uncStatus = s.pcie.uncStatus ||| 2 ^ 12 ∧ Only [.memory, .pcie, .flt, .husk] s t) ∧
  (∀ o bs, s.hostUp = true → s.pcie.bar2Closed = true ∨ s.dramReady o bs.length = false →
    Does (.bar2Write o bs false) s fun t => t.pcie.discardBar2 = satAdd 16 s.pcie.discardBar2 1 ∧ Only [.pcie] s t) ∧
  (∀ n : Fin 2, Does (.bar2WakeTimeout n) s fun t => t.pcie.heldReqs = s.pcie.heldReqs.filter (fun r => r.stack != n.val) ∧
    (∀ r, s.pcie.heldReqs.filter (fun r => r.stack == n.val) = [r] →
      if r.write then t.pcie.discardBar2 = satAdd 16 s.pcie.discardBar2 1
      else t.answer = .abort ∧ t.pcie.abortOther = satAdd 16 s.pcie.abortOther 1) ∧ Only [.pcie, .flt, .husk] s t)

/-- 04 R224 to R228, R255; 12 R651. Completions of upstream reads, and those that never come. -/
def Obligations.UpstreamReadsCompleteOrTimeOut : Prop := ∀ s : State, ∀ tag, ∀ r : UpReq,
  (s.pcie.linkUp = true → s.pcie.up.find? (fun x => x.tag == tag) = some r →
    (r.late = true → ∀ st bs, Does (.upstreamCompletion tag st bs) s fun t =>
      t.pcie.lateTimeout = satAdd 16 s.pcie.lateTimeout 1 ∧ (∀ x ∈ t.pcie.up, x.tag ≠ tag) ∧ Only [.pcie, .flt, .husk] s t) ∧
    (r.late = false → r.dropped = true → ∀ st bs, Does (.upstreamCompletion tag st bs) s fun t =>
      t.pcie.lateReset = satAdd 16 s.pcie.lateReset 1 ∧ (∀ x ∈ t.pcie.up, x.tag ≠ tag) ∧ Only [.pcie] s t) ∧
    (r.late = false → r.dropped = false → (s.chan r.chan).mode = .running → (s.chan r.chan).failing = none → ∀ bs,
      Does (.upstreamCompletion tag .abort bs) s (fun t =>
        t.chan r.chan = { s.chan r.chan with failing := some (5, (s.chan r.chan).src + (s.chan r.chan).moved) } ∧
        (∀ x ∈ t.pcie.up, x.tag ≠ tag) ∧ Only [.pcie, .dma] s t) ∧
      Does (.upstreamCompletion tag .poisoned bs) s fun t =>
        t.chan r.chan = { s.chan r.chan with failing := some (1, (s.chan r.chan).src + (s.chan r.chan).moved) } ∧
        (∀ x ∈ t.pcie.up, x.tag ≠ tag) ∧ Only [.pcie, .dma, .flt, .husk] s t) ∧
    (r.late = false → r.dropped = false → ∀ bs : List Byte, 0 < bs.length → bs.length < r.len →
      (s.chan r.chan).dstHost = false → (s.chan r.chan).dstFix = false →
      s.Plain ((s.chan r.chan).dst + r.dst) bs.length →
      Does (.upstreamCompletion tag .success bs) s fun t =>
        StoredAt ((s.chan r.chan).dst + r.dst) bs s t ∧ (t.chan r.chan).moved = (s.chan r.chan).moved + bs.length ∧
        { r with len := r.len - bs.length, dst := r.dst + bs.length } ∈ t.pcie.up ∧ Only [.pcie, .dma, .memory, .fab, .dram] s t)) ∧
  (s.pcie.linkUp = true → (∀ x ∈ s.pcie.up, x.tag ≠ tag) → ∀ st bs, Does (.upstreamCompletion tag st bs) s fun t =>
    t.pcie.uncStatus = s.pcie.uncStatus ||| 2 ^ 16 ∧ Only [.pcie, .flt, .husk] s t) ∧
  (s.pcie.up = [r] → r.late = false → r.dropped = false → (s.chan r.chan).mode = .running → (s.chan r.chan).failing = none →
    Does (.completionTimeout r.tag) s fun t => t.pcie.up = [{ r with late := true }] ∧
      t.pcie.uncStatus = s.pcie.uncStatus ||| 2 ^ 14 ∧
      t.chan r.chan = { s.chan r.chan with failing := some (6, (s.chan r.chan).src + (s.chan r.chan).moved) } ∧
      Only [.pcie, .dma, .flt, .husk] s t)

/-- 05 R267 to R269, R278, R282. A write fills a mailbox, overruns a full one, and is discarded after a host-side reset; a read
of DATA_HI takes the value. -/
def Obligations.MailboxesCarryOneValue : Prop := ∀ s : State, ∀ m : Mailbox,
  (s.senderUp (mbxIndex m) = true → s.boxClosed (mbxIndex m) = false → (s.box (mbxIndex m)).full = false →
    (∀ v : Word32, Does (.mbxDataLoWrite m v) s fun t =>
      t.box (mbxIndex m) = { s.box (mbxIndex m) with lo := v.toNat, half := true } ∧
        (∀ k, k ≠ mbxIndex m → t.box k = s.box k) ∧ Only [.mbx] s t) ∧
    (∀ hi lo : Word32, Does (.mbxDataHiWrite m hi (some lo)) s fun t =>
      (t.box (mbxIndex m)).value = hi.toNat * 2 ^ 32 + lo.toNat ∧ (t.box (mbxIndex m)).full = true ∧
        (∀ k, k ≠ mbxIndex m → t.box k = s.box k) ∧ Only [.mbx] s t) ∧
    (∀ hi : Word32, Does (.mbxDataHiWrite m hi none) s fun t =>
      (t.box (mbxIndex m)).hi = hi.toNat ∧ (t.box (mbxIndex m)).lo = (s.box (mbxIndex m)).lo % 2 ^ 32 ∧
        (t.box (mbxIndex m)).full = true ∧ (t.box (mbxIndex m)).half = false ∧ Only [.mbx] s t)) ∧
  (s.senderUp (mbxIndex m) = true → s.boxClosed (mbxIndex m) = false → (s.box (mbxIndex m)).full = true →
    ∀ v : Word32, ∀ lo, Does (.mbxDataHiWrite m v lo) s (fun t =>
      t.box (mbxIndex m) = { s.box (mbxIndex m) with overrun := true, overruns := satAdd 16 (s.box (mbxIndex m)).overruns 1 } ∧
        Only [.mbx, .flt, .husk] s t) ∧
      Does (.mbxDataLoWrite m v) s fun t =>
        t.box (mbxIndex m) = { s.box (mbxIndex m) with overrun := true, overruns := satAdd 16 (s.box (mbxIndex m)).overruns 1 } ∧
          Only [.mbx, .flt, .husk] s t) ∧
  (s.senderUp (mbxIndex m) = true → s.boxClosed (mbxIndex m) = true → ∀ v : Word32, ∀ lo,
    Does (.mbxDataHiWrite m v lo) s (fun t =>
      t.box (mbxIndex m) = { s.box (mbxIndex m) with discards := satAdd 16 (s.box (mbxIndex m)).discards 1 } ∧ Only [.mbx] s t) ∧
    Does (.mbxDataLoWrite m v) s fun t =>
      t.box (mbxIndex m) = { s.box (mbxIndex m) with discards := satAdd 16 (s.box (mbxIndex m)).discards 1 } ∧ Only [.mbx] s t) ∧
  (s.receiverUp (mbxIndex m) = true → (∀ k, m ≠ .d2h k) → Does (.mbxDataHiRead m) s fun t =>
    t.answer = .data (BitVec.ofNat 64 (s.box (mbxIndex m)).value) ∧ t.box (mbxIndex m) = { s.box (mbxIndex m) with full := false } ∧
      (∀ k, k ≠ mbxIndex m → t.box k = s.box k) ∧ Only [.mbx] s t) ∧
  (∀ k, m = .d2h k → s.receiverUp (16 + k) = true → Does (.mbxDataHiRead m) s fun t =>
    t.answer = .data (BitVec.ofNat 64 (s.box (16 + k)).value) ∧ (t.box (16 + k)).full = false ∧
      ((s.box (16 + k)).full = true →
        t.hazel.jobs = s.hazel.jobs.filter fun c => !(c.queue == k.val && c.phase == .noticed)) ∧ Only [.mbx, .hazel] s t)

/-- 05 R286, R288, R289, R291, R303, R312, R326. An edge sets a pending bit at every target; a level is requested while it
stands. 05 R290, R294, R295, R299, R300, R323. Claims, completions, and cores that wait. -/
def Obligations.InterruptsPendAreClaimedAndEnd : Prop :=
  (∀ s : State,
  (∀ src : Fin 256, s.ready 14 = true → (icuAssigned &&& ~~~icuLevels).getLsbD src = true →
    Does (.icuEdgeRequest src) s fun t => ∀ x : Target, (t.tgt x).pend = (s.tgt x).pend ||| icuBit src ∧ (t.tgt x).en = (s.tgt x).en ∧
      (t.tgt x).svc = (s.tgt x).svc ∧ Only [.icu] s t) ∧
  (∀ src : Fin 256, s.ready 14 = false ∨ (icuAssigned &&& ~~~icuLevels).getLsbD src = false →
    Does (.icuEdgeRequest src) s fun t => Only [] s t) ∧
  (∀ src : Fin 256, s.ready 14 = true → icuLevels.getLsbD src = true →
    Does (.icuLevelChange src true) s (fun t => t.icu.ext = s.icu.ext ||| icuBit src ∧ t.icu.level.getLsbD src = true ∧ Only [.icu] s t) ∧
    Does (.icuLevelChange src false) s fun t => t.icu.ext = s.icu.ext &&& ~~~icuBit src ∧ Only [.icu] s t) ∧
  (∀ x : Target, ∀ i : Fin 8, ∀ v : Word32, s.viewUp x = true →
    Does (.icuPendWrite x i v) s fun t =>
      (∀ b : Fin 256, (t.tgt x).pend.getLsbD b =
        if b.val / 32 = i ∧ (icuAssigned &&& ~~~icuLevels).getLsbD b then v.getLsbD (b.val % 32) else (s.tgt x).pend.getLsbD b) ∧
      (∀ y : Target, y ≠ x → (t.tgt y).pend = (s.tgt y).pend) ∧ Only [.icu] s t) ∧
  (∀ x : Target, ∀ v : Byte, s.viewUp x = true → x ≠ .host →
    Does (.icuSwiSet x v) s fun t => (∀ y : Target, (t.tgt y).pend = (s.tgt y).pend ||| BitVec.ofNat 256 (v.toNat * 2 ^ 96)) ∧
      Only [.icu] s t) ∧
  (∀ v : Byte, Does (.icuSwiSet .host v) s fun t => Only [] s t)) ∧
  (∀ s : State, ∀ x : Target,
  (∀ v : Fin 64, s.viewUp x = true →
    (∀ i, s.icu.best (s.claimable x v) 256 = some i →
      Does (.icuClaim x v) s fun t => t.answer = .data (BitVec.ofNat 64 i) ∧ (t.tgt x).svc = (s.tgt x).svc ||| icuBit i ∧
        (t.tgt x).pend = (s.tgt x).pend &&& ~~~icuBit i ∧ (∀ y : Target, y ≠ x → (t.tgt y).pend = (s.tgt y).pend) ∧ Only [.icu] s t) ∧
    (s.icu.best (s.claimable x v) 256 = none → s.notifiedAt x v = true →
      Does (.icuClaim x v) s fun t => t.answer = .data 255 ∧ (t.tgt x).spurious = satAdd 16 (s.tgt x).spurious 1 ∧
        (t.tgt x).svc = (s.tgt x).svc ∧ (t.tgt x).pend = (s.tgt x).pend ∧ Only [.icu] s t) ∧
    (s.icu.best (s.claimable x v) 256 = none → s.notifiedAt x v = false →
      Does (.icuClaim x v) s fun t => t.answer = .data 0 ∧ Only [] s t)) ∧
  (∀ i : Fin 256, s.viewUp x = true →
    ((s.tgt x).svc.getLsbD i = true →
      Does (.icuComplete x i) s fun t => (t.tgt x).svc = (s.tgt x).svc &&& ~~~icuBit i ∧
        (t.tgt x).badComplete = (s.tgt x).badComplete ∧ (t.tgt x).pend = (s.tgt x).pend ∧ Only [.icu] s t) ∧
    ((s.tgt x).svc.getLsbD i = false →
      Does (.icuComplete x i) s fun t => (t.tgt x).svc = (s.tgt x).svc ∧
        (t.tgt x).badComplete = satAdd 16 (s.tgt x).badComplete 1 ∧ Only [.icu] s t)) ∧
  (s.viewUp x = true → x ≠ .host → s.icu.eligible (s.tgt x) = 0 →
    Does (.waitForInterrupt x none) s (fun t => (t.tgt x).asleep = true ∧ (∀ y : Target, y ≠ x → (t.tgt y).asleep = (s.tgt y).asleep) ∧
      Only [.icu] s t) ∧
    ∀ i : Fin 256, s.ready 14 = true → (icuAssigned &&& ~~~icuLevels).getLsbD i = true → (s.tgt x).en.getLsbD i = true →
      (s.icu.above (s.tgt x).thresh).getLsbD i = true → (s.tgt x).svc.getLsbD i = false →
      Does (.waitForInterrupt x (some i)) s fun t => (t.tgt x).sleepAborted = true ∧ (t.tgt x).asleep = (s.tgt x).asleep ∧
        (t.tgt x).pend.getLsbD i = true ∧ Only [.icu] s t) ∧
  (s.viewUp x = true → s.icu.eligible (s.tgt x) ≠ 0 → Does (.waitForInterrupt x none) s fun t => Only [] s t) ∧
  ((s.tgt x).asleep = true → (s.tgt x).line = true → x ≠ .host → x = .pip ∨ s.pll 1 = .locked →
    Does (.coreWake x) s fun t => (t.tgt x).asleep = false ∧ Only [.icu] s t) ∧
  ((s.tgt x).asleep = true → (s.tgt x).line = true → x = .hazelA ∨ x = .hazelB → s.pll 1 = .stopped → s.ready 3 = true →
    s.pacBars ⟨.hazelPll, 0⟩ = none → ⟨.hazelPll, 0⟩ ∉ s.pac.held → (∀ q ∈ s.pac.queue, q.who ≠ ⟨.hazelPll, 0⟩) →
    Does (.coreWake x) s fun t => (t.tgt x).asleep = true ∧ t.pll 1 = .requested ∧ (∃ q ∈ t.pac.queue, q.who = ⟨.hazelPll, 0⟩) ∧
      Only [.plls, .pac] s t))

/-- 06 R330, R335, R338, R341; 02 R112; 07 R413. What a service pass of firmware begins, and how it takes a notice. 06 R354,
R378, R381. Work that waits for the host to take a notice is done then, or 10 ms after the record. -/
def Obligations.NoticesAndDeferredWork : Prop :=
  (∀ s : State, s.fwUp = true →
  ((∀ k, k < 16 → (s.box k).full = false) →
    Leads .fwServicePass s fun u => (∀ n, n < 4 → (u.pipe n).faultUnserved = false) ∧
      (s.ready 9 = true → s.ready 10 = true → s.ready 6 = true ∨ s.ready 7 = true → u.ready 11 = true) ∧ Only [.ready, .pipes] s u) ∧
  (∀ k : Fin 16, ∀ a, s.ready 11 = true → s.hazel.closed = false → (s.box k).full = true → (s.box k).value = a →
    (∀ j, j < 16 → j ≠ k.val → (s.box j).full = false) → s.inFlight k < (s.queue k).depth → s.hazel.mode ≠ .recovery →
    (a % 64 ≠ 0 →
      Leads .fwServicePass s fun u => (u.box k).full = false ∧ u.hazel.jobs = s.hazel.jobs ∧
        (u.queue k).badNotices = satAdd 16 (s.queue k).badNotices 1 ∧ Only [.mbx, .hazel, .ready, .pipes] s u) ∧
    (∀ b c, a % 64 = 0 → hostRange a 64 = true → s.dramReady a 64 = true → s.awake (bar2Stack a) = true → s.Plain a 64 →
      b = ((List.range 64).map fun i => Table.get 0 s.mem (a + i)) → c = parseHeader k s.now b → c.bodyLen = 0 →
      c.reachable a = true → blkByte b 3 = 0x24 → blkByte b 6 = k → c.epoch = s.hazel.epoch → knownOpcode c.opcode = true →
      (s.queue k).seq = some c.seq →
      Leads .fwServicePass s fun u => (u.box k).full = false ∧ u.hazel.jobs = s.hazel.jobs ++ [c] ∧ c.phase = .accepted ∧
        (u.queue k).seq = some ((c.seq + 1) % 2 ^ 32) ∧ (u.queue k).badNotices = (s.queue k).badNotices ∧
        Only [.mbx, .hazel, .ready, .pipes, .fab, .dram] s u))) ∧
  (∀ s : State, s.fwUp = true → ∀ i due,
  (s.dueWork = some (i, due, .chip) →
    Does .deferredReset s fun t => t.husk.resetDue = some (s.husk.resetDue.getD (.command, none)) ∧
      t.hazel.deferred = s.hazel.deferred.eraseIdx i ∧ due ≤ t.now ∧ Only [.husk, .hazel, .time, .ptp] s t) ∧
  (s.dueWork = some (i, due, .hazel) →
    Does .deferredReset s fun t => t.hazel.mode = .stopped ∧ t.hazel.deferred = [] ∧ due ≤ t.now ∧ t.ready 9 = false ∧
      Only [.dma, .mbx, .icu, .flt, .hazel, .ready, .time, .ptp] s t) ∧
  (s.dueWork = some (i, due, .pip) →
    Does .deferredReset s fun t => t.husk.pipMode = .boot ∧ t.hazel.deferred = s.hazel.deferred.eraseIdx i ∧ due ≤ t.now ∧
      Only [.husk, .icu, .ready, .hazel, .time, .ptp] s t) ∧
  (s.dueWork = none → Does .deferredReset s fun t => Only [] s t))

/-- 06 R336, R337, R346, R350. An ended command's record is written at its completion address, and its notice is sent. 06 R335.
Checks 8 and 9 and the body's poison end a command before any effect. -/
def Obligations.RecordsNoticesAndBadFields : Prop :=
  (∀ s : State, ∀ c : Cmd,
  s.fwUp = true → s.hazel.jobs = [c] → c.phase = .ended → c.queue < 16 → c.silent = false → s.dramReady c.complAddr 32 = true →
  s.asleep (bar2Stack c.complAddr) = false → s.Plain c.complAddr 32 → s.mbxClosed = false →
  ((s.box (16 + c.queue)).full = false →
    StoredAt c.complAddr (s.recordBytes c) s s.post ∧ (s.post.box (16 + c.queue)).full = true ∧
      (s.post.box (16 + c.queue)).value = c.complAddr % 2 ^ 64 ∧ s.post.hazel.jobs = [{ c with phase := .noticed }]) ∧
  ((s.box (16 + c.queue)).full = true →
    StoredAt c.complAddr (s.recordBytes c) s s.post ∧ s.post.mbx = s.mbx ∧ s.post.hazel.jobs = [{ c with phase := .written }]) ∧
  (c.opcode = 4 → c.status = 0 →
    (s.post.queue c.queue).depth = c.a0 % 512 ∧ (s.post.queue c.queue).doorbell = bitsOf c.a0 16 4 ∧ (s.post.queue c.queue).seq = none)) ∧
  (∀ s : State, ∀ q : Fin 16, ∀ i, ∀ c : Cmd,
  s.fwUp = true → s.starts q 3 = some i → s.hazel.jobs.getD i {} = c →
  (c.bodyPoison ≠ 0 → Posts (.nop q) s s.begin i (c.ends 0x0303 0 (c.bodyPoison - 1))) ∧
  (∀ o, c.bodyPoison = 0 → c.badField {} = some o → Posts (.nop q) s s.begin i (c.ends 0x0102 o 0)) ∧
  (c.bodyPoison = 0 → c.flags > 3 → Posts (.nop q) s s.begin i (c.ends 0x0102 2 0)) ∧
  (c.bodyPoison = 0 → c.badField {} = none → Posts (.nop q) s s.begin i (c.ends 0 0 0)))

/-- 06 R350 to R354. The device commands. -/
def Obligations.DeviceCommandsComplete : Prop := ∀ s : State, ∀ q : Fin 16, ∀ i, ∀ c : Cmd,
  (s.Serves q 0x0001 i c {} → Posts (.identify q) s s.begin i (c.ends 0 0 s.identity)) ∧
  (s.Serves q 0x0002 i c { m0 := 2 ^ 64 - 1, addrs := [(0x28, c.a0, 64, 64)] } →
    Posts (.getVersions q) s (s.begin.writeMem 6 c.a0 s.versions) i (c.ends 0 0 0)) ∧
  (s.Serves q 0x0003 i c {} → Posts (.nop q) s s.begin i (c.ends 0 0 0)) ∧
  (s.Serves q 0x0004 i c { m0 := 0xF01FF, bad := queueBad c.a0 } →
    (s.otherDepths q + c.a0 % 512 ≤ 1024 → Posts (.queueConfig q) s s.begin i (c.ends 0 0 0)) ∧
    (1024 < s.otherDepths q + c.a0 % 512 → Posts (.queueConfig q) s s.begin i (c.ends 0x0106 4 0))) ∧
  (s.Serves q 0x0005 i c { m0 := 0x10F } →
    (bitAt c.a0 8 = false → Posts (.queueStatus q) s s.begin i (c.ends 0 0 (s.queueWord (c.a0 % 16)))) ∧
    (bitAt c.a0 8 = true → Posts (.queueStatus q) s
      (s.begin.setQueue (c.a0 % 16) { s.queue (c.a0 % 16) with badNotices := 0, seqGaps := 0 }) i
      (c.ends 0 0 (s.queueWord (c.a0 % 16))))) ∧
  (s.Serves q 0x0006 i c { m0 := 3, bad := [(decide (c.a0 % 4 ≥ 2), 0x28)] } →
    (s.jobsInFlight ≠ 0 → Posts (.powerState q) s s.begin i (c.ends 0x0107 s.jobsInFlight 0)) ∧
    (s.jobsInFlight = 0 → s.husk.mainOff = false → s.husk.removal = none →
      Posts (.powerState q) s { s.begin with
        hazel := { s.hazel with closed := true }
        husk := { s.husk with mainOff := true, mainOffAt := s.now, goDormant := s.husk.goDormant || c.a0 % 4 == 1 } } i
        (c.ends 0 0 0))) ∧
  (s.Serves q 0x0007 i c { m0 := 0xFFFF03, bad := s.resetBad c.a0 } →
    (∀ b, c.a0 % 4 = 0 → resetBlock (bitsOf c.a0 8 8) (bitsOf c.a0 16 8) = some b →
      Posts (.reset q) s (s.begin.blockReset b) i (c.ends 0 0 0)) ∧
    (c.a0 % 4 = 1 → Posts (.reset q) s
      { s.begin with hazel := { s.hazel with deferred := s.hazel.deferred ++ [(c.queue, c.seq, s.now, .hazel)] } } i (c.ends 0 0 0)) ∧
    (c.a0 % 4 = 2 → Posts (.reset q) s
      { s.begin with hazel := { s.hazel with deferred := s.hazel.deferred ++ [(c.queue, c.seq, s.now, .chip)] } } i (c.ends 0 0 0)))

/-- 06 R355 to R360; 07 R403; 08 R454, R455; 09 R491 to R494; 11 R593, R608. The session commands. -/
def Obligations.SessionCommandsComplete : Prop := ∀ s : State, ∀ q : Fin 16, ∀ i, ∀ c : Cmd,
  (s.Serves q 0x0101 i c (openShape c) →
    (∀ e, s.openBar (sessionAsked c) = some e → Posts (.sessionOpen q) s s.begin i (c.ends e.1 e.2 0)) ∧
    (∀ n k, s.openBar (sessionAsked c) = none → s.sessionChoices (sessionAsked c) = [n] → s.pipeChoices (sessionAsked c) = [k] →
      Posts (.sessionOpen q) s (s.begin.openAt (sessionAsked c) n k) i
        (c.ends 0 0 (n + k * 2 ^ 8 + maskOf (gangPipes k (sessionAsked c).gang) * 2 ^ 12))) ∧
    (s.openBar (sessionAsked c) = none → ∃ n ∈ s.sessionChoices (sessionAsked c), ∃ k ∈ s.pipeChoices (sessionAsked c), ∃ m < 3,
      Posts (.sessionOpen q) s (State.openAt { s.begin with free := s.free + m } (sessionAsked c) n k) i
        (c.ends 0 0 (n + k * 2 ^ 8 + maskOf (gangPipes k (sessionAsked c).gang) * 2 ^ 12)))) ∧
  (s.Serves q 0x0105 i c { m0 := 0xFFFFFFFFFF03FFFF, m1 := 2 ^ 56 - 1, bad := (sessionAsked c).argsBad } →
    Posts (.sessionSize q) s s.begin i (c.ends 0 0 (sessionAsked c).workNeeded)) ∧
  (s.Serves q 0x0104 i c (s.setShape c) → ∀ x, x = s.session (c.a0 % 256) →
    (x.mode ≠ .opened → Posts (.sessionSet q) s s.begin i (c.ends 0x0107 0x28 0)) ∧
    (x.mode = .opened → (bitsOf c.a0 8 8 = 1 ∧ x.enc = true) ∨ (bitsOf c.a0 8 8 = 2 ∧ x.decodes = true) →
      Posts (.sessionSet q) s (s.begin.setSession (c.a0 % 256) (x.put (bitsOf c.a0 8 8) c.body)) i (c.ends 0 0 0)) ∧
    (x.mode = .opened → bitsOf c.a0 8 8 = 3 →
      Posts (.sessionSet q) s
        (((s.begin.setSession (c.a0 % 256) (x.put 3 c.body)).clearRing (ringOf c.body 0)).aruLevel x.firstPipe) i (c.ends 0 0 0))) ∧
  (s.Serves q 0x0103 i c
      { m0 := 0xFF, m1 := 2 ^ 64 - 1, bad := [(decide (c.a0 % 256 > 63), 0x28)], addrs := [(0x30, c.a1, 64, 64)] } →
    Posts (.sessionQuery q) s (s.begin.writeMem 6 c.a1 (s.sessionBlock (c.a0 % 256))) i (c.ends 0 0 0)) ∧
  (s.Serves q 0x0102 i c { m0 := 0x1FF, bad := [(decide (c.a0 % 256 > 63), 0x28)] } →
    ((s.session (c.a0 % 256)).mode ≠ .opened → PostsOn (.sessionClose q) s s.begin i (c.ends 0x0107 0x28 0)) ∧
    ((s.session (c.a0 % 256)).mode = .opened → bitAt c.a0 8 = false →
      PostsOn (.sessionClose q) s (s.begin.setSession (c.a0 % 256) { s.session (c.a0 % 256) with mode := .closing }) i
        { c with phase := .running, wait := none }))

/-- 06 R358, R359, R363, R371; 09 R498. Jobs are accepted by their session's queue and direction, and are cancelled. -/
def Obligations.JobCommandsAreTakenOn : Prop := ∀ s : State, ∀ q : Fin 16, ∀ i, ∀ c : Cmd, ∀ x, x = s.session (c.a0 % 256) →
  (s.Serves q 0x0301 i c (s.encodeShape c false) →
    (x.mode = .opened → x.queue = c.queue → x.dir = 0 →
      PostsOn (.jobEncode q) s s.begin i { c with wait := none, phase := .running, pipes := x.mask, params := x.body }) ∧
    (x.mode ≠ .opened ∨ x.queue ≠ c.queue ∨ x.dir ≠ 0 → PostsOn (.jobEncode q) s s.begin i (c.ends 0x0107 0x28 0))) ∧
  (s.Serves q 0x0303 i c (s.encodeShape c true) →
    (x.mode = .opened → x.queue = c.queue → x.dir = 2 →
      PostsOn (.jobLoopback q) s s.begin i { c with wait := none, phase := .running, pipes := x.mask, params := x.body }) ∧
    (x.mode ≠ .opened ∨ x.queue ≠ c.queue ∨ x.dir ≠ 2 → PostsOn (.jobLoopback q) s s.begin i (c.ends 0x0107 0x28 0))) ∧
  (s.Serves q 0x0302 i c (s.decodeShape c) →
    (x.mode = .opened → x.queue = c.queue → x.dir = 1 → ¬(bitAt c.a0 16 = true ∧ x.codec = 4) →
      PostsOn (.jobDecode q) s s.begin i { c with wait := none, phase := .running, pipes := x.mask, params := x.body }) ∧
    (x.mode ≠ .opened ∨ x.queue ≠ c.queue ∨ x.dir ≠ 1 ∨ (bitAt c.a0 16 = true ∧ x.codec = 4) →
      PostsOn (.jobDecode q) s s.begin i (c.ends 0x0107 0x28 0))) ∧
  (s.Serves q 0x0304 i c (measureShape c) →
    (x.mode = .opened → x.queue = c.queue →
      PostsOn (.jobMeasure q) s s.begin i { c with wait := none, phase := .running, pipes := 2 ^ x.firstPipe, params := x.body }) ∧
    (x.mode ≠ .opened ∨ x.queue ≠ c.queue → PostsOn (.jobMeasure q) s s.begin i (c.ends 0x0107 0x28 0))) ∧
  (s.Serves q 0x0305 i c { m0 := 2 ^ 32 - 1 } →
    (s.cancelTarget c = none → PostsOn (.jobCancel q) s s.begin i (c.ends 0 0 0)) ∧
    (∀ j d, s.cancelTarget c = some j → s.hazel.jobs[j]? = some d → d.onPipe = false →
      PostsOn (.jobCancel q) s ((s.begin.setJob j { d.ends 0x0304 c.seq 0 with onPipe := false }).releaseIdlePipes 4) i (c.ends 0 1 0)))

/-- 06 R361, R362; 08 R452, R453. The Pod commands: images are checked, loaded, unloaded, and stored through bank D's bursts. -/
def Obligations.PodCommandsComplete : Prop := ∀ s : State, ∀ q : Fin 16, ∀ i, ∀ c : Cmd,
  (s.Serves q 0x0201 i c
      { m0 := 2 ^ 64 - 1, m1 := 2 ^ 48 - 1
        bad := [(!(64 ≤ c.a1 % 2 ^ 32 && c.a1 % 2 ^ 32 ≤ 2 ^ 20), 0x30),
          (if c.a0 = 0 then decide (bitsOf c.a1 32 16 > 63) else bitsOf c.a1 32 16 != 0xFFFF, 0x34)]
        addrs := if c.a0 = 0 then [] else [(0x28, c.a0, c.a1 % 2 ^ 32, 64)] } →
    (s.ready 7 = false → Posts (.podLoad q) s s.begin i (c.ends 0x0201 7 0)) ∧
    (s.ready 7 = true → s.asleep 1 = false → c.a0 ≠ 0 → ∀ m, m = s.begin.readMem 6 c.a0 (c.a1 % 2 ^ 32) → m.poison = none →
      (∀ e, podCheck m.data (c.a1 % 2 ^ 32) s.hazel.image.podLo s.hazel.image.podHi = some e →
        Posts (.podLoad q) s m.state i (c.ends e.1 e.2 0)) ∧
      (∀ u, u = (m.state.choose s.freeHandles).2 → ∀ h,
        podCheck m.data (c.a1 % 2 ^ 32) s.hazel.image.podLo s.hazel.image.podHi = none → (m.state.choose s.freeHandles).1 = some h →
        s.podBytes + m.data.length ≤ 2 ^ 26 → h ∈ s.freeHandles ∧
        Posts (.podLoad q) s
          ((u.setPod h { image := m.data, version := s.hazel.image.version }).writeMem 6 (podAddr h)
            (relocated m.data h s.hazel.image.version)) i (c.ends 0 0 (podResult h m.data))) ∧
      (podCheck m.data (c.a1 % 2 ^ 32) s.hazel.image.podLo s.hazel.image.podHi = none → s.freeHandles = [] →
        Posts (.podLoad q) s m.state i (c.ends 0x0106 2 0)))) ∧
  (s.Serves q 0x0202 i c { m0 := 0xFFFF, bad := [(!handleOk (c.a0 % 65536), 0x28)] } →
    ((s.pod (c.a0 % 65536)).image = [] ∨ s.podUsed (c.a0 % 65536) = true →
      Posts (.podUnload q) s s.begin i (c.ends 0x0107 0x28 0)) ∧
    ((s.pod (c.a0 % 65536)).image ≠ [] → s.podUsed (c.a0 % 65536) = false →
      Posts (.podUnload q) s
        (foldRange (fun n u => u.setPipe n ((u.pipe n).dropPages (c.a0 % 65536))) 4 (s.begin.setPod (c.a0 % 65536) {})) i
        (c.ends 0 0 0))) ∧
  (s.Serves q 0x0203 i c
      { m0 := 0xFFFF, m1 := 0x3F, bad := [(!handleOk (c.a0 % 65536), 0x28), (decide (c.a1 % 64 < 16), 0x30)] } →
    ((s.pod (c.a0 % 65536)).image = [] → Posts (.podStore q) s s.begin i (c.ends 0x0107 0x28 0)) ∧
    (∀ o, (s.pod (c.a0 % 65536)).image ≠ [] → s.libraryPlace (c.a1 % 64) (s.pod (c.a0 % 65536)).image.length = some o →
      s.lacking [8] = none → ⟨.mramBurst, 0⟩ ∉ s.pac.held → (∀ r ∈ s.pac.queue, r.who ≠ ⟨.mramBurst, 0⟩) →
      s.pacBars ⟨.mramBurst, 0⟩ = none →
      Posts (.podStore q) s
        { s.begin with pac := { s.pac with queue := pacInsert ⟨⟨.mramBurst, 0⟩, 1, s.now, s.pac.timeout, s.now⟩ s.pac.queue } } i
        { c with rest := (s.pod (c.a0 % 65536)).image, dst := o, result := (s.pod (c.a0 % 65536)).image.length
                 phase := .running, wait := some ⟨.mramBurst, 0⟩ })) ∧
  (s.Serves q 0x0204 i c { m0 := 0x3F, bad := [(decide (c.a0 % 64 < 16), 0x28)] } →
    ((s.libEntry (c.a0 % 64)).2 = 0 → Posts (.podDelete q) s s.begin i (c.ends 0 0 0)) ∧
    ((s.libEntry (c.a0 % 64)).2 ≠ 0 → s.lacking [8] = none → ⟨.mramBurst, 0⟩ ∉ s.pac.held →
      (∀ r ∈ s.pac.queue, r.who ≠ ⟨.mramBurst, 0⟩) → s.pacBars ⟨.mramBurst, 0⟩ = none →
      Posts (.podDelete q) s
        { s.begin with pac := { s.pac with queue := pacInsert ⟨⟨.mramBurst, 0⟩, 1, s.now, s.pac.timeout, s.now⟩ s.pac.queue } } i
        { c with rest := [], dst := (s.libEntry (c.a0 % 64)).1, phase := .running, wait := some ⟨.mramBurst, 0⟩ }))

/-- 06 R372, R373; 13 R682 to R691, R711, R712, R718; 14 R765. The port, clock and scheduler commands. -/
def Obligations.PortCommandsComplete : Prop := ∀ s : State, ∀ q : Fin 16, ∀ i, ∀ c : Cmd,
  (s.Serves q 0x0401 i c (portShape c) → (∀ x ∈ s.hazel.jobs, x.portWaits (c.a0 % 16) = false) →
    (s.portBar c = true → PostsOn (.portConfig q) s s.begin i (c.ends 0x0107 0x28 0)) ∧
    (s.portBar c = false → bitsOf c.a0 8 4 = 0 → PostsOn (.portConfig q) s (s.begin.portOff (c.a0 % 16)) i (c.ends 0 0 0)) ∧
    (s.portBar c = false → bitsOf c.a0 8 4 ≠ 0 →
      PostsOn (.portConfig q) s (s.begin.portSet c) i { c with phase := .running, wait := none })) ∧
  (s.Serves q 0x0402 i c { m0 := 0xF, m1 := 2 ^ 64 - 1, addrs := [(0x30, c.a1, 64, 64)] } →
    Posts (.portQuery q) s (s.begin.writeMem 6 c.a1 (s.portBlock (c.a0 % 16))) i (c.ends 0 0 0)) ∧
  (s.Serves q 0x0406 i c { bodyLen := 64, m0 := 0x3F0F, bad := s.schedBad c } → ∀ k x, ∀ y : Sched, k = c.a0 % 16 * 64 + bitsOf c.a0 8 6 →
    x = Table.get {} s.sched k →
    y = { x with quantum := blkField c.body 0 4, cir := blkField c.body 4 4, cbs := blkField c.body 8 4
                 pir := blkField c.body 0xC 4, pbs := blkField c.body 0x10 4
                 committed := blkField c.body 8 4 * 8000000, peak := blkField c.body 0x10 4 * 8000000, filled := s.now } →
    Posts (.schedConfig q) s { s.begin with sched := Table.set {} s.sched k y } i (c.ends 0 0 0)) ∧
  (s.Serves q 0x0407 i c { m0 := 0xFFFF071F, bad := [(decide (c.a0 % 32 > 17), 0x28)] } →
    (s.vtcBar (c.a0 % 32) = true → Posts (.vtcConfig q) s s.begin i (c.ends 0x0107 0x28 0)) ∧
    (s.vtcBar (c.a0 % 32) = false → ∀ u, u = (s.begin.vtcWrite 4 (bitsOf c.a0 16 16)).vtcCfg (c.a0 % 65536) →
      u.vtc.srcSel = c.a0 % 32 ∧ u.vtc.holdLimit = bitsOf c.a0 16 16 ∧ u.vtc.configured = true ∧
      (u.pll 8 = .locked → Posts (.vtcConfig q) s u i (c.ends 0 0 0)) ∧
      (u.pll 8 = .requested ∨ u.pll 8 = .starting →
        Posts (.vtcConfig q) s u i { c with phase := .running, wait := some ⟨.vtcPll, 0⟩ }))) ∧
  (s.Serves q 0x0408 i c { bodyLen := 64, bad := s.ptpBad c.body } →
    Posts (.ptpConfig q) s { s.begin with ptp := { s.ptp with configured := true, block := ptpDefaults c.body } } i (c.ends 0 0 0)) ∧
  (s.Serves q 0x0409 i c { bodyLen := 64, m0 := 0x10F } → ∀ l, l = s.lane (c.a0 % 16) →
    (ethMode (s.portMode (c.a0 % 16)) = false → Posts (.mcast q) s s.begin i (c.ends 0x0107 0x28 0)) ∧
    (ethMode (s.portMode (c.a0 % 16)) = true →
      Posts (.mcast q) s (s.begin.setLane (c.a0 % 16)
        { l with groups := l.groups.filter (fun g => g != c.body) ++ (if bitAt c.a0 8 then [] else [c.body])
                 control := l.control ++ [Config.groupReport l.block c.body (bitAt c.a0 8)] }) i (c.ends 0 0 0)))

/-- 06 R372, R374; 14 R727 to R731, R763, R772, R775, R776. The flow commands. -/
def Obligations.FlowCommandsComplete : Prop := ∀ s : State, ∀ q : Fin 16, ∀ i, ∀ c : Cmd, ∀ k, k = c.a0 % 1024 →
  (∀ x, x = flowAsk c →
    s.Serves q 0x0403 i c { bodyLen := 128, m0 := 0xF13FF, bad := x.bad
                            addrs := if x.kind = 5 then [(0xA0, blkField x.block 0x60 8, 64, 64)] else [], named := x.buffer } →
    (s.flowBar k x = true → Posts (.flowAdd q) s s.begin i (c.ends 0x0107 0x28 0)) ∧
    (∀ r, s.flowBar k x = false → s.flowLacks x = some r → Posts (.flowAdd q) s s.begin i (c.ends 0x0106 3 r)) ∧
    (s.flowBar k x = false → s.flowLacks x = none →
      Posts (.flowAdd q) s (s.begin.installFlow k x).1 i (c.ends 0 0 (if x.netIn then (freeEntry s.entries).getD 0 else 0xFFF)))) ∧
  (s.Serves q 0x0404 i c { m0 := 0x103FF } →
    ((s.flow k).live = false ∨ (s.flow k).mode = .removing → PostsOn (.flowRemove q) s s.begin i (c.ends 0x0107 0x28 0)) ∧
    ((s.flow k).live = true → (s.flow k).mode ≠ .removing → bitAt c.a0 16 = true ∨ (s.flow k).egress = false →
      PostsOn (.flowRemove q) s ((s.begin.setFlow k (s.flow k).discard).dropFlow k) i (c.ends 0 0 0)) ∧
    ((s.flow k).live = true → (s.flow k).mode ≠ .removing → bitAt c.a0 16 = false → (s.flow k).egress = true →
      PostsOn (.flowRemove q) s (s.begin.setFlow k { s.flow k with mode := .removing, removedAt := s.now }) i
        { c with phase := .running, wait := none })) ∧
  (∀ v, v = bitsOf c.a0 16 8 → s.Serves q 0x0405 i c { m0 := 0xFF03FF, bad := [(decide (v > 63) && v != 0xFF, 0x2A)] } →
    ((s.flow k).live = false → Posts (.flowBind q) s s.begin i (c.ends 0x0107 0x28 0)) ∧
    ((s.flow k).live = true → v = 0xFF →
      Posts (.flowBind q) s (s.begin.setFlow k { s.flow k with session := none, waiting := [] }) i (c.ends 0 0 0)) ∧
    ((s.flow k).live = true → v ≠ 0xFF → (s.session v).mode ≠ .opened → Posts (.flowBind q) s s.begin i (c.ends 0x0107 0x2A 0)) ∧
    ((s.flow k).live = true → v ≠ 0xFF → (s.session v).mode = .opened →
      ((s.flow k).egress = true → (s.session v).dir ≠ 1) → ((s.flow k).egress = false → (s.session v).dir ≠ 0) →
      Posts (.flowBind q) s (s.begin.setFlow k { s.flow k with session := some v, waiting := [] }) i (c.ends 0 0 0)))

/-- 06 R375; 12 R618, R631, R646, R670. The memory commands: data moves by a channel of firmware or by bursts of the user
region, and firmware pins stacks and paces the scrubber. -/
def Obligations.MemoryCommandsComplete : Prop := ∀ s : State, ∀ q : Fin 16, ∀ i, ∀ c : Cmd, ∀ n, ∀ d,
  d = { c with wait := none, chan := n, dst := 0 } → ∀ v, v = (s.begin.choose s.freeChans).2 →
  (s.Serves q 0x0501 i c
      { m0 := 2 ^ 64 - 1, m1 := 2 ^ 64 - 1, m2 := 2 ^ 32 - 1, bad := [(c.a2 % 2 ^ 32 == 0, 0x38)]
        addrs := [(0x28, c.a0, c.a2 % 2 ^ 32, 1), (0x30, c.a1, c.a2 % 2 ^ 32, 1)] } →
    (s.lacking [13] ≠ none → PostsOn (.memCopy q) s s.begin i (c.ends 0x0201 13 0)) ∧
    (s.lacking [13] = none → (s.begin.choose s.freeChans).1 = some n → d.piece = d.moveLen → n ∈ s.freeChans ∧
      PostsOn (.memCopy q) s ((v.setChan n (d.transfer (s.chan n))).dmaStart n) i { d with phase := .running })) ∧
  (s.Serves q 0x0502 i c
      { m0 := 2 ^ 64 - 1, m1 := 2 ^ 64 - 1, m2 := 2 ^ 32 - 1, bad := [(c.a2 % 2 ^ 32 % 8 != 0, 0x38)]
        addrs := [(0x28, c.a0, c.a2 % 2 ^ 32, 1)] } →
    (c.a2 % 2 ^ 32 = 0 → PostsOn (.memFill q) s s.begin i (c.ends 0 0 0)) ∧
    (∀ u, u = v.writeMem 6 (0x803FFFFC0 + 8 * (n - 8)) (leBytes 8 c.a1) → c.a2 % 2 ^ 32 ≠ 0 →
      s.lacking [5, 13] = none → (s.begin.choose s.freeChans).1 = some n → d.piece = d.moveLen → n ∈ s.freeChans ∧
      PostsOn (.memFill q) s ((u.setChan n (d.transfer (u.chan n))).dmaStart n) i { d with phase := .running })) ∧
  (s.Serves q 0x0504 i c (userShape c) →
    (s.lacking [8, 13] = none → (s.begin.choose s.freeChans).1 = some n → d.piece = d.moveLen → n ∈ s.freeChans ∧
      PostsOn (.userRead q) s ((v.setChan n (d.transfer (s.chan n))).dmaStart n) i { d with phase := .running })) ∧
  (s.Serves q 0x0505 i c (userShape c) → ∀ m, m = s.begin.readMem 6 c.a1 (c.a2 % 2 ^ 21) → s.lacking [8, 13] = none →
    (∀ p, m.poison = some p → PostsOn (.userWrite q) s m.state i (c.ends 0x0303 0 p)) ∧
    (∀ x, x = m.state.readEdges (regionBase 8 + c.a0 % 2 ^ 20) (c.a2 % 2 ^ 21) → m.poison = none →
      (∀ p, x.2 = some p → PostsOn (.userWrite q) s x.1 i (c.ends 0x0303 0 p)) ∧
      (x.2 = none → ⟨.mramBurst, 0⟩ ∉ x.1.pac.held → (∀ r ∈ x.1.pac.queue, r.who ≠ ⟨.mramBurst, 0⟩) →
        x.1.pacBars ⟨.mramBurst, 0⟩ = none →
        PostsOn (.userWrite q) s
          { x.1 with pac := { x.1.pac with queue := pacInsert ⟨⟨.mramBurst, 0⟩, 1, x.1.now, x.1.pac.timeout, x.1.now⟩ x.1.pac.queue } } i
          { c with rest := m.data, dst := c.a0 % 2 ^ 20, phase := .running, wait := some ⟨.mramBurst, 0⟩ }))) ∧
  (s.Serves q 0x0503 i c { m0 := 0x101 } → ∀ k, k = c.a0 % 2 →
    (s.lacking [6 + k] ≠ none → Posts (.memPin q) s s.begin i (c.ends 0x0201 (6 + k) 0)) ∧
    (s.lacking [6 + k] = none → bitAt c.a0 8 = false →
      Posts (.memPin q) s (s.begin.setStack k { s.stack k with pinFw := false }) i (c.ends 0 0 0)) ∧
    (s.lacking [6 + k] = none → bitAt c.a0 8 = true → s.awake k = true →
      Posts (.memPin q) s (s.begin.setStack k { s.stack k with pinFw := true }) i (c.ends 0 0 0)) ∧
    (s.lacking [6 + k] = none → bitAt c.a0 8 = true → s.ready (6 + k) = true → (s.stack k).mode = .selfRefresh →
      ⟨.dramWake, k⟩ ∉ s.pac.held → (∀ r ∈ s.pac.queue, r.who ≠ ⟨.dramWake, k⟩) → s.pacBars ⟨.dramWake, k⟩ = none →
      ∀ u, u = (s.begin.setStack k { s.stack k with pinFw := true }).wakeStack k 1 →
        (∃ r ∈ u.pac.queue, r.who = ⟨.dramWake, k⟩) ∧ (u.stack k).pinFw = true ∧
        Posts (.memPin q) s u i { c with phase := .running, wait := some ⟨.dramWake, k⟩ })) ∧
  (s.Serves q 0x0506 i c { m0 := 0x1FFFF, bad := [(!(1 ≤ c.a0 % 65536 && c.a0 % 65536 ≤ 168), 0x28)] } →
    Posts (.scrubConfig q) s
      (State.scrubStart { s.begin with scrub := { s.scrub with enable := bitAt c.a0 16, passHours := c.a0 % 65536 } }) i
      (c.ends 0 0 0))

/-- 06 R376 to R378; 15 R787, R792, R804 to R810; 18 R917. Counters are read and cleared, sources configured, injected and
closed, and the logs copied. -/
def Obligations.CounterAndFaultCommandsComplete : Prop := ∀ s : State, ∀ q : Fin 16, ∀ i, ∀ c : Cmd,
  (s.Serves q 0x0601 i c
      { m0 := 2 ^ 64 - 1, m1 := 2 ^ 64 - 1, m2 := 0xFFFF, bad := counterBad c, addrs := [(0x30, c.a1, 4 * (c.a2 % 65536), 64)] } →
    ∀ x, x = s.begin.readCounters (0x100000 + c.a0) (c.a2 % 65536) →
      x.1.length = c.a2 % 65536 ∧
      Posts (.counterRead q) s (x.2.writeMem 6 c.a1 (x.1.map (leBytes 4)).flatten) i (c.ends 0 0 0)) ∧
  (s.Serves q 0x0602 i c { m0 := 2 ^ 64 - 1, m2 := 0xFFFF, bad := counterBad c } → ∀ u,
    u = s.begin.clearCounters (0x100000 + c.a0) (c.a2 % 65536) →
      u.rdy = s.rdy ∧ u.mem = s.mem ∧ Posts (.counterClear q) s u i (c.ends 0 0 0)) ∧
  (∀ k, k = c.a0 % 128 → s.Serves q 0x0603 i c
      { m0 := 0xFFFF00011F7F
        bad := [(fltReserved k || fltFixed k, 0x28), (bitAt c.a0 10 && !fltHasTarget k, 0x29),
                (bitAt c.a0 16 && bitsOf c.a0 32 16 == 0, 0x2C)] } →
    Posts (.faultConfig q) s
      { s.begin with flt := { s.flt with
          react := Table.set ({} : Trip) s.flt.react k ⟨bitsOf c.a0 8 5, bitsOf c.a0 8 5, bitsOf c.a0 8 5⟩
          quiet := if bitAt c.a0 16 then ⟨bitsOf c.a0 32 16, bitsOf c.a0 32 16, bitsOf c.a0 32 16⟩ else s.flt.quiet } } i
      (c.ends 0 0 0)) ∧
  (s.Serves q 0x0604 i c
      { m0 := 1, m1 := 2 ^ 64 - 1, m2 := 0xFFFF
        addrs := [(0x30, c.a1, (if bitAt c.a0 0 then 32 else 16) * (c.a2 % 65536), 64)] } →
    ∀ l, l = s.logImages (bitAt c.a0 0) (c.a2 % 65536) →
      (l = [] → Posts (.faultLogRead q) s s.begin i (c.ends 0 0 (2 ^ 16 * b2n s.flt.logInvalid + 2 ^ 17 * b2n (!s.flt.lr.isEmpty)))) ∧
      (l ≠ [] → Posts (.faultLogRead q) s (s.begin.writeMem 6 c.a1 l.flatten) i
        (c.ends 0 0 (l.length % 65536 + 2 ^ 16 * b2n s.flt.logInvalid + 2 ^ 17 * b2n (!s.flt.lr.isEmpty))))) ∧
  (s.Serves q 0x0605 i c { m0 := 0x7F, m1 := 2 ^ 32 - 1, bad := sourceBad c } → ∀ k, k = c.a0 % 128 →
    (s.injectResets k = true →
      PostsOn (.faultInject q) s
        { s.begin with hazel := { s.hazel with deferred := s.hazel.deferred ++ [(c.queue, c.seq, s.now, .inject k (c.a1 % 2 ^ 32))] } } i
        (c.ends 0 0 0)) ∧
    (s.injectResets k = false → s.canRecord k false = true →
      PostsOn (.faultInject q) s (s.begin.record k (c.a1 % 2 ^ 32) false) i (c.ends 0 0 0)) ∧
    (s.injectResets k = false → s.canRecord k false = false → PostsOn (.faultInject q) s s.begin i (c.ends 0 0 0))) ∧
  (s.Serves q 0x0606 i c { m0 := 0x7F, bad := sourceBad c } → ∀ k, k = c.a0 % 128 →
    (((s.fltSrc k).open_ = false ∨ (s.fltSrc k).standing = true) → Posts (.faultClear q) s s.begin i (c.ends 0 0 0)) ∧
    ((s.fltSrc k).open_ = true → (s.fltSrc k).standing = false →
      Posts (.faultClear q) s ((s.begin.logEvent 3 k).setFltSrc k { s.fltSrc k with open_ := false, causeFlag := false }) i
        (c.ends 0 0 0)))

/-- 06 R343, R344, R379 to R383; 07 R423, R443; 12 R629. Self-tests, the staging and activation of images, and timeouts. -/
def Obligations.MaintenanceCommandsComplete : Prop := ∀ s : State, ∀ q : Fin 16, ∀ i, ∀ c : Cmd,
  (∀ k, k = c.a0 % 256 → ∀ n, n = bitsOf c.a0 8 8 → s.Serves q 0x0701 i c
      { m0 := 0xFFFF, bad := [(k != 0x11 && k != 0x21, 0x28), (decide (n ≥ (if k = 0x11 then 4 else 3)), 0x29)] } →
    (k = 0x11 → (s.pipe n).bistCmd = none → (s.pipe n).bist ≠ .running →
      PostsOn (.selftest q) s
        (s.begin.setPipe n { s.pipe n with bist := .requested, bistCmd := some (c.queue, c.seq) }) i
        { c with phase := .running, wait := none }) ∧
    (k = 0x21 → 0 < n → s.stackUsed (n - 1) = true → PostsOn (.selftest q) s s.begin i (c.ends 0x0107 0x29 0)) ∧
    (k = 0x21 → 0 < n → s.stackUsed (n - 1) = false → s.lacking [5 + n] ≠ none →
      PostsOn (.selftest q) s s.begin i (c.ends 0x0201 (5 + n) 0)) ∧
    (k = 0x21 → (n = 0 ∨ (s.stackUsed (n - 1) = false ∧ s.asleep (n - 1) = false)) → s.lacking [5 + n] = none →
      ⟨.memSelftest, n⟩ ∉ s.pac.held → (∀ r ∈ s.pac.queue, r.who ≠ ⟨.memSelftest, n⟩) → s.pacBars ⟨.memSelftest, n⟩ = none →
      PostsOn (.selftest q) s
        { s.begin with pac := { s.pac with queue := pacInsert ⟨⟨.memSelftest, n⟩, 0, s.now, s.pac.timeout, s.now⟩ s.pac.queue } } i
        { c with phase := .running, wait := some ⟨.memSelftest, n⟩ })) ∧
  (s.Serves q 0x0702 i c
      { m0 := 0x101, m1 := 2 ^ 64 - 1, m2 := 2 ^ 64 - 1, bad := if s.staging then [] else s.stageBad c
        addrs := [(0x30, c.a1, c.a2 % 2 ^ 32, 64)] } →
    (s.staging = true → bitAt c.a0 0 = true → PostsOn (.fwStage q) s s.begin i { c with wait := none }) ∧
    (∀ m, m = s.begin.readMem 6 c.a1 (c.a2 % 2 ^ 32) → s.staging = false →
      (∀ p, bitAt c.a0 0 = true → s.pipServes = true → m.poison = some p →
        PostsOn (.fwStage q) s m.state i (c.ends 0x0303 0 p)) ∧
      (bitAt c.a0 0 = true → s.pipServes = true → m.poison = none →
        PostsOn (.fwStage q) s ((m.state.stageBegin c).stagePip m.data) i (c.ends 0 0 0)) ∧
      (∀ u, u = m.state.stageBegin c → bitAt c.a0 0 = false → s.lacking [8] = none → m.poison = none →
        ⟨.mramBurst, 0⟩ ∉ u.pac.held → (∀ r ∈ u.pac.queue, r.who ≠ ⟨.mramBurst, 0⟩) → u.pacBars ⟨.mramBurst, 0⟩ = none →
        PostsOn (.fwStage q) s
          { u with pac := { u.pac with queue := pacInsert ⟨⟨.mramBurst, 0⟩, 0, u.now, u.pac.timeout, u.now⟩ u.pac.queue } } i
          { c with rest := m.data, params := m.data, dst := c.a2 / 2 ^ 32, phase := .running, wait := some ⟨.mramBurst, 0⟩ }))) ∧
  (s.Serves q 0x0703 i c { m0 := 0x101 } → ∀ pip, pip = bitAt c.a0 0 → ∀ h, h = Config.imageOf (s.stageOf pip).bytes →
    (pip = true ∨ s.lacking [8] = none) → s.staging = false → s.pipServes = true →
    (∀ f, (s.stageOf pip).fault = some f → Posts (.fwCommit q) s s.begin i (c.ends 0x0404 f 0)) ∧
    ((s.stageOf pip).fault = none → pip = true → s.hazel.mode = .compat → h.version ∉ s.hazel.image.tested →
      Posts (.fwCommit q) s s.begin i (c.ends 0x0401 0 0)) ∧
    ((s.stageOf pip).fault = none → pip = true → s.hazel.mode ≠ .compat ∨ h.version ∈ s.hazel.image.tested →
      Posts (.fwCommit q) s (if bitAt c.a0 8 then (s.begin.activate true).defer c .pip else s.begin.activate true) i
        (c.ends 0 0 0)) ∧
    ((s.stageOf pip).fault = none → pip = false →
      Posts (.fwCommit q) s (if bitAt c.a0 8 then (s.begin.activate false).defer c .hazel else s.begin.activate false) i
        (c.ends 0 (b2n (imageMode h (s.husk.pipMode == .rom) s.husk.pipIf s.husk.pipVersion == .compat)) 0))) ∧
  (∀ n : Word32, s.fwUp = true → s.hazel.jobs = [c] → c.queue = q → c.seq = n.toNat → c.live = true → isJob c.opcode = false →
    c.wait = none → c.phase = .accepted → c.opcode ≠ 0x701 → Leads (.commandTimeout q n) s fun u =>
      u.hazel.jobs = [c.ends 0x0302 c.limit 0] ∧ c.taken + 1000000 * c.limit ≤ u.now ∧ Only [.hazel, .time, .ptp] s u) ∧
  (∀ n : Word32, s.fwUp = true → (∀ x ∈ s.hazel.jobs, x.queue ≠ q ∨ x.seq ≠ n.toNat ∨ x.live = false) →
    Does (.commandTimeout q n) s fun t => Only [] s t)

/-- 13 R714, R716. Hazel-B's writes of PTP_CTRL: time runs, steps, and is marked locked or lost. 13 R712, R714, R716. The
target, the stamped input pins, and the output pins of time. -/
def Obligations.TimeRunsAndIsStamped : Prop :=
  (∀ s : State, s.mainOn = true → s.hazelUp = true →
  (Does .runSet s fun t => t.ptp = { s.ptp with run := true } ∧ t.ready 21 = true ∧ (∀ k, k ≠ 21 → t.ready k = s.ready k) ∧
    Only [.ptp, .ready] s t) ∧
  (Does .runClr s fun t => t.ptp = { s.ptp with run := false } ∧ t.ready 21 = false ∧ (∀ k, k ≠ 21 → t.ready k = s.ready k) ∧
    Only [.ptp, .ready] s t) ∧
  (∀ v : Int, v = (s.ptp.sec + toSigned 32 s.ptp.stepSec) * 1000000000 + s.ptp.ns + toSigned 32 s.ptp.stepNs → 0 ≤ v → v < 2 ^ 48 * 1000000000 →
    Does .step s fun t => (t.ptp.sec * 1000000000 + t.ptp.ns : Int) = v ∧ t.ptp.ns < 1000000000 ∧
      t.ptp = { s.ptp with sec := t.ptp.sec, ns := t.ptp.ns } ∧ Only [.ptp] s t) ∧
  (s.vtc.srcSel ≠ 16 →
    (Does .lossSet s fun t => t.ptp = { s.ptp with loss := true } ∧ Only [.ptp] s t) ∧
    (Does .ptpLoss s fun t => t.ptp = { s.ptp with loss := true } ∧ Only [.ptp] s t)) ∧
  (s.vtc.srcSel = 16 → s.ptp.loss = false → s.vtc.mode = .locked →
    (Does .lossSet s fun t => t.ptp = { s.ptp with loss := true } ∧ t.vtc.mode = .holdover) ∧
    (Does .ptpLoss s fun t => t.ptp = { s.ptp with loss := true } ∧ t.vtc.mode = .holdover)) ∧
  (Does .lossClr s fun t => t.ptp = { s.ptp with loss := false } ∧ Only [.ptp] s t) ∧
  (Does .lockSet s fun t => t.ptp = { s.ptp with locked := true } ∧ Only [.ptp] s t) ∧
  (Does .lockClr s fun t => t.ptp = { s.ptp with locked := false } ∧ Only [.ptp] s t)) ∧
  (∀ s : State, s.mainOn = true → s.ready 14 = true →
  (s.ptp.armed = true → s.ptp.targetSec * 1000000000 + s.ptp.targetNs ≤ s.ptp.sec * 1000000000 + s.ptp.ns →
    Does .ptpTarget s fun t => t.ptp = { s.ptp with armed := false } ∧ t.icu.host.pend.getLsbD 85 = true ∧
      t.icu.hazelB.pend.getLsbD 85 = true ∧ Only [.ptp, .icu] s t) ∧
  (s.ptp.armed = false ∨ s.ptp.sec * 1000000000 + s.ptp.ns < s.ptp.targetSec * 1000000000 + s.ptp.targetNs →
    Does .ptpTarget s fun t => Only [] s t) ∧
  (Does .ppsIn s fun t => t.ptp = { s.ptp with ppsNs := s.ptp.ns, ppsSec := s.ptp.sec } ∧ t.icu.hazelB.pend.getLsbD 86 = true ∧
    Only [.ptp, .icu] s t) ∧
  (Does .fsyncIn s fun t => t.ptp = { s.ptp with fsyncNs := s.ptp.ns, fsyncSec := s.ptp.sec } ∧
    t.icu.hazelB.pend.getLsbD 87 = true ∧ Only [.ptp, .icu] s t) ∧
  (∀ b, Does (.ppsOut b) s fun t => t.ptp = { s.ptp with ppsOut := b && s.ptp.run && s.ptp.pin 0 } ∧ Only [.ptp] s t) ∧
  (∀ b, Does (.fsyncOut b) s fun t => t.ptp = { s.ptp with fsyncOut := b && s.ready 20 && s.ptp.pin 1 } ∧ Only [.ptp] s t))

/-- 15 R780, R783 to R788, R791, R801, R802. Reports open records and count; conditions end, quiet periods pass, and records
close. -/
def Obligations.RecordsOpenCountAndClose : Prop := ∀ s : State, ∀ k : Fin 128, ∀ r, r = s.fltSrc k →
  (∀ d : Word32, s.canRecord k false = true → k.val ≠ 1 →
    (r.open_ = true → Does (.faultReport k d) s fun t =>
      t.fltSrc k = { r with cnt := satAdd 16 r.cnt 1, last := s.now, standing := fltCondition k } ∧
      (∀ j, j ≠ k.val → t.fltSrc j = s.fltSrc j) ∧ t.flt.log = s.flt.log ∧ Only [.flt] s t) ∧
    (r.open_ = false → s.mildly k → bitAt (s.reactMask k) 3 = false → s.flt.logInvalid = false → s.ready 15 = true →
      Does (.faultReport k d) s fun t =>
        t.fltSrc k = { r with open_ := true, mask := s.reactMask k, detail := d.toNat, standing := fltCondition k, causeFlag := false
                              last := s.now, cnt := satAdd 16 r.cnt 1 } ∧
        (∀ j, j ≠ k.val → t.fltSrc j = s.fltSrc j) ∧ Only [.flt] s t)) ∧
  (s.canRecord k false = false → k.val ≠ 1 → ∀ d : Word32, Does (.faultReport k d) s fun t => Only [] s t) ∧
  (r.standing = true → s.causeGone k = true → k.val ≠ 0 → Does (.conditionEnd k) s fun t =>
    t.fltSrc k = { r with standing := false, last := s.now } ∧ (∀ j, j ≠ k.val → t.fltSrc j = s.fltSrc j) ∧ Only [.flt] s t) ∧
  (r.standing = false → Does (.conditionEnd k) s fun t => Only [] s t) ∧
  (r.open_ = true → r.standing = false →
    (Does (.quietExpiry k) s fun t =>
      t.fltSrc k = { r with open_ := false, causeFlag := false, recov := satAdd 16 r.recov 1 } ∧
      r.last + ticksNs s.flt.quiet.vote ≤ t.now ∧ (∀ j, j ≠ k.val → t.fltSrc j = s.fltSrc j) ∧ Only [.flt, .time, .ptp] s t) ∧
    (s.huskUp = true → Does (.fltActiveClear k) s fun t =>
      t.fltSrc k = { r with open_ := false, causeFlag := false } ∧ (∀ j, j ≠ k.val → t.fltSrc j = s.fltSrc j) ∧ t.now = s.now ∧
      Only [.flt] s t)) ∧
  (r.open_ = false ∨ r.standing = true →
    (Does (.quietExpiry k) s fun t => Only [] s t) ∧ (Does (.fltActiveClear k) s fun t => Only [] s t)) ∧
  (∀ d, s.husk.reopen = [(k.val, d)] → r.open_ = false → Does .causeReopen s fun t =>
    t.husk.reopen = [] ∧ (t.fltSrc k).open_ = true ∧ (∀ j, j ≠ k.val → t.fltSrc j = s.fltSrc j) ∧ Only [.flt, .husk] s t)

/-- 15 R782, R802 to R809, R817; 01 R57. Comparator proofs, watchdogs, the log's controls, and the persistent ring. -/
def Obligations.ProofsWatchdogsAndTheLogs : Prop := ∀ s : State, s.ready 15 = true → s.flt.logInvalid = false →
  (∀ b, s.hazelUp = true → s.pll 1 = .locked → s.mildly (4 + b2n b) → bitAt (s.reactMask (4 + b2n b)) 3 = false →
    (Does (.comparatorProof b true) s fun t => Only [] s t) ∧
    (Does (.comparatorProof b false) s fun t => (t.fltSrc (4 + b2n b)).open_ = true ∧
      t.flt.proofA = (if b then s.flt.proofA else satAdd 16 s.flt.proofA 1) ∧
      t.flt.proofB = (if b then satAdd 16 s.flt.proofB 1 else s.flt.proofB) ∧
      t.flt.degradedA = (s.flt.degradedA || !b) ∧ t.flt.degradedB = (s.flt.degradedB || b) ∧ Only [.flt] s t)) ∧
  (∀ b, s.hazelUp = true → (s.fltSrc (6 + b2n b)).open_ = true → Does (.hazelWdog b) s fun t =>
    (t.fltSrc (6 + b2n b)).cnt = satAdd 16 (s.fltSrc (6 + b2n b)).cnt 1 ∧ Only [.flt] s t) ∧
  (∀ b, s.hazelUp = true → (s.fltSrc (6 + b2n b)).open_ = false → s.reactMask (6 + b2n b) = 4 → s.mainOn = true →
    Does (.hazelWdog b) s fun t => (t.fltSrc (6 + b2n b)).open_ = true ∧ t.hazel.mode = .stopped ∧ t.ready 9 = false ∧
      Only [.flt, .dma, .mbx, .icu, .hazel, .ready] s t) ∧
  (s.huskUp = true → s.husk.pipRun = true → s.mildly 16 → bitAt (s.reactMask 16) 3 = false →
    Does .pipWdog s fun t => t.husk.pipMode = .boot ∧ (t.fltSrc 16).cnt = satAdd 16 (s.fltSrc 16).cnt 1 ∧
      (t.fltSrc 16).open_ = true ∧ Only [.flt, .husk, .icu, .ready] s t) ∧
  (Does .logReinit s fun t => t.flt.logInvalid = false ∧ t.flt.entries.length = 1 ∧ (∀ e ∈ t.flt.entries, e.kind = 5) ∧
    t.flt.wrapped = false ∧ Only [.flt] s t) ∧
  (Does .lrClear s fun t => t.flt = { s.flt with lr := [] } ∧ Only [.flt] s t) ∧
  (Does .errForceSet s fun t => t.flt = { s.flt with errForced := true } ∧ Only [.flt] s t) ∧
  (Does .errForceClr s fun t => t.flt = { s.flt with errForced := false } ∧ Only [.flt] s t) ∧
  (s.flt.plogDue = [] → Does .persistentEntryWrite s fun t => Only [] s t) ∧
  (∀ e l, s.flt.plogDue = e :: l → s.pipServes = true → s.husk.hpEn = true →
    (s.plogAllows e = true → s.mildly 27 → bitAt (s.reactMask 27) 3 = false → Does .persistentEntryWrite s fun t =>
      t.bankM.ring.getLast? = some { e with seq := s.bankM.plogSeq } ∧ t.bankM.ring.length ≤ 2048 ∧
      t.bankM.plogSeq = s.bankM.plogSeq + 1 ∧ Only [.flt, .bankM, .mram] s t) ∧
    (s.plogAllows e = false → Does .persistentEntryWrite s fun t =>
      t.flt = { s.flt with plogDue := l, suppressed := satAdd 16 s.flt.suppressed 1 } ∧ Only [.flt] s t))

/-- 00 R13, R18 to R22; 13 R715, R716; 14 R769. A read of a counter answers its value and clears it; a read of a low half or of
a nanoseconds word keeps its other half for the reads after it; a FIFO read removes what it answers. -/
def Obligations.ReadsAnswerLatchAndClear : Prop := ∀ s : State, ∀ p : Path, ∀ a,
  (s.pathUp p = true → p ≠ .smbus → pathReaches p a = true → 0x100000 ≤ a → a < 0x200000 → eventAt a = none → ∀ c,
    some c = s.counterAt a →
    (c.wide = false → Does (.rcRead p a) s fun t =>
      t.answer = .data (BitVec.ofNat 64 (c.val % 2 ^ 32)) ∧
      (c.rc = true → (t.counterAt a).map (·.val) = some 0) ∧ t.latches = s.latches) ∧
    (c.wide = true →
      (Does (.counterLowHalfRead p a) s fun t =>
        t.answer = .data (BitVec.ofNat 64 (c.val % 2 ^ 32)) ∧ t.latch p a = c.val / 2 ^ 32 ∧
        (c.rc = true → (t.counterAt a).map (·.val) = some 0) ∧ (∀ q, q ≠ p → (Path.hazel p && Path.hazel q) = false →
          t.latch q a = s.latch q a)) ∧
      (Does (.counter64Read p a) s fun t =>
        t.answer = .data (BitVec.ofNat 64 c.val) ∧ t.latch p a = c.val / 2 ^ 32 ∧
        (c.rc = true → (t.counterAt a).map (·.val) = some 0)) ∧
      (a % 8 = 0 → s.counterAt (a + 4) = none → pathReaches p (a + 4) = true → a + 4 < 0x200000 →
        Does (.counterHighHalfRead p (a + 4)) s fun t =>
          t.answer = .data (BitVec.ofNat 64 (s.latch p a)) ∧ Only [] s t))) ∧
  (∀ n k, s.pathUp p = true → p ≠ .smbus → p ≠ .pip → s.ptp.nsWord (a - 0x80000) = some (n, k) → 0x80000 ≤ a →
    Does (.ptpNsRead p a) s fun t => t.answer = .data (BitVec.ofNat 64 n) ∧ t.latch p a = k ∧ Only [.latches] s t) ∧
  (s.mainOn = true → s.hazelUp = true →
    (s.ptp.fifo = [] → Does .ptpTsFifoPop s fun t => t.answer = .data 0 ∧ Only [] s t) ∧
    (∀ x l, s.ptp.fifo = x :: l → Does .ptpTsFifoPop s fun t =>
      t.answer = .data (BitVec.ofNat 64 (x.word 3)) ∧ t.ptp = { s.ptp with fifo := l } ∧ Only [.ptp] s t)) ∧
  (∀ i : Fin 3, s.hostUp = true →
    ((Table.get {} s.events i.val).q = [] → Does (.eventFifoRead i) s fun t => t.answer = .data 0 ∧ Only [] s t) ∧
    (∀ x l, (Table.get {} s.events i.val).q = x :: l → Does (.eventFifoRead i) s fun t =>
      t.answer = .data (BitVec.ofNat 64 x) ∧ (Table.get {} t.events i.val).q = l ∧
      (∀ j, j ≠ i.val → Table.get {} t.events j = Table.get {} s.events j) ∧ Only [.events] s t)) ∧
  (s.hostUp = false →
    (s.pcie.linkUp = false → Does (.rcRead .pcie a) s fun t => t.answer = .none ∧ Only [] s t) ∧
    (s.pcie.linkUp = true → s.pcie.flr = true → Does (.rcRead .pcie a) s fun t => t.answer = .unsupported ∧ Only [] s t))

/-- 00 R9 to R14; 02 R121, R122; 03 R178; 04 R231; 05 R304, R309, R313; 12 R657, R666; 13 R716; 15 R814, R823. A write acts on
the paths that own a register, keeps reserved fields, and does nothing elsewhere. -/
def Obligations.WritesActOnTheirPath : Prop := ∀ s : State, ∀ p : Path, ∀ v : Word32, s.pathUp p = true → p ≠ .smbus →
  (∀ a, a < 0x18 → Does (.registerWrite p a v) s fun t => Only [] s t) ∧
  (p ≠ .pip → Does (.registerWrite p 0x18 v) s fun t =>
    (∀ k, t.fell.getLsbD k = (s.fell.getLsbD k && !(decide (k < 32) && v.getLsbD k))) ∧ t.rdy = s.rdy ∧ Only [.ready] s t) ∧
  (s.ready 14 = true → Does (.registerWrite p 0x20040 v) s fun t =>
    (t.tgt (Path.view p)).thresh = v.toNat % 8 ∧ Only [.icu] s t) ∧
  (s.ready 14 = true → ∀ i : Fin 8, Does (.registerWrite p (0x20020 + 4 * i.val) v) s fun t =>
    (∀ k, (t.tgt (Path.view p)).en.getLsbD k =
      (if k / 32 = i.val then icuAssigned.getLsbD k && v.getLsbD (k % 32) else (s.tgt (Path.view p)).en.getLsbD k)) ∧
    Only [.icu] s t) ∧
  (s.ready 14 = true → ∀ i : Fin 64, Does (.registerWrite p (0x20100 + 4 * i.val) v) s fun t =>
    (Path.hazel p = true → ∀ k, t.icu.prio k = (if k / 4 = i.val then
      (if icuAssigned.getLsbD k then bitsOf v.toNat (8 * (k % 4)) 3 else s.icu.prio k) else s.icu.prio k)) ∧
    (Path.hazel p = false → Only [] s t) ∧ Only [.icu] s t) ∧
  (s.ready 15 = true → ∀ src : Fin 128, Does (.registerWrite p (0x30040 + 4 * (src.val / 4)) v) s fun t =>
    (p = .pip → fltReserved src = false → fltFixed src = false →
      t.reactMask src = bitsOf v.toNat (8 * (src.val % 4)) 5) ∧
    (p ≠ .pip → Only [] s t) ∧ Only [.flt] s t) ∧
  (∀ n : Fin 16, ∀ d, d = s.chan n → s.ready 13 = true →
    (p = (if n.val < 8 then .pcie else .hazelA) → d.mode ≠ .running → Does (.registerWrite p (0x40010 + 0x40 * n.val) v) s fun t =>
      t.chan n = { d with count := v.toNat } ∧ (∀ j, j ≠ n.val → t.chan j = s.chan j) ∧ Only [.dma] s t) ∧
    (d.mode = .running ∨ p = .pip ∨ (p = .pcie ∧ 8 ≤ n.val) ∨ (p = .hazelB ∧ n.val < 8) →
      Does (.registerWrite p (0x40010 + 0x40 * n.val) v) s fun t => (∀ j, t.chan j = s.chan j) ∧ Only [.dma] s t)) ∧
  (∀ n : Fin 7, ∀ x, x = s.port16 n → Does (.registerWrite p (0x60100 + 0x10 * n.val) v) s fun t =>
    (Path.hazel p = true → (t.port16 n).target.getD (fabReset n).1 = v.toNat / 65536 ∧
      (bitsOf v.toNat 12 3 ≠ 7 → (t.port16 n).prio.getD (fabReset n).2.1 = bitsOf v.toNat 12 3) ∧
      (bitsOf v.toNat 12 3 = 7 → (t.port16 n).prio = x.prio)) ∧
    (Path.hazel p = false → Only [] s t) ∧ Only [.fab] s t) ∧
  (Does (.registerWrite p 0x80010 v) s fun t =>
    (p = .hazelB → t.ptp = { s.ptp with stepNs := v.toNat }) ∧ (p ≠ .hazelB → Only [] s t) ∧ Only [.ptp] s t) ∧
  (p = .pip → s.huskUp = true → Does (.registerWrite p 0xA0014 v) s fun t =>
    t.husk.wakeCause = s.husk.wakeCause &&& ~~~(v.setWidth 5) ∧ Only [.husk] s t) ∧
  (p = .pip → s.ready 3 = true → v.toNat % 65536 = 0 ∨ v.toNat % 65536 > 1200 → v.toNat / 65536 = 0 ∨ v.toNat / 65536 > 1200 →
    Does (.registerWrite p 0x50010 v) s fun t => t.pac.budget = s.pac.budget ∧ t.pac.step = s.pac.step) ∧
  (∀ e : Fin 64, p = .pcie → s.pcie.pba = 0 → Does (.registerWrite p (0xF0008 + 16 * e.val) v) s fun t =>
    Table.get {} t.pcie.msix e.val = { Table.get {} s.pcie.msix e.val with data := v.toNat } ∧ Only [.pcie] s t)

/-- 16 R852; 17 R885 to R889. SMBus transactions. 17 R900 to R912. Items are staged under the key, committed as one record, read
back, and tokens are decided. -/
def Obligations.SmbusConfigurationAndTokens : Prop :=
  (∀ s : State, ∀ a, ∀ v : Word32,
  (s.husk.power = .dormant → s.husk.wakeEnabled .smbus = true →
    (Does (.smbusRead a) s fun t => t.answer = .nack ∧ t.husk.wakeCause = s.husk.wakeCause ||| 4 ∧ Only [.husk] s t) ∧
    (∀ x, Does (.smbusWrite a v x) s fun t => t.answer = .nack ∧ t.husk.wakeCause = s.husk.wakeCause ||| 4 ∧ Only [.husk] s t)) ∧
  (s.huskUp = true → a % 4 ≠ 0 →
    (Does (.smbusRead a) s fun t => t.answer = .nack ∧ Only [] s t) ∧
    (∀ x, Does (.smbusWrite a v x) s fun t => t.answer = .nack ∧ Only [] s t)) ∧
  (s.huskUp = true → ∀ x, x ≠ .good → a % 4 = 0 → s.mildly 18 → bitAt (s.reactMask 18) 3 = false →
    Does (.smbusWrite a v x) s fun t => t.answer = .nack ∧
      (s.board.cfgHeld = 0 → t.board = { s.board with pecFail := true, pecCount := satAdd 16 s.board.pecCount 1 }) ∧
      (t.fltSrc 18).open_ = true ∧ Only [.board, .flt] s t) ∧
  (s.huskUp = true → s.board.cfgHeld = 0 →
    (Does (.smbusWrite 0xB04 v .good) s fun t => t.answer = .ack ∧ t.board = { s.board with cfgItem := v.toNat % 65536 } ∧
      Only [.board] s t) ∧
    (Does (.smbusWrite 0xA00 v .good) s fun t => t.answer = .ack ∧
      t.board = { s.board with pecFail := s.board.pecFail && !v.getLsbD 0, cfgDone := s.board.cfgDone && !v.getLsbD 1
                               cfgError := s.board.cfgError && !v.getLsbD 2, jtagEvent := s.board.jtagEvent && !v.getLsbD 3 } ∧
      Only [.board] s t) ∧
    (Does (.smbusRead 0xA04) s fun t =>
      t.answer = .data (BitVec.ofNat 64 (pair16 s.board.pecCount s.board.abandoned)) ∧
      t.board = { s.board with pecCount := 0, abandoned := 0 } ∧ Only [.board] s t) ∧
    (Does (.smbusRead 0xB08) s fun t => t.answer = .data (BitVec.ofNat 64 s.board.cfgData) ∧ Only [] s t) ∧
    (Does .smbusClockTimeout s fun t => t.board = { s.board with abandoned := satAdd 16 s.board.abandoned 1 } ∧ Only [.board] s t)) ∧
  (s.huskUp = true → s.board.pecFail || s.board.cfgDone || s.board.cfgError || s.board.jtagEvent →
    Does .alertResponse s fun t => t.answer = .data (BitVec.ofNat 64 (0x58 + s.husk.strap)) ∧ Only [] s t) ∧
  (s.huskUp = false ∨ (s.board.pecFail || s.board.cfgDone || s.board.cfgError || s.board.jtagEvent) = false →
    Does .alertResponse s fun t => t.answer = .none ∧ Only [] s t)) ∧
  (∀ s : State, ∀ b, b = s.board →
  (∀ v : Word32, s.huskUp = true → b.cfgHeld = 0 →
    (v = 0xCF61 → Does (.cfgKey v) s fun t => t.board = { b with cfgOpen := true } ∧ Only [.board] s t) ∧
    (v ≠ 0xCF61 → Does (.cfgKey v) s fun t => t.board = { b with cfgOpen := false, staged := [] } ∧ Only [.board] s t)) ∧
  (∀ c : Instr, c ∈ [Instr.stage, .commit, .read, .discard] → s.huskUp = true → b.cfgHeld = 0 →
    (b.cfgBusy = true → Does c s fun t => t.board = { b with cfgErr := true, cfgCode := 6 } ∧ Only [.board] s t) ∧
    (b.cfgBusy = false → s.pipWorks = true → b.cfgOpen = false →
      Does c s fun t => t.board = { b with cfgErr := true, cfgCode := 4, cfgError := true } ∧ Only [.board] s t) ∧
    (b.cfgBusy = false → s.husk.pipMode = .boot →
      Does c s fun t => t.board.cfgBusy = true ∧ t.board.cfgHeld ≠ 0 ∧ t.board.staged = b.staged ∧ Only [.board] s t)) ∧
  (s.pipWorks = true → b.cfgHeld = 0 → b.cfgBusy = false → b.cfgOpen = true →
    (b.stageCode = 0 → Does .stage s fun t =>
      t.board = { b with staged := (b.staged.filter fun e => e.1 != b.cfgItem) ++ [(b.cfgItem, b.cfgData)]
                         cfgErr := false, cfgCode := 0, cfgDone := true } ∧ Only [.board] s t) ∧
    (b.stageCode ≠ 0 → Does .stage s fun t =>
      t.board = { b with cfgErr := true, cfgCode := b.stageCode, cfgError := true } ∧ Only [.board] s t) ∧
    (itemKnown b.cfgItem = true → Does .read s fun t =>
      t.board = { b with cfgData := s.bankM.stored b.cfgItem % 2 ^ 32, cfgErr := false, cfgCode := 0, cfgDone := true } ∧
      Only [.board] s t) ∧
    (Does .discard s fun t => t.board = { b with staged := [], cfgErr := false, cfgCode := 0, cfgDone := true } ∧ Only [.board] s t) ∧
    (Does .commit s fun t => t.board = { b with committing := true, cfgBusy := true, cfgErr := false, cfgCode := 0 } ∧
      t.mram = { s.mram with journalM := s.mram.journalM ++ [{ region := 2, offset := 0, data := [], crcOk := true, items := b.staged }] } ∧
      Only [.board, .mram] s t)) ∧
  (b.committing = true → s.pipWorks = true → s.husk.hpEn = true → b.cfgHeld = 0 →
    (Does (.cfgCommitEnd false) s fun t =>
      t.board = { b with committing := false, cfgBusy := false, cfgErr := true, cfgCode := 7, cfgError := true } ∧ t.bankM = s.bankM ∧
      Only [.board, .mram] s t) ∧
    (∀ l j, s.mram.journalM = [j] → j.region = 2 → j.items = l → l ≠ [] → s.reactMask 27 &&& 14 = 0 →
      Does (.cfgCommitEnd true) s fun t =>
        t.board = { b with committing := false, staged := [], cfgBusy := false, cfgDone := true } ∧
        t.bankM = s.bankM.store l ∧ t.mram.journalM = [] ∧ Only [.board, .mram, .bankM, .flt] s t)) ∧
  (∀ k : JtagToken, s.husk.power ≠ .held → b.jtagBusy = false → b.cfgHeld = 0 →
    Does (.jtagUnlock k) s fun t => t.board = { b with jtagBusy := true, token := some k } ∧ Only [.board] s t) ∧
  (∀ k : JtagToken, b.jtagBusy = true → Does (.jtagUnlock k) s fun t => Only [] s t) ∧
  (∀ k, b.token = some k → s.pipWorks = true → b.cfgHeld = 0 →
    (b.tokenReason k = 0 → Does .jtagTokenDecision s fun t =>
      t.board = { b with token := none, jtagBusy := false, jtagEvent := true, unlocked := true, nonce := Config.freeWord s.free
                         scopes := b.scopes ||| (k.scope % 8) } ∧ Only [.board, .free] s t) ∧
    (b.tokenReason k ≠ 0 → s.reactMask 19 &&& 14 = 0 → Does .jtagTokenDecision s fun t =>
      t.board = { b with token := none, jtagBusy := false, jtagEvent := true, nonce := Config.freeWord s.free
                         jtagReason := b.tokenReason k } ∧ (t.fltSrc 19).open_ = true ∧ Only [.board, .free, .flt] s t)) ∧
  (b.token = none → Does .jtagTokenDecision s fun t => Only [] s t))

/-- 12 R643 to R653, R676, R677. Channels start, are aborted and cleared, end their count, and stop on errors. -/
def Obligations.ChannelsStartEndAndStop : Prop := ∀ s : State, ∀ n : Fin 16, ∀ d, d = s.chan n →
  (s.dmaOwner n = false → (Does (.start n) s fun t => Only [] s t) ∧ (Does (.abort n) s fun t => Only [] s t) ∧
    (Does (.clear n) s fun t => Only [] s t)) ∧
  (s.dmaOwner n = true →
    (d.mode ≠ .idle → Does (.start n) s fun t => Only [] s t) ∧
    (∀ e, e = { d with mode := .running, err := 0, errAddr := 0, descIdx := 0, done := 0, moved := 0, chained := false, next := 0
                       failing := none } → d.mode = .idle → d.desc = 0 →
      (∀ c a, s.dmaCheck n e = some (c, a) → Does (.start n) s fun t =>
        t.chan n = { e with mode := .error, err := c, errAddr := a, stops := satAdd 16 d.stops 1, bytes := satAdd 64 d.bytes 0 } ∧
        (∀ j, j ≠ n.val → t.chan j = s.chan j) ∧ Only [.dma] s t) ∧
      (s.dmaCheck n e = none → d.srcHost = false → s.dmaService d ≠ 1 → Does (.start n) s fun t =>
        t.chan n = e ∧ (∀ j, j ≠ n.val → t.chan j = s.chan j) ∧ Only [.dma] s t) ∧
      (s.dmaCheck n e = none → d.srcHost = true → s.pcie.linkUp = true → s.pcie.flr = false →
        (d.dstHost = true ∨ s.service d.dst ≠ 1) → Does (.start n) s fun t =>
          t.chan n = e ∧ (∃ r, t.pcie.up = s.pcie.up ++ [r] ∧ r.chan = n.val ∧ r.dst = 0 ∧ r.len ≤ d.count ∧ 0 < r.len) ∧
          Only [.dma, .pcie] s t)) ∧
    (∀ b, b = ((List.range 32).map fun k => Table.get 0 s.mem (d.desc + k)) →
      ∀ e, e = { d with mode := .running, err := 0, errAddr := 0, descIdx := 0, done := 0, moved := 0, failing := none, chained := true
                        src := blkField b 0 8, dst := blkField b 8 8, count := blkField b 16 4
                        cfg := blkField b 20 4, next := blkField b 24 8 } →
      d.mode = .idle → d.desc ≠ 0 →
      (d.desc % 32 ≠ 0 → Does (.start n) s fun t =>
        (t.chan n).mode = .error ∧ (t.chan n).err = 3 ∧ (t.chan n).errAddr = d.desc ∧ Only [.dma] s t) ∧
      (d.desc % 32 = 0 → dmaMayReach n d.desc 32 false = true → inBankD d.desc = false → s.service d.desc = 0 →
        s.Plain d.desc 32 → s.dmaCheck n e = none → e.srcHost = false →
        (e.dstHost = true ∨ s.service e.dst ≠ 1) → s.service e.src ≠ 1 → Does (.start n) s fun t =>
          t.chan n = e ∧ (∀ j, j ≠ n.val → t.chan j = s.chan j) ∧ Only [.dma, .fab, .dram] s t)) ∧
    (Does (.abort n) s fun t =>
      (d.mode = .running → d.failing = none → t.chan n = { d with failing := some (8, d.src + d.moved) }) ∧
      (d.mode ≠ .running ∨ d.failing ≠ none → t.chan n = d) ∧ (∀ j, j ≠ n.val → t.chan j = s.chan j) ∧ Only [.dma] s t) ∧
    (Does (.clear n) s fun t =>
      t.chan n = (if d.mode = .error then { d with mode := .idle } else d) ∧ (∀ j, j ≠ n.val → t.chan j = s.chan j) ∧ Only [.dma] s t)) ∧
  (d.mode ≠ .running → (Does (.dmaEndOfCount n) s fun t => Only [] s t) ∧ (Does (.dmaErrorStop n) s fun t => Only [] s t)) ∧
  (∀ l, l = ((List.range d.count).map fun k => Table.get 0 s.mem (d.src + k)) →
    d.mode = .running → d.failing = none → d.chained = false → 0 < d.count → d.srcHost = false → d.dstHost = false → d.srcFix = false →
    d.dstFix = false → s.dmaService d = 0 → s.Plain d.src d.count → s.Plain d.dst d.count →
    (d.src + d.count ≤ d.dst ∨ d.dst + d.count ≤ d.src) → s.ready 14 = true →
    Does (.dmaEndOfCount n) s fun t =>
      StoredAt d.dst l s t ∧
      t.chan n = { d with mode := .idle, done := d.count, bytes := satAdd 64 d.bytes d.count } ∧ t.icu.hazelA.pend.getLsbD (1 + n) = true ∧
      (∀ j, j ≠ n.val → t.chan j = s.chan j) ∧ Only [.dma, .memory, .fab, .dram, .icu] s t) ∧
  (∀ c a, d.mode = .running → d.failing = some (c, a) → c ≠ 8 ∨ d.srcHost = true → d.srcHost = true → d.dstHost = true →
    Does (.dmaErrorStop n) s fun t =>
      t.chan n = { d with mode := .error, err := c, errAddr := a, done := d.moved, failing := none
                          stops := satAdd 16 d.stops 1, bytes := satAdd 64 d.bytes d.moved } ∧
      (∀ j, j ≠ n.val → t.chan j = s.chan j) ∧ Only [.dma, .free] s t) ∧
  (d.mode = .running → d.failing = none → 0 < d.count → d.srcHost = false → (d.dstHost = true → s.pcie.bme = true ∧ s.pcie.linkUp = true) →
    s.dmaService d = 2 → Does (.dmaErrorStop n) s fun t =>
      t.chan n = { d with mode := .error, err := 7, errAddr := d.src, done := 0, stops := satAdd 16 d.stops 1, bytes := satAdd 64 d.bytes 0 } ∧
      (∀ j, j ≠ n.val → t.chan j = s.chan j) ∧ Only [.dma, .free] s t)

/-- 13 R686 to R689, R705; 14 R762. Lanes gain and lose lock, relocks fail, the watchdog holds a port down, and an Ethernet link
goes down and comes back. -/
def Obligations.LanesLockLoseLockAndFault : Prop := ∀ s : State, ∀ n : Fin 16, ∀ l, l = s.lane n →
  (l.enabled = true → s.pll (3 + n / 4) = .locked → s.ready (24 + n) = false →
    (l.watchdog = false → l.mode ≠ 8 → Does (.laneLock n) s fun t =>
      t.lane n = { l with relocking := false, eavs := if l.rxEn then 1 else 0
                          events := if l.relocking then l.events ||| 2 else l.events } ∧ t.ready (24 + n) = true ∧
      (∀ k, k ≠ n.val → t.lane k = s.lane k ∧ t.ready (24 + k) = s.ready (24 + k)) ∧ Only [.lanes, .ready] s t) ∧
    (l.watchdog = false → l.mode = 8 → Does (.laneLock n) s fun t =>
      (∀ k, k < 4 → (t.lane (n / 4 * 4 + k)).relocking = false ∧ t.ready (24 + n / 4 * 4 + k) = true) ∧ Only [.lanes, .ready] s t) ∧
    (l.watchdog = true → s.reactMask 43 &&& 14 = 0 → s.ready 15 = true → Does (.laneLock n) s fun t =>
      (t.lane n).watchdog = false ∧ t.ready (24 + n) = false ∧ (t.fltSrc 43).open_ = true ∧
      ((s.fltSrc 43).open_ = false → (t.fltSrc 43).detail = 0x300) ∧ Only [.lanes, .flt] s t)) ∧
  (l.enabled = false ∨ s.pll (3 + n / 4) ≠ .locked ∨ s.ready (24 + n) = true → Does (.laneLock n) s fun t => Only [] s t) ∧
  (s.ready (24 + n) = false → Does (.laneLockLoss n) s fun t => Only [] s t) ∧
  (s.ready (24 + n) = true → l.mode ≠ 8 → l.rxEn = false ∨ l.rxOn = false → Does (.laneLockLoss n) s fun t =>
    t.lane n = { l with relocking := true, trs := false, events := l.events ||| 1, lockLosses := satAdd 16 l.lockLosses 1, eavs := 0 } ∧
    t.ready (24 + n) = false ∧ (∀ k, k ≠ n.val → t.lane k = s.lane k ∧ t.ready (24 + k) = s.ready (24 + k)) ∧
    Only [.lanes, .ready] s t) ∧
  (s.ready (24 + n) = true → l.mode = 8 → Does (.laneLockLoss n) s fun t =>
    (∀ k, k < 4 → (t.lane (n / 4 * 4 + k)).relocking = true ∧ t.ready (24 + n / 4 * 4 + k) = false)) ∧
  (Does (.relockAttemptFailed n) s fun t =>
    t.lane n = (if l.enabled && l.relocking then { l with relockFails := satAdd 16 l.relockFails 1 } else l) ∧
    (∀ k, k ≠ n.val → t.lane k = s.lane k) ∧ Only [.lanes] s t) ∧
  (l.relocking = false → Does (.laneWatchdog n) s fun t => Only [] s t) ∧
  (l.relocking = true → l.mode ≠ 8 → Does (.laneWatchdog n) s fun t =>
    t.lane n = { l with watchdog := true } ∧ (∀ k, k ≠ n.val → t.lane k = s.lane k) ∧ Only [.lanes] s t) ∧
  (l.relocking = true → l.mode = 8 → Does (.laneWatchdog n) s fun t =>
    (∀ k, k < 4 → t.lane (n / 4 * 4 + k) = { s.lane (n / 4 * 4 + k) with watchdog := true }) ∧ Only [.lanes] s t) ∧
  (∀ r, ethMode (s.portMode n) = false ∨ l.enabled = false → Does (.linkFault n r) s fun t => Only [] s t) ∧
  (∀ r m, m = { l with localFault := l.localFault || !r, remoteFault := l.remoteFault || r, events := l.events ||| 8 } →
    ethMode (s.portMode n) = true → l.enabled = true →
      (l.down = true → Does (.linkFault n r) s fun t => t.lane n = m ∧ Only [.lanes] s t) ∧
      (l.down = false → Does (.linkFault n r) s fun t => t.lane n = { m with fifo := [] } ∧ (∀ k, k ≠ n.val → t.lane k = s.lane k) ∧
        (∀ k, s.egressFlows n = [k] → l.fifo = [] → (Table.get {} s.events 2).q.length < 64 →
          (Table.get {} t.events 2).q.length = (Table.get {} s.events 2).q.length + 1 ∧ t.flows = s.flows) ∧
        Only [.lanes, .flows, .events] s t)) ∧
  (∀ r m, m = { l with localFault := l.localFault && r, remoteFault := l.remoteFault && !r } → ethMode (s.portMode n) = true →
    Does (.linkFaultCleared n r) s fun t => t.lane n = m ∧ (∀ k, k ≠ n.val → t.lane k = s.lane k) ∧
      (l.down = false ∨ m.down = true → t.flows = s.flows) ∧
      (∀ k f, s.egressFlows n = [k] → s.flow k = f → f.kind = 1 → l.down = true → m.down = false → f.frameNo ≤ s.frameNow f →
        t.flow k = { f with w1ch := satAdd 16 f.w1ch (s.frameNow f + 1 - f.frameNo), frameNo := s.frameNow f + 1, pktNo := 0 }) ∧
      Only [.lanes, .flows] s t) ∧
  (∀ r, ethMode (s.portMode n) = false → Does (.linkFaultCleared n r) s fun t => Only [] s t)

/-- 13 R694 to R700, R717; 14 R751, R752. SDI lines leave from the transmit slot and reach the receive slot, and ancillary
packets their ring. -/
def Obligations.SdiLinesAndPacketsMove : Prop := ∀ s : State, ∀ n : Fin 16, ∀ l, l = s.lane n →
  (s.txRuns n = false → ∀ a f k y, Does (.sdiLineTransmit n a f k y) s fun t => Only [] s t) ∧
  (s.txRuns n = true → l.txOn = true → s.ancFlows n = [] → ∀ line a,
    (Does (.sdiLineTransmit n a false line none) s fun t =>
      t.lane n = { l with txUnits := satAdd 64 l.txUnits 1, w2ch := satAdd 16 l.w2ch 0 } ∧
      (∃ o, t.outs.head? = some (Out.line n o) ∧ o.line = line ∧ o.samples = [] ∧ o.payloadId = l.idOn line) ∧ Only [.lanes] s t) ∧
    (Does (.sdiLineTransmit n a true line none) s fun t =>
      (t.lane n).txFrame = l.txFrame + 1 ∧ (t.lane n).txFrames = satAdd 64 l.txFrames 1 ∧ Only [.lanes] s t) ∧
    (∀ y, y < l.format.h → Does (.sdiLineTransmit n false false line (some y)) s fun t =>
      t.lane n = { l with txUnits := satAdd 64 l.txUnits 1, w2ch := satAdd 16 l.w2ch 1, events := l.events ||| 16 } ∧
      (∃ o, t.outs.head? = some (Out.line n o) ∧ o.line = line ∧ o.samples = blankLine l.format.w) ∧ Only [.lanes] s t) ∧
    (∀ y, y < l.format.h → ∀ b, b = l.txSlot + lumaAt l.pitch y → ∀ d, d = l.txSlot + chromaAt l.pitch l.format.h y →
      s.dramReady b (2 * l.format.w) = true → s.dramReady d (2 * l.format.w) = true →
      s.asleep (b / 2 ^ 33) = false → s.asleep (d / 2 ^ 33) = false → s.Plain b (2 * l.format.w) → s.Plain d (2 * l.format.w) →
      Does (.sdiLineTransmit n true false line (some y)) s fun t =>
        t.lane n = { l with txUnits := satAdd 64 l.txUnits 1, w2ch := satAdd 16 l.w2ch 0 } ∧
        (∃ o, t.outs.head? = some (Out.line n o) ∧ o.line = line ∧
          o.samples = ((List.range (2 * l.format.w)).map fun k => Table.get 0 s.mem (b + k)) ++
            (List.range (2 * l.format.w)).map fun k => Table.get 0 s.mem (d + k)) ∧
        Only [.lanes, .fab, .dram] s t)) ∧
  (l.rxEn = false ∨ s.ready (24 + n) = false → (∀ x, Does (.sdiLineReceive n x) s fun t => Only [] s t) ∧
    (∀ p, Does (.ancPacketReceive n p) s fun t => Only [] s t)) ∧
  (l.rxEn = true → s.ready (24 + n) = true → ∀ x : SdiLine,
    (x.active = none → Does (.sdiLineReceive n x) s fun t => t.lane n = l.lineIn x ∧ (∀ k, k ≠ n.val → t.lane k = s.lane k) ∧
      Only [.lanes] s t) ∧
    ((l.lineIn x).rxUnits = satAdd 64 l.rxUnits 1 ∧ (l.lineIn x).w20h = satAdd 16 l.w20h (b2n x.yCrcBad) ∧
      (l.lineIn x).w2cl = satAdd 16 l.w2cl (b2n x.late) ∧
      (l.lineIn x).rxFrame = (if x.frameStart && l.rxOn then l.rxFrame + 1 else l.rxFrame)) ∧
    (∀ y, x.active = some y → y < l.format.h → ∀ m, m = l.lineIn x → ∀ a, a = m.rxSlot + statusAt m.pitch m.format.h y →
      s.dramReady a 1 = true → s.asleep (a / 2 ^ 33) = false → s.Plain a 1 →
      (x.late = true → Does (.sdiLineReceive n x) s fun t =>
        StoredAt a [BitVec.ofNat 8 (sdiStatus x)] s t ∧ t.lane n = { m with rxLines := y :: m.rxLines } ∧
        Only [.lanes, .memory, .fab, .dram] s t) ∧
      (x.late = false → bitAt (s.reactMask 22) 2 = false → Does (.sdiLineReceive n x) s fun t =>
        Table.get 0 t.mem a = BitVec.ofNat 8 (sdiStatus x) ∧ (t.lane n).rxUnits = m.rxUnits ∧ (t.lane n).rxLines = y :: m.rxLines))) ∧
  (l.rxEn = true → s.ready (24 + n) = true → ∀ p : AncPacket,
    (ancCopied p = false → Does (.ancPacketReceive n p) s fun t => Only [] s t) ∧
    (ancCopied p = true → l.anc.size = 0 → Does (.ancPacketReceive n p) s fun t =>
      t.lane n = { l with w28h := satAdd 16 l.w28h (b2n p.csumBad) } ∧ Only [.lanes] s t) ∧
    (ancCopied p = true → l.anc.size ≠ 0 → bitAt (s.reactMask 22) 2 = false → l.anc.w - l.anc.r + ((ancEntry p).length + 63) / 64 < ringSlots l.anc.size →
      Does (.ancPacketReceive n p) s fun t =>
        (t.lane n).anc.w = l.anc.w + ((ancEntry p).length + 63) / 64 ∧ (t.lane n).w30 = satAdd 32 l.w30 1 ∧
        (t.lane n).w28h = satAdd 16 l.w28h (b2n p.csumBad)))

/-- 13 R701 to R711, R717, R720; 14 R733 to R747, R769. A received frame is checked, captured, classified, policed and
delivered; entries age out and captured slots are flushed. -/
def Obligations.FramesAreCheckedClassifiedAndDelivered : Prop := ∀ s : State, ∀ n : Fin 16, ∀ l, l = s.lane n →
  (ethMode (s.portMode n) = false ∨ s.ready (24 + n) = false → ∀ f, Does (.ethFrameReceive n f) s fun t => Only [] s t) ∧
  (∀ f : EthFrame, ∀ m, m = l.macIn f → ethMode (s.portMode n) = true → s.ready (24 + n) = true →
    (l.check f = .badFcs → m = { l with rxUnits := satAdd 64 l.rxUnits f.len, w30 := satAdd 32 l.w30 f.fecCorrected, w20h := satAdd 16 l.w20h 1 }) ∧
    (l.check f = .good → m = { l with rxUnits := satAdd 64 l.rxUnits f.len, w30 := satAdd 32 l.w30 f.fecCorrected }) ∧
    (l.capture = true → s.captureFlow n = none → (l.check f ≠ .good ∨ s.route n f = .ignored) → Does (.ethFrameReceive n f) s fun t =>
      t.lane n = { m with capNoRing := satAdd 16 m.capNoRing 1 } ∧ Only [.lanes] s t) ∧
    (∀ k x b, l.capture = true → s.captureFlow n = some k → x = s.flow k → b = s.captured n (x.f2 0x6C) f 0xFFFF →
      l.check f ≠ .good → x.ring.w + x.staged.length + b.length - x.ring.r < ringSlots x.ring.size → x.staged.length + b.length < 4 →
      Does (.ethFrameReceive n f) s fun t =>
        t.flow k = { x with staged := x.staged ++ b } ∧ t.lane n = { m with capFrames := satAdd 32 m.capFrames 1 } ∧
        Only [.lanes, .flows] s t) ∧
    (l.capture = false →
      (l.check f ≠ .good → Does (.ethFrameReceive n f) s fun t => t.lane n = m ∧ Only [.lanes] s t) ∧
      (l.check f = .good →
        (s.route n f = .ignored → Does (.ethFrameReceive n f) s fun t => t.lane n = m ∧ Only [.lanes] s t) ∧
        (s.route n f = .unclassified → Does (.ethFrameReceive n f) s fun t =>
          t.lane n = { m with unclassified := satAdd 16 m.unclassified 1 } ∧ Only [.lanes] s t) ∧
        (s.route n f = .ipCsum → Does (.ethFrameReceive n f) s fun t =>
          t.lane n = { m with w28h := satAdd 16 m.w28h 1 } ∧ Only [.lanes] s t) ∧
        (s.route n f = .fragment → Does (.ethFrameReceive n f) s fun t =>
          t.lane n = { m with w28l := satAdd 16 m.w28l 1 } ∧ Only [.lanes] s t) ∧
        (s.route n f = .udpCsum → Does (.ethFrameReceive n f) s fun t =>
          t.lane n = { m with w2ch := satAdd 16 m.w2ch 1 } ∧ Only [.lanes] s t) ∧
        (s.route n f = .hazelB → f.ptpEvent = none → Does (.ethFrameReceive n f) s fun t =>
          t.lane n = { m with rxFrames := satAdd 64 m.rxFrames 1 } ∧ Only [.lanes] s t) ∧
        (∀ e, s.route n f = .hazelB → f.ptpEvent = some e → s.ptp.fifo.length < 64 → Does (.ethFrameReceive n f) s fun t =>
          t.ptp = { s.ptp with fifo := s.ptp.fifo ++ [⟨s.ptp.ns, s.ptp.sec, n, false, e.1 % 16, e.2 % 65536⟩] } ∧ Only [.lanes, .ptp] s t) ∧
        (∀ e, s.route n f = .hazelB → f.ptpEvent = some e → 64 ≤ s.ptp.fifo.length → Does (.ethFrameReceive n f) s fun t =>
          t.lane n = { m with rxFrames := satAdd 64 m.rxFrames 1, w2cl := satAdd 16 m.w2cl 1 } ∧ Only [.lanes] s t) ∧
        (∀ i e k x, s.route n f = .flow i → e = s.entry i → e.idle = true → k = e.flow → x = s.flow k → x.flag 4 = false →
          x.filters f = true → Does (.ethFrameReceive n f) s fun t =>
            (t.entry i).idle = false ∧ (t.flow k).mode = .active ∧ (t.flow k).w1cl = satAdd 16 x.w1cl 1 ∧
            ((Table.get {} s.events 0).q.length < 64 → (Table.get {} t.events 0).q.length = (Table.get {} s.events 0).q.length + 1) ∧
            Only [.lanes, .entries, .flows, .events] s t) ∧
        (∀ i e k x, s.route n f = .flow i → e = s.entry i → k = e.flow → x = s.flow k → x.flag 4 = false → x.kind = 1 →
          x.filters f = false → x.f4 0x40 = 0 → bitAt (s.reactMask 22) 2 = false → Does (.ethFrameReceive n f) s fun t =>
            (t.flow k).packets = satAdd 64 x.packets 1 ∧ (t.flow k).bytes = satAdd 64 x.bytes (f.len + 20) ∧
            (t.lane n).rxFrames = satAdd 64 l.rxFrames 1) ∧
        (∀ i e k x, s.route n f = .flow i → e = s.entry i → e.idle = false → k = e.flow → x = s.flow k → x.flag 4 = false → x.kind ≠ 1 →
          (x.filters f = true → Does (.ethFrameReceive n f) s fun t =>
            t.flow k = { x with w1cl := satAdd 16 x.w1cl 1 } ∧ Only [.lanes, .entries, .flows] s t) ∧
          (x.filters f = false → x.f4 0x40 = 0 → x.session = none → Does (.ethFrameReceive n f) s fun t =>
            t.entry i = { e with hitAt := s.now, packets := satAdd 32 e.packets 1, idle := false } ∧
            t.flow k = { x with packets := satAdd 64 x.packets 1, bytes := satAdd 64 x.bytes (f.len + 20) } ∧
            t.lane n = { m with rxFrames := satAdd 64 m.rxFrames 1 } ∧ Only [.lanes, .entries, .flows] s t) ∧
          (x.filters f = false → x.f4 0x40 ≠ 0 → (x.refill s.now).peak < (f.len + 20) * 65536 → Does (.ethFrameReceive n f) s fun t =>
            (t.flow k).w10 = satAdd 32 x.w10 1 ∧ (t.flow k).packets = x.packets ∧ (t.flow k).buffer = x.buffer ∧
            Only [.lanes, .entries, .flows, .events] s t) ∧
          (∀ r, x.filters f = false → x.f4 0x40 = 0 → x.session ≠ none → f.rtp = some r → x.expected = some (r.2.2.1 % 65536) →
            x.buffer.length + f.payload.length ≤ x.f4 0x3C * 1024 → Does (.ethFrameReceive n f) s fun t =>
              (t.flow k).buffer = x.buffer ++ f.payload ∧ (t.flow k).gaps = x.gaps ∧
              (t.flow k).expected = some ((r.2.2.1 % 65536 + 1) % 65536) ∧ (t.flow k).packets = satAdd 64 x.packets 1 ∧
              Only [.lanes, .entries, .flows] s t))))) ∧
  (∀ i : Fin 4096, ∀ e, e = s.entry i → ∀ x, x = s.flow e.flow →
    (e.valid = false → Does (.flowEntryAgeOut i) s fun t => Only [] s t) ∧
    (e.valid = true → e.learned = true → Does (.flowEntryAgeOut i) s fun t =>
      t.entry i = {} ∧ t.flow e.flow = { x with learned := x.learned - 1 } ∧ e.hitAt + x.f2 0x36 * 1000000 ≤ t.now ∧
      ((Table.get {} s.events 0).q.length < 64 → (Table.get {} t.events 0).q.length = (Table.get {} s.events 0).q.length + 1) ∧
      Only [.entries, .flows, .events, .time, .ptp] s t) ∧
    (e.valid = true → e.learned = false → e.idle = false → Does (.flowEntryAgeOut i) s fun t =>
      t.entry i = { e with idle := true } ∧ t.flow e.flow = { x with mode := .idle, w20l := satAdd 16 x.w20l 1 } ∧
      e.hitAt + x.f2 0x36 * 1000000 ≤ t.now ∧ Only [.entries, .flows, .events, .time, .ptp] s t) ∧
    (e.valid = true → e.learned = false → e.idle = true → Does (.flowEntryAgeOut i) s fun t => Only [.time, .ptp] s t)) ∧
  (s.captureFlow n = none → Does (.captureFlush n) s fun t => Only [] s t) ∧
  (∀ k x, s.captureFlow n = some k → x = s.flow k →
    (x.staged = [] → Does (.captureFlush n) s fun t => Only [] s t) ∧
    (x.staged ≠ [] → s.ringServes x.ring = true → bitAt (s.reactMask 22) 2 = false → Does (.captureFlush n) s fun t =>
      (t.flow k).staged = [] ∧ (t.flow k).ring = { x.ring with w := x.ring.w + x.staged.length } ∧ s.now ≤ t.now))

/-- 14 R748 to R760, R762; 13 R705. The egress reader fetches paced and shaped frames, a port sends from its bands in order, and
waiting packets enter a queue that has room. -/
def Obligations.FramesAreFetchedAndSent : Prop := ∀ s : State, ∀ n : Fin 16, ∀ l, l = s.lane n →
  (ethMode (s.portMode n) = false ∨ l.enabled = false →
    (Does (.egressFetch n) s fun t => Only [] s t) ∧ (Does (.ethFrameTransmit n) s fun t => Only [] s t)) ∧
  (ethMode (s.portMode n) = true → l.enabled = true →
    (l.down = true → (Does (.ethFrameTransmit n) s fun t => Only [] s t) ∧ (Does (.egressFetch n) s fun t => Only [.flows] s t) ∧
      (∀ k, s.egressFlows n = [k] → ∀ f, f = s.flow k → f.kind = 1 → f.frameNo < s.frameNow f → Does (.egressFetch n) s fun t =>
        t.flow k = { f with w1ch := satAdd 16 f.w1ch (s.frameNow f - f.frameNo), frameNo := s.frameNow f, pktNo := 0 })) ∧
    (l.down = false → s.fifoRoom n = false → Does (.egressFetch n) s fun t => Only [] s t) ∧
    (l.down = false → s.fifoRoom n = true →
      (s.egressFlows n = [] → Leads (.egressFetch n) s fun t => Only [] s t) ∧
      (∀ k, s.egressFlows n = [k] → ∀ f, f = s.flow k → ∀ b q, f.queue = b :: q →
        (f.paced = false → (∀ x ∈ l.fifo, x.flow ≠ k) → Leads (.egressFetch n) s fun t =>
          t.lane n = { l with fifo := l.fifo ++ [⟨k, b, none⟩] } ∧ (t.flow k).queue = q ∧ (t.flow k).pktNo = f.pktNo ∧
          (∀ j, j ≠ k → t.flow j = s.flow j) ∧ (∀ j, j ≠ n.val → t.lane j = s.lane j) ∧ Only [.lanes, .flows] s t) ∧
        (f.paced = false → (∃ x ∈ l.fifo, x.flow = k) → Leads (.egressFetch n) s fun t => Only [] s t) ∧
        (∀ c m, f.paced = true → f.kind ≠ 1 → f.auSize ≠ 0 → f.aus = c :: m → 0 < c → Leads (.egressFetch n) s fun t =>
          t.lane n = { l with fifo := l.fifo ++ [⟨k, b, some (s.dueOf f f.frameNo f.pktNo f.npackets)⟩] } ∧
          t.flow k = { f with queue := q, aus := (c - 1) :: m, pktNo := f.pktNo + 1 } ∧
          (∀ j, j ≠ k → t.flow j = s.flow j) ∧ (∀ j, j ≠ n.val → t.lane j = s.lane j) ∧
          Only [.lanes, .flows, .time, .ptp] s t))) ∧
    (l.down = false → s.ready (24 + n) = true → ∀ u, u = s.until l.lineFree →
      (∀ d x, l.fifo = [x] → x.due = some d → d ≤ u.ptpNs → x.bytes ≠ [] → Does (.ethFrameTransmit n) s fun t =>
        t.outs.head? = some (Out.frame n x.bytes) ∧
        t.lane n = { l with fifo := [], lineFree := u.now + wireNs (s.portMode n) (x.bytes.length + 20)
                            txFrames := satAdd 64 l.txFrames 1, txUnits := satAdd 64 l.txUnits x.bytes.length } ∧
        (t.flow x.flow).packets = satAdd 64 (s.flow x.flow).packets 1 ∧
        (t.flow x.flow).bytes = satAdd 64 (s.flow x.flow).bytes (x.bytes.length + 20) ∧
        (t.flow x.flow).maxLate = max (s.flow x.flow).maxLate (min (u.ptpNs - d) (2 ^ 32 - 1)) ∧
        (∀ j, j ≠ x.flow → t.flow j = s.flow j) ∧ Only [.lanes, .flows, .events, .time, .ptp] s t) ∧
      ((∀ x ∈ l.fifo, ∀ d, x.due = some d → u.ptpNs < d) →
        (∀ b m, l.control = b :: m → l.controlAt ≤ u.now → Does (.ethFrameTransmit n) s fun t =>
          t.outs.head? = some (Out.frame n b) ∧
          t.lane n = { l with control := m, controlAt := u.now + 80 * (b.length + 20)
                              lineFree := u.now + wireNs (s.portMode n) (b.length + 20)
                              txFrames := satAdd 64 l.txFrames 1, txUnits := satAdd 64 l.txUnits b.length } ∧
          Only [.lanes, .time, .ptp] s t) ∧
        (∀ x, l.control = [] ∨ u.now < l.controlAt → (u.normal n).2 = some x → x.bytes ≠ [] → Does (.ethFrameTransmit n) s fun t =>
          t.outs.head? = some (Out.frame n x.bytes) ∧ x.due = none ∧
          (t.lane n).fifo = l.fifo.erase x ∧ (t.lane n).lineFree = u.now + wireNs (s.portMode n) (x.bytes.length + 20) ∧
          (t.lane n).txFrames = satAdd 64 l.txFrames 1 ∧ (t.lane n).txUnits = satAdd 64 l.txUnits x.bytes.length ∧
          (t.flow x.flow).packets = satAdd 64 (s.flow x.flow).packets 1 ∧
          (t.flow x.flow).bytes = satAdd 64 (s.flow x.flow).bytes (x.bytes.length + 20) ∧
          (∀ j, j ≠ n.val → t.lane j = s.lane j) ∧ Only [.lanes, .flows, .sched, .time, .ptp] s t)) ∧
      (l.fifo = [] → l.control = [] → (u.normal n).2 = none → Does (.ethFrameTransmit n) s fun t => Only [.time, .ptp] s t))) ∧
  (∀ k : Fin 1024, ∀ f, f = s.flow k →
    (f.waiting = [] → Does (.packetiserResume k) s fun t => Only [] s t) ∧
    (f.waiting ≠ [] → sumBy List.length f.queue + sumBy List.length f.waiting ≤ f.f4 0x3C * 1024 → Leads (.packetiserResume k) s fun t =>
      t.flow k = { f with queue := f.queue ++ f.waiting, waiting := [], w14 := satAdd 32 f.w14 ((s.now - f.bpSince) / 1000) } ∧
      (∀ j, j ≠ k.val → t.flow j = s.flow j) ∧ Only [.flows] s t) ∧
    (∀ b m, f.waiting = b :: m → f.f4 0x3C * 1024 < sumBy List.length f.queue + b.length → Leads (.packetiserResume k) s fun t =>
      t.flow k = f ∧ (∀ j, j ≠ k.val → t.flow j = s.flow j) ∧ Only [.flows] s t))

/-- 07 R404, R419, R433; 08 R456, R472, R473; 10 R535; 11 R598; 14 R748, R749. A job that holds its grants starts on its pipes
0.1 µs later, and ends there once its threads have ended and what it feeds has been queued. -/
def Obligations.JobsRunOnTheirPipes : Prop := ∀ s : State, ∀ n : Fin 4,
  ((List.range s.hazel.jobs.length).find? (s.startable n) = none → Does (.pipeJobStart n) s fun t => Only [] s t) ∧
  (∀ i, (List.range s.hazel.jobs.length).find? (s.startable n) = some i → ∀ c, c = s.hazel.jobs.getD i {} →
    ∀ k, k = c.a0 % 256 → ∀ x, x = s.session k → x.mode = .opened →
    c.opcode = 0x302 ∨ c.opcode = 0x304 ∨ x.enc = false ∨ (blkByte c.params 0x20 ≠ 4 ∧ blkByte c.params 0x43 = 0) →
    ∀ p, p = s.ptp.advance 100 →
    Does (.pipeJobStart n) s fun t =>
      t.session k = { x with started := x.started + 1, run := some {
        queue := c.queue, seq := c.seq, opcode := c.opcode, started := s.now + 100, body := c.params
        startPtp := p.sec % 2 ^ 32 * 2 ^ 32 + p.ns } } ∧
      t.hazel.jobs.getD i {} = { c with wait := none, onPipe := true } ∧ t.now = s.now + 100 ∧
      (c.opcode ≠ 0x304 → pipesOf c.pipes = [n.val] → ∀ a, x.allots = [a] → a.pipe = n.val → x.firstPipe = n.val → a.threads.Nodup →
        ∀ j, j < a.threads.length → t.thread n (a.threads.getD j 0) =
          { active := true, session := k, dec := a.dec, handle := a.handle, tid := j
            pc := podEntry (s.pod a.handle).image j, passed := [always] }) ∧
      Only [.hazel, .pipes, .time, .ptp, .fab, .dram] s t) ∧
  (∀ k : Fin 64, ∀ x, x = s.session k →
    (s.fwUp = false ∨ s.runningJob k = none ∨ x.run = none ∨ x.firstPipe ≠ n.val ∨ s.threadsEnded k = false →
      Does (.pipeJobEnd n k) s fun t => Only [] s t) ∧
    (∀ i r, s.fwUp = true → s.runningJob k = some i → x.run = some r → x.firstPipe = n.val → s.threadsEnded k = true →
      ∀ c, c = s.hazel.jobs.getD i {} → s.endWaits k c = none →
      (c.opcode = 0x302 → Carries (.pipeJobEnd n k) s (s.begin.endJobAt i 0 0 0)) ∧
      (∀ m, m = s.begin.measureReads n (measureOf c.body) → c.opcode = 0x304 → m.2 = none →
        Carries (.pipeJobEnd n k) s (m.1.endJobAt i 0 0 0)) ∧
      (∀ m, m = s.begin.measureReads n (measureOf c.body) → ∀ e, c.opcode = 0x304 → m.2 = some e →
        Carries (.pipeJobEnd n k) s (m.1.endJobAt i 0x0303 e.1 e.2)) ∧
      (c.opcode = 0x301 ∨ c.opcode = 0x303 →
        (r.fed ≠ none → s.backPressed k = true → Does (.pipeJobEnd n k) s fun t => Only [] s t) ∧
        (r.fed ≠ none → s.backPressed k = false → Carries (.pipeJobEnd n k) s (s.begin.endJobAt i 0 0 0)) ∧
        (∀ u, u = s.begin.feed k c r → r.fed = none → u.backPressed k = false → u.runningJob k = some i →
          Carries (.pipeJobEnd n k) s (u.endJobAt i 0 0 0))))) ∧
  (∀ k : Fin 64, ∀ l, l = s.jobThreads k →
    (s.runningJob k = none ∨ (∃ e ∈ l, s.stuck e.1 e.2 = false) ∨ (∀ e ∈ l, e.1 ≠ n.val) →
      Does (.threadDeadlock n k) s fun t => Only [] s t) ∧
    (∀ i x, s.runningJob k = some i → lowestThread l n = some x → (∀ e ∈ l, s.stuck e.1 e.2 = true) → ∀ u,
      u = s.begin.advance ((64000 + s.pclk - 1) / s.pclk) → Carries (.threadDeadlock n k) s
        ((u.setPipe n { s.pipe n with faultUnserved := true, deadlocks := satAdd 16 (s.pipe n).deadlocks 1 }).endJobAt i 0x0305
          (4 * 2 ^ 24 + x.pc % 65536 * 2 ^ 8 + n * 2 ^ 6 + x.tid % 64) 0)))

/-- 07 R411, R436, R437; 11 R594 to R598, R600. A page fetch completes, and the analysis record unit writes what it has gathered
and reads READ_IDX again. -/
def Obligations.PagesAndRecordsMove : Prop := ∀ s : State, ∀ n : Fin 4, ∀ p, p = s.pipe n →
  (s.mainOn = false ∨ s.ready 7 = false ∨ p.fetches = [] → Does (.pageFetchComplete n) s fun t => Only [] s t) ∧
  (∀ h g l, s.mainOn = true → s.ready 7 = true → p.fetches = (h, g) :: l → s.asleep 1 = false →
    s.Plain (s.pageRange h g).1 (s.pageRange h g).2 → ∀ i, s.pageSlot n = some i → Does (.pageFetchComplete n) s fun t =>
      Table.get (0, 0, 0) (t.pipe n).pages i = (h, g, p.turn) ∧ (t.pipe n).fetches = l ++ p.fetchQueue.take 1 ∧
      (t.pipe n).fetchQueue = p.fetchQueue.drop 1 ∧
      (∀ k x, p.threads = [(k, x)] → x.block = .page → x.handle = h → x.pc / 256 = g → t.thread n k = { x with block := .free }) ∧
      (∀ j, j ≠ n.val → t.pipe j = s.pipe j) ∧ Only [.pipes, .fab, .dram] s t) ∧
  (p.aruStaged = [] → Does (.aruPartialWrite n) s fun t => Only [] s t) ∧
  (∀ k q b, p.aruStaged = [(k, q, false, b)] → ∀ x, x = s.session k → x.oldRing = none → ∀ g, g = x.ring → g.size ≠ 0 → g.gap = 0 →
    g.w - g.r + 1 < ringSlots g.size → s.ringAwake k = true → s.Plain g.addr g.size → g.size % 64 = 0 → g.addr % 64 = 0 → b.length = 64 →
    Does (.aruPartialWrite n) s fun t =>
      (t.pipe n).aruStaged = [] ∧ (t.session k).ring = { g with w := g.w + 1 } ∧
      (∀ j, j < 64 → Table.get 0 t.mem (g.addr + 64 + 64 * (g.w % ringSlots g.size) + j) = b.getD j 0) ∧
      (∀ j, j < 8 → Table.get 0 t.mem (g.addr + j) = (leBytes 8 (g.w + 1)).getD j 0) ∧
      (∀ a, a < g.addr ∨ g.addr + g.size ≤ a → Table.get 0 t.mem a = Table.get 0 s.mem a) ∧
      t.now = s.now + 1000 ∧ Only [.pipes, .hazel, .memory, .fab, .dram, .time, .ptp] s t) ∧
  (p.aruHigh = false → Does (.aruReadIdxReread n) s fun t => Only [] s t) ∧
  (p.aruHigh = true → (∀ k, s.Plain ((s.session k).ring.addr + 8) 8) → Does (.aruReadIdxReread n) s fun t =>
    t.now = s.now + 10000 ∧
    (∀ k, k < 64 → ∀ x, x = s.session k → x.mode ≠ .closed → x.firstPipe = n.val → x.ring.size ≠ 0 → s.dramReady x.ring.addr 64 = true →
      s.asleep (x.ring.addr / 2 ^ 33) = false →
      t.session k = { x with ring := { x.ring with r := min (s.raw (x.ring.addr + 8) 8) x.ring.w } }) ∧
    (∀ k, k < 64 → (s.session k).firstPipe ≠ n.val → t.session k = s.session k) ∧
    Only [.pipes, .hazel, .fab, .dram, .time, .ptp] s t)

/-- 07 R422 to R430, R441 to R444; 12 R629; 06 R379. Self-tests of the pipes and the memories: when one is asked for, how it
ends, what an abort restores, and a job that has waited too long for one. -/
def Obligations.SelfTestsEnd : Prop := ∀ s : State, ∀ n : Fin 4, ∀ p, p = s.pipe n →
  (s.fwUp = false ∨ s.ready 11 = false ∨ s.hazel.mode = .recovery ∨ s.bistDue n = false →
    Does (.periodicSelftest n) s fun t => Only [] s t) ∧
  (s.fwUp = true → s.ready 11 = true → s.hazel.mode ≠ .recovery → s.bistDue n = true →
    Carries (.periodicSelftest n) s (s.begin.setPipe n { p with bist := .requested })) ∧
  (∀ code : BitVec 16, p.bist ≠ .running ∨ p.bistAborting = true → Does (.pipeSelftestEnd n code) s fun t => Only [] s t) ∧
  (∀ code : BitVec 16, p.bist = .running → p.bistAborting = false → Leads (.pipeSelftestEnd n code) s fun t =>
    t.now = max s.now (p.bistAt + 3500000) ∧ ⟨.pipeSelftest, n.val⟩ ∉ t.pac.held ∧ s.now ≤ t.now ∧
    (s.mildly 34 → t.pipe n = { p with
      pages := [], lastTest := t.now, waived := false, failed := decide (code ≠ 0), bist := .none, bistCmd := none, bistAborting := false
      bistFailed := if code = 0 then p.bistFailed else satAdd 16 p.bistFailed 1 }) ∧
    (s.ready 14 = true → s.mildly 34 → t.icu.hazelA.pend.getLsbD (41 + n) = true) ∧
    (∀ c, s.hazel.jobs = [c] → p.bistCmd = some (c.queue, c.seq) → c.phase = .running → isJob c.opcode = false → s.mildly 34 →
      t.hazel.jobs = [c.ends 0 0 (code.toNat * 2 ^ 16 + if code = 0 then 0 else 1)]) ∧
    (code = 0 → t.ready (16 + n) = true ∧ Only [.pipes, .pac, .ready, .hazel, .icu, .time, .ptp] s t) ∧
    (code ≠ 0 → s.ready 15 = true → s.mildly 34 → (t.fltSrc 34).open_ = true ∧ t.rdy = s.rdy)) ∧
  (p.bist ≠ .running ∨ p.bistAborting = false → Does (.pipeSelftestAbort n) s fun t => Only [] s t) ∧
  (p.bist = .running → p.bistAborting = true → Leads (.pipeSelftestAbort n) s fun t =>
    t.now = s.now + 110000 ∧ t.ready (16 + n) = true ∧ ⟨.pipeSelftest, n.val⟩ ∉ t.pac.held ∧
    t.pipe n = { p with pages := [], waived := true, bistAborted := satAdd 16 p.bistAborted 1, bist := .none, bistCmd := none
                        bistAborting := false } ∧
    (∀ c, s.hazel.jobs = [c] → p.bistCmd = some (c.queue, c.seq) → c.phase = .running → t.hazel.jobs = [c.ends 0 0 2]) ∧
    (∀ j, j ≠ n.val → t.pipe j = s.pipe j) ∧ Only [.pipes, .pac, .ready, .hazel, .icu, .time, .ptp] s t) ∧
  (s.fwUp = false ∨ p.bist ≠ .running ∨ s.hazel.jobs = [] → Does (.selftestWaitExpired n) s fun t => Only [] s t) ∧
  (∀ c, s.fwUp = true → p.bist = .running → s.hazel.jobs = [c] → isJob c.opcode = true → c.phase = .running → c.waitFrom ≠ 0 →
    c.wait = none → c.onPipe = false → bitAt c.pipes n = true → ∀ u, u = s.begin.until (c.waitFrom - 1 + 8000000) →
    Carries (.selftestWaitExpired n) s
      ((u.setPipe n { p with waitExpired := satAdd 16 p.waitExpired 1 }).setJob 0 (c.ends 0x0202 n 0))) ∧
  (∀ i : Fin 3, ∀ code : BitVec 16,
    (⟨.memSelftest, i.val⟩ ∉ s.pac.held → Does (.memorySelftestEnd i code) s fun t => Only [] s t) ∧
    (⟨.memSelftest, i.val⟩ ∈ s.pac.held → Leads (.memorySelftestEnd i code) s fun t =>
      (⟨.memSelftest, i.val⟩ ∉ t.pac.held) ∧
      (i = 0 → s.mildly 35 → t.mem = s.mem ∧ t.rdy = s.rdy ∧ t.dram = s.dram) ∧
      (∀ k, k + 1 = i.val → s.mildly 35 →
        t.stack k = { s.stack k with mode := if code = 0 then .awake else .selfTest, initDone := false } ∧
        (code = 0 → t.ready (6 + k) = true) ∧ (code ≠ 0 → t.rdy = s.rdy) ∧
        (∀ a, a / 2 ^ 33 ≠ k → Table.get 0 t.mem a = Table.get 0 s.mem a)) ∧
      (code ≠ 0 → s.ready 15 = true → s.mildly 35 → (t.fltSrc 35).open_ = true) ∧
      (∀ c, s.hazel.jobs = [c] → c.opcode = 0x0701 → c.phase = .running → c.a0 % 65536 = 0x21 + 256 * i.val → s.mildly 35 →
        t.hazel.jobs = [c.ends 0 0 (code.toNat * 2 ^ 16 + if code = 0 then 0 else 1)]) ∧
      (code = 0 → Only [.pac, .hazel, .memory, .dram, .ready] s t)))

/-- 08 R456 to R463. Every scalar step writes its result to DST and sets the flags that its entry names, as 64-bit arithmetic
gives them, and the thread goes on; C after a shift by 0 is a free value (log 9). 08 R463; 07 R413. A divisor of 0 and a
shift by 64 or more raise ARITH, and nothing is written. -/
def Obligations.ScalarStepsYieldOrRaiseArith : Prop :=
  (∀ s : State, ∀ r : PipeRef, ∀ x, x = s.thread r.pipe r.thread → ∀ w, w = s.stepOf x → s.Steps r x w → s.More x →
  ∀ a, a = toW (s.operand r.pipe x (stA w)) → ∀ b, b = toW (s.second r.pipe x w) → ∀ o, o = stOp w →
  (o = 1 → Yields (.add r) s r x w (a + b) { x with
    z := a + b == 0, n := (a + b).msb, c := decide (2 ^ 64 ≤ a.toNat + b.toNat), v := decide ((a + b).toInt ≠ a.toInt + b.toInt) }) ∧
  (o = 2 → Yields (.sub r) s r x w (a - b) { x with
    z := a == b, n := (a - b).msb, c := decide (b.toNat ≤ a.toNat), v := decide ((a - b).toInt ≠ a.toInt - b.toInt) }) ∧
  (o = 3 → Yields (.mul r) s r x w (a * b) { x with z := a * b == 0, n := (a * b).msb }) ∧
  (o = 4 → b ≠ 0 → Yields (.divu r) s r x w (a / b) { x with z := decide (a.toNat < b.toNat), n := (a / b).msb }) ∧
  (o = 5 → b ≠ 0 → ∀ d, d = BitVec.ofInt 64 (Int.tdiv a.toInt b.toInt) →
    Yields (.divs r) s r x w d { x with z := d == 0, n := d.msb }) ∧
  (o = 6 → b ≠ 0 → Yields (.remu r) s r x w (a % b) { x with z := decide (b.toNat ∣ a.toNat), n := (a % b).msb }) ∧
  (o = 7 → Yields (.and r) s r x w (a &&& b) { x with z := a &&& b == 0, n := a.msb && b.msb, c := false, v := false }) ∧
  (o = 8 → Yields (.or r) s r x w (a ||| b) { x with z := a ||| b == 0, n := a.msb || b.msb, c := false, v := false }) ∧
  (o = 9 → Yields (.xor r) s r x w (a ^^^ b) { x with z := a == b, n := a.msb != b.msb, c := false, v := false }) ∧
  (∀ k, k = b.toNat → k < 64 → ∀ free, free = (Config.freeWord s.free).getLsbD 0 →
    (o = 10 → Yields (.shl r) s r x w (a <<< k) { x with
      z := a <<< k == 0, n := a.getLsbD (63 - k), c := if k = 0 then free else a.getLsbD (64 - k) }) ∧
    (o = 11 → Yields (.shru r) s r x w (a >>> k) { x with
      z := a >>> k == 0, n := decide (k = 0) && a.msb, c := if k = 0 then free else a.getLsbD (k - 1) }) ∧
    (o = 12 → Yields (.shrs r) s r x w (a.sshiftRight k) { x with
      z := a.sshiftRight k == 0, n := a.msb, c := if k = 0 then free else a.getLsbD (k - 1) })) ∧
  (o = 13 → ∀ m, m = BitVec.ofInt 64 (min a.toInt b.toInt) → Yields (.min r) s r x w m { x with z := m == 0, n := m.msb }) ∧
  (o = 14 → ∀ m, m = BitVec.ofInt 64 (max a.toInt b.toInt) → Yields (.max r) s r x w m { x with z := m == 0, n := m.msb }) ∧
  (o = 15 → Yields (.mov r) s r x w b x) ∧
  (o = 16 → stDst w = 0x20 → Yields (.cmp r) s r x w 0 { x with
    z := a == b, n := (a - b).msb, c := decide (b.toNat ≤ a.toNat), v := decide ((a - b).toInt ≠ a.toInt - b.toInt) }) ∧
  (o = 17 → stDst w = 0x20 → Yields (.tstb r) s r x w 0 { x with z := !a.getLsbD (b.toNat % 64) }) ∧
  (o = 18 → ∀ m, m = (a >>> stPos w) &&& toW (2 ^ stLen w - 1) → Yields (.ext r) s r x w m { x with z := m == 0 }) ∧
  (o = 19 → ∀ m, m = toW (2 ^ stLen w - 1) → Yields (.ins r) s r x w
    ((toW (s.operand r.pipe x (stDst w)) &&& ~~~(m <<< stPos w)) ||| ((a &&& m) <<< stPos w)) x) ∧
  (o = 20 → Yields (.ldc r) s r x w
    (if b.toNat % 4096 < podConsts (s.image x) then toW (podConst (s.image x) (b.toNat % 4096)) else 0) x) ∧
  (o = 21 → Yields (.clz r) s r x w (toW (if a = 0 then 64 else 63 - a.toNat.log2)) { x with z := a.msb }) ∧
  (o = 22 → ∀ m, m = toW (s.window x (b.toNat % 16)).length → Yields (.wlen r) s r x w m { x with z := m == 0 }) ∧
  (o = 23 → Yields (.sel r) s r x w (if condTrue x (stSelCond w) then b else a) x)) ∧
  (∀ s : State, ∀ r : PipeRef, ∀ x, x = s.thread r.pipe r.thread → ∀ w, w = s.stepOf x → s.Steps r x w → ∀ i,
  s.runningJob x.session = some i → ∀ b, b = toW (s.second r.pipe x w) →
  (stOp w = 4 → b = 0 → Faults (.divu r) s r x i 2 x.pc) ∧
  (stOp w = 5 → b = 0 → Faults (.divs r) s r x i 2 x.pc) ∧
  (stOp w = 6 → b = 0 → Faults (.remu r) s r x i 2 x.pc) ∧
  (stOp w = 10 → 64 ≤ b.toNat → Faults (.shl r) s r x i 2 x.pc) ∧
  (stOp w = 11 → 64 ≤ b.toNat → Faults (.shru r) s r x i 2 x.pc) ∧
  (stOp w = 12 → 64 ≤ b.toNat → Faults (.shrs r) s r x i 2 x.pc))

/-- 08 R459, R472 to R475; 07 R407, R408. Branches, calls, returns and the end of a thread, waits and SIGNAL; a thread that runs
past its last step, calls too deep or branches out of range faults. -/
def Obligations.ControlStepsMoveThreads : Prop := ∀ s : State, ∀ r : PipeRef, ∀ x, x = s.thread r.pipe r.thread → ∀ w, w = s.stepOf x → s.Steps r x w →
  ∀ l, l = (s.pipe r.pipe).scalars → ∀ o, o = stOp w → ∀ g, g = podSteps (s.image x) →
  (x.pc + 1 < g →
    (o = 0x20 → Does (.nopStep r) s fun t => Stepped s t r { x with pc := x.pc + 1 } l ∧ Only [.pipes] s t) ∧
    (o = 0x21 → condTrue x (stCond w) = false → Does (.br r) s fun t => Stepped s t r { x with pc := x.pc + 1 } l ∧ Only [.pipes] s t) ∧
    (o = 0x22 → condTrue x (stCond w) = false → Does (.brx r) s fun t => Stepped s t r { x with pc := x.pc + 1 } l ∧ Only [.pipes] s t) ∧
    (o = 0x30 → ∀ v, v = (if stWaitBi w then stImm w % 65536 else s.operand r.pipe x (stB w)) →
      ∀ k, k = (if stG w then 0x1000 + stCounter w else stCounter w) →
      (v ≤ s.counterOf r.pipe x (stG w) (stCounter w) → Does (.waitCnt r) s fun t =>
        Stepped s t r { x with pc := x.pc + 1, passed := if k ∈ x.passed then x.passed else k :: x.passed } l ∧ Only [.pipes] s t) ∧
      (s.counterOf r.pipe x (stG w) (stCounter w) < v → Does (.waitCnt r) s fun t =>
        Stepped s t r { x with block := .counter (stG w) (stCounter w) v } l ∧ Only [.pipes] s t)) ∧
    (o = 0x31 →
      ((∃ q ∈ x.reqs, bitAt (stImm w) q.unit = true) → Does (.waitUnit r) s fun t =>
        Stepped s t r { x with block := .units (stImm w) } l ∧ Only [.pipes] s t) ∧
      ((∀ q ∈ x.reqs, bitAt (stImm w) q.unit = false) → Does (.waitUnit r) s fun t =>
        Stepped s t r { x with pc := x.pc + 1 } l ∧ Only [.pipes] s t)) ∧
    (o = 0x40 → x.reqs ≠ [] → Does (.signal r) s fun t => Only [] s t) ∧
    (o = 0x40 → x.reqs = [] → stG w = false → Does (.signal r) s fun t => ∀ k, k = (if x.dec then 1 else 0) →
      t.thread r.pipe r.thread = { x with pc := x.pc + 1 } ∧
      Table.get 0 (t.pipe r.pipe).counters ((x.session * 2 + k) * 128 + stCounter w) =
        min 0xFFFF (Table.get 0 (s.pipe r.pipe).counters ((x.session * 2 + k) * 128 + stCounter w) + stImm w % 65536) ∧
      (∀ j, j < podScalars (s.image x) → s.owns r.pipe x j = true →
        (t.pipe r.pipe).published1 (scalarKey x.session x.dec j) [stCounter w] = Table.get 0 l (scalarKey x.session x.dec j)) ∧
      (t.pipe r.pipe).scalars = l ∧ (∀ j, j ≠ r.pipe.val → t.pipe j = s.pipe j) ∧ Only [.pipes] s t) ∧
    (o = 0x40 → x.reqs = [] → stG w = true → ∀ p, p = (s.session x.session).firstPipe →
      Does (.signal r) s fun t => ∀ k, k = (if x.dec then 1 else 0) →
        t.thread r.pipe r.thread = { x with pc := x.pc + 1 } ∧
        Table.get 0 (t.pipe p).gangCounters ((x.session * 2 + k) * 16 + stCounter w) =
          min 0xFFFF (Table.get 0 (s.pipe p).gangCounters ((x.session * 2 + k) * 16 + stCounter w) + stImm w % 65536) ∧
        (t.pipe r.pipe).scalars = l ∧ Only [.pipes] s t)) ∧
  (o = 0x21 → condTrue x (stCond w) = true → stImm w % 65536 < g → Does (.br r) s fun t =>
    Stepped s t r { x with pc := stImm w % 65536 } l ∧ Only [.pipes] s t) ∧
  (o = 0x22 → condTrue x (stCond w) = true → ∀ k, k = s.operand r.pipe x (stA w) → k < g → Does (.brx r) s fun t =>
    Stepped s t r { x with pc := k } l ∧ Only [.pipes] s t) ∧
  (o = 0x23 → x.stack.length < 16 → stImm w % 65536 < g → Does (.call r) s fun t =>
    Stepped s t r { x with pc := stImm w % 65536, stack := (x.pc + 1) :: x.stack } l ∧ Only [.pipes] s t) ∧
  (∀ k m, o = 0x24 → x.stack = k :: m → k < g → Does (.ret r) s fun t =>
    Stepped s t r { x with pc := k, stack := m } l ∧ Only [.pipes] s t) ∧
  (∀ y, y = (if x.reqs = [] then { x with active := false } else { x with block := .ending }) →
    (o = 0x24 → x.stack = [] → Does (.ret r) s fun t => Stepped s t r y l ∧ Only [.pipes] s t) ∧
    (o = 0x25 → Does (.endStep r) s fun t => Stepped s t r y l ∧ Only [.pipes] s t)) ∧
  (∀ i, s.runningJob x.session = some i →
    (o = 0x20 → g ≤ x.pc + 1 → Faults (.nopStep r) s r x i 5 (x.pc + 1)) ∧
    (o = 0x23 → 16 ≤ x.stack.length → Faults (.call r) s r x i 3 x.pc))

/-- 08 R472, R474, R475; 07 R401, R405, R407; 08 R477, R479; 11 R592. What lets a thread go on: a unit's result comes back to
DST, a wait that is over ends, and EMIT stages its record. -/
def Obligations.ThreadsGoOn : Prop := ∀ s : State, ∀ r : PipeRef, ∀ x, x = s.thread r.pipe r.thread →
  (x.active = false ∨ (s.session x.session).run = none →
    (Does (.threadWaitRelease r) s fun t => Only [] s t) ∧ (Does (.unitResultReturn r) s fun t => Only [] s t)) ∧
  (x.active = true → (s.session x.session).run ≠ none →
    (x.block = .free ∨ x.block = .page → Does (.threadWaitRelease r) s fun t => Only [] s t) ∧
    (∀ g k v, x.block = .counter g k v → ∀ c, c = (if g then 0x1000 + k else k) →
      (s.counterOf r.pipe x g k < v → Does (.threadWaitRelease r) s fun t => Only [] s t) ∧
      (v ≤ s.counterOf r.pipe x g k → s.More x → Does (.threadWaitRelease r) s fun t =>
        t.thread r.pipe r.thread = { x with block := .free, pc := x.pc + 1, passed := if c ∈ x.passed then x.passed else c :: x.passed } ∧
        (∀ j, j ≠ r.thread.val → t.thread r.pipe j = s.thread r.pipe j) ∧ Only [.pipes] s t)) ∧
    (∀ m, x.block = .units m →
      ((∃ q ∈ x.reqs, bitAt m q.unit = true) → Does (.threadWaitRelease r) s fun t => Only [] s t) ∧
      ((∀ q ∈ x.reqs, bitAt m q.unit = false) → s.More x → Does (.threadWaitRelease r) s fun t =>
        t.thread r.pipe r.thread = { x with block := .free, pc := x.pc + 1 } ∧
        (∀ j, j ≠ r.thread.val → t.thread r.pipe j = s.thread r.pipe j) ∧ Only [.pipes] s t)) ∧
    (x.block = .ending → x.reqs ≠ [] → Does (.threadWaitRelease r) s fun t => Only [] s t) ∧
    (x.block = .ending → x.reqs = [] → Does (.threadWaitRelease r) s fun t =>
      t.thread r.pipe r.thread = { x with active := false, block := .free } ∧
      (∀ j, j ≠ r.thread.val → t.thread r.pipe j = s.thread r.pipe j) ∧ Only [.pipes] s t) ∧
    (x.reqs = [] → Does (.unitResultReturn r) s fun t => Only [] s t) ∧
    (∀ q m, x.reqs = q :: m → s.pll 2 = .locked → Does (.unitResultReturn r) s fun t =>
      t.thread r.pipe r.thread = { x with reqs := m, s := x.scalarsOf q.dst (q.result % 2 ^ 64) } ∧
      (t.pipe r.pipe).scalars = s.scalarsOf r.pipe x q.dst (q.result % 2 ^ 64) ∧
      (∀ j, j ≠ r.thread.val → t.thread r.pipe j = s.thread r.pipe j) ∧ Only [.pipes] s t)) ∧
  (∀ w, w = s.stepOf x → s.Steps r x w → s.More x → stOp w = 0x60 → ∀ y, y = s.session x.session → ∀ u, y.run = some u →
    ∀ e : Rec, e = { order := s.operand r.pipe x (stB w) % 2 ^ 32, thread := x.tid, typ := stType w, tag := stImm w
                     words := (List.range (stNops w)).map fun k => Table.get 0 x.s (stA w + k) } →
    (y.ringNow.size = 0 ∨ y.ringNow.selects e.typ = false → Does (.emit r) s fun t =>
      Stepped s t r { x with pc := x.pc + 1 } (s.pipe r.pipe).scalars ∧ Only [.pipes] s t) ∧
    (y.ringNow.size ≠ 0 → y.ringNow.selects e.typ = true → Does (.emit r) s fun t =>
      Stepped s t r { x with pc := x.pc + 1 } (s.pipe r.pipe).scalars ∧
      (t.session x.session).run = some (if u.recs.length < 65536 then { u with recs := u.recs ++ [e] }
        else { u with gapLost := u.gapLost + 1 }) ∧ (∀ j, j ≠ x.session → t.session j = s.session j) ∧ Only [.pipes, .hazel] s t))

/-- 08 R476 to R478; 07 R401. Requests to the units that fetch, search, predict, interpolate, compare and transform are issued:
each reads and writes what its function names, and its result is outstanding. What the standards compute from samples is a
free value (log 66). -/
def Obligations.SearchAndTransformRequestsAreIssued : Prop := ∀ s : State, ∀ r : PipeRef,
  ∀ x, x = s.thread r.pipe r.thread → ∀ w, w = s.stepOf x → ∀ d, d = stepOp x w 0 → ∀ a, a = stWinA w → ∀ b, b = stWinB w →
  ∀ i, i = stImm w → ∀ n, n = span w 0 d → ∀ m, m = span w 1 d →
  (∀ q : UnitAsk, q = { bad := blockBad d, result := some 0, acc := [readBlock s x a d n, writeAt b (i % 2 ^ 32) m] } →
    s.Asks r x w 0 1 q → Issues (.fetch r) s r x w q) ∧
  (∀ q : UnitAsk, q = { bad := blockBad d, acc := [readAt a (i % 2 ^ 32) n, readAt b (stepOp x w 1) m] } →
    (s.Asks r x w 1 1 q → Issues (.list r) s r x w q) ∧
    (s.Asks r x w 1 2 q → Issues (.grid r) s r x w q)) ∧
  (∀ q : UnitAsk, q = { bad := blockBad d || !modeOk (s.session x.session).codec (i % 256)
                        acc := [readAt a (i / 256 % 2 ^ 24) n, writeAt b (i / 2 ^ 32) m] } →
    s.Asks r x w 2 1 q → Issues (.predict r) s r x w q) ∧
  (∀ q : UnitAsk, q = { bad := blockBad d, result := some 0, acc := [readAt a (i % 2 ^ 32) n, writeAt b (i / 2 ^ 32) m] } →
    s.Asks r x w 3 1 q → Issues (.interp r) s r x w q) ∧
  (∀ q : UnitAsk, q = { bad := blockBad d, acc := [readAt a (stepOp x w 1) n, readAt a (i / 2 ^ 32) m] } →
    (s.Asks r x w 4 1 q → Issues (.sad r) s r x w q) ∧
    (s.Asks r x w 4 2 q → Issues (.sse r) s r x w q) ∧
    (s.Asks r x w 4 3 q → Issues (.satd r) s r x w q)) ∧
  (s.Asks r x w 4 4 {} → Issues (.rate r) s r x w {}) ∧
  (∀ z, z = !(2 ≤ d / 256 % 256 && d / 256 % 256 ≤ 6) →
    (∀ q : UnitAsk, q = { bad := z || bitsOf (stepOp x w 3) 8 8 > 3 || bitsOf (stepOp x w 3) 16 8 > 5
                          acc := [readAt a (stepOp x w 1) n, writeAt a (stepOp x w 2) m] } →
      s.Asks r x w 5 1 q → Issues (.fwdQ r) s r x w q) ∧
    (∀ q : UnitAsk, q = { bad := z, result := some 0, acc := [readAt a (stepOp x w 2) m, writeAt a (stepOp x w 1) n] } →
      s.Asks r x w 5 2 q → Issues (.deqInv r) s r x w q))

/-- 08 R471, R476 to R478. Requests to the filter, entropy, bitstream and quality units are issued, with the results that the
spec gives: the bits of an Exp-Golomb code, the sum of squared differences, the first mismatch. -/
def Obligations.FilterAndStreamRequestsAreIssued : Prop := ∀ s : State, ∀ r : PipeRef,
  ∀ x, x = s.thread r.pipe r.thread → ∀ w, w = s.stepOf x → ∀ d, d = stepOp x w 0 → ∀ a, a = stWinA w → ∀ b, b = stWinB w →
  ∀ n, n = span w 0 d → ∀ m, m = span w 1 d → ∀ e, e = readBlock s x a d n →
  (∀ q : UnitAsk, q = { bad := blockBad d, result := some 0, acc := [e, { e with write := true }] } →
    (s.Asks r x w 6 1 q → Issues (.deblock r) s r x w q) ∧ (s.Asks r x w 6 2 q → Issues (.sao r) s r x w q) ∧
    (s.Asks r x w 6 3 q → Issues (.alf r) s r x w q) ∧ (s.Asks r x w 6 4 q → Issues (.cdef r) s r x w q)) ∧
  (∀ q : UnitAsk, q = { bad := blockBad d, acc := [e, writeAt b (stImm w % 2 ^ 32) m] } →
    s.Asks r x w 6 5 q → Issues (.stats r) s r x w q) ∧
  (∀ v, v = stepOp x w 1 → ∀ q : UnitAsk, q = { bad := d % 16 > 6, result := encodeBits d v } → s.Asks r x w 7 1 q →
    Issues (.encode r) s r x w q ∧
    (d % 16 = 4 → encodeBits d v = some (2 * (v + 1).log2 + 1)) ∧
    (d % 16 = 6 → encodeBits d v = some (d / 256 % 64))) ∧
  (∀ q : UnitAsk, q = { bad := d % 16 > 6, range := true } → s.Asks r x w 7 2 q → Issues (.decode r) s r x w q) ∧
  (∀ q : UnitAsk, q = { result := some 0 } →
    (s.Asks r x w 7 3 q → Issues (.init r) s r x w q) ∧ (s.Asks r x w 7 4 q → Issues (.flush r) s r x w q)) ∧
  (∀ c : List Access, c = (if a = 15 then [] else [writeAt a 0 0]) →
    (∀ q : UnitAsk, q = { out := true, acc := c } →
      (s.Asks r x w 8 1 q → Issues (.startUnit r) s r x w q) ∧ (s.Asks r x w 8 2 q → Issues (.endUnit r) s r x w q)) ∧
    (∀ q : UnitAsk, q = { bad := !(1 ≤ stepOp x w 1 && stepOp x w 1 ≤ 64), out := true, acc := c } →
      s.Asks r x w 8 3 q → Issues (.raw r) s r x w q) ∧
    (∀ q : UnitAsk, q = { bad := stImm w % 4 == 3, result := some 0, out := true, acc := c } →
      s.Asks r x w 8 4 q → Issues (.inject r) s r x w q)) ∧
  (∀ l : List Access, l = [e, readBlock s x b d m] →
    (∀ q : UnitAsk, q = { bad := blockBad d, acc := l, result := (s.blockPairs x w).map sseOf } →
      s.Asks r x w 9 1 q → Issues (.sseSums r) s r x w q) ∧
    (∀ q : UnitAsk, q = { bad := blockBad d, acc := l } → s.Asks r x w 9 2 q → Issues (.ssimSums r) s r x w q) ∧
    (∀ q : UnitAsk, q = { bad := blockBad d, acc := l, result := (s.blockPairs x w).map (firstDiff (blockOf d).plane) } →
      s.Asks r x w 9 3 q → Issues (.compare r) s r x w q))

/-- 07 R413; 08 R457, R467 to R469, R471, R478, R480. Operands that a unit does not take fault the thread; a DST of another
owner, an access outside a window and a branch outside the Pod are sandbox violations; a request waits for a stack that
sleeps. -/
def Obligations.SandboxRulesStopJobs : Prop := ∀ s : State, ∀ r : PipeRef,
  ∀ x, x = s.thread r.pipe r.thread → ∀ w, w = s.stepOf x → s.Steps r x w → ∀ i, s.runningJob x.session = some i →
  ∀ o, o = stOp w → ∀ u, u = stUnit w → ∀ f, f = stFn w → ∀ a, a = stWinA w →
  (o = 0x50 → u = 7 → f = 1 → stepOp x w 0 % 16 > 6 → Faults (.encode r) s r x i 1 x.pc) ∧
  (o = 0x50 → u = 7 → f = 2 → stepOp x w 0 % 16 > 6 → Faults (.decode r) s r x i 1 x.pc) ∧
  (o = 0x50 → u = 8 → f = 3 → stepOp x w 1 = 0 ∨ 64 < stepOp x w 1 → Faults (.raw r) s r x i 1 x.pc) ∧
  (o = 0x50 → u = 1 → f = 1 → blockBad (stepOp x w 0) = true → Faults (.list r) s r x i 1 x.pc) ∧
  (o = 0x50 → u = 6 → f = 1 → blockBad (stepOp x w 0) = true → Faults (.deblock r) s r x i 1 x.pc) ∧
  (o = 0x50 → u = 9 → f = 3 → blockBad (stepOp x w 0) = true → Faults (.compare r) s r x i 1 x.pc) ∧
  (o = 0x50 → u = 1 → f = 1 → blockBad (stepOp x w 0) = false → a = 15 ∨ (s.window x a).length = 0 → Violates (.list r) s r x i 0x14) ∧
  (o = 0x50 → u = 1 → f = 1 → blockBad (stepOp x w 0) = false → a ≠ 15 → (s.window x a).length ≠ 0 → (s.window x a).code = 6 ∨ bitAt (s.rights x a) 0 = false →
    Violates (.list r) s r x i 0x12) ∧
  (o = 0x50 → u = 1 → f = 1 → blockBad (stepOp x w 0) = false → a ≠ 15 → (s.window x a).length ≠ 0 → (s.window x a).code ≠ 6 →
    bitAt (s.rights x a) 0 = true → (s.window x a).length ≤ stImm w % 2 ^ 32 → 0 < span w 0 (stepOp x w 0) → Violates (.list r) s r x i 0x11) ∧
  (o = 0x50 → u = 6 → f = 1 → blockBad (stepOp x w 0) = false → a ≠ 15 → (s.window x a).code = 3 → bitAt (s.rights x a) 0 = true →
    bitsOf (stepOp x w 0) 40 2 = 0 → (s.window x a).length ≠ 0 →
    (s.window x a).length ≤ bitsOf (stepOp x w 0) 16 16 * (s.window x a).pitch → Violates (.deblock r) s r x i 0x11) ∧
  (o = 0x22 → condTrue x (stCond w) = true → podSteps (s.image x) ≤ s.operand r.pipe x (stA w) → Violates (.brx r) s r x i 0x15) ∧
  (∀ k, o = 0x50 → u = 8 → f = 1 → a ≠ 15 → (s.window x a).code = 6 → 0 < (s.window x a).length → k = (s.window x a).base / 2 ^ 33 →
    k < 2 → s.dramReady (s.window x a).base (s.window x a).length = true → (s.stack k).mode = .selfRefresh → s.ready 6 = true →
    s.ready 7 = true → Does (.startUnit r) s fun t => t.pipes = s.pipes ∧ Only [.pac, .dram, .time, .ptp] s t)

/-- 08 R480, R468; 10 R542 to R548, R559; 07 R413. Calls to firmware: each answers its result in DST, changes what its entry
says, and the thread goes on; a refused call faults. -/
def Obligations.FirmwareCallsAnswer : Prop := ∀ s : State, ∀ r : PipeRef, ∀ x, x = s.thread r.pipe r.thread →
  ∀ w, w = s.stepOf x → stOp w = 0x70 →
  (s.fwUp = false → (Does (.timeNow r) s fun t => Only [] s t) ∧ (Does (.picOut r) s fun t => Only [] s t)) ∧
  (s.fwUp = true → s.Steps r x w → s.More x → ∀ f, f = stFunc w → ∀ y, y = s.session x.session → ∀ d, d = stDst w →
    ∀ a, a = stepOp x w 0 → ∀ b, b = stepOp x w 1 →
    (f = 7 → Does (.timeNow r) s fun t => ∀ v, v = s.ptp.sec % 2 ^ 32 * 2 ^ 32 + s.ptp.ns →
      Stepped s t r { x with s := x.scalarsOf d (v % 2 ^ 64), pc := x.pc + 1 } (s.scalarsOf r.pipe x d (v % 2 ^ 64)) ∧ Only [.pipes] s t) ∧
    (f = 8 → Does (.portFill r) s fun t => ∀ g, g = s.flow a →
      ∀ v, v = (if g.mode ≠ .unused ∧ g.egress = true ∧ g.session = some x.session then sumBy List.length g.queue else 0) →
      Stepped s t r { x with s := x.scalarsOf d (v % 2 ^ 64), pc := x.pc + 1 } (s.scalarsOf r.pipe x d (v % 2 ^ 64)) ∧ Only [.pipes] s t) ∧
    (f = 5 → ∀ u, y.run = some u → ∀ n, n = blkField (s.jobOf x).body 0x1C 4 →
      (u.slots < n → u.slots < 2 ^ 64 → Does (.picOut r) s fun t =>
        Stepped s t r { x with s := x.scalarsOf d u.slots, pc := x.pc + 1 } (s.scalarsOf r.pipe x d u.slots) ∧
        t.session x.session = { y with run := some { u with slots := u.slots + 1 } } ∧ Only [.pipes, .hazel] s t) ∧
      (n ≤ u.slots → Does (.picOut r) s fun t =>
        Stepped s t r { x with s := x.scalarsOf d (2 ^ 64 - 1), pc := x.pc + 1 } (s.scalarsOf r.pipe x d (2 ^ 64 - 1)) ∧
        Only [.pipes] s t)) ∧
    (f = 3 → ∀ u, y.run = some u →
      (∀ k, y.refSlot a = some k → k < 2 ^ 64 → Does (.refAlloc r) s fun t =>
        Stepped s t r { x with s := x.scalarsOf d k, pc := x.pc + 1 } (s.scalarsOf r.pipe x d k) ∧
        t.session x.session = { y with refs := y.refs ++ [(k, a)], run := some { u with taken := u.taken ++ [k] } } ∧
        0x400 ≤ k ∧ k + a ≤ y.workSize ∧ (∀ e ∈ y.refs, k + a ≤ e.1 ∨ e.1 + e.2 ≤ k) ∧ Only [.pipes, .hazel] s t) ∧
      (y.refSlot a = none → Does (.refAlloc r) s fun t =>
        Stepped s t r { x with s := x.scalarsOf d (2 ^ 64 - 1), pc := x.pc + 1 } (s.scalarsOf r.pipe x d (2 ^ 64 - 1)) ∧
        Only [.pipes] s t)) ∧
    (f = 4 →
      ((∃ e ∈ y.refs, e.1 = a) → Does (.refFree r) s fun t =>
        Stepped s t r { x with s := x.scalarsOf d 0, pc := x.pc + 1 } (s.scalarsOf r.pipe x d 0) ∧
        (t.session x.session).refs = y.refs.filter (fun e => e.1 != a) ∧ Only [.pipes, .hazel] s t) ∧
      (∀ i, (∀ e ∈ y.refs, e.1 ≠ a) → s.runningJob x.session = some i → Faults (.refFree r) s r x i 6 x.pc)) ∧
    (f = 6 →
      (s.ingressOf x.session = none → s.flowOutside r.pipe x w = false → Does (.flowRead r) s fun t => Only [] s t) ∧
      (∀ i, s.flowOutside r.pipe x w = true → s.runningJob x.session = some i → Faults (.flowRead r) s r x i 6 x.pc) ∧
      (∀ k al, ∀ g, g = s.flow k → s.ingressOf x.session = some k → s.allotOf r.pipe x = some al →
        a + b ≤ 4096 * al.lfs.length → ∀ c, c = min b g.buffer.length → 0 < c → (∀ z ∈ g.gaps, g.buffer.length ≤ z ∨ z = 0) →
        ∀ v, v = c + (if 0 ∈ g.gaps then 2 ^ 61 else 0) →
        (∀ j, j < c → s.mark (lfsAddr r.pipe al.lfs (a + j) / 8) = .clean) → c < 2 ^ 61 →
        Does (.flowRead r) s fun t =>
          Stepped s t r { x with s := x.scalarsOf d v, pc := x.pc + 1 } (s.scalarsOf r.pipe x d v) ∧
          (t.flow k).buffer = g.buffer.drop c ∧
          (∀ j, j < c → al.lfs.Nodup → Table.get 0 t.mem (lfsAddr r.pipe al.lfs (a + j)) = g.buffer.getD j 0) ∧
          (∀ z, (∀ j, j < c → z ≠ lfsAddr r.pipe al.lfs (a + j)) → Table.get 0 t.mem z = Table.get 0 s.mem z) ∧
          (∀ j, j ≠ k → t.flow j = s.flow j) ∧ Only [.pipes, .flows, .memory] s t)) ∧
    (f = 2 → ∀ e, e = y.rate.tracker y (encBlock y.runBody) →
      (x.dec = true ∨ e.tracks = false → Does (.hrdStep r) s fun t =>
        (∃ v, Stepped s t r { x with s := x.scalarsOf d v, pc := x.pc + 1 } (s.scalarsOf r.pipe x d v)) ∧ Only [.pipes, .free] s t) ∧
      (∀ p, p = y.rate.remove e (y.pictureRate y.runBody e) a → x.dec = false → e.tracks = true → Does (.hrdStep r) s fun t =>
        Stepped s t r { x with s := x.scalarsOf d (p.1 % 2 ^ 64), pc := x.pc + 1 } (s.scalarsOf r.pipe x d (p.1 % 2 ^ 64)) ∧
        t.session x.session = { y with rate := p.2 } ∧ p.1 = y.rate.before e - a ∧ Only [.pipes, .hazel] s t)) ∧
    (f = 1 → ∀ e, e = y.rcBlock (encBlock y.runBody) → ∀ g, g = rcArgs x w →
      (∀ i, e.mode = 6 → podTimeDep (s.image x) = false → s.runningJob x.session = some i → Violates (.rcStep r) s r x i 0x16) ∧
      (∀ i, e.mode ≠ 6 ∨ podTimeDep (s.image x) = true → 1 < a % 256 ∨ 2 < a / 256 % 256 ∨ 2 < a / 2 ^ 24 % 256 → s.runningJob x.session = some i →
        Faults (.rcStep r) s r x i 6 x.pc) ∧
      (e.mode ≠ 6 ∨ podTimeDep (s.image x) = true → a % 256 = 0 → a / 256 % 256 ≤ 2 → a / 2 ^ 24 % 256 ≤ 2 → Does (.rcStep r) s fun t =>
        ∀ p, p = s.rcPlan { y with rate := y.rate.forMode e.mode } x.session y.runBody g →
        ∀ v, v = p.1 % 256 + min p.2 (2 ^ 32 - 1) * 256 →
          Stepped s t r { x with s := x.scalarsOf d v, pc := x.pc + 1 } (s.scalarsOf r.pipe x d v) ∧
          (t.session x.session).rate.target = p.2 ∧ (t.session x.session).rate.qp = p.1 ∧
          (e.mode = 0 → a / 256 % 256 = 0 → (p.1 : Int) = max e.qpMin (min e.qpMax (e.qp 0))) ∧ Only [.pipes, .hazel] s t) ∧
      (e.mode ≠ 6 ∨ podTimeDep (s.image x) = true → a % 256 = 1 → a / 256 % 256 ≤ 2 → a / 2 ^ 24 % 256 ≤ 2 → Does (.rcStep r) s fun t =>
        ∀ p, p = { y with rate := y.rate.forMode e.mode }.rcReview y.runBody g →
        ∀ v, v = p.1 + p.2.1 % 256 * 2 ^ 8 + min p.2.2 (2 ^ 32 - 1) * 2 ^ 16 →
          Stepped s t r { x with s := x.scalarsOf d (v % 2 ^ 64), pc := x.pc + 1 } (s.scalarsOf r.pipe x d (v % 2 ^ 64)) ∧
          (e.mode = 0 → v = 0) ∧ Only [.pipes, .hazel] s t)))

/-- The model's queue (logs 1 and 2): a step runs the command at the front with the queue's rest; on an empty queue one XO cycle
of 20 ns passes; and no command stops the device. -/
def Obligations.AStepRunsTheFrontCommand : Prop :=
  (∀ (s : State) (c : Instr), step { s with pending := c :: s.pending } = exec c s) ∧
  (∀ s : State, s.pending = [] → step s = .next { s with now := s.now + 20, ptp := s.ptp.advance 20 }) ∧
  (∀ (s : State) (c : Instr), ∃ t, exec c s = .next t)

/-- 00 R9, R10; 01 R44, R52, R57; 02 R66, R119. The device as power is applied: in power-on reset (log 8), nothing ready, no
rail enabled, every block at its reset values, the fields that bank M gives at their default items, and memory empty (log
7). -/
def Obligations.ResetHoldsTheStatedValues : Prop :=
  State.reset.husk.power = .held ∧ State.reset.rdy = 0 ∧ State.reset.fell = 0 ∧ State.reset.husk.rstCause = .por ∧
  State.reset.husk.enMain = false ∧ State.reset.husk.enSrd = false ∧ State.reset.husk.enDram = false ∧
  State.reset.husk.wakeCause = 0 ∧ State.reset.husk.xoSettle = 2048 ∧ State.reset.husk.pgTimeout = 655 ∧ State.reset.pac.slot = 20 ∧ State.reset.pcie.linkUp = false ∧ Cleared State.reset ∧
  State.reset.pending = [] ∧ (∀ a, Table.get 0 State.reset.mem a = 0) ∧ State.reset.memOk = true

/-- The canonical form of memory and check bits (logs 7 and 8): every step keeps it. -/
def Obligations.EveryStepKeepsMemoryCanonical : Prop := ∀ s t : State, s.memOk = true → step s = .next t → t.memOk = true

/-- 12 R612, R615, R619, R622: a write to plain words stores its bytes and no others, a read of them answers them, and neither
changes another part of the device than memory and its counters. -/
def Obligations.AWriteStoresAndAReadAnswers : Prop := ∀ (s : State) (port a : Nat) (l : List Byte), s.Plain a l.length →
  (∀ t, t = s.writeMem port a l → StoredAt a l s t ∧ t.Plain a l.length ∧ Only [.memory, .fab, .dram] s t ∧
    (t.readMem port a l.length).data = l ∧ (t.readMem port a l.length).poison = none) ∧
  (∀ m, m = s.readMem port a l.length →
    m.data = (List.range l.length).map (fun i => Table.get 0 s.mem (a + i)) ∧ m.poison = none ∧ Only [.fab, .dram, .free] s m.state)
end

