-- ==== Sys2Proof/Laws/Table.lean ====
section
/-! SUPPORT. The laws of sparse tables: reading what was put, reading elsewhere, and that every operation keeps the canonical
form. -/

namespace Sys2Proof.Machine

variable {α : Type} [DecidableEq α]

/-- What was put at a key is read there, in every table. -/
@[simp] theorem Table.get_set_same (d : α) (t : List (Nat × α)) (k : Nat) (v : α) : Table.get d (Table.set d t k v) k = v := by
  induction t with
  | nil => by_cases h : v = d <;> simp [Table.set, Table.get, h]
  | cons e t ih =>
    obtain ⟨j, w⟩ := e
    by_cases h1 : k < j
    · by_cases h : v = d
      · have : j ≠ k := by omega
        subst h
        simpa [Table.set, Table.get, h1, this] using ih
      · simp [Table.set, Table.get, h1, h]
    · by_cases h2 : j = k
      · subst h2
        by_cases h : v = d
        · subst h
          simpa [Table.set] using ih
        · simp [Table.set, Table.get, h]
      · simpa [Table.set, Table.get, h1, h2] using ih

/-- Putting at one key changes no other, in every table. -/
theorem Table.get_set_other (d : α) (t : List (Nat × α)) (k m : Nat) (v : α) (hm : m ≠ k) :
    Table.get d (Table.set d t k v) m = Table.get d t m := by
  have hk : k ≠ m := fun e => hm e.symm
  induction t with
  | nil => by_cases h : v = d <;> simp [Table.set, Table.get, h, hk]
  | cons e t ih =>
    obtain ⟨j, w⟩ := e
    by_cases h1 : k < j
    · by_cases h : v = d
      · subst h
        simp only [Table.set, h1, if_true]
        by_cases h3 : j = m
        · simp [Table.get, h3]
        · simpa [Table.get, h3] using ih
      · simp [Table.set, Table.get, h1, h, hk]
    · by_cases h2 : j = k
      · subst h2
        by_cases h : v = d
        · simpa [Table.set, Table.get, h, hk] using h ▸ ih
        · simp [Table.set, Table.get, h, hk]
      · simp only [Table.set, h1, h2, if_false]
        by_cases h3 : j = m
        · simp [Table.get, h3]
        · simpa [Table.get, h3] using ih

/-- Putting at one key, read at any. -/
theorem Table.get_set (d : α) (t : List (Nat × α)) (k m : Nat) (v : α) :
    Table.get d (Table.set d t k v) m = if m = k then v else Table.get d t m := by
  split
  · rename_i h; rw [h, Table.get_set_same]
  · rename_i h; exact Table.get_set_other d t k m v h

/-- Keeping the keys that `p` selects changes nothing there, and leaves the default elsewhere. -/
theorem Table.get_keep (d : α) (t : List (Nat × α)) (p : Nat → Bool) (k : Nat) :
    Table.get d (Table.keep p t) k = if p k then Table.get d t k else d := by
  induction t with
  | nil => simp [Table.keep, Table.get]
  | cons e t ih =>
    obtain ⟨j, v⟩ := e
    simp only [Table.keep] at ih
    by_cases h : p j = true
    · by_cases h2 : j = k
      · subst h2; simp [Table.keep, Table.get, h]
      · simp [Table.keep, Table.get, h, h2, ih]
    · by_cases h2 : j = k
      · subst h2; simp [Table.keep, h, ih]
      · simp [Table.keep, Table.get, h, h2, ih]

theorem Table.wfFrom_lower (d : α) (t : List (Nat × α)) (a b : Nat) (h : Table.wfFrom d (some b) t = true) (hab : a ≤ b) :
    Table.wfFrom d (some a) t = true := by
  cases t with
  | nil => rfl
  | cons e t =>
    simp only [Table.wfFrom, Bool.and_eq_true, decide_eq_true_eq] at h ⊢
    exact ⟨⟨by omega, h.1.2⟩, h.2⟩

theorem Table.wfFrom_none (d : α) (t : List (Nat × α)) (a : Nat) (h : Table.wfFrom d (some a) t = true) : Table.wfFrom d none t = true := by
  cases t with
  | nil => rfl
  | cons e t =>
    simp only [Table.wfFrom, Bool.and_eq_true] at h ⊢
    exact ⟨⟨trivial, h.1.2⟩, h.2⟩

/-- Taking away a key that lies below all of a table's changes nothing. -/
theorem Table.drop_above (d : α) (t : List (Nat × α)) (a k : Nat) (h : Table.wfFrom d (some a) t = true) (hk : k ≤ a) : Table.set d t k d = t := by
  induction t generalizing a with
  | nil => simp [Table.set]
  | cons e t ih =>
    obtain ⟨j, w⟩ := e
    simp only [Table.wfFrom, Bool.and_eq_true, decide_eq_true_eq] at h
    have h1 : k < j := by omega
    simp [Table.set, h1, ih j h.2 (by omega)]

/-- Above a bound that lies below the key, putting keeps the form. -/
theorem Table.set_wfFrom (d : α) (t : List (Nat × α)) (k : Nat) (v : α) (a : Nat) (h : Table.wfFrom d (some a) t = true) (hk : a < k) :
    Table.wfFrom d (some a) (Table.set d t k v) = true := by
  induction t generalizing a with
  | nil => by_cases hv : v = d <;> simp [Table.set, Table.wfFrom, hv, hk]
  | cons e t ih =>
    obtain ⟨j, w⟩ := e
    simp only [Table.wfFrom, Bool.and_eq_true, decide_eq_true_eq] at h
    by_cases h1 : k < j
    · by_cases hv : v = d
      · have h3 := Table.drop_above d t j k h.2 (by omega)
        simp [Table.set, Table.wfFrom, hv, h3, h1, h.1.1, h.1.2, h.2]
      · simp [Table.set, Table.wfFrom, hv, hk, h1, h.1.2, h.2]
    · by_cases h2 : j = k
      · subst h2
        by_cases hv : v = d
        · have h3 := Table.drop_above d t j j h.2 (by omega)
          simpa [Table.set, hv, h3] using Table.wfFrom_lower d t a j h.2 (by omega)
        · simp [Table.set, Table.wfFrom, hv, hk, h.2]
      · simp only [Table.set, h1, h2, if_false, Table.wfFrom, Bool.and_eq_true, decide_eq_true_eq]
        exact ⟨⟨h.1.1, h.1.2⟩, ih j h.2 (by omega)⟩

/-- Putting keeps the canonical form. -/
theorem Table.set_wf (d : α) (t : List (Nat × α)) (k : Nat) (v : α) (h : Table.wf d t = true) : Table.wf d (Table.set d t k v) = true := by
  cases t with
  | nil => by_cases hv : v = d <;> simp [Table.set, Table.wf, Table.wfFrom, hv]
  | cons e t =>
    obtain ⟨j, w⟩ := e
    simp only [Table.wf, Table.wfFrom, Bool.and_eq_true, decide_eq_true_eq, true_and] at h
    by_cases h1 : k < j
    · by_cases hv : v = d
      · have h3 := Table.drop_above d t j k h.2 (by omega)
        simp [Table.set, Table.wf, Table.wfFrom, hv, h3, h1, h.1, h.2]
      · simp [Table.set, Table.wf, Table.wfFrom, hv, h1, h.1, h.2]
    · by_cases h2 : j = k
      · subst h2
        by_cases hv : v = d
        · have h3 := Table.drop_above d t j j h.2 (by omega)
          simpa [Table.set, Table.wf, hv, h3] using Table.wfFrom_none d t j h.2
        · simp [Table.set, Table.wf, Table.wfFrom, hv, h.2]
      · simp only [Table.set, h1, h2, if_false, Table.wf, Table.wfFrom, Bool.and_eq_true, decide_eq_true_eq, true_and]
        exact ⟨h.1, Table.set_wfFrom d t k v j h.2 (by omega)⟩

theorem Table.filter_wfFrom (d : α) (t : List (Nat × α)) (p : Nat × α → Bool) (a : Nat) (h : Table.wfFrom d (some a) t = true) :
    Table.wfFrom d (some a) (t.filter p) = true := by
  induction t generalizing a with
  | nil => rfl
  | cons e t ih =>
    simp only [Table.wfFrom, Bool.and_eq_true, decide_eq_true_eq] at h
    by_cases hp : p e = true
    · simp only [List.filter_cons, hp, if_true, Table.wfFrom, Bool.and_eq_true, decide_eq_true_eq]
      exact ⟨h.1, ih e.1 h.2⟩
    · simp only [List.filter_cons, hp]
      exact Table.wfFrom_lower d _ a e.1 (ih e.1 h.2) (by omega)

/-- Dropping entries keeps the canonical form. -/
theorem Table.filter_wf (d : α) (t : List (Nat × α)) (p : Nat × α → Bool) (h : Table.wf d t = true) : Table.wf d (t.filter p) = true := by
  induction t with
  | nil => rfl
  | cons e t ih =>
    simp only [Table.wf, Table.wfFrom, Bool.and_eq_true, true_and, decide_eq_true_eq] at h
    by_cases hp : p e = true
    · simp only [List.filter_cons, hp, if_true, Table.wf, Table.wfFrom, Bool.and_eq_true, true_and, decide_eq_true_eq]
      exact ⟨h.1, Table.filter_wfFrom d t p e.1 h.2⟩
    · simp only [List.filter_cons, hp]
      exact Table.wfFrom_none d _ e.1 (Table.filter_wfFrom d t p e.1 h.2)

theorem Table.keep_wf (d : α) (t : List (Nat × α)) (p : Nat → Bool) (h : Table.wf d t = true) : Table.wf d (Table.keep p t) = true :=
  Table.filter_wf d t _ h

/-- A property that every step of a fold over a range keeps. -/
theorem foldRange_keeps {σ : Type} (P : σ → Prop) (f : Nat → σ → σ) (hf : ∀ i s, P s → P (f i s)) (n : Nat) (s : σ) (h : P s) :
    P (foldRange f n s) := by
  induction n with
  | zero => exact h
  | succ n ih => exact hf n _ ih

/-- A property that every step of a fold over a list keeps. -/
theorem foldl_keeps {σ β : Type} (P : σ → Prop) (f : σ → β → σ) (hf : ∀ s b, P s → P (f s b)) (l : List β) (s : σ) (h : P s) :
    P (l.foldl f s) := by
  induction l generalizing s with
  | nil => exact h
  | cons b l ih => exact ih (f s b) (hf s b h)

end Sys2Proof.Machine
end

