-- ==== Sys2Proof/Laws/State.lean ====
section
/-! SUPPORT. What each named update of State changes: reading what was put, and every field that it leaves alone. -/

namespace Sys2Proof.Machine

@[simp] theorem setPll_same (s : State) (p : Nat) (x : PllState) : (s.setPll p x).pll p = x := Table.get_set_same _ _ _ _
@[simp] theorem setBox_same (s : State) (p : Nat) (x : Mbx) : (s.setBox p x).box p = x := Table.get_set_same _ _ _ _
@[simp] theorem setFltSrc_same (s : State) (p : Nat) (x : FltSrc) : (s.setFltSrc p x).fltSrc p = x := Table.get_set_same _ _ _ _
@[simp] theorem setStack_same (s : State) (p : Nat) (x : Stack) : (s.setStack p x).stack p = x := Table.get_set_same _ _ _ _
@[simp] theorem setChan_same (s : State) (p : Nat) (x : Dma) : (s.setChan p x).chan p = x := Table.get_set_same _ _ _ _
@[simp] theorem setPort16_same (s : State) (p : Nat) (x : FabPort) : (s.setPort16 p x).port16 p = x := Table.get_set_same _ _ _ _
@[simp] theorem setQueue_same (s : State) (p : Nat) (x : Queue) : (s.setQueue p x).queue p = x := Table.get_set_same _ _ _ _
@[simp] theorem setPipe_same (s : State) (p : Nat) (x : Pipe) : (s.setPipe p x).pipe p = x := Table.get_set_same _ _ _ _
@[simp] theorem setLane_same (s : State) (p : Nat) (x : Lane) : (s.setLane p x).lane p = x := Table.get_set_same _ _ _ _
@[simp] theorem setFlow_same (s : State) (p : Nat) (x : Flow) : (s.setFlow p x).flow p = x := Table.get_set_same _ _ _ _
@[simp] theorem setEntry_same (s : State) (p : Nat) (x : Entry) : (s.setEntry p x).entry p = x := Table.get_set_same _ _ _ _
@[simp] theorem setSession_same (s : State) (p : Nat) (x : Session) : (s.setSession p x).session p = x := Table.get_set_same _ _ _ _
@[simp] theorem setPod_same (s : State) (p : Nat) (x : Pod) : (s.setPod p x).pod p = x := Table.get_set_same _ _ _ _
@[simp] theorem setMark_same (s : State) (p : Nat) (x : Mark) : (s.setMark p x).mark p = x := Table.get_set_same _ _ _ _

@[simp] theorem setPll_frame (s : State) (p : Nat) (x : PllState) :
    (s.setPll p x).pending = s.pending ∧ (s.setPll p x).now = s.now ∧ (s.setPll p x).free = s.free ∧
    (s.setPll p x).answer = s.answer ∧ (s.setPll p x).outs = s.outs ∧ (s.setPll p x).rdy = s.rdy ∧
    (s.setPll p x).ever = s.ever ∧ (s.setPll p x).fell = s.fell ∧ (s.setPll p x).husk = s.husk ∧
    (s.setPll p x).vtc = s.vtc ∧ (s.setPll p x).pac = s.pac ∧ (s.setPll p x).pcie = s.pcie ∧ (s.setPll p x).mbx = s.mbx ∧
    (s.setPll p x).rstCnt = s.rstCnt ∧ (s.setPll p x).mbxClosed = s.mbxClosed ∧ (s.setPll p x).icu = s.icu ∧
    (s.setPll p x).flt = s.flt ∧ (s.setPll p x).board = s.board ∧ (s.setPll p x).bankM = s.bankM ∧
    (s.setPll p x).latches = s.latches ∧ (s.setPll p x).hazel = s.hazel ∧ (s.setPll p x).mem = s.mem ∧
    (s.setPll p x).marks = s.marks ∧ (s.setPll p x).dram = s.dram ∧ (s.setPll p x).lfs = s.lfs ∧
    (s.setPll p x).scrub = s.scrub ∧ (s.setPll p x).mram = s.mram ∧ (s.setPll p x).fab = s.fab ∧
    (s.setPll p x).dma = s.dma ∧ (s.setPll p x).pipes = s.pipes ∧ (s.setPll p x).ptp = s.ptp ∧
    (s.setPll p x).lanes = s.lanes ∧ (s.setPll p x).flows = s.flows ∧ (s.setPll p x).entries = s.entries ∧
    (s.setPll p x).sched = s.sched ∧ (s.setPll p x).events = s.events := by
  repeat' constructor

@[simp] theorem setBox_frame (s : State) (m : Nat) (x : Mbx) :
    (s.setBox m x).pending = s.pending ∧ (s.setBox m x).now = s.now ∧ (s.setBox m x).free = s.free ∧
    (s.setBox m x).answer = s.answer ∧ (s.setBox m x).outs = s.outs ∧ (s.setBox m x).rdy = s.rdy ∧
    (s.setBox m x).ever = s.ever ∧ (s.setBox m x).fell = s.fell ∧ (s.setBox m x).husk = s.husk ∧
    (s.setBox m x).plls = s.plls ∧ (s.setBox m x).vtc = s.vtc ∧ (s.setBox m x).pac = s.pac ∧ (s.setBox m x).pcie = s.pcie ∧
    (s.setBox m x).rstCnt = s.rstCnt ∧ (s.setBox m x).mbxClosed = s.mbxClosed ∧ (s.setBox m x).icu = s.icu ∧
    (s.setBox m x).flt = s.flt ∧ (s.setBox m x).board = s.board ∧ (s.setBox m x).bankM = s.bankM ∧
    (s.setBox m x).latches = s.latches ∧ (s.setBox m x).hazel = s.hazel ∧ (s.setBox m x).mem = s.mem ∧
    (s.setBox m x).marks = s.marks ∧ (s.setBox m x).dram = s.dram ∧ (s.setBox m x).lfs = s.lfs ∧
    (s.setBox m x).scrub = s.scrub ∧ (s.setBox m x).mram = s.mram ∧ (s.setBox m x).fab = s.fab ∧
    (s.setBox m x).dma = s.dma ∧ (s.setBox m x).pipes = s.pipes ∧ (s.setBox m x).ptp = s.ptp ∧
    (s.setBox m x).lanes = s.lanes ∧ (s.setBox m x).flows = s.flows ∧ (s.setBox m x).entries = s.entries ∧
    (s.setBox m x).sched = s.sched ∧ (s.setBox m x).events = s.events := by
  repeat' constructor

@[simp] theorem setFltSrc_frame (s : State) (i : Nat) (x : FltSrc) :
    (s.setFltSrc i x).pending = s.pending ∧ (s.setFltSrc i x).now = s.now ∧ (s.setFltSrc i x).free = s.free ∧
    (s.setFltSrc i x).answer = s.answer ∧ (s.setFltSrc i x).outs = s.outs ∧ (s.setFltSrc i x).rdy = s.rdy ∧
    (s.setFltSrc i x).ever = s.ever ∧ (s.setFltSrc i x).fell = s.fell ∧ (s.setFltSrc i x).husk = s.husk ∧
    (s.setFltSrc i x).plls = s.plls ∧ (s.setFltSrc i x).vtc = s.vtc ∧ (s.setFltSrc i x).pac = s.pac ∧
    (s.setFltSrc i x).pcie = s.pcie ∧ (s.setFltSrc i x).mbx = s.mbx ∧ (s.setFltSrc i x).rstCnt = s.rstCnt ∧
    (s.setFltSrc i x).mbxClosed = s.mbxClosed ∧ (s.setFltSrc i x).icu = s.icu ∧ (s.setFltSrc i x).board = s.board ∧
    (s.setFltSrc i x).bankM = s.bankM ∧ (s.setFltSrc i x).latches = s.latches ∧ (s.setFltSrc i x).hazel = s.hazel ∧
    (s.setFltSrc i x).mem = s.mem ∧ (s.setFltSrc i x).marks = s.marks ∧ (s.setFltSrc i x).dram = s.dram ∧
    (s.setFltSrc i x).lfs = s.lfs ∧ (s.setFltSrc i x).scrub = s.scrub ∧ (s.setFltSrc i x).mram = s.mram ∧
    (s.setFltSrc i x).fab = s.fab ∧ (s.setFltSrc i x).dma = s.dma ∧ (s.setFltSrc i x).pipes = s.pipes ∧
    (s.setFltSrc i x).ptp = s.ptp ∧ (s.setFltSrc i x).lanes = s.lanes ∧ (s.setFltSrc i x).flows = s.flows ∧
    (s.setFltSrc i x).entries = s.entries ∧ (s.setFltSrc i x).sched = s.sched ∧ (s.setFltSrc i x).events = s.events := by
  repeat' constructor

@[simp] theorem setStack_frame (s : State) (i : Nat) (x : Stack) :
    (s.setStack i x).pending = s.pending ∧ (s.setStack i x).now = s.now ∧ (s.setStack i x).free = s.free ∧
    (s.setStack i x).answer = s.answer ∧ (s.setStack i x).outs = s.outs ∧ (s.setStack i x).rdy = s.rdy ∧
    (s.setStack i x).ever = s.ever ∧ (s.setStack i x).fell = s.fell ∧ (s.setStack i x).husk = s.husk ∧
    (s.setStack i x).plls = s.plls ∧ (s.setStack i x).vtc = s.vtc ∧ (s.setStack i x).pac = s.pac ∧
    (s.setStack i x).pcie = s.pcie ∧ (s.setStack i x).mbx = s.mbx ∧ (s.setStack i x).rstCnt = s.rstCnt ∧
    (s.setStack i x).mbxClosed = s.mbxClosed ∧ (s.setStack i x).icu = s.icu ∧ (s.setStack i x).flt = s.flt ∧
    (s.setStack i x).board = s.board ∧ (s.setStack i x).bankM = s.bankM ∧ (s.setStack i x).latches = s.latches ∧
    (s.setStack i x).hazel = s.hazel ∧ (s.setStack i x).mem = s.mem ∧ (s.setStack i x).marks = s.marks ∧
    (s.setStack i x).lfs = s.lfs ∧ (s.setStack i x).scrub = s.scrub ∧ (s.setStack i x).mram = s.mram ∧
    (s.setStack i x).fab = s.fab ∧ (s.setStack i x).dma = s.dma ∧ (s.setStack i x).pipes = s.pipes ∧
    (s.setStack i x).ptp = s.ptp ∧ (s.setStack i x).lanes = s.lanes ∧ (s.setStack i x).flows = s.flows ∧
    (s.setStack i x).entries = s.entries ∧ (s.setStack i x).sched = s.sched ∧ (s.setStack i x).events = s.events := by
  repeat' constructor

@[simp] theorem setChan_frame (s : State) (i : Nat) (x : Dma) :
    (s.setChan i x).pending = s.pending ∧ (s.setChan i x).now = s.now ∧ (s.setChan i x).free = s.free ∧
    (s.setChan i x).answer = s.answer ∧ (s.setChan i x).outs = s.outs ∧ (s.setChan i x).rdy = s.rdy ∧
    (s.setChan i x).ever = s.ever ∧ (s.setChan i x).fell = s.fell ∧ (s.setChan i x).husk = s.husk ∧
    (s.setChan i x).plls = s.plls ∧ (s.setChan i x).vtc = s.vtc ∧ (s.setChan i x).pac = s.pac ∧
    (s.setChan i x).pcie = s.pcie ∧ (s.setChan i x).mbx = s.mbx ∧ (s.setChan i x).rstCnt = s.rstCnt ∧
    (s.setChan i x).mbxClosed = s.mbxClosed ∧ (s.setChan i x).icu = s.icu ∧ (s.setChan i x).flt = s.flt ∧
    (s.setChan i x).board = s.board ∧ (s.setChan i x).bankM = s.bankM ∧ (s.setChan i x).latches = s.latches ∧
    (s.setChan i x).hazel = s.hazel ∧ (s.setChan i x).mem = s.mem ∧ (s.setChan i x).marks = s.marks ∧
    (s.setChan i x).dram = s.dram ∧ (s.setChan i x).lfs = s.lfs ∧ (s.setChan i x).scrub = s.scrub ∧
    (s.setChan i x).mram = s.mram ∧ (s.setChan i x).fab = s.fab ∧ (s.setChan i x).pipes = s.pipes ∧
    (s.setChan i x).ptp = s.ptp ∧ (s.setChan i x).lanes = s.lanes ∧ (s.setChan i x).flows = s.flows ∧
    (s.setChan i x).entries = s.entries ∧ (s.setChan i x).sched = s.sched ∧ (s.setChan i x).events = s.events := by
  repeat' constructor

@[simp] theorem setPort16_frame (s : State) (i : Nat) (x : FabPort) :
    (s.setPort16 i x).pending = s.pending ∧ (s.setPort16 i x).now = s.now ∧ (s.setPort16 i x).free = s.free ∧
    (s.setPort16 i x).answer = s.answer ∧ (s.setPort16 i x).outs = s.outs ∧ (s.setPort16 i x).rdy = s.rdy ∧
    (s.setPort16 i x).ever = s.ever ∧ (s.setPort16 i x).fell = s.fell ∧ (s.setPort16 i x).husk = s.husk ∧
    (s.setPort16 i x).plls = s.plls ∧ (s.setPort16 i x).vtc = s.vtc ∧ (s.setPort16 i x).pac = s.pac ∧
    (s.setPort16 i x).pcie = s.pcie ∧ (s.setPort16 i x).mbx = s.mbx ∧ (s.setPort16 i x).rstCnt = s.rstCnt ∧
    (s.setPort16 i x).mbxClosed = s.mbxClosed ∧ (s.setPort16 i x).icu = s.icu ∧ (s.setPort16 i x).flt = s.flt ∧
    (s.setPort16 i x).board = s.board ∧ (s.setPort16 i x).bankM = s.bankM ∧ (s.setPort16 i x).latches = s.latches ∧
    (s.setPort16 i x).hazel = s.hazel ∧ (s.setPort16 i x).mem = s.mem ∧ (s.setPort16 i x).marks = s.marks ∧
    (s.setPort16 i x).dram = s.dram ∧ (s.setPort16 i x).lfs = s.lfs ∧ (s.setPort16 i x).scrub = s.scrub ∧
    (s.setPort16 i x).mram = s.mram ∧ (s.setPort16 i x).dma = s.dma ∧ (s.setPort16 i x).pipes = s.pipes ∧
    (s.setPort16 i x).ptp = s.ptp ∧ (s.setPort16 i x).lanes = s.lanes ∧ (s.setPort16 i x).flows = s.flows ∧
    (s.setPort16 i x).entries = s.entries ∧ (s.setPort16 i x).sched = s.sched ∧ (s.setPort16 i x).events = s.events := by
  repeat' constructor

@[simp] theorem setQueue_frame (s : State) (k : Nat) (x : Queue) :
    (s.setQueue k x).pending = s.pending ∧ (s.setQueue k x).now = s.now ∧ (s.setQueue k x).free = s.free ∧
    (s.setQueue k x).answer = s.answer ∧ (s.setQueue k x).outs = s.outs ∧ (s.setQueue k x).rdy = s.rdy ∧
    (s.setQueue k x).ever = s.ever ∧ (s.setQueue k x).fell = s.fell ∧ (s.setQueue k x).husk = s.husk ∧
    (s.setQueue k x).plls = s.plls ∧ (s.setQueue k x).vtc = s.vtc ∧ (s.setQueue k x).pac = s.pac ∧
    (s.setQueue k x).pcie = s.pcie ∧ (s.setQueue k x).mbx = s.mbx ∧ (s.setQueue k x).rstCnt = s.rstCnt ∧
    (s.setQueue k x).mbxClosed = s.mbxClosed ∧ (s.setQueue k x).icu = s.icu ∧ (s.setQueue k x).flt = s.flt ∧
    (s.setQueue k x).board = s.board ∧ (s.setQueue k x).bankM = s.bankM ∧ (s.setQueue k x).latches = s.latches ∧
    (s.setQueue k x).mem = s.mem ∧ (s.setQueue k x).marks = s.marks ∧ (s.setQueue k x).dram = s.dram ∧
    (s.setQueue k x).lfs = s.lfs ∧ (s.setQueue k x).scrub = s.scrub ∧ (s.setQueue k x).mram = s.mram ∧
    (s.setQueue k x).fab = s.fab ∧ (s.setQueue k x).dma = s.dma ∧ (s.setQueue k x).pipes = s.pipes ∧
    (s.setQueue k x).ptp = s.ptp ∧ (s.setQueue k x).lanes = s.lanes ∧ (s.setQueue k x).flows = s.flows ∧
    (s.setQueue k x).entries = s.entries ∧ (s.setQueue k x).sched = s.sched ∧ (s.setQueue k x).events = s.events := by
  repeat' constructor

@[simp] theorem setPipe_frame (s : State) (n : Nat) (x : Pipe) :
    (s.setPipe n x).pending = s.pending ∧ (s.setPipe n x).now = s.now ∧ (s.setPipe n x).free = s.free ∧
    (s.setPipe n x).answer = s.answer ∧ (s.setPipe n x).outs = s.outs ∧ (s.setPipe n x).rdy = s.rdy ∧
    (s.setPipe n x).ever = s.ever ∧ (s.setPipe n x).fell = s.fell ∧ (s.setPipe n x).husk = s.husk ∧
    (s.setPipe n x).plls = s.plls ∧ (s.setPipe n x).vtc = s.vtc ∧ (s.setPipe n x).pac = s.pac ∧
    (s.setPipe n x).pcie = s.pcie ∧ (s.setPipe n x).mbx = s.mbx ∧ (s.setPipe n x).rstCnt = s.rstCnt ∧
    (s.setPipe n x).mbxClosed = s.mbxClosed ∧ (s.setPipe n x).icu = s.icu ∧ (s.setPipe n x).flt = s.flt ∧
    (s.setPipe n x).board = s.board ∧ (s.setPipe n x).bankM = s.bankM ∧ (s.setPipe n x).latches = s.latches ∧
    (s.setPipe n x).hazel = s.hazel ∧ (s.setPipe n x).mem = s.mem ∧ (s.setPipe n x).marks = s.marks ∧
    (s.setPipe n x).dram = s.dram ∧ (s.setPipe n x).lfs = s.lfs ∧ (s.setPipe n x).scrub = s.scrub ∧
    (s.setPipe n x).mram = s.mram ∧ (s.setPipe n x).fab = s.fab ∧ (s.setPipe n x).dma = s.dma ∧
    (s.setPipe n x).ptp = s.ptp ∧ (s.setPipe n x).lanes = s.lanes ∧ (s.setPipe n x).flows = s.flows ∧
    (s.setPipe n x).entries = s.entries ∧ (s.setPipe n x).sched = s.sched ∧ (s.setPipe n x).events = s.events := by
  repeat' constructor

@[simp] theorem setLane_frame (s : State) (n : Nat) (x : Lane) :
    (s.setLane n x).pending = s.pending ∧ (s.setLane n x).now = s.now ∧ (s.setLane n x).free = s.free ∧
    (s.setLane n x).answer = s.answer ∧ (s.setLane n x).outs = s.outs ∧ (s.setLane n x).rdy = s.rdy ∧
    (s.setLane n x).ever = s.ever ∧ (s.setLane n x).fell = s.fell ∧ (s.setLane n x).husk = s.husk ∧
    (s.setLane n x).plls = s.plls ∧ (s.setLane n x).vtc = s.vtc ∧ (s.setLane n x).pac = s.pac ∧
    (s.setLane n x).pcie = s.pcie ∧ (s.setLane n x).mbx = s.mbx ∧ (s.setLane n x).rstCnt = s.rstCnt ∧
    (s.setLane n x).mbxClosed = s.mbxClosed ∧ (s.setLane n x).icu = s.icu ∧ (s.setLane n x).flt = s.flt ∧
    (s.setLane n x).board = s.board ∧ (s.setLane n x).bankM = s.bankM ∧ (s.setLane n x).latches = s.latches ∧
    (s.setLane n x).hazel = s.hazel ∧ (s.setLane n x).mem = s.mem ∧ (s.setLane n x).marks = s.marks ∧
    (s.setLane n x).dram = s.dram ∧ (s.setLane n x).lfs = s.lfs ∧ (s.setLane n x).scrub = s.scrub ∧
    (s.setLane n x).mram = s.mram ∧ (s.setLane n x).fab = s.fab ∧ (s.setLane n x).dma = s.dma ∧
    (s.setLane n x).pipes = s.pipes ∧ (s.setLane n x).ptp = s.ptp ∧ (s.setLane n x).flows = s.flows ∧
    (s.setLane n x).entries = s.entries ∧ (s.setLane n x).sched = s.sched ∧ (s.setLane n x).events = s.events := by
  repeat' constructor

@[simp] theorem setFlow_frame (s : State) (n : Nat) (x : Flow) :
    (s.setFlow n x).pending = s.pending ∧ (s.setFlow n x).now = s.now ∧ (s.setFlow n x).free = s.free ∧
    (s.setFlow n x).answer = s.answer ∧ (s.setFlow n x).outs = s.outs ∧ (s.setFlow n x).rdy = s.rdy ∧
    (s.setFlow n x).ever = s.ever ∧ (s.setFlow n x).fell = s.fell ∧ (s.setFlow n x).husk = s.husk ∧
    (s.setFlow n x).plls = s.plls ∧ (s.setFlow n x).vtc = s.vtc ∧ (s.setFlow n x).pac = s.pac ∧
    (s.setFlow n x).pcie = s.pcie ∧ (s.setFlow n x).mbx = s.mbx ∧ (s.setFlow n x).rstCnt = s.rstCnt ∧
    (s.setFlow n x).mbxClosed = s.mbxClosed ∧ (s.setFlow n x).icu = s.icu ∧ (s.setFlow n x).flt = s.flt ∧
    (s.setFlow n x).board = s.board ∧ (s.setFlow n x).bankM = s.bankM ∧ (s.setFlow n x).latches = s.latches ∧
    (s.setFlow n x).hazel = s.hazel ∧ (s.setFlow n x).mem = s.mem ∧ (s.setFlow n x).marks = s.marks ∧
    (s.setFlow n x).dram = s.dram ∧ (s.setFlow n x).lfs = s.lfs ∧ (s.setFlow n x).scrub = s.scrub ∧
    (s.setFlow n x).mram = s.mram ∧ (s.setFlow n x).fab = s.fab ∧ (s.setFlow n x).dma = s.dma ∧
    (s.setFlow n x).pipes = s.pipes ∧ (s.setFlow n x).ptp = s.ptp ∧ (s.setFlow n x).lanes = s.lanes ∧
    (s.setFlow n x).entries = s.entries ∧ (s.setFlow n x).sched = s.sched ∧ (s.setFlow n x).events = s.events := by
  repeat' constructor

@[simp] theorem setEntry_frame (s : State) (n : Nat) (x : Entry) :
    (s.setEntry n x).pending = s.pending ∧ (s.setEntry n x).now = s.now ∧ (s.setEntry n x).free = s.free ∧
    (s.setEntry n x).answer = s.answer ∧ (s.setEntry n x).outs = s.outs ∧ (s.setEntry n x).rdy = s.rdy ∧
    (s.setEntry n x).ever = s.ever ∧ (s.setEntry n x).fell = s.fell ∧ (s.setEntry n x).husk = s.husk ∧
    (s.setEntry n x).plls = s.plls ∧ (s.setEntry n x).vtc = s.vtc ∧ (s.setEntry n x).pac = s.pac ∧
    (s.setEntry n x).pcie = s.pcie ∧ (s.setEntry n x).mbx = s.mbx ∧ (s.setEntry n x).rstCnt = s.rstCnt ∧
    (s.setEntry n x).mbxClosed = s.mbxClosed ∧ (s.setEntry n x).icu = s.icu ∧ (s.setEntry n x).flt = s.flt ∧
    (s.setEntry n x).board = s.board ∧ (s.setEntry n x).bankM = s.bankM ∧ (s.setEntry n x).latches = s.latches ∧
    (s.setEntry n x).hazel = s.hazel ∧ (s.setEntry n x).mem = s.mem ∧ (s.setEntry n x).marks = s.marks ∧
    (s.setEntry n x).dram = s.dram ∧ (s.setEntry n x).lfs = s.lfs ∧ (s.setEntry n x).scrub = s.scrub ∧
    (s.setEntry n x).mram = s.mram ∧ (s.setEntry n x).fab = s.fab ∧ (s.setEntry n x).dma = s.dma ∧
    (s.setEntry n x).pipes = s.pipes ∧ (s.setEntry n x).ptp = s.ptp ∧ (s.setEntry n x).lanes = s.lanes ∧
    (s.setEntry n x).flows = s.flows ∧ (s.setEntry n x).sched = s.sched ∧ (s.setEntry n x).events = s.events := by
  repeat' constructor

@[simp] theorem setSession_frame (s : State) (n : Nat) (x : Session) :
    (s.setSession n x).pending = s.pending ∧ (s.setSession n x).now = s.now ∧ (s.setSession n x).free = s.free ∧
    (s.setSession n x).answer = s.answer ∧ (s.setSession n x).outs = s.outs ∧ (s.setSession n x).rdy = s.rdy ∧
    (s.setSession n x).ever = s.ever ∧ (s.setSession n x).fell = s.fell ∧ (s.setSession n x).husk = s.husk ∧
    (s.setSession n x).plls = s.plls ∧ (s.setSession n x).vtc = s.vtc ∧ (s.setSession n x).pac = s.pac ∧
    (s.setSession n x).pcie = s.pcie ∧ (s.setSession n x).mbx = s.mbx ∧ (s.setSession n x).rstCnt = s.rstCnt ∧
    (s.setSession n x).mbxClosed = s.mbxClosed ∧ (s.setSession n x).icu = s.icu ∧ (s.setSession n x).flt = s.flt ∧
    (s.setSession n x).board = s.board ∧ (s.setSession n x).bankM = s.bankM ∧ (s.setSession n x).latches = s.latches ∧
    (s.setSession n x).mem = s.mem ∧ (s.setSession n x).marks = s.marks ∧ (s.setSession n x).dram = s.dram ∧
    (s.setSession n x).lfs = s.lfs ∧ (s.setSession n x).scrub = s.scrub ∧ (s.setSession n x).mram = s.mram ∧
    (s.setSession n x).fab = s.fab ∧ (s.setSession n x).dma = s.dma ∧ (s.setSession n x).pipes = s.pipes ∧
    (s.setSession n x).ptp = s.ptp ∧ (s.setSession n x).lanes = s.lanes ∧ (s.setSession n x).flows = s.flows ∧
    (s.setSession n x).entries = s.entries ∧ (s.setSession n x).sched = s.sched ∧ (s.setSession n x).events = s.events := by
  repeat' constructor

@[simp] theorem setPod_frame (s : State) (n : Nat) (x : Pod) :
    (s.setPod n x).pending = s.pending ∧ (s.setPod n x).now = s.now ∧ (s.setPod n x).free = s.free ∧
    (s.setPod n x).answer = s.answer ∧ (s.setPod n x).outs = s.outs ∧ (s.setPod n x).rdy = s.rdy ∧
    (s.setPod n x).ever = s.ever ∧ (s.setPod n x).fell = s.fell ∧ (s.setPod n x).husk = s.husk ∧
    (s.setPod n x).plls = s.plls ∧ (s.setPod n x).vtc = s.vtc ∧ (s.setPod n x).pac = s.pac ∧ (s.setPod n x).pcie = s.pcie ∧
    (s.setPod n x).mbx = s.mbx ∧ (s.setPod n x).rstCnt = s.rstCnt ∧ (s.setPod n x).mbxClosed = s.mbxClosed ∧
    (s.setPod n x).icu = s.icu ∧ (s.setPod n x).flt = s.flt ∧ (s.setPod n x).board = s.board ∧
    (s.setPod n x).bankM = s.bankM ∧ (s.setPod n x).latches = s.latches ∧ (s.setPod n x).mem = s.mem ∧
    (s.setPod n x).marks = s.marks ∧ (s.setPod n x).dram = s.dram ∧ (s.setPod n x).lfs = s.lfs ∧
    (s.setPod n x).scrub = s.scrub ∧ (s.setPod n x).mram = s.mram ∧ (s.setPod n x).fab = s.fab ∧
    (s.setPod n x).dma = s.dma ∧ (s.setPod n x).pipes = s.pipes ∧ (s.setPod n x).ptp = s.ptp ∧
    (s.setPod n x).lanes = s.lanes ∧ (s.setPod n x).flows = s.flows ∧ (s.setPod n x).entries = s.entries ∧
    (s.setPod n x).sched = s.sched ∧ (s.setPod n x).events = s.events := by
  repeat' constructor

@[simp] theorem setJob_frame (s : State) (n : Nat) (x : Cmd) :
    (s.setJob n x).pending = s.pending ∧ (s.setJob n x).now = s.now ∧ (s.setJob n x).free = s.free ∧
    (s.setJob n x).answer = s.answer ∧ (s.setJob n x).outs = s.outs ∧ (s.setJob n x).rdy = s.rdy ∧
    (s.setJob n x).ever = s.ever ∧ (s.setJob n x).fell = s.fell ∧ (s.setJob n x).husk = s.husk ∧
    (s.setJob n x).plls = s.plls ∧ (s.setJob n x).vtc = s.vtc ∧ (s.setJob n x).pac = s.pac ∧ (s.setJob n x).pcie = s.pcie ∧
    (s.setJob n x).mbx = s.mbx ∧ (s.setJob n x).rstCnt = s.rstCnt ∧ (s.setJob n x).mbxClosed = s.mbxClosed ∧
    (s.setJob n x).icu = s.icu ∧ (s.setJob n x).flt = s.flt ∧ (s.setJob n x).board = s.board ∧
    (s.setJob n x).bankM = s.bankM ∧ (s.setJob n x).latches = s.latches ∧ (s.setJob n x).mem = s.mem ∧
    (s.setJob n x).marks = s.marks ∧ (s.setJob n x).dram = s.dram ∧ (s.setJob n x).lfs = s.lfs ∧
    (s.setJob n x).scrub = s.scrub ∧ (s.setJob n x).mram = s.mram ∧ (s.setJob n x).fab = s.fab ∧
    (s.setJob n x).dma = s.dma ∧ (s.setJob n x).pipes = s.pipes ∧ (s.setJob n x).ptp = s.ptp ∧
    (s.setJob n x).lanes = s.lanes ∧ (s.setJob n x).flows = s.flows ∧ (s.setJob n x).entries = s.entries ∧
    (s.setJob n x).sched = s.sched ∧ (s.setJob n x).events = s.events := by
  repeat' constructor

@[simp] theorem setReady_frame (s : State) (i : Nat) :
    (s.setReady i).pending = s.pending ∧ (s.setReady i).now = s.now ∧ (s.setReady i).free = s.free ∧
    (s.setReady i).answer = s.answer ∧ (s.setReady i).outs = s.outs ∧ (s.setReady i).fell = s.fell ∧
    (s.setReady i).husk = s.husk ∧ (s.setReady i).plls = s.plls ∧ (s.setReady i).vtc = s.vtc ∧ (s.setReady i).pac = s.pac ∧
    (s.setReady i).pcie = s.pcie ∧ (s.setReady i).mbx = s.mbx ∧ (s.setReady i).rstCnt = s.rstCnt ∧
    (s.setReady i).mbxClosed = s.mbxClosed ∧ (s.setReady i).icu = s.icu ∧ (s.setReady i).flt = s.flt ∧
    (s.setReady i).board = s.board ∧ (s.setReady i).bankM = s.bankM ∧ (s.setReady i).latches = s.latches ∧
    (s.setReady i).hazel = s.hazel ∧ (s.setReady i).mem = s.mem ∧ (s.setReady i).marks = s.marks ∧
    (s.setReady i).dram = s.dram ∧ (s.setReady i).lfs = s.lfs ∧ (s.setReady i).scrub = s.scrub ∧
    (s.setReady i).mram = s.mram ∧ (s.setReady i).fab = s.fab ∧ (s.setReady i).dma = s.dma ∧
    (s.setReady i).pipes = s.pipes ∧ (s.setReady i).ptp = s.ptp ∧ (s.setReady i).lanes = s.lanes ∧
    (s.setReady i).flows = s.flows ∧ (s.setReady i).entries = s.entries ∧ (s.setReady i).sched = s.sched ∧
    (s.setReady i).events = s.events := by
  repeat' constructor

@[simp] theorem dropReady_frame (s : State) (m : BitVec 40) :
    (s.dropReady m).pending = s.pending ∧ (s.dropReady m).now = s.now ∧ (s.dropReady m).free = s.free ∧
    (s.dropReady m).answer = s.answer ∧ (s.dropReady m).outs = s.outs ∧ (s.dropReady m).ever = s.ever ∧
    (s.dropReady m).husk = s.husk ∧ (s.dropReady m).plls = s.plls ∧ (s.dropReady m).vtc = s.vtc ∧
    (s.dropReady m).pac = s.pac ∧ (s.dropReady m).pcie = s.pcie ∧ (s.dropReady m).mbx = s.mbx ∧
    (s.dropReady m).rstCnt = s.rstCnt ∧ (s.dropReady m).mbxClosed = s.mbxClosed ∧ (s.dropReady m).icu = s.icu ∧
    (s.dropReady m).flt = s.flt ∧ (s.dropReady m).board = s.board ∧ (s.dropReady m).bankM = s.bankM ∧
    (s.dropReady m).latches = s.latches ∧ (s.dropReady m).hazel = s.hazel ∧ (s.dropReady m).mem = s.mem ∧
    (s.dropReady m).marks = s.marks ∧ (s.dropReady m).dram = s.dram ∧ (s.dropReady m).lfs = s.lfs ∧
    (s.dropReady m).scrub = s.scrub ∧ (s.dropReady m).mram = s.mram ∧ (s.dropReady m).fab = s.fab ∧
    (s.dropReady m).dma = s.dma ∧ (s.dropReady m).pipes = s.pipes ∧ (s.dropReady m).ptp = s.ptp ∧
    (s.dropReady m).lanes = s.lanes ∧ (s.dropReady m).flows = s.flows ∧ (s.dropReady m).entries = s.entries ∧
    (s.dropReady m).sched = s.sched ∧ (s.dropReady m).events = s.events := by
  repeat' constructor

@[simp] theorem clearReady_frame (s : State) (m : BitVec 40) :
    (s.clearReady m).pending = s.pending ∧ (s.clearReady m).now = s.now ∧ (s.clearReady m).free = s.free ∧
    (s.clearReady m).answer = s.answer ∧ (s.clearReady m).outs = s.outs ∧ (s.clearReady m).ever = s.ever ∧
    (s.clearReady m).fell = s.fell ∧ (s.clearReady m).husk = s.husk ∧ (s.clearReady m).plls = s.plls ∧
    (s.clearReady m).vtc = s.vtc ∧ (s.clearReady m).pac = s.pac ∧ (s.clearReady m).pcie = s.pcie ∧
    (s.clearReady m).mbx = s.mbx ∧ (s.clearReady m).rstCnt = s.rstCnt ∧ (s.clearReady m).mbxClosed = s.mbxClosed ∧
    (s.clearReady m).icu = s.icu ∧ (s.clearReady m).flt = s.flt ∧ (s.clearReady m).board = s.board ∧
    (s.clearReady m).bankM = s.bankM ∧ (s.clearReady m).latches = s.latches ∧ (s.clearReady m).hazel = s.hazel ∧
    (s.clearReady m).mem = s.mem ∧ (s.clearReady m).marks = s.marks ∧ (s.clearReady m).dram = s.dram ∧
    (s.clearReady m).lfs = s.lfs ∧ (s.clearReady m).scrub = s.scrub ∧ (s.clearReady m).mram = s.mram ∧
    (s.clearReady m).fab = s.fab ∧ (s.clearReady m).dma = s.dma ∧ (s.clearReady m).pipes = s.pipes ∧
    (s.clearReady m).ptp = s.ptp ∧ (s.clearReady m).lanes = s.lanes ∧ (s.clearReady m).flows = s.flows ∧
    (s.clearReady m).entries = s.entries ∧ (s.clearReady m).sched = s.sched ∧ (s.clearReady m).events = s.events := by
  repeat' constructor

@[simp] theorem advance_frame (s : State) (d : Nat) :
    (s.advance d).pending = s.pending ∧ (s.advance d).free = s.free ∧ (s.advance d).answer = s.answer ∧
    (s.advance d).outs = s.outs ∧ (s.advance d).rdy = s.rdy ∧ (s.advance d).ever = s.ever ∧ (s.advance d).fell = s.fell ∧
    (s.advance d).husk = s.husk ∧ (s.advance d).plls = s.plls ∧ (s.advance d).vtc = s.vtc ∧ (s.advance d).pac = s.pac ∧
    (s.advance d).pcie = s.pcie ∧ (s.advance d).mbx = s.mbx ∧ (s.advance d).rstCnt = s.rstCnt ∧
    (s.advance d).mbxClosed = s.mbxClosed ∧ (s.advance d).icu = s.icu ∧ (s.advance d).flt = s.flt ∧
    (s.advance d).board = s.board ∧ (s.advance d).bankM = s.bankM ∧ (s.advance d).latches = s.latches ∧
    (s.advance d).hazel = s.hazel ∧ (s.advance d).mem = s.mem ∧ (s.advance d).marks = s.marks ∧
    (s.advance d).dram = s.dram ∧ (s.advance d).lfs = s.lfs ∧ (s.advance d).scrub = s.scrub ∧ (s.advance d).mram = s.mram ∧
    (s.advance d).fab = s.fab ∧ (s.advance d).dma = s.dma ∧ (s.advance d).pipes = s.pipes ∧ (s.advance d).lanes = s.lanes ∧
    (s.advance d).flows = s.flows ∧ (s.advance d).entries = s.entries ∧ (s.advance d).sched = s.sched ∧
    (s.advance d).events = s.events := by
  repeat' constructor

@[simp] theorem tookFree_frame (s : State) :
    s.tookFree.pending = s.pending ∧ s.tookFree.now = s.now ∧ s.tookFree.answer = s.answer ∧ s.tookFree.outs = s.outs ∧
    s.tookFree.rdy = s.rdy ∧ s.tookFree.ever = s.ever ∧ s.tookFree.fell = s.fell ∧ s.tookFree.husk = s.husk ∧
    s.tookFree.plls = s.plls ∧ s.tookFree.vtc = s.vtc ∧ s.tookFree.pac = s.pac ∧ s.tookFree.pcie = s.pcie ∧
    s.tookFree.mbx = s.mbx ∧ s.tookFree.rstCnt = s.rstCnt ∧ s.tookFree.mbxClosed = s.mbxClosed ∧ s.tookFree.icu = s.icu ∧
    s.tookFree.flt = s.flt ∧ s.tookFree.board = s.board ∧ s.tookFree.bankM = s.bankM ∧ s.tookFree.latches = s.latches ∧
    s.tookFree.hazel = s.hazel ∧ s.tookFree.mem = s.mem ∧ s.tookFree.marks = s.marks ∧ s.tookFree.dram = s.dram ∧
    s.tookFree.lfs = s.lfs ∧ s.tookFree.scrub = s.scrub ∧ s.tookFree.mram = s.mram ∧ s.tookFree.fab = s.fab ∧
    s.tookFree.dma = s.dma ∧ s.tookFree.pipes = s.pipes ∧ s.tookFree.ptp = s.ptp ∧ s.tookFree.lanes = s.lanes ∧
    s.tookFree.flows = s.flows ∧ s.tookFree.entries = s.entries ∧ s.tookFree.sched = s.sched ∧
    s.tookFree.events = s.events := by
  repeat' constructor

@[simp] theorem setBoard_frame (s : State) (b : Board) :
    (s.setBoard b).pending = s.pending ∧ (s.setBoard b).now = s.now ∧ (s.setBoard b).free = s.free ∧
    (s.setBoard b).answer = s.answer ∧ (s.setBoard b).outs = s.outs ∧ (s.setBoard b).rdy = s.rdy ∧
    (s.setBoard b).ever = s.ever ∧ (s.setBoard b).fell = s.fell ∧ (s.setBoard b).husk = s.husk ∧
    (s.setBoard b).plls = s.plls ∧ (s.setBoard b).vtc = s.vtc ∧ (s.setBoard b).pac = s.pac ∧ (s.setBoard b).pcie = s.pcie ∧
    (s.setBoard b).mbx = s.mbx ∧ (s.setBoard b).rstCnt = s.rstCnt ∧ (s.setBoard b).mbxClosed = s.mbxClosed ∧
    (s.setBoard b).icu = s.icu ∧ (s.setBoard b).flt = s.flt ∧ (s.setBoard b).bankM = s.bankM ∧
    (s.setBoard b).latches = s.latches ∧ (s.setBoard b).hazel = s.hazel ∧ (s.setBoard b).mem = s.mem ∧
    (s.setBoard b).marks = s.marks ∧ (s.setBoard b).dram = s.dram ∧ (s.setBoard b).lfs = s.lfs ∧
    (s.setBoard b).scrub = s.scrub ∧ (s.setBoard b).mram = s.mram ∧ (s.setBoard b).fab = s.fab ∧
    (s.setBoard b).dma = s.dma ∧ (s.setBoard b).pipes = s.pipes ∧ (s.setBoard b).ptp = s.ptp ∧
    (s.setBoard b).lanes = s.lanes ∧ (s.setBoard b).flows = s.flows ∧ (s.setBoard b).entries = s.entries ∧
    (s.setBoard b).sched = s.sched ∧ (s.setBoard b).events = s.events := by
  repeat' constructor

@[simp] theorem setPtp_frame (s : State) (p : Ptp) :
    (s.setPtp p).pending = s.pending ∧ (s.setPtp p).now = s.now ∧ (s.setPtp p).free = s.free ∧
    (s.setPtp p).answer = s.answer ∧ (s.setPtp p).outs = s.outs ∧ (s.setPtp p).rdy = s.rdy ∧ (s.setPtp p).ever = s.ever ∧
    (s.setPtp p).fell = s.fell ∧ (s.setPtp p).husk = s.husk ∧ (s.setPtp p).plls = s.plls ∧ (s.setPtp p).vtc = s.vtc ∧
    (s.setPtp p).pac = s.pac ∧ (s.setPtp p).pcie = s.pcie ∧ (s.setPtp p).mbx = s.mbx ∧ (s.setPtp p).rstCnt = s.rstCnt ∧
    (s.setPtp p).mbxClosed = s.mbxClosed ∧ (s.setPtp p).icu = s.icu ∧ (s.setPtp p).flt = s.flt ∧
    (s.setPtp p).board = s.board ∧ (s.setPtp p).bankM = s.bankM ∧ (s.setPtp p).latches = s.latches ∧
    (s.setPtp p).hazel = s.hazel ∧ (s.setPtp p).mem = s.mem ∧ (s.setPtp p).marks = s.marks ∧ (s.setPtp p).dram = s.dram ∧
    (s.setPtp p).lfs = s.lfs ∧ (s.setPtp p).scrub = s.scrub ∧ (s.setPtp p).mram = s.mram ∧ (s.setPtp p).fab = s.fab ∧
    (s.setPtp p).dma = s.dma ∧ (s.setPtp p).pipes = s.pipes ∧ (s.setPtp p).lanes = s.lanes ∧ (s.setPtp p).flows = s.flows ∧
    (s.setPtp p).entries = s.entries ∧ (s.setPtp p).sched = s.sched ∧ (s.setPtp p).events = s.events := by
  repeat' constructor

@[simp] theorem setMark_frame (s : State) (w : Nat) (m : Mark) :
    (s.setMark w m).pending = s.pending ∧ (s.setMark w m).now = s.now ∧ (s.setMark w m).free = s.free ∧
    (s.setMark w m).answer = s.answer ∧ (s.setMark w m).outs = s.outs ∧ (s.setMark w m).rdy = s.rdy ∧
    (s.setMark w m).ever = s.ever ∧ (s.setMark w m).fell = s.fell ∧ (s.setMark w m).husk = s.husk ∧
    (s.setMark w m).plls = s.plls ∧ (s.setMark w m).vtc = s.vtc ∧ (s.setMark w m).pac = s.pac ∧
    (s.setMark w m).pcie = s.pcie ∧ (s.setMark w m).mbx = s.mbx ∧ (s.setMark w m).rstCnt = s.rstCnt ∧
    (s.setMark w m).mbxClosed = s.mbxClosed ∧ (s.setMark w m).icu = s.icu ∧ (s.setMark w m).flt = s.flt ∧
    (s.setMark w m).board = s.board ∧ (s.setMark w m).bankM = s.bankM ∧ (s.setMark w m).latches = s.latches ∧
    (s.setMark w m).hazel = s.hazel ∧ (s.setMark w m).mem = s.mem ∧ (s.setMark w m).dram = s.dram ∧
    (s.setMark w m).lfs = s.lfs ∧ (s.setMark w m).scrub = s.scrub ∧ (s.setMark w m).mram = s.mram ∧
    (s.setMark w m).fab = s.fab ∧ (s.setMark w m).dma = s.dma ∧ (s.setMark w m).pipes = s.pipes ∧
    (s.setMark w m).ptp = s.ptp ∧ (s.setMark w m).lanes = s.lanes ∧ (s.setMark w m).flows = s.flows ∧
    (s.setMark w m).entries = s.entries ∧ (s.setMark w m).sched = s.sched ∧ (s.setMark w m).events = s.events := by
  repeat' constructor

@[simp] theorem begin_frame (s : State) :
    s.begin.pending = s.pending ∧ s.begin.now = s.now ∧ s.begin.free = s.free ∧ s.begin.rdy = s.rdy ∧
    s.begin.ever = s.ever ∧ s.begin.fell = s.fell ∧ s.begin.husk = s.husk ∧ s.begin.plls = s.plls ∧ s.begin.vtc = s.vtc ∧
    s.begin.pac = s.pac ∧ s.begin.pcie = s.pcie ∧ s.begin.mbx = s.mbx ∧ s.begin.rstCnt = s.rstCnt ∧
    s.begin.mbxClosed = s.mbxClosed ∧ s.begin.icu = s.icu ∧ s.begin.flt = s.flt ∧ s.begin.board = s.board ∧
    s.begin.bankM = s.bankM ∧ s.begin.latches = s.latches ∧ s.begin.hazel = s.hazel ∧ s.begin.mem = s.mem ∧
    s.begin.marks = s.marks ∧ s.begin.dram = s.dram ∧ s.begin.lfs = s.lfs ∧ s.begin.scrub = s.scrub ∧
    s.begin.mram = s.mram ∧ s.begin.fab = s.fab ∧ s.begin.dma = s.dma ∧ s.begin.pipes = s.pipes ∧ s.begin.ptp = s.ptp ∧
    s.begin.lanes = s.lanes ∧ s.begin.flows = s.flows ∧ s.begin.entries = s.entries ∧ s.begin.sched = s.sched ∧
    s.begin.events = s.events := by
  repeat' constructor

@[simp] theorem wipe_frame (s : State) (p : Nat → Bool) :
    (s.wipe p).pending = s.pending ∧ (s.wipe p).now = s.now ∧ (s.wipe p).free = s.free ∧ (s.wipe p).answer = s.answer ∧
    (s.wipe p).outs = s.outs ∧ (s.wipe p).rdy = s.rdy ∧ (s.wipe p).ever = s.ever ∧ (s.wipe p).fell = s.fell ∧
    (s.wipe p).husk = s.husk ∧ (s.wipe p).plls = s.plls ∧ (s.wipe p).vtc = s.vtc ∧ (s.wipe p).pac = s.pac ∧
    (s.wipe p).pcie = s.pcie ∧ (s.wipe p).mbx = s.mbx ∧ (s.wipe p).rstCnt = s.rstCnt ∧ (s.wipe p).mbxClosed = s.mbxClosed ∧
    (s.wipe p).icu = s.icu ∧ (s.wipe p).flt = s.flt ∧ (s.wipe p).board = s.board ∧ (s.wipe p).bankM = s.bankM ∧
    (s.wipe p).latches = s.latches ∧ (s.wipe p).hazel = s.hazel ∧ (s.wipe p).dram = s.dram ∧ (s.wipe p).lfs = s.lfs ∧
    (s.wipe p).scrub = s.scrub ∧ (s.wipe p).mram = s.mram ∧ (s.wipe p).fab = s.fab ∧ (s.wipe p).dma = s.dma ∧
    (s.wipe p).pipes = s.pipes ∧ (s.wipe p).ptp = s.ptp ∧ (s.wipe p).lanes = s.lanes ∧ (s.wipe p).flows = s.flows ∧
    (s.wipe p).entries = s.entries ∧ (s.wipe p).sched = s.sched ∧ (s.wipe p).events = s.events := by
  repeat' constructor

end Sys2Proof.Machine
end

