-- ==== Sys2Proof/Laws/Settle.lean ====
section
/-! SUPPORT. What follows every command's effect (`State.settle`) changes only the interrupt controller, the messages that leave,
the pending bits of the endpoint, whether Pip runs, and a configuration command that was held. -/

namespace Sys2Proof.Machine

/-- A meaning answers a next state: its effect, settled. -/
@[simp] theorem run_eq (f : State → State) (s : State) : run f s = .next (f s.begin).settle := rfl

/-- The fields of State that settling leaves alone. -/
structure Settled (s t : State) : Prop where
  pending : t.pending = s.pending
  now : t.now = s.now
  free : t.free = s.free
  answer : t.answer = s.answer
  rdy : t.rdy = s.rdy
  ever : t.ever = s.ever
  fell : t.fell = s.fell
  plls : t.plls = s.plls
  vtc : t.vtc = s.vtc
  pac : t.pac = s.pac
  mbx : t.mbx = s.mbx
  rstCnt : t.rstCnt = s.rstCnt
  mbxClosed : t.mbxClosed = s.mbxClosed
  flt : t.flt = s.flt
  bankM : t.bankM = s.bankM
  latches : t.latches = s.latches
  hazel : t.hazel = s.hazel
  mem : t.mem = s.mem
  marks : t.marks = s.marks
  dram : t.dram = s.dram
  lfs : t.lfs = s.lfs
  scrub : t.scrub = s.scrub
  fab : t.fab = s.fab
  dma : t.dma = s.dma
  pipes : t.pipes = s.pipes
  ptp : t.ptp = s.ptp
  lanes : t.lanes = s.lanes
  flows : t.flows = s.flows
  entries : t.entries = s.entries
  sched : t.sched = s.sched
  events : t.events = s.events

theorem Settled.refl (s : State) : Settled s s := by constructor <;> rfl

theorem Settled.trans {a b c : State} (h : Settled a b) (k : Settled b c) : Settled a c := by
  constructor <;> first
    | exact k.pending.trans h.pending | exact k.now.trans h.now | exact k.free.trans h.free | exact k.answer.trans h.answer
    | exact k.rdy.trans h.rdy | exact k.ever.trans h.ever | exact k.fell.trans h.fell | exact k.plls.trans h.plls
    | exact k.vtc.trans h.vtc | exact k.pac.trans h.pac | exact k.mbx.trans h.mbx | exact k.rstCnt.trans h.rstCnt
    | exact k.mbxClosed.trans h.mbxClosed | exact k.flt.trans h.flt | exact k.bankM.trans h.bankM
    | exact k.latches.trans h.latches | exact k.hazel.trans h.hazel | exact k.mem.trans h.mem | exact k.marks.trans h.marks
    | exact k.dram.trans h.dram | exact k.lfs.trans h.lfs | exact k.scrub.trans h.scrub | exact k.fab.trans h.fab
    | exact k.dma.trans h.dma | exact k.pipes.trans h.pipes | exact k.ptp.trans h.ptp | exact k.lanes.trans h.lanes
    | exact k.flows.trans h.flows | exact k.entries.trans h.entries | exact k.sched.trans h.sched | exact k.events.trans h.events

theorem settled_message (s : State) (v : Nat) : Settled s (s.message v) := by
  unfold State.message; split <;> constructor <;> rfl

theorem settled_messages (s : State) (m : BitVec 64) (n : Nat) : Settled s (s.messages m n) := by
  induction n with
  | zero => exact Settled.refl s
  | succ n ih =>
    simp only [State.messages]
    split
    · exact ih.trans (settled_message _ _)
    · exact ih

theorem settled_sent {s t : State} (c : Prop) [Decidable c] (m : BitVec 64) (n : Nat) (h : Settled s t) :
    Settled s (if c then t else t.messages m n) := by
  split
  · exact h
  · exact h.trans (settled_messages _ _ _)

theorem settled_icu (s : State) : Settled s s.settleIcu :=
  settled_sent _ _ _ (by constructor <;> rfl)

theorem settled_wakePip (s : State) : Settled s s.wakePip := by
  unfold State.wakePip
  split <;> first | (split <;> constructor <;> rfl) | exact Settled.refl s

theorem settled_cfgCommit (s : State) : Settled s s.cfgCommit := by
  unfold State.cfgCommit; simp only; split <;> constructor <;> rfl

theorem settled_cfgDo (s : State) (c : Nat) : Settled s (s.cfgDo c) := by
  unfold State.cfgDo
  split
  · constructor <;> rfl
  split
  · exact settled_cfgCommit s
  split
  · unfold State.cfgRead; simp only; (repeat' split) <;> constructor <;> rfl
  split
  · unfold State.cfgDiscard; simp only; split <;> constructor <;> rfl
  · exact Settled.refl s

theorem settled_cfgPump (s : State) : Settled s s.cfgPump := by
  unfold State.cfgPump
  split
  · refine Settled.trans (?_ : Settled s (s.setBoard _)) (settled_cfgDo _ _)
    constructor <;> rfl
  · exact Settled.refl s

theorem settled_settle (s : State) : Settled s s.settle :=
  ((settled_icu s).trans (settled_wakePip _)).trans (settled_cfgPump _)

/-- Settling changes none of these fields. -/
@[simp] theorem settle_frame (s : State) :
    s.settle.pending = s.pending ∧ s.settle.now = s.now ∧ s.settle.free = s.free ∧ s.settle.answer = s.answer ∧ s.settle.rdy = s.rdy
      ∧ s.settle.ever = s.ever ∧ s.settle.fell = s.fell ∧ s.settle.plls = s.plls ∧ s.settle.vtc = s.vtc ∧ s.settle.pac = s.pac
      ∧ s.settle.mbx = s.mbx ∧ s.settle.rstCnt = s.rstCnt ∧ s.settle.mbxClosed = s.mbxClosed ∧ s.settle.flt = s.flt
      ∧ s.settle.bankM = s.bankM ∧ s.settle.latches = s.latches ∧ s.settle.hazel = s.hazel ∧ s.settle.mem = s.mem
      ∧ s.settle.marks = s.marks ∧ s.settle.dram = s.dram ∧ s.settle.lfs = s.lfs ∧ s.settle.scrub = s.scrub ∧ s.settle.fab = s.fab
      ∧ s.settle.dma = s.dma ∧ s.settle.pipes = s.pipes ∧ s.settle.ptp = s.ptp ∧ s.settle.lanes = s.lanes ∧ s.settle.flows = s.flows
      ∧ s.settle.entries = s.entries ∧ s.settle.sched = s.sched ∧ s.settle.events = s.events := by
  have h := settled_settle s
  exact ⟨h.pending, h.now, h.free, h.answer, h.rdy, h.ever, h.fell, h.plls, h.vtc, h.pac, h.mbx, h.rstCnt, h.mbxClosed, h.flt, h.bankM,
    h.latches, h.hazel, h.mem, h.marks, h.dram, h.lfs, h.scrub, h.fab, h.dma, h.pipes, h.ptp, h.lanes, h.flows, h.entries, h.sched, h.events⟩

end Sys2Proof.Machine
end

