-- ==== Sys2Proof/Laws/Frames.lean ====
section
/-! SUPPORT. What settling leaves alone in the parts it touches, and how the frame of a command follows from the frame of
its effect. -/

namespace Sys2Proof.Machine

theorem message_husk (s : State) (v : Nat) : (s.message v).husk = s.husk ∧ (s.message v).icu = s.icu ∧ (s.message v).board = s.board
    ∧ (s.message v).mram = s.mram ∧ (s.message v).pcie.kept = s.pcie.kept := by
  unfold State.message; split <;> exact ⟨rfl, rfl, rfl, rfl, rfl⟩

theorem messages_husk (s : State) (m : BitVec 64) (n : Nat) : (s.messages m n).husk = s.husk ∧ (s.messages m n).icu = s.icu
    ∧ (s.messages m n).board = s.board ∧ (s.messages m n).mram = s.mram ∧ (s.messages m n).pcie.kept = s.pcie.kept := by
  induction n with
  | zero => exact ⟨rfl, rfl, rfl, rfl, rfl⟩
  | succ n ih =>
    simp only [State.messages]
    split
    · have h := message_husk (s.messages m n) n
      exact ⟨h.1.trans ih.1, h.2.1.trans ih.2.1, h.2.2.1.trans ih.2.2.1, h.2.2.2.1.trans ih.2.2.2.1, h.2.2.2.2.trans ih.2.2.2.2⟩
    · exact ih

theorem sent_rest {s t : State} (c : Prop) [Decidable c] (m : BitVec 64) (n : Nat)
    (h : t.husk = s.husk ∧ t.icu.kept = s.icu.kept ∧ t.board = s.board ∧ t.mram = s.mram ∧ t.pcie.kept = s.pcie.kept) :
    (if c then t else t.messages m n).husk = s.husk ∧ (if c then t else t.messages m n).icu.kept = s.icu.kept
      ∧ (if c then t else t.messages m n).board = s.board ∧ (if c then t else t.messages m n).mram = s.mram
      ∧ (if c then t else t.messages m n).pcie.kept = s.pcie.kept := by
  split
  · exact h
  · have k := messages_husk t m n
    exact ⟨k.1.trans h.1, (congrArg Icu.kept k.2.1).trans h.2.1, k.2.2.1.trans h.2.2.1, k.2.2.2.1.trans h.2.2.2.1,
      k.2.2.2.2.trans h.2.2.2.2⟩

theorem settleIcu_rest (s : State) : s.settleIcu.husk = s.husk ∧ s.settleIcu.icu.kept = s.icu.kept ∧ s.settleIcu.board = s.board
    ∧ s.settleIcu.mram = s.mram ∧ s.settleIcu.pcie.kept = s.pcie.kept := sent_rest _ _ _ ⟨rfl, rfl, rfl, rfl, rfl⟩

theorem wakePip_rest (s : State) : s.wakePip.husk.kept = s.husk.kept ∧ s.wakePip.icu = s.icu ∧ s.wakePip.board = s.board
    ∧ s.wakePip.mram = s.mram ∧ s.wakePip.pcie = s.pcie := by
  unfold State.wakePip
  split
  · rename_i h
    split
    · exact ⟨by simp [Husk.kept, h], rfl, rfl, rfl, rfl⟩
    · exact ⟨rfl, rfl, rfl, rfl, rfl⟩
  · split <;> exact ⟨rfl, rfl, rfl, rfl, rfl⟩
  · split <;> exact ⟨rfl, rfl, rfl, rfl, rfl⟩
  · exact ⟨rfl, rfl, rfl, rfl, rfl⟩

theorem cfgDo_rest (s : State) (c : Nat) : (s.cfgDo c).husk = s.husk ∧ (s.cfgDo c).icu = s.icu ∧ (s.cfgDo c).pcie = s.pcie := by
  unfold State.cfgDo
  split
  · exact ⟨rfl, rfl, rfl⟩
  split
  · unfold State.cfgCommit; dsimp only; split <;> exact ⟨rfl, rfl, rfl⟩
  split
  · unfold State.cfgRead; dsimp only; split
    · exact ⟨rfl, rfl, rfl⟩
    · split <;> exact ⟨rfl, rfl, rfl⟩
  split
  · unfold State.cfgDiscard; dsimp only; split <;> exact ⟨rfl, rfl, rfl⟩
  · exact ⟨rfl, rfl, rfl⟩

theorem cfgPump_rest (s : State) : s.cfgPump.husk = s.husk ∧ s.cfgPump.icu = s.icu ∧ s.cfgPump.pcie = s.pcie
    ∧ (s.board.cfgHeld = 0 → s.cfgPump = s) := by
  unfold State.cfgPump
  split
  · rename_i h
    have k := cfgDo_rest (s.setBoard { s.board with cfgHeld := 0, cfgBusy := false }) s.board.cfgHeld
    exact ⟨k.1, k.2.1, k.2.2, fun h0 => absurd h0 h.1⟩
  · exact ⟨rfl, rfl, rfl, fun _ => rfl⟩

/-- What settling leaves alone in the Husk, the interrupt controller, the endpoint, the board and MRAM. -/
theorem settle_rest (s : State) : s.settle.husk.kept = s.husk.kept ∧ s.settle.icu.kept = s.icu.kept ∧ s.settle.pcie.kept = s.pcie.kept
    ∧ (s.board.cfgHeld = 0 → s.settle.board = s.board ∧ s.settle.mram = s.mram) := by
  unfold State.settle
  have a := settleIcu_rest s
  have b := wakePip_rest s.settleIcu
  have c := cfgPump_rest s.settleIcu.wakePip
  refine ⟨?_, ?_, ?_, fun h => ?_⟩
  · rw [c.1, b.1, a.1]
  · rw [c.2.1, b.2.1, a.2.1]
  · rw [c.2.2.1, b.2.2.2.2, a.2.2.2.2]
  · have e := c.2.2.2 (by rw [b.2.2.1, a.2.2.1]; exact h)
    rw [e, b.2.2.1, a.2.2.1, b.2.2.2.1, a.2.2.2.1]; exact ⟨rfl, rfl⟩

/-- The frame of a command is that of its effect: settling adds nothing to it. -/
theorem only_run {l : List Part} {f : State → State} {s : State} (h : Only l s (f s.begin)) (hb : .board ∈ l → .mram ∈ l) :
    Only l s (f s.begin).settle := by
  have g := settle_frame (f s.begin)
  have r := settle_rest (f s.begin)
  refine ⟨g.1.trans h.1, fun p hp => ?_⟩
  have k := h.2 p hp
  cases p <;> simp only [Part.same] at k ⊢
  case husk => rw [r.1]; exact k
  case icu => rw [r.2.1]; exact k
  case pcie => rw [r.2.2.1]; exact k
  case board => intro h0; have e := k h0; rw [(r.2.2.2 (by rw [e]; exact h0)).1]; exact e
  case mram =>
    intro h0
    have e : (f s.begin).board = s.board := h.2 .board (fun x => hp (hb x)) h0
    rw [(r.2.2.2 (by rw [e]; exact h0)).2]; exact k h0
  all_goals simp only [g]; exact k

/-! ### Field by field -/

theorem keptHusk {α : Type} (f : Husk → α) {h k : Husk} (e : h.kept = k.kept) (hf : ∀ x : Husk, f x.kept = f x) :
    f h = f k := by rw [← hf h, ← hf k, e]

theorem keptPcie {α : Type} (f : Pcie → α) {h k : Pcie} (e : h.kept = k.kept) (hf : ∀ x : Pcie, f x.kept = f x) :
    f h = f k := by rw [← hf h, ← hf k, e]

theorem keptIcu {α : Type} (f : Icu → α) {h k : Icu} (e : h.kept = k.kept) (hf : ∀ x : Icu, f x.kept = f x) :
    f h = f k := by rw [← hf h, ← hf k, e]

@[simp] theorem settle_husk_vaon (s : State) : s.settle.husk.vaon = s.husk.vaon := keptHusk Husk.vaon (settle_rest s).1 fun _ => rfl
@[simp] theorem settle_husk_strap (s : State) : s.settle.husk.strap = s.husk.strap := keptHusk Husk.strap (settle_rest s).1 fun _ => rfl
@[simp] theorem settle_husk_hpEn (s : State) : s.settle.husk.hpEn = s.husk.hpEn := keptHusk Husk.hpEn (settle_rest s).1 fun _ => rfl
@[simp] theorem settle_husk_wakeIn (s : State) : s.settle.husk.wakeIn = s.husk.wakeIn := keptHusk Husk.wakeIn (settle_rest s).1 fun _ => rfl
@[simp] theorem settle_husk_pgMain (s : State) : s.settle.husk.pgMain = s.husk.pgMain := keptHusk Husk.pgMain (settle_rest s).1 fun _ => rfl
@[simp] theorem settle_husk_pgSrd (s : State) : s.settle.husk.pgSrd = s.husk.pgSrd := keptHusk Husk.pgSrd (settle_rest s).1 fun _ => rfl
@[simp] theorem settle_husk_pgDram (s : State) : s.settle.husk.pgDram = s.husk.pgDram := keptHusk Husk.pgDram (settle_rest s).1 fun _ => rfl
@[simp] theorem settle_husk_enMain (s : State) : s.settle.husk.enMain = s.husk.enMain := keptHusk Husk.enMain (settle_rest s).1 fun _ => rfl
@[simp] theorem settle_husk_enSrd (s : State) : s.settle.husk.enSrd = s.husk.enSrd := keptHusk Husk.enSrd (settle_rest s).1 fun _ => rfl
@[simp] theorem settle_husk_enDram (s : State) : s.settle.husk.enDram = s.husk.enDram := keptHusk Husk.enDram (settle_rest s).1 fun _ => rfl
@[simp] theorem settle_husk_xtFail (s : State) : s.settle.husk.xtFail = s.husk.xtFail := keptHusk Husk.xtFail (settle_rest s).1 fun _ => rfl
@[simp] theorem settle_husk_slowSrc (s : State) : s.settle.husk.slowSrc = s.husk.slowSrc := keptHusk Husk.slowSrc (settle_rest s).1 fun _ => rfl
@[simp] theorem settle_husk_pipMode (s : State) : s.settle.husk.pipMode = s.husk.pipMode := keptHusk Husk.pipMode (settle_rest s).1 fun _ => rfl
@[simp] theorem settle_husk_pipVersion (s : State) : s.settle.husk.pipVersion = s.husk.pipVersion := keptHusk Husk.pipVersion (settle_rest s).1 fun _ => rfl
@[simp] theorem settle_husk_pipIf (s : State) : s.settle.husk.pipIf = s.husk.pipIf := keptHusk Husk.pipIf (settle_rest s).1 fun _ => rfl
@[simp] theorem settle_husk_pipSlotB (s : State) : s.settle.husk.pipSlotB = s.husk.pipSlotB := keptHusk Husk.pipSlotB (settle_rest s).1 fun _ => rfl
@[simp] theorem settle_husk_ctrlWritten (s : State) : s.settle.husk.ctrlWritten = s.husk.ctrlWritten := keptHusk Husk.ctrlWritten (settle_rest s).1 fun _ => rfl
@[simp] theorem settle_husk_ctrl (s : State) : s.settle.husk.ctrl = s.husk.ctrl := keptHusk Husk.ctrl (settle_rest s).1 fun _ => rfl
@[simp] theorem settle_husk_timerExpired (s : State) : s.settle.husk.timerExpired = s.husk.timerExpired := keptHusk Husk.timerExpired (settle_rest s).1 fun _ => rfl
@[simp] theorem settle_husk_cfg (s : State) : s.settle.husk.cfg = s.husk.cfg := keptHusk Husk.cfg (settle_rest s).1 fun _ => rfl
@[simp] theorem settle_husk_xoSettle (s : State) : s.settle.husk.xoSettle = s.husk.xoSettle := keptHusk Husk.xoSettle (settle_rest s).1 fun _ => rfl
@[simp] theorem settle_husk_pgTimeout (s : State) : s.settle.husk.pgTimeout = s.husk.pgTimeout := keptHusk Husk.pgTimeout (settle_rest s).1 fun _ => rfl
@[simp] theorem settle_husk_wakeCause (s : State) : s.settle.husk.wakeCause = s.husk.wakeCause := keptHusk Husk.wakeCause (settle_rest s).1 fun _ => rfl
@[simp] theorem settle_husk_causeSeen (s : State) : s.settle.husk.causeSeen = s.husk.causeSeen := keptHusk Husk.causeSeen (settle_rest s).1 fun _ => rfl
@[simp] theorem settle_husk_alarm (s : State) : s.settle.husk.alarm = s.husk.alarm := keptHusk Husk.alarm (settle_rest s).1 fun _ => rfl
@[simp] theorem settle_husk_alarmAt (s : State) : s.settle.husk.alarmAt = s.husk.alarmAt := keptHusk Husk.alarmAt (settle_rest s).1 fun _ => rfl
@[simp] theorem settle_husk_xoFail (s : State) : s.settle.husk.xoFail = s.husk.xoFail := keptHusk Husk.xoFail (settle_rest s).1 fun _ => rfl
@[simp] theorem settle_husk_earlyCount (s : State) : s.settle.husk.earlyCount = s.husk.earlyCount := keptHusk Husk.earlyCount (settle_rest s).1 fun _ => rfl
@[simp] theorem settle_husk_monOk (s : State) : s.settle.husk.monOk = s.husk.monOk := keptHusk Husk.monOk (settle_rest s).1 fun _ => rfl
@[simp] theorem settle_husk_settled (s : State) : s.settle.husk.settled = s.husk.settled := keptHusk Husk.settled (settle_rest s).1 fun _ => rfl
@[simp] theorem settle_husk_xoOn (s : State) : s.settle.husk.xoOn = s.husk.xoOn := keptHusk Husk.xoOn (settle_rest s).1 fun _ => rfl
@[simp] theorem settle_husk_settleDue (s : State) : s.settle.husk.settleDue = s.husk.settleDue := keptHusk Husk.settleDue (settle_rest s).1 fun _ => rfl
@[simp] theorem settle_husk_porAt (s : State) : s.settle.husk.porAt = s.husk.porAt := keptHusk Husk.porAt (settle_rest s).1 fun _ => rfl
@[simp] theorem settle_husk_tj (s : State) : s.settle.husk.tj = s.husk.tj := keptHusk Husk.tj (settle_rest s).1 fun _ => rfl
@[simp] theorem settle_husk_xoSetAt (s : State) : s.settle.husk.xoSetAt = s.husk.xoSetAt := keptHusk Husk.xoSetAt (settle_rest s).1 fun _ => rfl
@[simp] theorem settle_husk_railFault (s : State) : s.settle.husk.railFault = s.husk.railFault := keptHusk Husk.railFault (settle_rest s).1 fun _ => rfl
@[simp] theorem settle_husk_rstCause (s : State) : s.settle.husk.rstCause = s.husk.rstCause := keptHusk Husk.rstCause (settle_rest s).1 fun _ => rfl
@[simp] theorem settle_husk_mainOff (s : State) : s.settle.husk.mainOff = s.husk.mainOff := keptHusk Husk.mainOff (settle_rest s).1 fun _ => rfl
@[simp] theorem settle_husk_mainOffAt (s : State) : s.settle.husk.mainOffAt = s.husk.mainOffAt := keptHusk Husk.mainOffAt (settle_rest s).1 fun _ => rfl
@[simp] theorem settle_husk_removal (s : State) : s.settle.husk.removal = s.husk.removal := keptHusk Husk.removal (settle_rest s).1 fun _ => rfl
@[simp] theorem settle_husk_keptOn (s : State) : s.settle.husk.keptOn = s.husk.keptOn := keptHusk Husk.keptOn (settle_rest s).1 fun _ => rfl
@[simp] theorem settle_husk_goDormant (s : State) : s.settle.husk.goDormant = s.husk.goDormant := keptHusk Husk.goDormant (settle_rest s).1 fun _ => rfl
@[simp] theorem settle_husk_thermalHold (s : State) : s.settle.husk.thermalHold = s.husk.thermalHold := keptHusk Husk.thermalHold (settle_rest s).1 fun _ => rfl
@[simp] theorem settle_husk_srdDue (s : State) : s.settle.husk.srdDue = s.husk.srdDue := keptHusk Husk.srdDue (settle_rest s).1 fun _ => rfl
@[simp] theorem settle_husk_gateClosed (s : State) : s.settle.husk.gateClosed = s.husk.gateClosed := keptHusk Husk.gateClosed (settle_rest s).1 fun _ => rfl
@[simp] theorem settle_husk_removalDue (s : State) : s.settle.husk.removalDue = s.husk.removalDue := keptHusk Husk.removalDue (settle_rest s).1 fun _ => rfl
@[simp] theorem settle_husk_hpFellAt (s : State) : s.settle.husk.hpFellAt = s.husk.hpFellAt := keptHusk Husk.hpFellAt (settle_rest s).1 fun _ => rfl
@[simp] theorem settle_husk_resetDue (s : State) : s.settle.husk.resetDue = s.husk.resetDue := keptHusk Husk.resetDue (settle_rest s).1 fun _ => rfl
@[simp] theorem settle_husk_reopen (s : State) : s.settle.husk.reopen = s.husk.reopen := keptHusk Husk.reopen (settle_rest s).1 fun _ => rfl
@[simp] theorem settle_husk_bistRetries (s : State) : s.settle.husk.bistRetries = s.husk.bistRetries := keptHusk Husk.bistRetries (settle_rest s).1 fun _ => rfl
@[simp] theorem settle_pcie_perstN (s : State) : s.settle.pcie.perstN = s.pcie.perstN := keptPcie Pcie.perstN (settle_rest s).2.2.1 fun _ => rfl
@[simp] theorem settle_pcie_sris (s : State) : s.settle.pcie.sris = s.pcie.sris := keptPcie Pcie.sris (settle_rest s).2.2.1 fun _ => rfl
@[simp] theorem settle_pcie_linkUp (s : State) : s.settle.pcie.linkUp = s.pcie.linkUp := keptPcie Pcie.linkUp (settle_rest s).2.2.1 fun _ => rfl
@[simp] theorem settle_pcie_flr (s : State) : s.settle.pcie.flr = s.pcie.flr := keptPcie Pcie.flr (settle_rest s).2.2.1 fun _ => rfl
@[simp] theorem settle_pcie_d3 (s : State) : s.settle.pcie.d3 = s.pcie.d3 := keptPcie Pcie.d3 (settle_rest s).2.2.1 fun _ => rfl
@[simp] theorem settle_pcie_bar2Closed (s : State) : s.settle.pcie.bar2Closed = s.pcie.bar2Closed := keptPcie Pcie.bar2Closed (settle_rest s).2.2.1 fun _ => rfl
@[simp] theorem settle_pcie_mse (s : State) : s.settle.pcie.mse = s.pcie.mse := keptPcie Pcie.mse (settle_rest s).2.2.1 fun _ => rfl
@[simp] theorem settle_pcie_bme (s : State) : s.settle.pcie.bme = s.pcie.bme := keptPcie Pcie.bme (settle_rest s).2.2.1 fun _ => rfl
@[simp] theorem settle_pcie_cmdRest (s : State) : s.settle.pcie.cmdRest = s.pcie.cmdRest := keptPcie Pcie.cmdRest (settle_rest s).2.2.1 fun _ => rfl
@[simp] theorem settle_pcie_cacheLine (s : State) : s.settle.pcie.cacheLine = s.pcie.cacheLine := keptPcie Pcie.cacheLine (settle_rest s).2.2.1 fun _ => rfl
@[simp] theorem settle_pcie_bar0 (s : State) : s.settle.pcie.bar0 = s.pcie.bar0 := keptPcie Pcie.bar0 (settle_rest s).2.2.1 fun _ => rfl
@[simp] theorem settle_pcie_bar2 (s : State) : s.settle.pcie.bar2 = s.pcie.bar2 := keptPcie Pcie.bar2 (settle_rest s).2.2.1 fun _ => rfl
@[simp] theorem settle_pcie_msixEnable (s : State) : s.settle.pcie.msixEnable = s.pcie.msixEnable := keptPcie Pcie.msixEnable (settle_rest s).2.2.1 fun _ => rfl
@[simp] theorem settle_pcie_msixMask (s : State) : s.settle.pcie.msixMask = s.pcie.msixMask := keptPcie Pcie.msixMask (settle_rest s).2.2.1 fun _ => rfl
@[simp] theorem settle_pcie_devCtl (s : State) : s.settle.pcie.devCtl = s.pcie.devCtl := keptPcie Pcie.devCtl (settle_rest s).2.2.1 fun _ => rfl
@[simp] theorem settle_pcie_devCtl2 (s : State) : s.settle.pcie.devCtl2 = s.pcie.devCtl2 := keptPcie Pcie.devCtl2 (settle_rest s).2.2.1 fun _ => rfl
@[simp] theorem settle_pcie_linkCtl (s : State) : s.settle.pcie.linkCtl = s.pcie.linkCtl := keptPcie Pcie.linkCtl (settle_rest s).2.2.1 fun _ => rfl
@[simp] theorem settle_pcie_subsys (s : State) : s.settle.pcie.subsys = s.pcie.subsys := keptPcie Pcie.subsys (settle_rest s).2.2.1 fun _ => rfl
@[simp] theorem settle_pcie_uncStatus (s : State) : s.settle.pcie.uncStatus = s.pcie.uncStatus := keptPcie Pcie.uncStatus (settle_rest s).2.2.1 fun _ => rfl
@[simp] theorem settle_pcie_uncMask (s : State) : s.settle.pcie.uncMask = s.pcie.uncMask := keptPcie Pcie.uncMask (settle_rest s).2.2.1 fun _ => rfl
@[simp] theorem settle_pcie_uncSev (s : State) : s.settle.pcie.uncSev = s.pcie.uncSev := keptPcie Pcie.uncSev (settle_rest s).2.2.1 fun _ => rfl
@[simp] theorem settle_pcie_corStatus (s : State) : s.settle.pcie.corStatus = s.pcie.corStatus := keptPcie Pcie.corStatus (settle_rest s).2.2.1 fun _ => rfl
@[simp] theorem settle_pcie_corMask (s : State) : s.settle.pcie.corMask = s.pcie.corMask := keptPcie Pcie.corMask (settle_rest s).2.2.1 fun _ => rfl
@[simp] theorem settle_pcie_msix (s : State) : s.settle.pcie.msix = s.pcie.msix := keptPcie Pcie.msix (settle_rest s).2.2.1 fun _ => rfl
@[simp] theorem settle_pcie_up (s : State) : s.settle.pcie.up = s.pcie.up := keptPcie Pcie.up (settle_rest s).2.2.1 fun _ => rfl
@[simp] theorem settle_pcie_heldReqs (s : State) : s.settle.pcie.heldReqs = s.pcie.heldReqs := keptPcie Pcie.heldReqs (settle_rest s).2.2.1 fun _ => rfl
@[simp] theorem settle_pcie_discardBar2 (s : State) : s.settle.pcie.discardBar2 = s.pcie.discardBar2 := keptPcie Pcie.discardBar2 (settle_rest s).2.2.1 fun _ => rfl
@[simp] theorem settle_pcie_discardBar0 (s : State) : s.settle.pcie.discardBar0 = s.pcie.discardBar0 := keptPcie Pcie.discardBar0 (settle_rest s).2.2.1 fun _ => rfl
@[simp] theorem settle_pcie_abortPoison (s : State) : s.settle.pcie.abortPoison = s.pcie.abortPoison := keptPcie Pcie.abortPoison (settle_rest s).2.2.1 fun _ => rfl
@[simp] theorem settle_pcie_abortOther (s : State) : s.settle.pcie.abortOther = s.pcie.abortOther := keptPcie Pcie.abortOther (settle_rest s).2.2.1 fun _ => rfl
@[simp] theorem settle_pcie_lateTimeout (s : State) : s.settle.pcie.lateTimeout = s.pcie.lateTimeout := keptPcie Pcie.lateTimeout (settle_rest s).2.2.1 fun _ => rfl
@[simp] theorem settle_pcie_lateReset (s : State) : s.settle.pcie.lateReset = s.pcie.lateReset := keptPcie Pcie.lateReset (settle_rest s).2.2.1 fun _ => rfl
@[simp] theorem settle_pcie_surprise (s : State) : s.settle.pcie.surprise = s.pcie.surprise := keptPcie Pcie.surprise (settle_rest s).2.2.1 fun _ => rfl
@[simp] theorem settle_pcie_exits (s : State) : s.settle.pcie.exits = s.pcie.exits := keptPcie Pcie.exits (settle_rest s).2.2.1 fun _ => rfl
@[simp] theorem settle_pcie_replays (s : State) : s.settle.pcie.replays = s.pcie.replays := keptPcie Pcie.replays (settle_rest s).2.2.1 fun _ => rfl
@[simp] theorem settle_icu_ext (s : State) : s.settle.icu.ext = s.icu.ext := keptIcu Icu.ext (settle_rest s).2.1 fun _ => rfl
@[simp] theorem settle_icu_prio0 (s : State) : s.settle.icu.prio0 = s.icu.prio0 := keptIcu Icu.prio0 (settle_rest s).2.1 fun _ => rfl
@[simp] theorem settle_icu_prio1 (s : State) : s.settle.icu.prio1 = s.icu.prio1 := keptIcu Icu.prio1 (settle_rest s).2.1 fun _ => rfl
@[simp] theorem settle_icu_prio2 (s : State) : s.settle.icu.prio2 = s.icu.prio2 := keptIcu Icu.prio2 (settle_rest s).2.1 fun _ => rfl
@[simp] theorem settle_icu_vmap (s : State) : s.settle.icu.vmap = s.icu.vmap := keptIcu Icu.vmap (settle_rest s).2.1 fun _ => rfl
@[simp] theorem settle_hazelA_pend (s : State) : s.settle.icu.hazelA.pend = s.icu.hazelA.pend := keptIcu (fun u : Icu => u.hazelA.pend) (settle_rest s).2.1 fun _ => rfl
@[simp] theorem settle_hazelA_en (s : State) : s.settle.icu.hazelA.en = s.icu.hazelA.en := keptIcu (fun u : Icu => u.hazelA.en) (settle_rest s).2.1 fun _ => rfl
@[simp] theorem settle_hazelA_thresh (s : State) : s.settle.icu.hazelA.thresh = s.icu.hazelA.thresh := keptIcu (fun u : Icu => u.hazelA.thresh) (settle_rest s).2.1 fun _ => rfl
@[simp] theorem settle_hazelA_svc (s : State) : s.settle.icu.hazelA.svc = s.icu.hazelA.svc := keptIcu (fun u : Icu => u.hazelA.svc) (settle_rest s).2.1 fun _ => rfl
@[simp] theorem settle_hazelA_spurious (s : State) : s.settle.icu.hazelA.spurious = s.icu.hazelA.spurious := keptIcu (fun u : Icu => u.hazelA.spurious) (settle_rest s).2.1 fun _ => rfl
@[simp] theorem settle_hazelA_badComplete (s : State) : s.settle.icu.hazelA.badComplete = s.icu.hazelA.badComplete := keptIcu (fun u : Icu => u.hazelA.badComplete) (settle_rest s).2.1 fun _ => rfl
@[simp] theorem settle_hazelA_sleepAborted (s : State) : s.settle.icu.hazelA.sleepAborted = s.icu.hazelA.sleepAborted := keptIcu (fun u : Icu => u.hazelA.sleepAborted) (settle_rest s).2.1 fun _ => rfl
@[simp] theorem settle_hazelA_asleep (s : State) : s.settle.icu.hazelA.asleep = s.icu.hazelA.asleep := keptIcu (fun u : Icu => u.hazelA.asleep) (settle_rest s).2.1 fun _ => rfl
@[simp] theorem settle_hazelB_pend (s : State) : s.settle.icu.hazelB.pend = s.icu.hazelB.pend := keptIcu (fun u : Icu => u.hazelB.pend) (settle_rest s).2.1 fun _ => rfl
@[simp] theorem settle_hazelB_en (s : State) : s.settle.icu.hazelB.en = s.icu.hazelB.en := keptIcu (fun u : Icu => u.hazelB.en) (settle_rest s).2.1 fun _ => rfl
@[simp] theorem settle_hazelB_thresh (s : State) : s.settle.icu.hazelB.thresh = s.icu.hazelB.thresh := keptIcu (fun u : Icu => u.hazelB.thresh) (settle_rest s).2.1 fun _ => rfl
@[simp] theorem settle_hazelB_svc (s : State) : s.settle.icu.hazelB.svc = s.icu.hazelB.svc := keptIcu (fun u : Icu => u.hazelB.svc) (settle_rest s).2.1 fun _ => rfl
@[simp] theorem settle_hazelB_spurious (s : State) : s.settle.icu.hazelB.spurious = s.icu.hazelB.spurious := keptIcu (fun u : Icu => u.hazelB.spurious) (settle_rest s).2.1 fun _ => rfl
@[simp] theorem settle_hazelB_badComplete (s : State) : s.settle.icu.hazelB.badComplete = s.icu.hazelB.badComplete := keptIcu (fun u : Icu => u.hazelB.badComplete) (settle_rest s).2.1 fun _ => rfl
@[simp] theorem settle_hazelB_sleepAborted (s : State) : s.settle.icu.hazelB.sleepAborted = s.icu.hazelB.sleepAborted := keptIcu (fun u : Icu => u.hazelB.sleepAborted) (settle_rest s).2.1 fun _ => rfl
@[simp] theorem settle_hazelB_asleep (s : State) : s.settle.icu.hazelB.asleep = s.icu.hazelB.asleep := keptIcu (fun u : Icu => u.hazelB.asleep) (settle_rest s).2.1 fun _ => rfl
@[simp] theorem settle_pip_pend (s : State) : s.settle.icu.pip.pend = s.icu.pip.pend := keptIcu (fun u : Icu => u.pip.pend) (settle_rest s).2.1 fun _ => rfl
@[simp] theorem settle_pip_en (s : State) : s.settle.icu.pip.en = s.icu.pip.en := keptIcu (fun u : Icu => u.pip.en) (settle_rest s).2.1 fun _ => rfl
@[simp] theorem settle_pip_thresh (s : State) : s.settle.icu.pip.thresh = s.icu.pip.thresh := keptIcu (fun u : Icu => u.pip.thresh) (settle_rest s).2.1 fun _ => rfl
@[simp] theorem settle_pip_svc (s : State) : s.settle.icu.pip.svc = s.icu.pip.svc := keptIcu (fun u : Icu => u.pip.svc) (settle_rest s).2.1 fun _ => rfl
@[simp] theorem settle_pip_spurious (s : State) : s.settle.icu.pip.spurious = s.icu.pip.spurious := keptIcu (fun u : Icu => u.pip.spurious) (settle_rest s).2.1 fun _ => rfl
@[simp] theorem settle_pip_badComplete (s : State) : s.settle.icu.pip.badComplete = s.icu.pip.badComplete := keptIcu (fun u : Icu => u.pip.badComplete) (settle_rest s).2.1 fun _ => rfl
@[simp] theorem settle_pip_sleepAborted (s : State) : s.settle.icu.pip.sleepAborted = s.icu.pip.sleepAborted := keptIcu (fun u : Icu => u.pip.sleepAborted) (settle_rest s).2.1 fun _ => rfl
@[simp] theorem settle_pip_asleep (s : State) : s.settle.icu.pip.asleep = s.icu.pip.asleep := keptIcu (fun u : Icu => u.pip.asleep) (settle_rest s).2.1 fun _ => rfl
@[simp] theorem settle_host_pend (s : State) : s.settle.icu.host.pend = s.icu.host.pend := keptIcu (fun u : Icu => u.host.pend) (settle_rest s).2.1 fun _ => rfl
@[simp] theorem settle_host_en (s : State) : s.settle.icu.host.en = s.icu.host.en := keptIcu (fun u : Icu => u.host.en) (settle_rest s).2.1 fun _ => rfl
@[simp] theorem settle_host_thresh (s : State) : s.settle.icu.host.thresh = s.icu.host.thresh := keptIcu (fun u : Icu => u.host.thresh) (settle_rest s).2.1 fun _ => rfl
@[simp] theorem settle_host_svc (s : State) : s.settle.icu.host.svc = s.icu.host.svc := keptIcu (fun u : Icu => u.host.svc) (settle_rest s).2.1 fun _ => rfl
@[simp] theorem settle_host_spurious (s : State) : s.settle.icu.host.spurious = s.icu.host.spurious := keptIcu (fun u : Icu => u.host.spurious) (settle_rest s).2.1 fun _ => rfl
@[simp] theorem settle_host_badComplete (s : State) : s.settle.icu.host.badComplete = s.icu.host.badComplete := keptIcu (fun u : Icu => u.host.badComplete) (settle_rest s).2.1 fun _ => rfl
@[simp] theorem settle_host_sleepAborted (s : State) : s.settle.icu.host.sleepAborted = s.icu.host.sleepAborted := keptIcu (fun u : Icu => u.host.sleepAborted) (settle_rest s).2.1 fun _ => rfl
@[simp] theorem settle_host_asleep (s : State) : s.settle.icu.host.asleep = s.icu.host.asleep := keptIcu (fun u : Icu => u.host.asleep) (settle_rest s).2.1 fun _ => rfl

/-- Settling wakes Pip at most: a device that is not idle keeps its power state. -/
theorem settle_power (s : State) (h : s.husk.power ≠ .idle) : s.settle.husk.power = s.husk.power := by
  have a := settleIcu_rest s
  have b : s.settleIcu.wakePip.husk.power = s.settleIcu.husk.power := by
    unfold State.wakePip
    split
    · rename_i h0; rw [a.1] at h0; exact absurd h0 h
    · split <;> rfl
    · split <;> rfl
    · rfl
  unfold State.settle
  rw [(cfgPump_rest _).1, b, a.1]

theorem kept_power {h k : Husk} (e : h.kept = k.kept) (p : Power) (h1 : p ≠ .idle) (h2 : p ≠ .awake) : h.power = p ↔ k.power = p := by
  have e' : (if h.power = .awake then Power.idle else h.power) = if k.power = .awake then Power.idle else k.power := congrArg Husk.power e
  cases a : h.power <;> cases b : k.power <;> cases p <;> simp_all

/-- Settling enters and leaves neither power-on reset, nor Dormant, nor Main-on. -/
theorem settle_power_iff (s : State) (p : Power) (h1 : p ≠ .idle) (h2 : p ≠ .awake) : s.settle.husk.power = p ↔ s.husk.power = p :=
  kept_power (settle_rest s).1 p h1 h2

/-- Settling leaves the board and MRAM alone while no configuration command waits for Pip. -/
theorem settle_board (s : State) (h : s.board.cfgHeld = 0) : s.settle.board = s.board ∧ s.settle.mram = s.mram := (settle_rest s).2.2.2 h

/-! ### Frames of updates -/

theorem Only.refl (l : List Part) (s : State) : Only l s s :=
  ⟨rfl, fun p _ => by cases p <;> first | rfl | exact ⟨rfl, rfl, rfl⟩ | exact ⟨rfl, rfl⟩ | exact fun _ => rfl⟩

theorem only_begin (l : List Part) (s : State) : Only l s s.begin := Only.refl l s

theorem Only.trans {l : List Part} {s t u : State} (h : Only l s t) (k : Only l t u) (hb : .board ∈ l → .mram ∈ l) : Only l s u := by
  refine ⟨k.1.trans h.1, fun p hp => ?_⟩
  have a := h.2 p hp
  have b := k.2 p hp
  cases p <;> simp only [Part.same] at a b ⊢
  case board => intro h0; have e := a h0; exact (b (by rw [e]; exact h0)).trans e
  case mram =>
    intro h0
    have e : t.board = s.board := h.2 .board (fun x => hp (hb x)) h0
    exact (b (by rw [e]; exact h0)).trans (a h0)
  case ready => exact ⟨b.1.trans a.1, b.2.1.trans a.2.1, b.2.2.trans a.2.2⟩
  case mbx => exact ⟨b.1.trans a.1, b.2.1.trans a.2.1, b.2.2.trans a.2.2⟩
  case memory => exact ⟨b.1.trans a.1, b.2.trans a.2⟩
  all_goals exact b.trans a

theorem Only.mono {l m : List Part} {s t : State} (h : Only l s t) (hm : ∀ p, p ∈ l → p ∈ m) : Only m s t :=
  ⟨h.1, fun p hp => h.2 p fun x => hp (hm p x)⟩

theorem only_husk (s : State) (h : Husk) : Only [.husk] s { s with husk := h } := by
  refine ⟨rfl, fun p hp => ?_⟩
  cases p <;> first | rfl | exact ⟨rfl, rfl, rfl⟩ | exact ⟨rfl, rfl⟩ | exact fun _ => rfl | exact absurd (by decide) hp

theorem only_plls (s : State) (h : List (Nat × PllState)) : Only [.plls] s { s with plls := h } := by
  refine ⟨rfl, fun p hp => ?_⟩
  cases p <;> first | rfl | exact ⟨rfl, rfl, rfl⟩ | exact ⟨rfl, rfl⟩ | exact fun _ => rfl | exact absurd (by decide) hp

theorem only_vtc (s : State) (h : Vtc) : Only [.vtc] s { s with vtc := h } := by
  refine ⟨rfl, fun p hp => ?_⟩
  cases p <;> first | rfl | exact ⟨rfl, rfl, rfl⟩ | exact ⟨rfl, rfl⟩ | exact fun _ => rfl | exact absurd (by decide) hp

theorem only_pac (s : State) (h : Pac) : Only [.pac] s { s with pac := h } := by
  refine ⟨rfl, fun p hp => ?_⟩
  cases p <;> first | rfl | exact ⟨rfl, rfl, rfl⟩ | exact ⟨rfl, rfl⟩ | exact fun _ => rfl | exact absurd (by decide) hp

theorem only_pcie (s : State) (h : Pcie) : Only [.pcie] s { s with pcie := h } := by
  refine ⟨rfl, fun p hp => ?_⟩
  cases p <;> first | rfl | exact ⟨rfl, rfl, rfl⟩ | exact ⟨rfl, rfl⟩ | exact fun _ => rfl | exact absurd (by decide) hp

theorem only_icu (s : State) (h : Icu) : Only [.icu] s { s with icu := h } := by
  refine ⟨rfl, fun p hp => ?_⟩
  cases p <;> first | rfl | exact ⟨rfl, rfl, rfl⟩ | exact ⟨rfl, rfl⟩ | exact fun _ => rfl | exact absurd (by decide) hp

theorem only_flt (s : State) (h : Flt) : Only [.flt] s { s with flt := h } := by
  refine ⟨rfl, fun p hp => ?_⟩
  cases p <;> first | rfl | exact ⟨rfl, rfl, rfl⟩ | exact ⟨rfl, rfl⟩ | exact fun _ => rfl | exact absurd (by decide) hp

theorem only_bankM (s : State) (h : BankM) : Only [.bankM] s { s with bankM := h } := by
  refine ⟨rfl, fun p hp => ?_⟩
  cases p <;> first | rfl | exact ⟨rfl, rfl, rfl⟩ | exact ⟨rfl, rfl⟩ | exact fun _ => rfl | exact absurd (by decide) hp

theorem only_latches (s : State) (h : List (Nat × Nat)) : Only [.latches] s { s with latches := h } := by
  refine ⟨rfl, fun p hp => ?_⟩
  cases p <;> first | rfl | exact ⟨rfl, rfl, rfl⟩ | exact ⟨rfl, rfl⟩ | exact fun _ => rfl | exact absurd (by decide) hp

theorem only_hazel (s : State) (h : Hazel) : Only [.hazel] s { s with hazel := h } := by
  refine ⟨rfl, fun p hp => ?_⟩
  cases p <;> first | rfl | exact ⟨rfl, rfl, rfl⟩ | exact ⟨rfl, rfl⟩ | exact fun _ => rfl | exact absurd (by decide) hp

theorem only_dram (s : State) (h : List (Nat × Stack)) : Only [.dram] s { s with dram := h } := by
  refine ⟨rfl, fun p hp => ?_⟩
  cases p <;> first | rfl | exact ⟨rfl, rfl, rfl⟩ | exact ⟨rfl, rfl⟩ | exact fun _ => rfl | exact absurd (by decide) hp

theorem only_lfs (s : State) (h : Lfs) : Only [.lfs] s { s with lfs := h } := by
  refine ⟨rfl, fun p hp => ?_⟩
  cases p <;> first | rfl | exact ⟨rfl, rfl, rfl⟩ | exact ⟨rfl, rfl⟩ | exact fun _ => rfl | exact absurd (by decide) hp

theorem only_scrub (s : State) (h : Scrub) : Only [.scrub] s { s with scrub := h } := by
  refine ⟨rfl, fun p hp => ?_⟩
  cases p <;> first | rfl | exact ⟨rfl, rfl, rfl⟩ | exact ⟨rfl, rfl⟩ | exact fun _ => rfl | exact absurd (by decide) hp

theorem only_mram (s : State) (h : Mram) : Only [.mram] s { s with mram := h } := by
  refine ⟨rfl, fun p hp => ?_⟩
  cases p <;> first | rfl | exact ⟨rfl, rfl, rfl⟩ | exact ⟨rfl, rfl⟩ | exact fun _ => rfl | exact absurd (by decide) hp

theorem only_fab (s : State) (h : List (Nat × FabPort)) : Only [.fab] s { s with fab := h } := by
  refine ⟨rfl, fun p hp => ?_⟩
  cases p <;> first | rfl | exact ⟨rfl, rfl, rfl⟩ | exact ⟨rfl, rfl⟩ | exact fun _ => rfl | exact absurd (by decide) hp

theorem only_dma (s : State) (h : List (Nat × Dma)) : Only [.dma] s { s with dma := h } := by
  refine ⟨rfl, fun p hp => ?_⟩
  cases p <;> first | rfl | exact ⟨rfl, rfl, rfl⟩ | exact ⟨rfl, rfl⟩ | exact fun _ => rfl | exact absurd (by decide) hp

theorem only_pipes (s : State) (h : List (Nat × Pipe)) : Only [.pipes] s { s with pipes := h } := by
  refine ⟨rfl, fun p hp => ?_⟩
  cases p <;> first | rfl | exact ⟨rfl, rfl, rfl⟩ | exact ⟨rfl, rfl⟩ | exact fun _ => rfl | exact absurd (by decide) hp

theorem only_ptp (s : State) (h : Ptp) : Only [.ptp] s { s with ptp := h } := by
  refine ⟨rfl, fun p hp => ?_⟩
  cases p <;> first | rfl | exact ⟨rfl, rfl, rfl⟩ | exact ⟨rfl, rfl⟩ | exact fun _ => rfl | exact absurd (by decide) hp

theorem only_lanes (s : State) (h : List (Nat × Lane)) : Only [.lanes] s { s with lanes := h } := by
  refine ⟨rfl, fun p hp => ?_⟩
  cases p <;> first | rfl | exact ⟨rfl, rfl, rfl⟩ | exact ⟨rfl, rfl⟩ | exact fun _ => rfl | exact absurd (by decide) hp

theorem only_flows (s : State) (h : List (Nat × Flow)) : Only [.flows] s { s with flows := h } := by
  refine ⟨rfl, fun p hp => ?_⟩
  cases p <;> first | rfl | exact ⟨rfl, rfl, rfl⟩ | exact ⟨rfl, rfl⟩ | exact fun _ => rfl | exact absurd (by decide) hp

theorem only_entries (s : State) (h : List (Nat × Entry)) : Only [.entries] s { s with entries := h } := by
  refine ⟨rfl, fun p hp => ?_⟩
  cases p <;> first | rfl | exact ⟨rfl, rfl, rfl⟩ | exact ⟨rfl, rfl⟩ | exact fun _ => rfl | exact absurd (by decide) hp

theorem only_sched (s : State) (h : List (Nat × Sched)) : Only [.sched] s { s with sched := h } := by
  refine ⟨rfl, fun p hp => ?_⟩
  cases p <;> first | rfl | exact ⟨rfl, rfl, rfl⟩ | exact ⟨rfl, rfl⟩ | exact fun _ => rfl | exact absurd (by decide) hp

theorem only_events (s : State) (h : List (Nat × Events)) : Only [.events] s { s with events := h } := by
  refine ⟨rfl, fun p hp => ?_⟩
  cases p <;> first | rfl | exact ⟨rfl, rfl, rfl⟩ | exact ⟨rfl, rfl⟩ | exact fun _ => rfl | exact absurd (by decide) hp

theorem only_board (s : State) (h : Board) : Only [.board] s { s with board := h } := by
  refine ⟨rfl, fun p hp => ?_⟩
  cases p <;> first | rfl | exact ⟨rfl, rfl, rfl⟩ | exact ⟨rfl, rfl⟩ | exact fun _ => rfl | exact absurd (by decide) hp

theorem only_mbx (s : State) (h : List (Nat × Mbx)) : Only [.mbx] s { s with mbx := h } := by
  refine ⟨rfl, fun p hp => ?_⟩
  cases p <;> first | rfl | exact ⟨rfl, rfl, rfl⟩ | exact ⟨rfl, rfl⟩ | exact fun _ => rfl | exact absurd (by decide) hp

end Sys2Proof.Machine
end

