-- ==== Sys2Proof/Laws/Access.lean ====
section
/-! SUPPORT. What the functions that read the state answer at the beginning of a command and after it has settled. -/

namespace Sys2Proof.Machine

/-! ### At the beginning of a command -/

@[simp] theorem begin_slowTicks (s : State) : s.begin.slowTicks = s.slowTicks := by
  simp [State.slowTicks]

@[simp] theorem begin_freeVal (s : State) : s.begin.freeVal = s.freeVal := by
  simp [State.freeVal]

@[simp] theorem begin_ready (s : State) (i : Nat) : s.begin.ready i = s.ready i := by
  simp [State.ready]

@[simp] theorem begin_mainOn (s : State) : s.begin.mainOn = s.mainOn := by
  simp [State.mainOn]

@[simp] theorem begin_hostUp (s : State) : s.begin.hostUp = s.hostUp := by
  simp [State.hostUp]

@[simp] theorem begin_pll (s : State) (p : Nat) : s.begin.pll p = s.pll p := by
  simp [State.pll]

@[simp] theorem begin_box (s : State) (m : Nat) : s.begin.box m = s.box m := by
  simp [State.box]

@[simp] theorem begin_fltSrc (s : State) (i : Nat) : s.begin.fltSrc i = s.fltSrc i := by
  simp [State.fltSrc]

@[simp] theorem begin_stack (s : State) (i : Nat) : s.begin.stack i = s.stack i := by
  simp [State.stack]

@[simp] theorem begin_chan (s : State) (i : Nat) : s.begin.chan i = s.chan i := by
  simp [State.chan]

@[simp] theorem begin_port16 (s : State) (i : Nat) : s.begin.port16 i = s.port16 i := by
  simp [State.port16]

@[simp] theorem begin_queue (s : State) (k : Nat) : s.begin.queue k = s.queue k := by
  simp [State.queue]

@[simp] theorem begin_pipe (s : State) (n : Nat) : s.begin.pipe n = s.pipe n := by
  simp [State.pipe]

@[simp] theorem begin_lane (s : State) (n : Nat) : s.begin.lane n = s.lane n := by
  simp [State.lane]

@[simp] theorem begin_flow (s : State) (f : Nat) : s.begin.flow f = s.flow f := by
  simp [State.flow]

@[simp] theorem begin_entry (s : State) (e : Nat) : s.begin.entry e = s.entry e := by
  simp [State.entry]

@[simp] theorem begin_session (s : State) (i : Nat) : s.begin.session i = s.session i := by
  simp [State.session]

@[simp] theorem begin_pod (s : State) (h : Nat) : s.begin.pod h = s.pod h := by
  simp [State.pod]

@[simp] theorem begin_logTime (s : State) : s.begin.logTime = s.logTime := by
  simp [State.logTime]

@[simp] theorem begin_chargeOf (s : State) (r : Requester) : s.begin.chargeOf r = s.chargeOf r := by
  simp [State.chargeOf]

@[simp] theorem begin_baselines (s : State) : s.begin.baselines = s.baselines := by
  simp [State.baselines]

@[simp] theorem begin_baselineUse (s : State) : s.begin.baselineUse = s.baselineUse := by
  simp [State.baselineUse]

@[simp] theorem begin_pacUse (s : State) : s.begin.pacUse = s.pacUse := by
  simp [State.pacUse]

@[simp] theorem begin_pacFits (s : State) (r : Requester) : s.begin.pacFits r = s.pacFits r := by
  simp [State.pacFits]

@[simp] theorem begin_pacBars (s : State) (r : Requester) : s.begin.pacBars r = s.pacBars r := by
  simp [State.pacBars]

@[simp] theorem begin_pacGrantable (s : State) (q : PacReq) : s.begin.pacGrantable q = s.pacGrantable q := by
  simp [State.pacGrantable]

@[simp] theorem begin_pipeBusy (s : State) (n : Nat) : s.begin.pipeBusy n = s.pipeBusy n := by
  simp [State.pipeBusy]

@[simp] theorem begin_entryNow (s : State) (kind src : Nat) : s.begin.entryNow kind src = s.entryNow kind src := by
  simp [State.entryNow]

@[simp] theorem begin_pentry (s : State) (kind src : Nat) : s.begin.pentry kind src = s.pentry kind src := by
  simp [State.pentry]

@[simp] theorem begin_reactMask (s : State) (i : Nat) : s.begin.reactMask i = s.reactMask i := by
  simp [State.reactMask]

@[simp] theorem begin_hazelUp (s : State) : s.begin.hazelUp = s.hazelUp := by
  simp [State.hazelUp]

@[simp] theorem begin_canRecord (s : State) (src : Nat) (husk : Bool) : s.begin.canRecord src husk = s.canRecord src husk := by
  simp [State.canRecord]

@[simp] theorem begin_openWith (s : State) (b : Nat) : s.begin.openWith b = s.openWith b := by
  simp [State.openWith]

@[simp] theorem begin_errLow (s : State) : s.begin.errLow = s.errLow := by
  simp [State.errLow]

@[simp] theorem begin_mark (s : State) (w : Nat) : s.begin.mark w = s.mark w := by
  simp [State.mark]

@[simp] theorem begin_unspecified (s : State) (a : Nat) : s.begin.unspecified a = s.unspecified a := by
  simp [State.unspecified]

@[simp] theorem begin_byteAt (s : State) (a i : Nat) : s.begin.byteAt a i = s.byteAt a i := by
  simp [State.byteAt]

@[simp] theorem begin_bytesAt (s : State) (a n : Nat) : s.begin.bytesAt a n = s.bytesAt a n := by
  simp [State.bytesAt]

@[simp] theorem begin_writtenMark (s : State) (a : Nat) : s.begin.writtenMark a = s.writtenMark a := by
  simp [State.writtenMark]

@[simp] theorem begin_awake (s : State) (n : Nat) : s.begin.awake n = s.awake n := by
  simp [State.awake]

@[simp] theorem begin_asleep (s : State) (n : Nat) : s.begin.asleep n = s.asleep n := by
  simp [State.asleep]

@[simp] theorem begin_dramReady (s : State) (a n : Nat) : s.begin.dramReady a n = s.dramReady a n := by
  simp [State.dramReady]

@[simp] theorem begin_pipWorks (s : State) : s.begin.pipWorks = s.pipWorks := by
  simp [State.pipWorks]

@[simp] theorem begin_raw (s : State) (a n : Nat) : s.begin.raw a n = s.raw a n := by
  simp [State.raw]

@[simp] theorem begin_ringUsed (s : State) (addr : Nat) : s.begin.ringUsed addr = s.ringUsed addr := by
  simp [State.ringUsed]

@[simp] theorem begin_captureHigh (s : State) (f : Flow) : s.begin.captureHigh f = s.captureHigh f := by
  simp [State.captureHigh]

@[simp] theorem begin_pipWork (s : State) : s.begin.pipWork = s.pipWork := by
  simp [State.pipWork]

@[simp] theorem begin_dmaCheck (s : State) (n : Nat) (d : Dma) : s.begin.dmaCheck n d = s.dmaCheck n d := by
  simp [State.dmaCheck]

@[simp] theorem begin_service (s : State) (a : Nat) : s.begin.service a = s.service a := by
  simp [State.service]

@[simp] theorem begin_dmaService (s : State) (d : Dma) : s.begin.dmaService d = s.dmaService d := by
  simp [State.dmaService]

@[simp] theorem begin_dmaOwner (s : State) (n : Nat) : s.begin.dmaOwner n = s.dmaOwner n := by
  simp [State.dmaOwner]

@[simp] theorem begin_ringAwake (s : State) (sess : Nat) : s.begin.ringAwake sess = s.ringAwake sess := by
  simp [State.ringAwake]

@[simp] theorem begin_ptpWord (s : State) : s.begin.ptpWord = s.ptpWord := by
  simp [State.ptpWord]

@[simp] theorem begin_batchOf (s : State) (sess status : Nat) (x : Session) (r : Run) : s.begin.batchOf sess status x r = s.batchOf sess status x r := by
  simp [State.batchOf]

@[simp] theorem begin_pclk (s : State) : s.begin.pclk = s.pclk := by
  simp [State.pclk]

@[simp] theorem begin_huskUp (s : State) : s.begin.huskUp = s.huskUp := by
  simp [State.huskUp]

@[simp] theorem begin_pipServes (s : State) : s.begin.pipServes = s.pipServes := by
  simp [State.pipServes]

@[simp] theorem begin_warnC (s : State) : s.begin.warnC = s.warnC := by
  simp [State.warnC]

@[simp] theorem begin_heldHot (s : State) : s.begin.heldHot = s.heldHot := by
  simp [State.heldHot]

@[simp] theorem begin_offInProgress (s : State) : s.begin.offInProgress = s.offInProgress := by
  simp [State.offInProgress]

@[simp] theorem begin_cfgSpace (s : State) (o : Nat) : s.begin.cfgSpace o = s.cfgSpace o := by
  simp [State.cfgSpace]

@[simp] theorem begin_boxClosed (s : State) (m : Nat) : s.begin.boxClosed m = s.boxClosed m := by
  simp [State.boxClosed]

@[simp] theorem begin_fullMap (s : State) : s.begin.fullMap = s.fullMap := by
  simp [State.fullMap]

@[simp] theorem begin_mbxUp (s : State) : s.begin.mbxUp = s.mbxUp := by
  simp [State.mbxUp]

@[simp] theorem begin_senderUp (s : State) (m : Nat) : s.begin.senderUp m = s.senderUp m := by
  simp [State.senderUp]

@[simp] theorem begin_receiverUp (s : State) (m : Nat) : s.begin.receiverUp m = s.receiverUp m := by
  simp [State.receiverUp]

@[simp] theorem begin_fwUp (s : State) : s.begin.fwUp = s.fwUp := by
  simp [State.fwUp]

@[simp] theorem begin_cflags (s : State) (c : Cmd) : s.begin.cflags c = s.cflags c := by
  simp [State.cflags]

@[simp] theorem begin_recordBytes (s : State) (c : Cmd) : s.begin.recordBytes c = s.recordBytes c := by
  simp [State.recordBytes]

@[simp] theorem begin_unposted (s : State) (k : Nat) : s.begin.unposted k = s.unposted k := by
  simp [State.unposted]

@[simp] theorem begin_inFlight (s : State) (k : Nat) : s.begin.inFlight k = s.inFlight k := by
  simp [State.inFlight]

@[simp] theorem begin_fenceOpen (s : State) (i : Nat) (c : Cmd) : s.begin.fenceOpen i c = s.fenceOpen i c := by
  simp [State.fenceOpen]

@[simp] theorem begin_starts (s : State) (k op : Nat) : s.begin.starts k op = s.starts k op := by
  simp [State.starts]

@[simp] theorem begin_sleeping (s : State) (h : Shape) : s.begin.sleeping h = s.sleeping h := by
  simp [State.sleeping]

@[simp] theorem begin_deadStack (s : State) (h : Shape) : s.begin.deadStack h = s.deadStack h := by
  simp [State.deadStack]

@[simp] theorem begin_portGo (s : State) (port mode : Nat) : s.begin.portGo port mode = s.portGo port mode := by
  simp [State.portGo]

@[simp] theorem begin_firstOfSession (s : State) (i : Nat) (c : Cmd) : s.begin.firstOfSession i c = s.firstOfSession i c := by
  simp [State.firstOfSession]

@[simp] theorem begin_inTest (s : State) (n : Nat) : s.begin.inTest n = s.inTest n := by
  simp [State.inTest]

@[simp] theorem begin_canAbort (s : State) (n : Nat) : s.begin.canAbort n = s.canAbort n := by
  simp [State.canAbort]

@[simp] theorem begin_sessionBusy (s : State) (i sess : Nat) : s.begin.sessionBusy i sess = s.sessionBusy i sess := by
  simp [State.sessionBusy]

@[simp] theorem begin_coreClass (s : State) : s.begin.coreClass = s.coreClass := by
  simp [State.coreClass]

@[simp] theorem begin_quadClass (s : State) (q : Nat) : s.begin.quadClass q = s.quadClass q := by
  simp [State.quadClass]

@[simp] theorem begin_pllClass (s : State) (p : Pll) : s.begin.pllClass p = s.pllClass p := by
  simp [State.pllClass]

@[simp] theorem begin_pllUnused (s : State) (p : Pll) : s.begin.pllUnused p = s.pllUnused p := by
  simp [State.pllUnused]

@[simp] theorem begin_laneClock (s : State) (n : Nat) : s.begin.laneClock n = s.laneClock n := by
  simp [State.laneClock]

@[simp] theorem begin_vtcPresent (s : State) : s.begin.vtcPresent = s.vtcPresent := by
  simp [State.vtcPresent]

@[simp] theorem begin_vtcFamily (s : State) : s.begin.vtcFamily = s.vtcFamily := by
  simp [State.vtcFamily]

@[simp] theorem begin_burstRegion (s : State) (c : Cmd) : s.begin.burstRegion c = s.burstRegion c := by
  simp [State.burstRegion]

@[simp] theorem begin_dmaTouches (s : State) (n : Nat) : s.begin.dmaTouches n = s.dmaTouches n := by
  simp [State.dmaTouches]

@[simp] theorem begin_scrubbable (s : State) (n : Nat) : s.begin.scrubbable n = s.scrubbable n := by
  simp [State.scrubbable]

@[simp] theorem begin_handover (s : State) (epoch : Nat) : s.begin.handover epoch = s.handover epoch := by
  simp [State.handover]

@[simp] theorem begin_causeGone (s : State) (src : Nat) : s.begin.causeGone src = s.causeGone src := by
  simp [State.causeGone]

@[simp] theorem begin_plogAllows (s : State) (e : PEntry) : s.begin.plogAllows e = s.plogAllows e := by
  simp [State.plogAllows]

@[simp] theorem begin_tgt (s : State) (t : Target) : s.begin.tgt t = s.tgt t := by
  simp [State.tgt]

@[simp] theorem begin_viewUp (s : State) (t : Target) : s.begin.viewUp t = s.viewUp t := by
  simp [State.viewUp]

@[simp] theorem begin_claimable (s : State) (t : Target) (v : Nat) : s.begin.claimable t v = s.claimable t v := by
  simp [State.claimable]

@[simp] theorem begin_notifiedAt (s : State) (t : Target) (v : Nat) : s.begin.notifiedAt t v = s.notifiedAt t v := by
  simp [State.notifiedAt]

@[simp] theorem begin_ptpUp (s : State) : s.begin.ptpUp = s.ptpUp := by
  simp [State.ptpUp]

@[simp] theorem begin_latch (s : State) (p : Path) (a : Nat) : s.begin.latch p a = s.latch p a := by
  simp [State.latch]

@[simp] theorem begin_devReg (s : State) (o : Nat) : s.begin.devReg o = s.devReg o := by
  simp [State.devReg]

@[simp] theorem begin_alarmLeft (s : State) : s.begin.alarmLeft = s.alarmLeft := by
  simp [State.alarmLeft]

@[simp] theorem begin_hskReg (s : State) (o : Nat) : s.begin.hskReg o = s.hskReg o := by
  simp [State.hskReg]

@[simp] theorem begin_selected (s : State) : s.begin.selected = s.selected := by
  simp [State.selected]

@[simp] theorem begin_pacStatus (s : State) : s.begin.pacStatus = s.pacStatus := by
  simp [State.pacStatus]

@[simp] theorem begin_pacReg (s : State) (o : Nat) : s.begin.pacReg o = s.pacReg o := by
  simp [State.pacReg]

@[simp] theorem begin_activeWord (s : State) (i : Nat) : s.begin.activeWord i = s.activeWord i := by
  simp [State.activeWord]

@[simp] theorem begin_fltStatus (s : State) : s.begin.fltStatus = s.fltStatus := by
  simp [State.fltStatus]

@[simp] theorem begin_reactWord (s : State) (i : Nat) : s.begin.reactWord i = s.reactWord i := by
  simp [State.reactWord]

@[simp] theorem begin_fltReg (s : State) (o : Nat) : s.begin.fltReg o = s.fltReg o := by
  simp [State.fltReg]

@[simp] theorem begin_icuReg (s : State) (t : Target) (o : Nat) : s.begin.icuReg t o = s.icuReg t o := by
  simp [State.icuReg]

@[simp] theorem begin_dmaReg (s : State) (n o : Nat) : s.begin.dmaReg n o = s.dmaReg n o := by
  simp [State.dmaReg]

@[simp] theorem begin_fabReg (s : State) (o : Nat) : s.begin.fabReg o = s.fabReg o := by
  simp [State.fabReg]

@[simp] theorem begin_ptpReg (s : State) (p : Path) (o : Nat) : s.begin.ptpReg p o = s.ptpReg p o := by
  simp [State.ptpReg]

@[simp] theorem begin_vtcReg (s : State) (o : Nat) : s.begin.vtcReg o = s.vtcReg o := by
  simp [State.vtcReg]

@[simp] theorem begin_msixReg (s : State) (o : Nat) : s.begin.msixReg o = s.msixReg o := by
  simp [State.msixReg]

@[simp] theorem begin_laneStatus (s : State) (n : Nat) : s.begin.laneStatus n = s.laneStatus n := by
  simp [State.laneStatus]

@[simp] theorem begin_flowStatus (s : State) (i : Nat) : s.begin.flowStatus i = s.flowStatus i := by
  simp [State.flowStatus]

@[simp] theorem begin_portReserved (s : State) (p : Nat) : s.begin.portReserved p = s.portReserved p := by
  simp [State.portReserved]

@[simp] theorem begin_entryAge (s : State) (e : Entry) : s.begin.entryAge e = s.entryAge e := by
  simp [State.entryAge]

@[simp] theorem begin_entryWord (s : State) (i o : Nat) : s.begin.entryWord i o = s.entryWord i o := by
  simp [State.entryWord]

@[simp] theorem begin_windowWord (s : State) (a : Nat) : s.begin.windowWord a = s.windowWord a := by
  simp [State.windowWord]

@[simp] theorem begin_mbxReg (s : State) (m o : Nat) : s.begin.mbxReg m o = s.mbxReg m o := by
  simp [State.mbxReg]

@[simp] theorem begin_plogData (s : State) : s.begin.plogData = s.plogData := by
  simp [State.plogData]

@[simp] theorem begin_boardReg (s : State) (a : Nat) : s.begin.boardReg a = s.boardReg a := by
  simp [State.boardReg]

@[simp] theorem begin_pathUp (s : State) (p : Path) : s.begin.pathUp p = s.pathUp p := by
  simp [State.pathUp]

@[simp] theorem begin_lacking (s : State) (bits : List Nat) : s.begin.lacking bits = s.lacking bits := by
  simp [State.lacking]

@[simp] theorem begin_identity (s : State) : s.begin.identity = s.identity := by
  simp [State.identity]

@[simp] theorem begin_versions (s : State) : s.begin.versions = s.versions := by
  simp [State.versions]

@[simp] theorem begin_depthOf (s : State) (k : Nat) : s.begin.depthOf k = s.depthOf k := by
  simp [State.depthOf]

@[simp] theorem begin_otherDepths (s : State) (k : Nat) : s.begin.otherDepths k = s.otherDepths k := by
  simp [State.otherDepths]

@[simp] theorem begin_queueWord (s : State) (k : Nat) : s.begin.queueWord k = s.queueWord k := by
  simp [State.queueWord]

@[simp] theorem begin_jobsInFlight (s : State) : s.begin.jobsInFlight = s.jobsInFlight := by
  simp [State.jobsInFlight]

@[simp] theorem begin_resetBad (s : State) (a : Nat) : s.begin.resetBad a = s.resetBad a := by
  simp [State.resetBad]

@[simp] theorem begin_deferredEntry (s : State) (k seq : Nat) : s.begin.deferredEntry k seq = s.deferredEntry k seq := by
  simp [State.deferredEntry]

@[simp] theorem begin_noticeGone (s : State) (e : Nat × Nat × Nat × Deferred) : s.begin.noticeGone e = s.noticeGone e := by
  simp [State.noticeGone]

@[simp] theorem begin_recordGone (s : State) (e : Nat × Nat × Nat × Deferred) : s.begin.recordGone e = s.recordGone e := by
  simp [State.recordGone]

@[simp] theorem begin_podFits (s : State) (x : Session) (h kind : Nat) : s.begin.podFits x h kind = s.podFits x h kind := by
  simp [State.podFits]

@[simp] theorem begin_allotsOn (s : State) (n : Nat) : s.begin.allotsOn n = s.allotsOn n := by
  simp [State.allotsOn]

@[simp] theorem begin_allotFits (s : State) (n : Nat) (lead : Bool) (ps : List (Nat × Bool)) : s.begin.allotFits n lead ps = s.allotFits n lead ps := by
  simp [State.allotFits]

@[simp] theorem begin_gangFits (s : State) (x : Session) (n : Nat) : s.begin.gangFits x n = s.gangFits x n := by
  simp [State.gangFits]

@[simp] theorem begin_pipeChoices (s : State) (x : Session) : s.begin.pipeChoices x = s.pipeChoices x := by
  simp [State.pipeChoices]

@[simp] theorem begin_sessionChoices (s : State) (x : Session) : s.begin.sessionChoices x = s.sessionChoices x := by
  simp [State.sessionChoices]

@[simp] theorem begin_openBar (s : State) (x : Session) : s.begin.openBar x = s.openBar x := by
  simp [State.openBar]

@[simp] theorem begin_setShape (s : State) (c : Cmd) : s.begin.setShape c = s.setShape c := by
  simp [State.setShape]

@[simp] theorem begin_sessionBlock (s : State) (i : Nat) : s.begin.sessionBlock i = s.sessionBlock i := by
  simp [State.sessionBlock]

@[simp] theorem begin_sample8 (s : State) (base f pitch w h p x y : Nat) : s.begin.sample8 base f pitch w h p x y = s.sample8 base f pitch w h p x y := by
  simp [State.sample8]

@[simp] theorem begin_diffs (s : State) (m : Measure) (p : Nat) : s.begin.diffs m p = s.diffs m p := by
  simp [State.diffs]

@[simp] theorem begin_compared (s : State) (m : Measure) : s.begin.compared m = s.compared m := by
  simp [State.compared]

@[simp] theorem begin_fresh (s : State) (k : Nat) : s.begin.fresh k = s.fresh k := by
  simp [State.fresh]

@[simp] theorem begin_psnrOf (s : State) (m : Measure) (p : Nat) : s.begin.psnrOf m p = s.psnrOf m p := by
  simp [State.psnrOf]

@[simp] theorem begin_measured (s : State) (m : Measure) : s.begin.measured m = s.measured m := by
  simp [State.measured]

@[simp] theorem begin_libraryEnc (s : State) (x : Session) : s.begin.libraryEnc x = s.libraryEnc x := by
  simp [State.libraryEnc]

@[simp] theorem begin_encoded (s : State) (x : Session) (r : Run) (c : Cmd) : s.begin.encoded x r c = s.encoded x r c := by
  simp [State.encoded]

@[simp] theorem begin_decoded (s : State) (r : Run) (c : Cmd) : s.begin.decoded r c = s.decoded r c := by
  simp [State.decoded]

@[simp] theorem begin_metrics (s : State) (x : Session) (r : Run) (c : Cmd) (status : Nat) : s.begin.metrics x r c status = s.metrics x r c status := by
  simp [State.metrics]

@[simp] theorem begin_carryOn (s : State) (x : Session) (c : Cmd) : s.begin.carryOn x c = s.carryOn x c := by
  simp [State.carryOn]

@[simp] theorem begin_runningJob (s : State) (sess : Nat) : s.begin.runningJob sess = s.runningJob sess := by
  simp [State.runningJob]

@[simp] theorem begin_cancelTarget (s : State) (c : Cmd) : s.begin.cancelTarget c = s.cancelTarget c := by
  simp [State.cancelTarget]

@[simp] theorem begin_libEntry (s : State) (id : Nat) : s.begin.libEntry id = s.libEntry id := by
  simp [State.libEntry]

@[simp] theorem begin_podBytes (s : State) : s.begin.podBytes = s.podBytes := by
  simp [State.podBytes]

@[simp] theorem begin_freeHandles (s : State) : s.begin.freeHandles = s.freeHandles := by
  simp [State.freeHandles]

@[simp] theorem begin_podUsed (s : State) (h : Nat) : s.begin.podUsed h = s.podUsed h := by
  simp [State.podUsed]

@[simp] theorem begin_libraryUsed (s : State) (id : Nat) : s.begin.libraryUsed id = s.libraryUsed id := by
  simp [State.libraryUsed]

@[simp] theorem begin_libraryPlace (s : State) (id n : Nat) : s.begin.libraryPlace id n = s.libraryPlace id n := by
  simp [State.libraryPlace]

@[simp] theorem begin_encodeShape (s : State) (c : Cmd) (loop : Bool) : s.begin.encodeShape c loop = s.encodeShape c loop := by
  simp [State.encodeShape]

@[simp] theorem begin_decodeShape (s : State) (c : Cmd) : s.begin.decodeShape c = s.decodeShape c := by
  simp [State.decodeShape]

@[simp] theorem begin_thread (s : State) (n t : Nat) : s.begin.thread n t = s.thread n t := by
  simp [State.thread]

@[simp] theorem begin_pinned (s : State) (n h g : Nat) : s.begin.pinned n h g = s.pinned n h g := by
  simp [State.pinned]

@[simp] theorem begin_pageSlot (s : State) (n : Nat) : s.begin.pageSlot n = s.pageSlot n := by
  simp [State.pageSlot]

@[simp] theorem begin_startable (s : State) (n i : Nat) : s.begin.startable n i = s.startable n i := by
  simp [State.startable]

@[simp] theorem begin_threadsEnded (s : State) (sess : Nat) : s.begin.threadsEnded sess = s.threadsEnded sess := by
  simp [State.threadsEnded]

@[simp] theorem begin_endWaits (s : State) (sess : Nat) (c : Cmd) : s.begin.endWaits sess c = s.endWaits sess c := by
  simp [State.endWaits]

@[simp] theorem begin_counterOf (s : State) (n : Nat) (x : Thread) (gang : Bool) (i : Nat) : s.begin.counterOf n x gang i = s.counterOf n x gang i := by
  simp [State.counterOf]

@[simp] theorem begin_stuck (s : State) (n : Nat) (x : Thread) : s.begin.stuck n x = s.stuck n x := by
  simp [State.stuck]

@[simp] theorem begin_jobThreads (s : State) (sess : Nat) : s.begin.jobThreads sess = s.jobThreads sess := by
  simp [State.jobThreads]

@[simp] theorem begin_pageRange (s : State) (h g : Nat) : s.begin.pageRange h g = s.pageRange h g := by
  simp [State.pageRange]

@[simp] theorem begin_bistPeriod (s : State) : s.begin.bistPeriod = s.bistPeriod := by
  simp [State.bistPeriod]

@[simp] theorem begin_bistDue (s : State) (n : Nat) : s.begin.bistDue n = s.bistDue n := by
  simp [State.bistDue]

@[simp] theorem begin_image (s : State) (x : Thread) : s.begin.image x = s.image x := by
  simp [State.image]

@[simp] theorem begin_pipeIdx (s : State) (n : Nat) (x : Thread) : s.begin.pipeIdx n x = s.pipeIdx n x := by
  simp [State.pipeIdx]

@[simp] theorem begin_owns (s : State) (n : Nat) (x : Thread) (i : Nat) : s.begin.owns n x i = s.owns n x i := by
  simp [State.owns]

@[simp] theorem begin_readScalar (s : State) (n : Nat) (x : Thread) (i : Nat) : s.begin.readScalar n x i = s.readScalar n x i := by
  simp [State.readScalar]

@[simp] theorem begin_operand (s : State) (n : Nat) (x : Thread) (code : Nat) : s.begin.operand n x code = s.operand n x code := by
  simp [State.operand]

@[simp] theorem begin_notOwner (s : State) (n : Nat) (x : Thread) (code : Nat) : s.begin.notOwner n x code = s.notOwner n x code := by
  simp [State.notOwner]

@[simp] theorem begin_second (s : State) (n : Nat) (x : Thread) (w : Nat) : s.begin.second n x w = s.second n x w := by
  simp [State.second]

@[simp] theorem begin_jobOf (s : State) (x : Thread) : s.begin.jobOf x = s.jobOf x := by
  simp [State.jobOf]

@[simp] theorem begin_allotOf (s : State) (n : Nat) (x : Thread) : s.begin.allotOf n x = s.allotOf n x := by
  simp [State.allotOf]

@[simp] theorem begin_window (s : State) (x : Thread) (num : Nat) : s.begin.window x num = s.window x num := by
  simp [State.window]

@[simp] theorem begin_windowAddr (s : State) (n : Nat) (x : Thread) (num o : Nat) : s.begin.windowAddr n x num o = s.windowAddr n x num o := by
  simp [State.windowAddr]

@[simp] theorem begin_constant (s : State) (r : PipeRef) (i : Nat) : s.begin.constant r i = s.constant r i := by
  simp [State.constant]

@[simp] theorem begin_pubs (s : State) (n : Nat) (x : Thread) (c : Nat) (shared : Bool) : s.begin.pubs n x c shared = s.pubs n x c shared := by
  simp [State.pubs]

@[simp] theorem begin_accessRows (s : State) (x : Thread) (a : Access) : s.begin.accessRows x a = s.accessRows x a := by
  simp [State.accessRows]

@[simp] theorem begin_deviceRanges (s : State) (n : Nat) (x : Thread) (num o len : Nat) : s.begin.deviceRanges n x num o len = s.deviceRanges n x num o len := by
  simp [State.deviceRanges]

@[simp] theorem begin_accessRanges (s : State) (n : Nat) (x : Thread) (a : Access) : s.begin.accessRanges n x a = s.accessRanges n x a := by
  simp [State.accessRanges]

@[simp] theorem begin_freeBytes (s : State) (k : Nat) : s.begin.freeBytes k = s.freeBytes k := by
  simp [State.freeBytes]

@[simp] theorem begin_rangeAsleep (s : State) (l : List (Nat × Nat)) : s.begin.rangeAsleep l = s.rangeAsleep l := by
  simp [State.rangeAsleep]

@[simp] theorem begin_rangeDead (s : State) (l : List (Nat × Nat)) : s.begin.rangeDead l = s.rangeDead l := by
  simp [State.rangeDead]

@[simp] theorem begin_sourcePoison (s : State) (x : Thread) (l : List Access) (a : Nat) : s.begin.sourcePoison x l a = s.sourcePoison x l a := by
  simp [State.sourcePoison]

@[simp] theorem begin_blockSamples (s : State) (x : Thread) (num d : Nat) : s.begin.blockSamples x num d = s.blockSamples x num d := by
  simp [State.blockSamples]

@[simp] theorem begin_blockPairs (s : State) (x : Thread) (w : Nat) : s.begin.blockPairs x w = s.blockPairs x w := by
  simp [State.blockPairs]

@[simp] theorem begin_portFill (s : State) (sess f : Nat) : s.begin.portFill sess f = s.portFill sess f := by
  simp [State.portFill]

@[simp] theorem begin_egressOf (s : State) (sess : Nat) : s.begin.egressOf sess = s.egressOf sess := by
  simp [State.egressOf]

@[simp] theorem begin_trajEntry (s : State) (body : List Byte) (index : Nat) : s.begin.trajEntry body index = s.trajEntry body index := by
  simp [State.trajEntry]

@[simp] theorem begin_rcPlan (s : State) (x : Session) (sess : Nat) (body : List Byte) (a : RcArgs) : s.begin.rcPlan x sess body a = s.rcPlan x sess body a := by
  simp [State.rcPlan]

@[simp] theorem begin_rcDenies (s : State) (x : Thread) : s.begin.rcDenies x = s.rcDenies x := by
  simp [State.rcDenies]

@[simp] theorem begin_refUnknown (s : State) (x : Thread) (w : Nat) : s.begin.refUnknown x w = s.refUnknown x w := by
  simp [State.refUnknown]

@[simp] theorem begin_ingressOf (s : State) (sess : Nat) : s.begin.ingressOf sess = s.ingressOf sess := by
  simp [State.ingressOf]

@[simp] theorem begin_flowOutside (s : State) (n : Nat) (x : Thread) (w : Nat) : s.begin.flowOutside n x w = s.flowOutside n x w := by
  simp [State.flowOutside]

@[simp] theorem begin_freeChans (s : State) : s.begin.freeChans = s.freeChans := by
  simp [State.freeChans]

@[simp] theorem begin_logImages (s : State) (persistent : Bool) (n : Nat) : s.begin.logImages persistent n = s.logImages persistent n := by
  simp [State.logImages]

@[simp] theorem begin_injectResets (s : State) (src : Nat) : s.begin.injectResets src = s.injectResets src := by
  simp [State.injectResets]

@[simp] theorem begin_stackUsed (s : State) (n : Nat) : s.begin.stackUsed n = s.stackUsed n := by
  simp [State.stackUsed]

@[simp] theorem begin_stageOf (s : State) (pip : Bool) : s.begin.stageOf pip = s.stageOf pip := by
  simp [State.stageOf]

@[simp] theorem begin_stagedBytes (s : State) (c : Cmd) : s.begin.stagedBytes c = s.stagedBytes c := by
  simp [State.stagedBytes]

@[simp] theorem begin_stageBad (s : State) (c : Cmd) : s.begin.stageBad c = s.stageBad c := by
  simp [State.stageBad]

@[simp] theorem begin_staging (s : State) : s.begin.staging = s.staging := by
  simp [State.staging]

@[simp] theorem begin_portMode (s : State) (p : Nat) : s.begin.portMode p = s.portMode p := by
  simp [State.portMode]

@[simp] theorem begin_ptpNs (s : State) : s.begin.ptpNs = s.ptpNs := by
  simp [State.ptpNs]

@[simp] theorem begin_quadForbids (s : State) (port mode : Nat) : s.begin.quadForbids port mode = s.quadForbids port mode := by
  simp [State.quadForbids]

@[simp] theorem begin_portBar (s : State) (c : Cmd) : s.begin.portBar c = s.portBar c := by
  simp [State.portBar]

@[simp] theorem begin_portBlock (s : State) (p : Nat) : s.begin.portBlock p = s.portBlock p := by
  simp [State.portBlock]

@[simp] theorem begin_portKbit (s : State) (p : Nat) : s.begin.portKbit p = s.portKbit p := by
  simp [State.portKbit]

@[simp] theorem begin_schedBad (s : State) (c : Cmd) : s.begin.schedBad c = s.schedBad c := by
  simp [State.schedBad]

@[simp] theorem begin_vtcBar (s : State) (src : Nat) : s.begin.vtcBar src = s.vtcBar src := by
  simp [State.vtcBar]

@[simp] theorem begin_ptpBad (s : State) (b : List Byte) : s.begin.ptpBad b = s.ptpBad b := by
  simp [State.ptpBad]

@[simp] theorem begin_flowBar (s : State) (k : Nat) (x : FlowAsk) : s.begin.flowBar k x = s.flowBar k x := by
  simp [State.flowBar]

@[simp] theorem begin_queueKib (s : State) : s.begin.queueKib = s.queueKib := by
  simp [State.queueKib]

@[simp] theorem begin_flowLacks (s : State) (x : FlowAsk) : s.begin.flowLacks x = s.flowLacks x := by
  simp [State.flowLacks]

@[simp] theorem begin_laneGroup (s : State) (n : Nat) : s.begin.laneGroup n = s.laneGroup n := by
  simp [State.laneGroup]

@[simp] theorem begin_ancFlows (s : State) (n : Nat) : s.begin.ancFlows n = s.ancFlows n := by
  simp [State.ancFlows]

@[simp] theorem begin_txRuns (s : State) (n : Nat) : s.begin.txRuns n = s.txRuns n := by
  simp [State.txRuns]

@[simp] theorem begin_egressFlows (s : State) (p : Nat) : s.begin.egressFlows p = s.egressFlows p := by
  simp [State.egressFlows]

@[simp] theorem begin_period (s : State) (f : Flow) : s.begin.period f = s.period f := by
  simp [State.period]

@[simp] theorem begin_frameNow (s : State) (f : Flow) : s.begin.frameNow f = s.frameNow f := by
  simp [State.frameNow]

@[simp] theorem begin_lookup (s : State) (n : Nat) (f : EthFrame) : s.begin.lookup n f = s.lookup n f := by
  simp [State.lookup]

@[simp] theorem begin_route (s : State) (n : Nat) (f : EthFrame) : s.begin.route n f = s.route n f := by
  simp [State.route]

@[simp] theorem begin_captured (s : State) (n snap : Nat) (f : EthFrame) (matched : Nat) : s.begin.captured n snap f matched = s.captured n snap f matched := by
  simp [State.captured]

@[simp] theorem begin_ringServes (s : State) (g : Ring) : s.begin.ringServes g = s.ringServes g := by
  simp [State.ringServes]

@[simp] theorem begin_captureFlow (s : State) (n : Nat) : s.begin.captureFlow n = s.captureFlow n := by
  simp [State.captureFlow]

@[simp] theorem begin_payloadsOf (s : State) (f : Flow) (codec : Nat) (au : List Byte) : s.begin.payloadsOf f codec au = s.payloadsOf f codec au := by
  simp [State.payloadsOf]

@[simp] theorem begin_fedFlows (s : State) (sess taken : Nat) : s.begin.fedFlows sess taken = s.fedFlows sess taken := by
  simp [State.fedFlows]

@[simp] theorem begin_backPressed (s : State) (sess : Nat) : s.begin.backPressed sess = s.backPressed sess := by
  simp [State.backPressed]

@[simp] theorem begin_dueOf (s : State) (f : Flow) (n k np : Nat) : s.begin.dueOf f n k np = s.dueOf f n k np := by
  simp [State.dueOf]

@[simp] theorem begin_cmax (s : State) (f : Flow) (np : Nat) : s.begin.cmax f np = s.cmax f np := by
  simp [State.cmax]

@[simp] theorem begin_cinstNext (s : State) (f : Flow) (np : Nat) : s.begin.cinstNext f np = s.cinstNext f np := by
  simp [State.cinstNext]

@[simp] theorem begin_pacedReady (s : State) (n : Nat) : s.begin.pacedReady n = s.pacedReady n := by
  simp [State.pacedReady]

@[simp] theorem begin_nextPaced (s : State) (l : List Nat) : s.begin.nextPaced l = s.nextPaced l := by
  simp [State.nextPaced]

@[simp] theorem begin_nextShaped (s : State) (n : Nat) : s.begin.nextShaped n = s.nextShaped n := by
  simp [State.nextShaped]

@[simp] theorem begin_fifoRoom (s : State) (n : Nat) : s.begin.fifoRoom n = s.fifoRoom n := by
  simp [State.fifoRoom]

@[simp] theorem begin_schedOf (s : State) (n v : Nat) : s.begin.schedOf n v = s.schedOf n v := by
  simp [State.schedOf]

@[simp] theorem begin_headOf (s : State) (n k : Nat) : s.begin.headOf n k = s.headOf n k := by
  simp [State.headOf]

@[simp] theorem begin_eligible (s : State) (n k : Nat) : s.begin.eligible n k = s.eligible n k := by
  simp [State.eligible]

@[simp] theorem begin_inSession (s : State) (n v : Nat) : s.begin.inSession n v = s.inSession n v := by
  simp [State.inSession]

@[simp] theorem begin_passOf (s : State) (n : Nat) (first : Bool) : s.begin.passOf n first = s.passOf n first := by
  simp [State.passOf]

/-! ### After a command has settled -/

theorem settle_power_beq (s : State) (p : Power) (h1 : p ≠ .idle) (h2 : p ≠ .awake) : (s.settle.husk.power == p) = (s.husk.power == p) := by
  rw [Bool.eq_iff_iff, beq_iff_eq, beq_iff_eq]; exact settle_power_iff s p h1 h2

@[simp] theorem settle_slowTicks (s : State) : s.settle.slowTicks = s.slowTicks := by
  simp [State.slowTicks]

@[simp] theorem settle_freeVal (s : State) : s.settle.freeVal = s.freeVal := by
  simp [State.freeVal]

@[simp] theorem settle_ready (s : State) (i : Nat) : s.settle.ready i = s.ready i := by
  simp [State.ready]

@[simp] theorem settle_mainOn (s : State) : s.settle.mainOn = s.mainOn := by
  simp [State.mainOn, settle_power_beq _ _ (show Power.mainOn ≠ .idle by decide) (by decide)]

@[simp] theorem settle_hostUp (s : State) : s.settle.hostUp = s.hostUp := by
  simp [State.hostUp]

@[simp] theorem settle_pll (s : State) (p : Nat) : s.settle.pll p = s.pll p := by
  simp [State.pll]

@[simp] theorem settle_box (s : State) (m : Nat) : s.settle.box m = s.box m := by
  simp [State.box]

@[simp] theorem settle_fltSrc (s : State) (i : Nat) : s.settle.fltSrc i = s.fltSrc i := by
  simp [State.fltSrc]

@[simp] theorem settle_stack (s : State) (i : Nat) : s.settle.stack i = s.stack i := by
  simp [State.stack]

@[simp] theorem settle_chan (s : State) (i : Nat) : s.settle.chan i = s.chan i := by
  simp [State.chan]

@[simp] theorem settle_port16 (s : State) (i : Nat) : s.settle.port16 i = s.port16 i := by
  simp [State.port16]

@[simp] theorem settle_queue (s : State) (k : Nat) : s.settle.queue k = s.queue k := by
  simp [State.queue]

@[simp] theorem settle_pipe (s : State) (n : Nat) : s.settle.pipe n = s.pipe n := by
  simp [State.pipe]

@[simp] theorem settle_lane (s : State) (n : Nat) : s.settle.lane n = s.lane n := by
  simp [State.lane]

@[simp] theorem settle_flow (s : State) (f : Nat) : s.settle.flow f = s.flow f := by
  simp [State.flow]

@[simp] theorem settle_entry (s : State) (e : Nat) : s.settle.entry e = s.entry e := by
  simp [State.entry]

@[simp] theorem settle_session (s : State) (i : Nat) : s.settle.session i = s.session i := by
  simp [State.session]

@[simp] theorem settle_pod (s : State) (h : Nat) : s.settle.pod h = s.pod h := by
  simp [State.pod]

@[simp] theorem settle_logTime (s : State) : s.settle.logTime = s.logTime := by
  simp [State.logTime]

@[simp] theorem settle_chargeOf (s : State) (r : Requester) : s.settle.chargeOf r = s.chargeOf r := by
  simp [State.chargeOf]

@[simp] theorem settle_baselines (s : State) : s.settle.baselines = s.baselines := by
  simp [State.baselines]

@[simp] theorem settle_baselineUse (s : State) : s.settle.baselineUse = s.baselineUse := by
  simp [State.baselineUse]

@[simp] theorem settle_pacUse (s : State) : s.settle.pacUse = s.pacUse := by
  simp [State.pacUse]

@[simp] theorem settle_pacFits (s : State) (r : Requester) : s.settle.pacFits r = s.pacFits r := by
  simp [State.pacFits]

@[simp] theorem settle_pacBars (s : State) (r : Requester) : s.settle.pacBars r = s.pacBars r := by
  simp [State.pacBars]

@[simp] theorem settle_pacGrantable (s : State) (q : PacReq) : s.settle.pacGrantable q = s.pacGrantable q := by
  simp [State.pacGrantable]

@[simp] theorem settle_pipeBusy (s : State) (n : Nat) : s.settle.pipeBusy n = s.pipeBusy n := by
  simp [State.pipeBusy]

@[simp] theorem settle_entryNow (s : State) (kind src : Nat) : s.settle.entryNow kind src = s.entryNow kind src := by
  simp [State.entryNow]

@[simp] theorem settle_pentry (s : State) (kind src : Nat) : s.settle.pentry kind src = s.pentry kind src := by
  simp [State.pentry]

@[simp] theorem settle_reactMask (s : State) (i : Nat) : s.settle.reactMask i = s.reactMask i := by
  simp [State.reactMask]

@[simp] theorem settle_hazelUp (s : State) : s.settle.hazelUp = s.hazelUp := by
  simp [State.hazelUp]

@[simp] theorem settle_openWith (s : State) (b : Nat) : s.settle.openWith b = s.openWith b := by
  simp [State.openWith]

@[simp] theorem settle_errLow (s : State) : s.settle.errLow = s.errLow := by
  simp [State.errLow, bne, settle_power_beq _ _ (show Power.held ≠ .idle by decide) (by decide),
    settle_power_beq _ _ (show Power.dormant ≠ .idle by decide) (by decide)]

@[simp] theorem settle_mark (s : State) (w : Nat) : s.settle.mark w = s.mark w := by
  simp [State.mark]

@[simp] theorem settle_unspecified (s : State) (a : Nat) : s.settle.unspecified a = s.unspecified a := by
  simp [State.unspecified]

@[simp] theorem settle_byteAt (s : State) (a i : Nat) : s.settle.byteAt a i = s.byteAt a i := by
  simp [State.byteAt]

@[simp] theorem settle_bytesAt (s : State) (a n : Nat) : s.settle.bytesAt a n = s.bytesAt a n := by
  simp [State.bytesAt]

@[simp] theorem settle_writtenMark (s : State) (a : Nat) : s.settle.writtenMark a = s.writtenMark a := by
  simp [State.writtenMark]

@[simp] theorem settle_awake (s : State) (n : Nat) : s.settle.awake n = s.awake n := by
  simp [State.awake]

@[simp] theorem settle_asleep (s : State) (n : Nat) : s.settle.asleep n = s.asleep n := by
  simp [State.asleep]

@[simp] theorem settle_dramReady (s : State) (a n : Nat) : s.settle.dramReady a n = s.dramReady a n := by
  simp [State.dramReady]

@[simp] theorem settle_raw (s : State) (a n : Nat) : s.settle.raw a n = s.raw a n := by
  simp [State.raw]

@[simp] theorem settle_ringUsed (s : State) (addr : Nat) : s.settle.ringUsed addr = s.ringUsed addr := by
  simp [State.ringUsed]

@[simp] theorem settle_captureHigh (s : State) (f : Flow) : s.settle.captureHigh f = s.captureHigh f := by
  simp [State.captureHigh]

@[simp] theorem settle_dmaCheck (s : State) (n : Nat) (d : Dma) : s.settle.dmaCheck n d = s.dmaCheck n d := by
  simp [State.dmaCheck]

@[simp] theorem settle_service (s : State) (a : Nat) : s.settle.service a = s.service a := by
  simp [State.service]

@[simp] theorem settle_dmaService (s : State) (d : Dma) : s.settle.dmaService d = s.dmaService d := by
  simp [State.dmaService]

@[simp] theorem settle_dmaOwner (s : State) (n : Nat) : s.settle.dmaOwner n = s.dmaOwner n := by
  simp [State.dmaOwner]

@[simp] theorem settle_ringAwake (s : State) (sess : Nat) : s.settle.ringAwake sess = s.ringAwake sess := by
  simp [State.ringAwake]

@[simp] theorem settle_ptpWord (s : State) : s.settle.ptpWord = s.ptpWord := by
  simp [State.ptpWord]

@[simp] theorem settle_batchOf (s : State) (sess status : Nat) (x : Session) (r : Run) : s.settle.batchOf sess status x r = s.batchOf sess status x r := by
  simp [State.batchOf]

@[simp] theorem settle_pclk (s : State) : s.settle.pclk = s.pclk := by
  simp [State.pclk]

@[simp] theorem settle_huskUp (s : State) : s.settle.huskUp = s.huskUp := by
  simp [State.huskUp, bne, settle_power_beq _ _ (show Power.held ≠ .idle by decide) (by decide),
    settle_power_beq _ _ (show Power.dormant ≠ .idle by decide) (by decide)]

@[simp] theorem settle_pipServes (s : State) : s.settle.pipServes = s.pipServes := by
  simp [State.pipServes]

@[simp] theorem settle_warnC (s : State) : s.settle.warnC = s.warnC := by
  simp [State.warnC]

@[simp] theorem settle_heldHot (s : State) : s.settle.heldHot = s.heldHot := by
  simp [State.heldHot]

@[simp] theorem settle_offInProgress (s : State) : s.settle.offInProgress = s.offInProgress := by
  simp [State.offInProgress]

@[simp] theorem settle_cfgSpace (s : State) (o : Nat) : s.settle.cfgSpace o = s.cfgSpace o := by
  simp [State.cfgSpace]

@[simp] theorem settle_boxClosed (s : State) (m : Nat) : s.settle.boxClosed m = s.boxClosed m := by
  simp [State.boxClosed]

@[simp] theorem settle_fullMap (s : State) : s.settle.fullMap = s.fullMap := by
  simp [State.fullMap]

@[simp] theorem settle_mbxUp (s : State) : s.settle.mbxUp = s.mbxUp := by
  simp [State.mbxUp]

@[simp] theorem settle_fwUp (s : State) : s.settle.fwUp = s.fwUp := by
  simp [State.fwUp]

@[simp] theorem settle_cflags (s : State) (c : Cmd) : s.settle.cflags c = s.cflags c := by
  simp [State.cflags]

@[simp] theorem settle_recordBytes (s : State) (c : Cmd) : s.settle.recordBytes c = s.recordBytes c := by
  simp [State.recordBytes]

@[simp] theorem settle_unposted (s : State) (k : Nat) : s.settle.unposted k = s.unposted k := by
  simp [State.unposted]

@[simp] theorem settle_inFlight (s : State) (k : Nat) : s.settle.inFlight k = s.inFlight k := by
  simp [State.inFlight]

@[simp] theorem settle_fenceOpen (s : State) (i : Nat) (c : Cmd) : s.settle.fenceOpen i c = s.fenceOpen i c := by
  simp [State.fenceOpen]

@[simp] theorem settle_starts (s : State) (k op : Nat) : s.settle.starts k op = s.starts k op := by
  simp [State.starts]

@[simp] theorem settle_sleeping (s : State) (h : Shape) : s.settle.sleeping h = s.sleeping h := by
  simp [State.sleeping]

@[simp] theorem settle_deadStack (s : State) (h : Shape) : s.settle.deadStack h = s.deadStack h := by
  simp [State.deadStack]

@[simp] theorem settle_portGo (s : State) (port mode : Nat) : s.settle.portGo port mode = s.portGo port mode := by
  simp [State.portGo]

@[simp] theorem settle_firstOfSession (s : State) (i : Nat) (c : Cmd) : s.settle.firstOfSession i c = s.firstOfSession i c := by
  simp [State.firstOfSession]

@[simp] theorem settle_inTest (s : State) (n : Nat) : s.settle.inTest n = s.inTest n := by
  simp [State.inTest]

@[simp] theorem settle_canAbort (s : State) (n : Nat) : s.settle.canAbort n = s.canAbort n := by
  simp [State.canAbort]

@[simp] theorem settle_sessionBusy (s : State) (i sess : Nat) : s.settle.sessionBusy i sess = s.sessionBusy i sess := by
  simp [State.sessionBusy]

@[simp] theorem settle_coreClass (s : State) : s.settle.coreClass = s.coreClass := by
  simp [State.coreClass]

@[simp] theorem settle_quadClass (s : State) (q : Nat) : s.settle.quadClass q = s.quadClass q := by
  simp [State.quadClass]

@[simp] theorem settle_pllClass (s : State) (p : Pll) : s.settle.pllClass p = s.pllClass p := by
  simp [State.pllClass]

@[simp] theorem settle_pllUnused (s : State) (p : Pll) : s.settle.pllUnused p = s.pllUnused p := by
  simp [State.pllUnused]

@[simp] theorem settle_laneClock (s : State) (n : Nat) : s.settle.laneClock n = s.laneClock n := by
  simp [State.laneClock]

@[simp] theorem settle_vtcPresent (s : State) : s.settle.vtcPresent = s.vtcPresent := by
  simp [State.vtcPresent]

@[simp] theorem settle_vtcFamily (s : State) : s.settle.vtcFamily = s.vtcFamily := by
  simp [State.vtcFamily]

@[simp] theorem settle_burstRegion (s : State) (c : Cmd) : s.settle.burstRegion c = s.burstRegion c := by
  simp [State.burstRegion]

@[simp] theorem settle_dmaTouches (s : State) (n : Nat) : s.settle.dmaTouches n = s.dmaTouches n := by
  simp [State.dmaTouches]

@[simp] theorem settle_scrubbable (s : State) (n : Nat) : s.settle.scrubbable n = s.scrubbable n := by
  simp [State.scrubbable]

@[simp] theorem settle_handover (s : State) (epoch : Nat) : s.settle.handover epoch = s.handover epoch := by
  simp [State.handover]

@[simp] theorem settle_causeGone (s : State) (src : Nat) : s.settle.causeGone src = s.causeGone src := by
  simp [State.causeGone]

@[simp] theorem settle_plogAllows (s : State) (e : PEntry) : s.settle.plogAllows e = s.plogAllows e := by
  simp [State.plogAllows]

@[simp] theorem settle_ptpUp (s : State) : s.settle.ptpUp = s.ptpUp := by
  simp [State.ptpUp]

@[simp] theorem settle_latch (s : State) (p : Path) (a : Nat) : s.settle.latch p a = s.latch p a := by
  simp [State.latch]

@[simp] theorem settle_devReg (s : State) (o : Nat) : s.settle.devReg o = s.devReg o := by
  simp [State.devReg]

@[simp] theorem settle_alarmLeft (s : State) : s.settle.alarmLeft = s.alarmLeft := by
  simp [State.alarmLeft]

@[simp] theorem settle_selected (s : State) : s.settle.selected = s.selected := by
  simp [State.selected]

@[simp] theorem settle_pacStatus (s : State) : s.settle.pacStatus = s.pacStatus := by
  simp [State.pacStatus]

@[simp] theorem settle_pacReg (s : State) (o : Nat) : s.settle.pacReg o = s.pacReg o := by
  simp [State.pacReg]

@[simp] theorem settle_activeWord (s : State) (i : Nat) : s.settle.activeWord i = s.activeWord i := by
  simp [State.activeWord]

@[simp] theorem settle_fltStatus (s : State) : s.settle.fltStatus = s.fltStatus := by
  simp [State.fltStatus]

@[simp] theorem settle_reactWord (s : State) (i : Nat) : s.settle.reactWord i = s.reactWord i := by
  simp [State.reactWord]

@[simp] theorem settle_fltReg (s : State) (o : Nat) : s.settle.fltReg o = s.fltReg o := by
  simp [State.fltReg]

@[simp] theorem settle_dmaReg (s : State) (n o : Nat) : s.settle.dmaReg n o = s.dmaReg n o := by
  simp [State.dmaReg]

@[simp] theorem settle_ptpReg (s : State) (p : Path) (o : Nat) : s.settle.ptpReg p o = s.ptpReg p o := by
  simp [State.ptpReg]

@[simp] theorem settle_vtcReg (s : State) (o : Nat) : s.settle.vtcReg o = s.vtcReg o := by
  simp [State.vtcReg]

@[simp] theorem settle_msixReg (s : State) (o : Nat) : s.settle.msixReg o = s.msixReg o := by
  simp [State.msixReg]

@[simp] theorem settle_laneStatus (s : State) (n : Nat) : s.settle.laneStatus n = s.laneStatus n := by
  simp [State.laneStatus]

@[simp] theorem settle_flowStatus (s : State) (i : Nat) : s.settle.flowStatus i = s.flowStatus i := by
  simp [State.flowStatus]

@[simp] theorem settle_portReserved (s : State) (p : Nat) : s.settle.portReserved p = s.portReserved p := by
  simp [State.portReserved]

@[simp] theorem settle_entryAge (s : State) (e : Entry) : s.settle.entryAge e = s.entryAge e := by
  simp [State.entryAge]

@[simp] theorem settle_entryWord (s : State) (i o : Nat) : s.settle.entryWord i o = s.entryWord i o := by
  simp [State.entryWord]

@[simp] theorem settle_windowWord (s : State) (a : Nat) : s.settle.windowWord a = s.windowWord a := by
  simp [State.windowWord]

@[simp] theorem settle_mbxReg (s : State) (m o : Nat) : s.settle.mbxReg m o = s.mbxReg m o := by
  simp [State.mbxReg]

@[simp] theorem settle_plogData (s : State) : s.settle.plogData = s.plogData := by
  simp [State.plogData]

@[simp] theorem settle_lacking (s : State) (bits : List Nat) : s.settle.lacking bits = s.lacking bits := by
  simp [State.lacking]

@[simp] theorem settle_identity (s : State) : s.settle.identity = s.identity := by
  simp [State.identity]

@[simp] theorem settle_versions (s : State) : s.settle.versions = s.versions := by
  simp [State.versions]

@[simp] theorem settle_depthOf (s : State) (k : Nat) : s.settle.depthOf k = s.depthOf k := by
  simp [State.depthOf]

@[simp] theorem settle_otherDepths (s : State) (k : Nat) : s.settle.otherDepths k = s.otherDepths k := by
  simp [State.otherDepths]

@[simp] theorem settle_queueWord (s : State) (k : Nat) : s.settle.queueWord k = s.queueWord k := by
  simp [State.queueWord]

@[simp] theorem settle_jobsInFlight (s : State) : s.settle.jobsInFlight = s.jobsInFlight := by
  simp [State.jobsInFlight]

@[simp] theorem settle_resetBad (s : State) (a : Nat) : s.settle.resetBad a = s.resetBad a := by
  simp [State.resetBad]

@[simp] theorem settle_deferredEntry (s : State) (k seq : Nat) : s.settle.deferredEntry k seq = s.deferredEntry k seq := by
  simp [State.deferredEntry]

@[simp] theorem settle_noticeGone (s : State) (e : Nat × Nat × Nat × Deferred) : s.settle.noticeGone e = s.noticeGone e := by
  simp [State.noticeGone]

@[simp] theorem settle_recordGone (s : State) (e : Nat × Nat × Nat × Deferred) : s.settle.recordGone e = s.recordGone e := by
  simp [State.recordGone]

@[simp] theorem settle_podFits (s : State) (x : Session) (h kind : Nat) : s.settle.podFits x h kind = s.podFits x h kind := by
  simp [State.podFits]

@[simp] theorem settle_allotsOn (s : State) (n : Nat) : s.settle.allotsOn n = s.allotsOn n := by
  simp [State.allotsOn]

@[simp] theorem settle_allotFits (s : State) (n : Nat) (lead : Bool) (ps : List (Nat × Bool)) : s.settle.allotFits n lead ps = s.allotFits n lead ps := by
  simp [State.allotFits]

@[simp] theorem settle_gangFits (s : State) (x : Session) (n : Nat) : s.settle.gangFits x n = s.gangFits x n := by
  simp [State.gangFits]

@[simp] theorem settle_pipeChoices (s : State) (x : Session) : s.settle.pipeChoices x = s.pipeChoices x := by
  simp [State.pipeChoices]

@[simp] theorem settle_sessionChoices (s : State) (x : Session) : s.settle.sessionChoices x = s.sessionChoices x := by
  simp [State.sessionChoices]

@[simp] theorem settle_openBar (s : State) (x : Session) : s.settle.openBar x = s.openBar x := by
  simp [State.openBar]

@[simp] theorem settle_setShape (s : State) (c : Cmd) : s.settle.setShape c = s.setShape c := by
  simp [State.setShape]

@[simp] theorem settle_sessionBlock (s : State) (i : Nat) : s.settle.sessionBlock i = s.sessionBlock i := by
  simp [State.sessionBlock]

@[simp] theorem settle_sample8 (s : State) (base f pitch w h p x y : Nat) : s.settle.sample8 base f pitch w h p x y = s.sample8 base f pitch w h p x y := by
  simp [State.sample8]

@[simp] theorem settle_diffs (s : State) (m : Measure) (p : Nat) : s.settle.diffs m p = s.diffs m p := by
  simp [State.diffs]

@[simp] theorem settle_compared (s : State) (m : Measure) : s.settle.compared m = s.compared m := by
  simp [State.compared]

@[simp] theorem settle_fresh (s : State) (k : Nat) : s.settle.fresh k = s.fresh k := by
  simp [State.fresh]

@[simp] theorem settle_psnrOf (s : State) (m : Measure) (p : Nat) : s.settle.psnrOf m p = s.psnrOf m p := by
  simp [State.psnrOf]

@[simp] theorem settle_measured (s : State) (m : Measure) : s.settle.measured m = s.measured m := by
  simp [State.measured]

@[simp] theorem settle_libraryEnc (s : State) (x : Session) : s.settle.libraryEnc x = s.libraryEnc x := by
  simp [State.libraryEnc]

@[simp] theorem settle_encoded (s : State) (x : Session) (r : Run) (c : Cmd) : s.settle.encoded x r c = s.encoded x r c := by
  simp [State.encoded]

@[simp] theorem settle_decoded (s : State) (r : Run) (c : Cmd) : s.settle.decoded r c = s.decoded r c := by
  simp [State.decoded]

@[simp] theorem settle_metrics (s : State) (x : Session) (r : Run) (c : Cmd) (status : Nat) : s.settle.metrics x r c status = s.metrics x r c status := by
  simp [State.metrics]

@[simp] theorem settle_carryOn (s : State) (x : Session) (c : Cmd) : s.settle.carryOn x c = s.carryOn x c := by
  simp [State.carryOn]

@[simp] theorem settle_runningJob (s : State) (sess : Nat) : s.settle.runningJob sess = s.runningJob sess := by
  simp [State.runningJob]

@[simp] theorem settle_cancelTarget (s : State) (c : Cmd) : s.settle.cancelTarget c = s.cancelTarget c := by
  simp [State.cancelTarget]

@[simp] theorem settle_podBytes (s : State) : s.settle.podBytes = s.podBytes := by
  simp [State.podBytes]

@[simp] theorem settle_freeHandles (s : State) : s.settle.freeHandles = s.freeHandles := by
  simp [State.freeHandles]

@[simp] theorem settle_podUsed (s : State) (h : Nat) : s.settle.podUsed h = s.podUsed h := by
  simp [State.podUsed]

@[simp] theorem settle_encodeShape (s : State) (c : Cmd) (loop : Bool) : s.settle.encodeShape c loop = s.encodeShape c loop := by
  simp [State.encodeShape]

@[simp] theorem settle_decodeShape (s : State) (c : Cmd) : s.settle.decodeShape c = s.decodeShape c := by
  simp [State.decodeShape]

@[simp] theorem settle_thread (s : State) (n t : Nat) : s.settle.thread n t = s.thread n t := by
  simp [State.thread]

@[simp] theorem settle_pinned (s : State) (n h g : Nat) : s.settle.pinned n h g = s.pinned n h g := by
  simp [State.pinned]

@[simp] theorem settle_pageSlot (s : State) (n : Nat) : s.settle.pageSlot n = s.pageSlot n := by
  simp [State.pageSlot]

@[simp] theorem settle_startable (s : State) (n i : Nat) : s.settle.startable n i = s.startable n i := by
  simp [State.startable]

@[simp] theorem settle_threadsEnded (s : State) (sess : Nat) : s.settle.threadsEnded sess = s.threadsEnded sess := by
  simp [State.threadsEnded]

@[simp] theorem settle_endWaits (s : State) (sess : Nat) (c : Cmd) : s.settle.endWaits sess c = s.endWaits sess c := by
  simp [State.endWaits]

@[simp] theorem settle_counterOf (s : State) (n : Nat) (x : Thread) (gang : Bool) (i : Nat) : s.settle.counterOf n x gang i = s.counterOf n x gang i := by
  simp [State.counterOf]

@[simp] theorem settle_stuck (s : State) (n : Nat) (x : Thread) : s.settle.stuck n x = s.stuck n x := by
  simp [State.stuck]

@[simp] theorem settle_jobThreads (s : State) (sess : Nat) : s.settle.jobThreads sess = s.jobThreads sess := by
  simp [State.jobThreads]

@[simp] theorem settle_pageRange (s : State) (h g : Nat) : s.settle.pageRange h g = s.pageRange h g := by
  simp [State.pageRange]

@[simp] theorem settle_bistPeriod (s : State) : s.settle.bistPeriod = s.bistPeriod := by
  simp [State.bistPeriod]

@[simp] theorem settle_bistDue (s : State) (n : Nat) : s.settle.bistDue n = s.bistDue n := by
  simp [State.bistDue]

@[simp] theorem settle_image (s : State) (x : Thread) : s.settle.image x = s.image x := by
  simp [State.image]

@[simp] theorem settle_pipeIdx (s : State) (n : Nat) (x : Thread) : s.settle.pipeIdx n x = s.pipeIdx n x := by
  simp [State.pipeIdx]

@[simp] theorem settle_owns (s : State) (n : Nat) (x : Thread) (i : Nat) : s.settle.owns n x i = s.owns n x i := by
  simp [State.owns]

@[simp] theorem settle_readScalar (s : State) (n : Nat) (x : Thread) (i : Nat) : s.settle.readScalar n x i = s.readScalar n x i := by
  simp [State.readScalar]

@[simp] theorem settle_operand (s : State) (n : Nat) (x : Thread) (code : Nat) : s.settle.operand n x code = s.operand n x code := by
  simp [State.operand]

@[simp] theorem settle_notOwner (s : State) (n : Nat) (x : Thread) (code : Nat) : s.settle.notOwner n x code = s.notOwner n x code := by
  simp [State.notOwner]

@[simp] theorem settle_second (s : State) (n : Nat) (x : Thread) (w : Nat) : s.settle.second n x w = s.second n x w := by
  simp [State.second]

@[simp] theorem settle_jobOf (s : State) (x : Thread) : s.settle.jobOf x = s.jobOf x := by
  simp [State.jobOf]

@[simp] theorem settle_allotOf (s : State) (n : Nat) (x : Thread) : s.settle.allotOf n x = s.allotOf n x := by
  simp [State.allotOf]

@[simp] theorem settle_window (s : State) (x : Thread) (num : Nat) : s.settle.window x num = s.window x num := by
  simp [State.window]

@[simp] theorem settle_windowAddr (s : State) (n : Nat) (x : Thread) (num o : Nat) : s.settle.windowAddr n x num o = s.windowAddr n x num o := by
  simp [State.windowAddr]

@[simp] theorem settle_constant (s : State) (r : PipeRef) (i : Nat) : s.settle.constant r i = s.constant r i := by
  simp [State.constant]

@[simp] theorem settle_pubs (s : State) (n : Nat) (x : Thread) (c : Nat) (shared : Bool) : s.settle.pubs n x c shared = s.pubs n x c shared := by
  simp [State.pubs]

@[simp] theorem settle_accessRows (s : State) (x : Thread) (a : Access) : s.settle.accessRows x a = s.accessRows x a := by
  simp [State.accessRows]

@[simp] theorem settle_deviceRanges (s : State) (n : Nat) (x : Thread) (num o len : Nat) : s.settle.deviceRanges n x num o len = s.deviceRanges n x num o len := by
  simp [State.deviceRanges]

@[simp] theorem settle_accessRanges (s : State) (n : Nat) (x : Thread) (a : Access) : s.settle.accessRanges n x a = s.accessRanges n x a := by
  simp [State.accessRanges]

@[simp] theorem settle_freeBytes (s : State) (k : Nat) : s.settle.freeBytes k = s.freeBytes k := by
  simp [State.freeBytes]

@[simp] theorem settle_rangeAsleep (s : State) (l : List (Nat × Nat)) : s.settle.rangeAsleep l = s.rangeAsleep l := by
  simp [State.rangeAsleep]

@[simp] theorem settle_rangeDead (s : State) (l : List (Nat × Nat)) : s.settle.rangeDead l = s.rangeDead l := by
  simp [State.rangeDead]

@[simp] theorem settle_sourcePoison (s : State) (x : Thread) (l : List Access) (a : Nat) : s.settle.sourcePoison x l a = s.sourcePoison x l a := by
  simp [State.sourcePoison]

@[simp] theorem settle_blockSamples (s : State) (x : Thread) (num d : Nat) : s.settle.blockSamples x num d = s.blockSamples x num d := by
  simp [State.blockSamples]

@[simp] theorem settle_blockPairs (s : State) (x : Thread) (w : Nat) : s.settle.blockPairs x w = s.blockPairs x w := by
  simp [State.blockPairs]

@[simp] theorem settle_portFill (s : State) (sess f : Nat) : s.settle.portFill sess f = s.portFill sess f := by
  simp [State.portFill]

@[simp] theorem settle_egressOf (s : State) (sess : Nat) : s.settle.egressOf sess = s.egressOf sess := by
  simp [State.egressOf]

@[simp] theorem settle_trajEntry (s : State) (body : List Byte) (index : Nat) : s.settle.trajEntry body index = s.trajEntry body index := by
  simp [State.trajEntry]

@[simp] theorem settle_rcPlan (s : State) (x : Session) (sess : Nat) (body : List Byte) (a : RcArgs) : s.settle.rcPlan x sess body a = s.rcPlan x sess body a := by
  simp [State.rcPlan]

@[simp] theorem settle_rcDenies (s : State) (x : Thread) : s.settle.rcDenies x = s.rcDenies x := by
  simp [State.rcDenies]

@[simp] theorem settle_refUnknown (s : State) (x : Thread) (w : Nat) : s.settle.refUnknown x w = s.refUnknown x w := by
  simp [State.refUnknown]

@[simp] theorem settle_ingressOf (s : State) (sess : Nat) : s.settle.ingressOf sess = s.ingressOf sess := by
  simp [State.ingressOf]

@[simp] theorem settle_flowOutside (s : State) (n : Nat) (x : Thread) (w : Nat) : s.settle.flowOutside n x w = s.flowOutside n x w := by
  simp [State.flowOutside]

@[simp] theorem settle_freeChans (s : State) : s.settle.freeChans = s.freeChans := by
  simp [State.freeChans]

@[simp] theorem settle_logImages (s : State) (persistent : Bool) (n : Nat) : s.settle.logImages persistent n = s.logImages persistent n := by
  simp [State.logImages]

@[simp] theorem settle_injectResets (s : State) (src : Nat) : s.settle.injectResets src = s.injectResets src := by
  simp [State.injectResets]

@[simp] theorem settle_stackUsed (s : State) (n : Nat) : s.settle.stackUsed n = s.stackUsed n := by
  simp [State.stackUsed]

@[simp] theorem settle_stageOf (s : State) (pip : Bool) : s.settle.stageOf pip = s.stageOf pip := by
  simp [State.stageOf]

@[simp] theorem settle_stagedBytes (s : State) (c : Cmd) : s.settle.stagedBytes c = s.stagedBytes c := by
  simp [State.stagedBytes]

@[simp] theorem settle_stageBad (s : State) (c : Cmd) : s.settle.stageBad c = s.stageBad c := by
  simp [State.stageBad]

@[simp] theorem settle_staging (s : State) : s.settle.staging = s.staging := by
  simp [State.staging]

@[simp] theorem settle_portMode (s : State) (p : Nat) : s.settle.portMode p = s.portMode p := by
  simp [State.portMode]

@[simp] theorem settle_ptpNs (s : State) : s.settle.ptpNs = s.ptpNs := by
  simp [State.ptpNs]

@[simp] theorem settle_quadForbids (s : State) (port mode : Nat) : s.settle.quadForbids port mode = s.quadForbids port mode := by
  simp [State.quadForbids]

@[simp] theorem settle_portBar (s : State) (c : Cmd) : s.settle.portBar c = s.portBar c := by
  simp [State.portBar]

@[simp] theorem settle_portBlock (s : State) (p : Nat) : s.settle.portBlock p = s.portBlock p := by
  simp [State.portBlock]

@[simp] theorem settle_portKbit (s : State) (p : Nat) : s.settle.portKbit p = s.portKbit p := by
  simp [State.portKbit]

@[simp] theorem settle_schedBad (s : State) (c : Cmd) : s.settle.schedBad c = s.schedBad c := by
  simp [State.schedBad]

@[simp] theorem settle_vtcBar (s : State) (src : Nat) : s.settle.vtcBar src = s.vtcBar src := by
  simp [State.vtcBar]

@[simp] theorem settle_ptpBad (s : State) (b : List Byte) : s.settle.ptpBad b = s.ptpBad b := by
  simp [State.ptpBad]

@[simp] theorem settle_flowBar (s : State) (k : Nat) (x : FlowAsk) : s.settle.flowBar k x = s.flowBar k x := by
  simp [State.flowBar]

@[simp] theorem settle_queueKib (s : State) : s.settle.queueKib = s.queueKib := by
  simp [State.queueKib]

@[simp] theorem settle_flowLacks (s : State) (x : FlowAsk) : s.settle.flowLacks x = s.flowLacks x := by
  simp [State.flowLacks]

@[simp] theorem settle_laneGroup (s : State) (n : Nat) : s.settle.laneGroup n = s.laneGroup n := by
  simp [State.laneGroup]

@[simp] theorem settle_ancFlows (s : State) (n : Nat) : s.settle.ancFlows n = s.ancFlows n := by
  simp [State.ancFlows]

@[simp] theorem settle_txRuns (s : State) (n : Nat) : s.settle.txRuns n = s.txRuns n := by
  simp [State.txRuns]

@[simp] theorem settle_egressFlows (s : State) (p : Nat) : s.settle.egressFlows p = s.egressFlows p := by
  simp [State.egressFlows]

@[simp] theorem settle_period (s : State) (f : Flow) : s.settle.period f = s.period f := by
  simp [State.period]

@[simp] theorem settle_frameNow (s : State) (f : Flow) : s.settle.frameNow f = s.frameNow f := by
  simp [State.frameNow]

@[simp] theorem settle_lookup (s : State) (n : Nat) (f : EthFrame) : s.settle.lookup n f = s.lookup n f := by
  simp [State.lookup]

@[simp] theorem settle_route (s : State) (n : Nat) (f : EthFrame) : s.settle.route n f = s.route n f := by
  simp [State.route]

@[simp] theorem settle_captured (s : State) (n snap : Nat) (f : EthFrame) (matched : Nat) : s.settle.captured n snap f matched = s.captured n snap f matched := by
  simp [State.captured]

@[simp] theorem settle_ringServes (s : State) (g : Ring) : s.settle.ringServes g = s.ringServes g := by
  simp [State.ringServes]

@[simp] theorem settle_captureFlow (s : State) (n : Nat) : s.settle.captureFlow n = s.captureFlow n := by
  simp [State.captureFlow]

@[simp] theorem settle_payloadsOf (s : State) (f : Flow) (codec : Nat) (au : List Byte) : s.settle.payloadsOf f codec au = s.payloadsOf f codec au := by
  simp [State.payloadsOf]

@[simp] theorem settle_fedFlows (s : State) (sess taken : Nat) : s.settle.fedFlows sess taken = s.fedFlows sess taken := by
  simp [State.fedFlows]

@[simp] theorem settle_backPressed (s : State) (sess : Nat) : s.settle.backPressed sess = s.backPressed sess := by
  simp [State.backPressed]

@[simp] theorem settle_dueOf (s : State) (f : Flow) (n k np : Nat) : s.settle.dueOf f n k np = s.dueOf f n k np := by
  simp [State.dueOf]

@[simp] theorem settle_cmax (s : State) (f : Flow) (np : Nat) : s.settle.cmax f np = s.cmax f np := by
  simp [State.cmax]

@[simp] theorem settle_cinstNext (s : State) (f : Flow) (np : Nat) : s.settle.cinstNext f np = s.cinstNext f np := by
  simp [State.cinstNext]

@[simp] theorem settle_pacedReady (s : State) (n : Nat) : s.settle.pacedReady n = s.pacedReady n := by
  simp [State.pacedReady]

@[simp] theorem settle_nextPaced (s : State) (l : List Nat) : s.settle.nextPaced l = s.nextPaced l := by
  simp [State.nextPaced]

@[simp] theorem settle_nextShaped (s : State) (n : Nat) : s.settle.nextShaped n = s.nextShaped n := by
  simp [State.nextShaped]

@[simp] theorem settle_fifoRoom (s : State) (n : Nat) : s.settle.fifoRoom n = s.fifoRoom n := by
  simp [State.fifoRoom]

@[simp] theorem settle_schedOf (s : State) (n v : Nat) : s.settle.schedOf n v = s.schedOf n v := by
  simp [State.schedOf]

@[simp] theorem settle_headOf (s : State) (n k : Nat) : s.settle.headOf n k = s.headOf n k := by
  simp [State.headOf]

@[simp] theorem settle_eligible (s : State) (n k : Nat) : s.settle.eligible n k = s.eligible n k := by
  simp [State.eligible]

@[simp] theorem settle_inSession (s : State) (n v : Nat) : s.settle.inSession n v = s.inSession n v := by
  simp [State.inSession]

@[simp] theorem settle_passOf (s : State) (n : Nat) (first : Bool) : s.settle.passOf n first = s.passOf n first := by
  simp [State.passOf]

end Sys2Proof.Machine
end

