-- ==== Sys2Proof/Laws/Exec.lean ====
section
/-! SUPPORT. Which meaning each command has: one lemma per arm of exec. -/

namespace Sys2Proof.Machine

@[simp] theorem exec_registerWrite (p : Path) (addr : Nat) (v : Word32) (s : State) : exec (.registerWrite p addr v) s = execRegisterWrite p addr v s := rfl
@[simp] theorem exec_rcRead (p : Path) (addr : Nat) (s : State) : exec (.rcRead p addr) s = execRcRead p addr s := rfl
@[simp] theorem exec_counterLowHalfRead (p : Path) (addr : Nat) (s : State) : exec (.counterLowHalfRead p addr) s = execCounterLowHalfRead p addr s := rfl
@[simp] theorem exec_counterHighHalfRead (p : Path) (addr : Nat) (s : State) : exec (.counterHighHalfRead p addr) s = execCounterHighHalfRead p addr s := rfl
@[simp] theorem exec_counter64Read (p : Path) (addr : Nat) (s : State) : exec (.counter64Read p addr) s = execCounter64Read p addr s := rfl
@[simp] theorem exec_powerOnResetRelease (strap : Fin 4) (hpEn wakeIn : Bool) (s : State) : exec (.powerOnResetRelease strap hpEn wakeIn) s = execPowerOnResetRelease strap hpEn wakeIn s := rfl
@[simp] theorem exec_vaonFall (s : State) : exec (.vaonFall) s = execVaonFall s := rfl
@[simp] theorem exec_chipReset (s : State) : exec (.chipReset) s = execChipReset s := rfl
@[simp] theorem exec_hazelReset (s : State) : exec (.hazelReset) s = execHazelReset s := rfl
@[simp] theorem exec_pipReset (s : State) : exec (.pipReset) s = execPipReset s := rfl
@[simp] theorem exec_blockReset (b : Block) (s : State) : exec (.blockReset b) s = execBlockReset b s := rfl
@[simp] theorem exec_dormantEntry (coincident : Option WakeSource) (s : State) : exec (.dormantEntry coincident) s = execDormantEntry coincident s := rfl
@[simp] theorem exec_wakeInEdge (rising : Bool) (s : State) : exec (.wakeInEdge rising) s = execWakeInEdge rising s := rfl
@[simp] theorem exec_hpEnRise (s : State) : exec (.hpEnRise) s = execHpEnRise s := rfl
@[simp] theorem exec_smbusWakeMatch (s : State) : exec (.smbusWakeMatch) s = execSmbusWakeMatch s := rfl
@[simp] theorem exec_alarm (s : State) : exec (.alarm) s = execAlarm s := rfl
@[simp] theorem exec_pipTimer (s : State) : exec (.pipTimer) s = execPipTimer s := rfl
@[simp] theorem exec_pipStop (s : State) : exec (.pipStop) s = execPipStop s := rfl
@[simp] theorem exec_mainOn (s : State) : exec (.mainOn) s = execMainOn s := rfl
@[simp] theorem exec_mainOff (s : State) : exec (.mainOff) s = execMainOff s := rfl
@[simp] theorem exec_goDormant (s : State) : exec (.goDormant) s = execGoDormant s := rfl
@[simp] theorem exec_mainOffAnswer (s : State) : exec (.mainOffAnswer) s = execMainOffAnswer s := rfl
@[simp] theorem exec_mainOffTimeout (s : State) : exec (.mainOffTimeout) s = execMainOffTimeout s := rfl
@[simp] theorem exec_mainOffSelfRefresh (s : State) : exec (.mainOffSelfRefresh) s = execMainOffSelfRefresh s := rfl
@[simp] theorem exec_pgRise (r : Rail) (s : State) : exec (.pgRise r) s = execPgRise r s := rfl
@[simp] theorem exec_enSrdRaise (s : State) : exec (.enSrdRaise) s = execEnSrdRaise s := rfl
@[simp] theorem exec_pgTimeout (r : Rail) (s : State) : exec (.pgTimeout r) s = execPgTimeout r s := rfl
@[simp] theorem exec_pgFall (r : Rail) (s : State) : exec (.pgFall r) s = execPgFall r s := rfl
@[simp] theorem exec_railEnableLower (s : State) : exec (.railEnableLower) s = execRailEnableLower s := rfl
@[simp] theorem exec_hpEnFall (s : State) : exec (.hpEnFall) s = execHpEnFall s := rfl
@[simp] theorem exec_pipRemovalRecord (s : State) : exec (.pipRemovalRecord) s = execPipRemovalRecord s := rfl
@[simp] theorem exec_thermalCrit (s : State) : exec (.thermalCrit) s = execThermalCrit s := rfl
@[simp] theorem exec_xt32Qualified (s : State) : exec (.xt32Qualified) s = execXt32Qualified s := rfl
@[simp] theorem exec_xt32QualifyTimeout (s : State) : exec (.xt32QualifyTimeout) s = execXt32QualifyTimeout s := rfl
@[simp] theorem exec_xt32EdgeLoss (s : State) : exec (.xt32EdgeLoss) s = execXt32EdgeLoss s := rfl
@[simp] theorem exec_xoSettleExpiry (s : State) : exec (.xoSettleExpiry) s = execXoSettleExpiry s := rfl
@[simp] theorem exec_xoLoss (early : Bool) (s : State) : exec (.xoLoss early) s = execXoLoss early s := rfl
@[simp] theorem exec_pllLock (p : Pll) (s : State) : exec (.pllLock p) s = execPllLock p s := rfl
@[simp] theorem exec_pllLockTimeout (p : Pll) (s : State) : exec (.pllLockTimeout p) s = execPllLockTimeout p s := rfl
@[simp] theorem exec_pllLossOfLock (p : Pll) (s : State) : exec (.pllLossOfLock p) s = execPllLossOfLock p s := rfl
@[simp] theorem exec_pllIdleStop (p : Pll) (s : State) : exec (.pllIdleStop p) s = execPllIdleStop p s := rfl
@[simp] theorem exec_pllRetry (t : RetryTarget) (s : State) : exec (.pllRetry t) s = execPllRetry t s := rfl
@[simp] theorem exec_clockGate (b : Clocked) (s : State) : exec (.clockGate b) s = execClockGate b s := rfl
@[simp] theorem exec_vtcLocked (s : State) : exec (.vtcLocked) s = execVtcLocked s := rfl
@[simp] theorem exec_vtcSourceLoss (s : State) : exec (.vtcSourceLoss) s = execVtcSourceLoss s := rfl
@[simp] theorem exec_vtcHoldExpiry (s : State) : exec (.vtcHoldExpiry) s = execVtcHoldExpiry s := rfl
@[simp] theorem exec_vtcReacquire (s : State) : exec (.vtcReacquire) s = execVtcReacquire s := rfl
@[simp] theorem exec_pipBoot (s : State) : exec (.pipBoot) s = execPipBoot s := rfl
@[simp] theorem exec_hazelStart (s : State) : exec (.hazelStart) s = execHazelStart s := rfl
@[simp] theorem exec_hazelImageStart (s : State) : exec (.hazelImageStart) s = execHazelImageStart s := rfl
@[simp] theorem exec_pacLoad (s : State) : exec (.pacLoad) s = execPacLoad s := rfl
@[simp] theorem exec_pacRequest (r : Requester) (cls : Fin 3) (s : State) : exec (.pacRequest r cls) s = execPacRequest r cls s := rfl
@[simp] theorem exec_pacGrant (s : State) : exec (.pacGrant) s = execPacGrant s := rfl
@[simp] theorem exec_pacRelease (r : Requester) (s : State) : exec (.pacRelease r) s = execPacRelease r s := rfl
@[simp] theorem exec_pacWithdraw (r : Requester) (s : State) : exec (.pacWithdraw r) s = execPacWithdraw r s := rfl
@[simp] theorem exec_pacTimeout (r : Requester) (s : State) : exec (.pacTimeout r) s = execPacTimeout r s := rfl
@[simp] theorem exec_pacThermalSample (tj : Int) (s : State) : exec (.pacThermalSample tj) s = execPacThermalSample tj s := rfl
@[simp] theorem exec_clampSet (s : State) : exec (.clampSet) s = execClampSet s := rfl
@[simp] theorem exec_pacBudgetWrite (r : BudgetRail) (v : Word32) (s : State) : exec (.pacBudgetWrite r v) s = execPacBudgetWrite r v s := rfl
@[simp] theorem exec_linkTrainingL0 (s : State) : exec (.linkTrainingL0) s = execLinkTrainingL0 s := rfl
@[simp] theorem exec_linkDown (s : State) : exec (.linkDown) s = execLinkDown s := rfl
@[simp] theorem exec_hotReset (s : State) : exec (.hotReset) s = execHotReset s := rfl
@[simp] theorem exec_perstNAssert (s : State) : exec (.perstNAssert) s = execPerstNAssert s := rfl
@[simp] theorem exec_perstNDeassert (sris : Bool) (s : State) : exec (.perstNDeassert sris) s = execPerstNDeassert sris s := rfl
@[simp] theorem exec_flrInitiate (s : State) : exec (.flrInitiate) s = execFlrInitiate s := rfl
@[simp] theorem exec_flrComplete (s : State) : exec (.flrComplete) s = execFlrComplete s := rfl
@[simp] theorem exec_configRequest (a : ConfigAccess) (s : State) : exec (.configRequest a) s = execConfigRequest a s := rfl
@[simp] theorem exec_d3hotEntry (s : State) : exec (.d3hotEntry) s = execD3hotEntry s := rfl
@[simp] theorem exec_d0Return (s : State) : exec (.d0Return) s = execD0Return s := rfl
@[simp] theorem exec_bar2Read (offset len : Nat) (s : State) : exec (.bar2Read offset len) s = execBar2Read offset len s := rfl
@[simp] theorem exec_bar2Write (offset : Nat) (data : List (Option Byte)) (ep : Bool) (s : State) : exec (.bar2Write offset data ep) s = execBar2Write offset data ep s := rfl
@[simp] theorem exec_bar2WakeTimeout (n : Fin 2) (s : State) : exec (.bar2WakeTimeout n) s = execBar2WakeTimeout n s := rfl
@[simp] theorem exec_upstreamCompletion (tag : Nat) (st : CplStatus) (data : List Byte) (s : State) : exec (.upstreamCompletion tag st data) s = execUpstreamCompletion tag st data s := rfl
@[simp] theorem exec_completionTimeout (tag : Nat) (s : State) : exec (.completionTimeout tag) s = execCompletionTimeout tag s := rfl
@[simp] theorem exec_tlpReplay (rollover : Bool) (s : State) : exec (.tlpReplay rollover) s = execTlpReplay rollover s := rfl
@[simp] theorem exec_msixUnmask (v : Fin 64) (s : State) : exec (.msixUnmask v) s = execMsixUnmask v s := rfl
@[simp] theorem exec_mbxDataLoWrite (m : Mailbox) (v : Word32) (s : State) : exec (.mbxDataLoWrite m v) s = execMbxDataLoWrite m v s := rfl
@[simp] theorem exec_mbxDataHiWrite (m : Mailbox) (hi : Word32) (lo : Option Word32) (s : State) : exec (.mbxDataHiWrite m hi lo) s = execMbxDataHiWrite m hi lo s := rfl
@[simp] theorem exec_mbxDataHiRead (m : Mailbox) (s : State) : exec (.mbxDataHiRead m) s = execMbxDataHiRead m s := rfl
@[simp] theorem exec_fwServicePass (s : State) : exec (.fwServicePass) s = execFwServicePass s := rfl
@[simp] theorem exec_icuEdgeRequest (src : Fin 256) (s : State) : exec (.icuEdgeRequest src) s = execIcuEdgeRequest src s := rfl
@[simp] theorem exec_icuLevelChange (src : Fin 256) (level : Bool) (s : State) : exec (.icuLevelChange src level) s = execIcuLevelChange src level s := rfl
@[simp] theorem exec_icuClaim (t : Target) (v : Fin 64) (s : State) : exec (.icuClaim t v) s = execIcuClaim t v s := rfl
@[simp] theorem exec_icuComplete (t : Target) (id : Fin 256) (s : State) : exec (.icuComplete t id) s = execIcuComplete t id s := rfl
@[simp] theorem exec_icuPendWrite (t : Target) (i : Fin 8) (v : Word32) (s : State) : exec (.icuPendWrite t i v) s = execIcuPendWrite t i v s := rfl
@[simp] theorem exec_icuSwiSet (t : Target) (v : Byte) (s : State) : exec (.icuSwiSet t v) s = execIcuSwiSet t v s := rfl
@[simp] theorem exec_waitForInterrupt (t : Target) (coincident : Option (Fin 256)) (s : State) : exec (.waitForInterrupt t coincident) s = execWaitForInterrupt t coincident s := rfl
@[simp] theorem exec_coreWake (t : Target) (s : State) : exec (.coreWake t) s = execCoreWake t s := rfl
@[simp] theorem exec_identify (q : Fin 16) (s : State) : exec (.identify q) s = execIdentify q s := rfl
@[simp] theorem exec_getVersions (q : Fin 16) (s : State) : exec (.getVersions q) s = execGetVersions q s := rfl
@[simp] theorem exec_nop (q : Fin 16) (s : State) : exec (.nop q) s = execNop q s := rfl
@[simp] theorem exec_queueConfig (q : Fin 16) (s : State) : exec (.queueConfig q) s = execQueueConfig q s := rfl
@[simp] theorem exec_queueStatus (q : Fin 16) (s : State) : exec (.queueStatus q) s = execQueueStatus q s := rfl
@[simp] theorem exec_powerState (q : Fin 16) (s : State) : exec (.powerState q) s = execPowerState q s := rfl
@[simp] theorem exec_reset (q : Fin 16) (s : State) : exec (.reset q) s = execReset q s := rfl
@[simp] theorem exec_deferredReset (s : State) : exec (.deferredReset) s = execDeferredReset s := rfl
@[simp] theorem exec_sessionOpen (q : Fin 16) (s : State) : exec (.sessionOpen q) s = execSessionOpen q s := rfl
@[simp] theorem exec_sessionClose (q : Fin 16) (s : State) : exec (.sessionClose q) s = execSessionClose q s := rfl
@[simp] theorem exec_sessionQuery (q : Fin 16) (s : State) : exec (.sessionQuery q) s = execSessionQuery q s := rfl
@[simp] theorem exec_sessionSet (q : Fin 16) (s : State) : exec (.sessionSet q) s = execSessionSet q s := rfl
@[simp] theorem exec_sessionSize (q : Fin 16) (s : State) : exec (.sessionSize q) s = execSessionSize q s := rfl
@[simp] theorem exec_podLoad (q : Fin 16) (s : State) : exec (.podLoad q) s = execPodLoad q s := rfl
@[simp] theorem exec_podUnload (q : Fin 16) (s : State) : exec (.podUnload q) s = execPodUnload q s := rfl
@[simp] theorem exec_podStore (q : Fin 16) (s : State) : exec (.podStore q) s = execPodStore q s := rfl
@[simp] theorem exec_podDelete (q : Fin 16) (s : State) : exec (.podDelete q) s = execPodDelete q s := rfl
@[simp] theorem exec_jobEncode (q : Fin 16) (s : State) : exec (.jobEncode q) s = execJobEncode q s := rfl
@[simp] theorem exec_jobDecode (q : Fin 16) (s : State) : exec (.jobDecode q) s = execJobDecode q s := rfl
@[simp] theorem exec_jobLoopback (q : Fin 16) (s : State) : exec (.jobLoopback q) s = execJobLoopback q s := rfl
@[simp] theorem exec_jobMeasure (q : Fin 16) (s : State) : exec (.jobMeasure q) s = execJobMeasure q s := rfl
@[simp] theorem exec_jobCancel (q : Fin 16) (s : State) : exec (.jobCancel q) s = execJobCancel q s := rfl
@[simp] theorem exec_portConfig (q : Fin 16) (s : State) : exec (.portConfig q) s = execPortConfig q s := rfl
@[simp] theorem exec_portQuery (q : Fin 16) (s : State) : exec (.portQuery q) s = execPortQuery q s := rfl
@[simp] theorem exec_flowAdd (q : Fin 16) (s : State) : exec (.flowAdd q) s = execFlowAdd q s := rfl
@[simp] theorem exec_flowRemove (q : Fin 16) (s : State) : exec (.flowRemove q) s = execFlowRemove q s := rfl
@[simp] theorem exec_flowBind (q : Fin 16) (s : State) : exec (.flowBind q) s = execFlowBind q s := rfl
@[simp] theorem exec_schedConfig (q : Fin 16) (s : State) : exec (.schedConfig q) s = execSchedConfig q s := rfl
@[simp] theorem exec_vtcConfig (q : Fin 16) (s : State) : exec (.vtcConfig q) s = execVtcConfig q s := rfl
@[simp] theorem exec_ptpConfig (q : Fin 16) (s : State) : exec (.ptpConfig q) s = execPtpConfig q s := rfl
@[simp] theorem exec_mcast (q : Fin 16) (s : State) : exec (.mcast q) s = execMcast q s := rfl
@[simp] theorem exec_memCopy (q : Fin 16) (s : State) : exec (.memCopy q) s = execMemCopy q s := rfl
@[simp] theorem exec_memFill (q : Fin 16) (s : State) : exec (.memFill q) s = execMemFill q s := rfl
@[simp] theorem exec_memPin (q : Fin 16) (s : State) : exec (.memPin q) s = execMemPin q s := rfl
@[simp] theorem exec_userRead (q : Fin 16) (s : State) : exec (.userRead q) s = execUserRead q s := rfl
@[simp] theorem exec_userWrite (q : Fin 16) (s : State) : exec (.userWrite q) s = execUserWrite q s := rfl
@[simp] theorem exec_scrubConfig (q : Fin 16) (s : State) : exec (.scrubConfig q) s = execScrubConfig q s := rfl
@[simp] theorem exec_counterRead (q : Fin 16) (s : State) : exec (.counterRead q) s = execCounterRead q s := rfl
@[simp] theorem exec_counterClear (q : Fin 16) (s : State) : exec (.counterClear q) s = execCounterClear q s := rfl
@[simp] theorem exec_faultConfig (q : Fin 16) (s : State) : exec (.faultConfig q) s = execFaultConfig q s := rfl
@[simp] theorem exec_faultLogRead (q : Fin 16) (s : State) : exec (.faultLogRead q) s = execFaultLogRead q s := rfl
@[simp] theorem exec_faultInject (q : Fin 16) (s : State) : exec (.faultInject q) s = execFaultInject q s := rfl
@[simp] theorem exec_faultClear (q : Fin 16) (s : State) : exec (.faultClear q) s = execFaultClear q s := rfl
@[simp] theorem exec_selftest (q : Fin 16) (s : State) : exec (.selftest q) s = execSelftest q s := rfl
@[simp] theorem exec_fwStage (q : Fin 16) (s : State) : exec (.fwStage q) s = execFwStage q s := rfl
@[simp] theorem exec_fwCommit (q : Fin 16) (s : State) : exec (.fwCommit q) s = execFwCommit q s := rfl
@[simp] theorem exec_commandTimeout (q : Fin 16) (seq : Word32) (s : State) : exec (.commandTimeout q seq) s = execCommandTimeout q seq s := rfl
@[simp] theorem exec_pipeJobStart (n : Fin 4) (s : State) : exec (.pipeJobStart n) s = execPipeJobStart n s := rfl
@[simp] theorem exec_pipeJobEnd (n : Fin 4) (session : Fin 64) (s : State) : exec (.pipeJobEnd n session) s = execPipeJobEnd n session s := rfl
@[simp] theorem exec_pageFetchComplete (n : Fin 4) (s : State) : exec (.pageFetchComplete n) s = execPageFetchComplete n s := rfl
@[simp] theorem exec_threadDeadlock (n : Fin 4) (session : Fin 64) (s : State) : exec (.threadDeadlock n session) s = execThreadDeadlock n session s := rfl
@[simp] theorem exec_unitResultReturn (r : PipeRef) (s : State) : exec (.unitResultReturn r) s = execUnitResultReturn r s := rfl
@[simp] theorem exec_threadWaitRelease (r : PipeRef) (s : State) : exec (.threadWaitRelease r) s = execThreadWaitRelease r s := rfl
@[simp] theorem exec_periodicSelftest (n : Fin 4) (s : State) : exec (.periodicSelftest n) s = execPeriodicSelftest n s := rfl
@[simp] theorem exec_pipeSelftestEnd (n : Fin 4) (failCode : BitVec 16) (s : State) : exec (.pipeSelftestEnd n failCode) s = execPipeSelftestEnd n failCode s := rfl
@[simp] theorem exec_pipeSelftestAbort (n : Fin 4) (s : State) : exec (.pipeSelftestAbort n) s = execPipeSelftestAbort n s := rfl
@[simp] theorem exec_selftestWaitExpired (n : Fin 4) (s : State) : exec (.selftestWaitExpired n) s = execSelftestWaitExpired n s := rfl
@[simp] theorem exec_memorySelftestEnd (i : Fin 3) (failCode : BitVec 16) (s : State) : exec (.memorySelftestEnd i failCode) s = execMemorySelftestEnd i failCode s := rfl
@[simp] theorem exec_add (r : PipeRef) (s : State) : exec (.add r) s = execAdd r s := rfl
@[simp] theorem exec_sub (r : PipeRef) (s : State) : exec (.sub r) s = execSub r s := rfl
@[simp] theorem exec_mul (r : PipeRef) (s : State) : exec (.mul r) s = execMul r s := rfl
@[simp] theorem exec_divu (r : PipeRef) (s : State) : exec (.divu r) s = execDivu r s := rfl
@[simp] theorem exec_divs (r : PipeRef) (s : State) : exec (.divs r) s = execDivs r s := rfl
@[simp] theorem exec_remu (r : PipeRef) (s : State) : exec (.remu r) s = execRemu r s := rfl
@[simp] theorem exec_and (r : PipeRef) (s : State) : exec (.and r) s = execAnd r s := rfl
@[simp] theorem exec_or (r : PipeRef) (s : State) : exec (.or r) s = execOr r s := rfl
@[simp] theorem exec_xor (r : PipeRef) (s : State) : exec (.xor r) s = execXor r s := rfl
@[simp] theorem exec_shl (r : PipeRef) (s : State) : exec (.shl r) s = execShl r s := rfl
@[simp] theorem exec_shru (r : PipeRef) (s : State) : exec (.shru r) s = execShru r s := rfl
@[simp] theorem exec_shrs (r : PipeRef) (s : State) : exec (.shrs r) s = execShrs r s := rfl
@[simp] theorem exec_min (r : PipeRef) (s : State) : exec (.min r) s = execMin r s := rfl
@[simp] theorem exec_max (r : PipeRef) (s : State) : exec (.max r) s = execMax r s := rfl
@[simp] theorem exec_mov (r : PipeRef) (s : State) : exec (.mov r) s = execMov r s := rfl
@[simp] theorem exec_cmp (r : PipeRef) (s : State) : exec (.cmp r) s = execCmp r s := rfl
@[simp] theorem exec_tstb (r : PipeRef) (s : State) : exec (.tstb r) s = execTstb r s := rfl
@[simp] theorem exec_ext (r : PipeRef) (s : State) : exec (.ext r) s = execExt r s := rfl
@[simp] theorem exec_ins (r : PipeRef) (s : State) : exec (.ins r) s = execIns r s := rfl
@[simp] theorem exec_ldc (r : PipeRef) (s : State) : exec (.ldc r) s = execLdc r s := rfl
@[simp] theorem exec_clz (r : PipeRef) (s : State) : exec (.clz r) s = execClz r s := rfl
@[simp] theorem exec_wlen (r : PipeRef) (s : State) : exec (.wlen r) s = execWlen r s := rfl
@[simp] theorem exec_sel (r : PipeRef) (s : State) : exec (.sel r) s = execSel r s := rfl
@[simp] theorem exec_nopStep (r : PipeRef) (s : State) : exec (.nopStep r) s = execNopStep r s := rfl
@[simp] theorem exec_br (r : PipeRef) (s : State) : exec (.br r) s = execBr r s := rfl
@[simp] theorem exec_brx (r : PipeRef) (s : State) : exec (.brx r) s = execBrx r s := rfl
@[simp] theorem exec_call (r : PipeRef) (s : State) : exec (.call r) s = execCall r s := rfl
@[simp] theorem exec_ret (r : PipeRef) (s : State) : exec (.ret r) s = execRet r s := rfl
@[simp] theorem exec_endStep (r : PipeRef) (s : State) : exec (.endStep r) s = execEndStep r s := rfl
@[simp] theorem exec_waitCnt (r : PipeRef) (s : State) : exec (.waitCnt r) s = execWaitCnt r s := rfl
@[simp] theorem exec_waitUnit (r : PipeRef) (s : State) : exec (.waitUnit r) s = execWaitUnit r s := rfl
@[simp] theorem exec_signal (r : PipeRef) (s : State) : exec (.signal r) s = execSignal r s := rfl
@[simp] theorem exec_emit (r : PipeRef) (s : State) : exec (.emit r) s = execEmit r s := rfl
@[simp] theorem exec_fetch (r : PipeRef) (s : State) : exec (.fetch r) s = execFetch r s := rfl
@[simp] theorem exec_list (r : PipeRef) (s : State) : exec (.list r) s = execList r s := rfl
@[simp] theorem exec_grid (r : PipeRef) (s : State) : exec (.grid r) s = execGrid r s := rfl
@[simp] theorem exec_predict (r : PipeRef) (s : State) : exec (.predict r) s = execPredict r s := rfl
@[simp] theorem exec_interp (r : PipeRef) (s : State) : exec (.interp r) s = execInterp r s := rfl
@[simp] theorem exec_sad (r : PipeRef) (s : State) : exec (.sad r) s = execSad r s := rfl
@[simp] theorem exec_sse (r : PipeRef) (s : State) : exec (.sse r) s = execSse r s := rfl
@[simp] theorem exec_satd (r : PipeRef) (s : State) : exec (.satd r) s = execSatd r s := rfl
@[simp] theorem exec_rate (r : PipeRef) (s : State) : exec (.rate r) s = execRate r s := rfl
@[simp] theorem exec_fwdQ (r : PipeRef) (s : State) : exec (.fwdQ r) s = execFwdQ r s := rfl
@[simp] theorem exec_deqInv (r : PipeRef) (s : State) : exec (.deqInv r) s = execDeqInv r s := rfl
@[simp] theorem exec_deblock (r : PipeRef) (s : State) : exec (.deblock r) s = execDeblock r s := rfl
@[simp] theorem exec_sao (r : PipeRef) (s : State) : exec (.sao r) s = execSao r s := rfl
@[simp] theorem exec_alf (r : PipeRef) (s : State) : exec (.alf r) s = execAlf r s := rfl
@[simp] theorem exec_cdef (r : PipeRef) (s : State) : exec (.cdef r) s = execCdef r s := rfl
@[simp] theorem exec_stats (r : PipeRef) (s : State) : exec (.stats r) s = execStats r s := rfl
@[simp] theorem exec_encode (r : PipeRef) (s : State) : exec (.encode r) s = execEncode r s := rfl
@[simp] theorem exec_decode (r : PipeRef) (s : State) : exec (.decode r) s = execDecode r s := rfl
@[simp] theorem exec_init (r : PipeRef) (s : State) : exec (.init r) s = execInit r s := rfl
@[simp] theorem exec_flush (r : PipeRef) (s : State) : exec (.flush r) s = execFlush r s := rfl
@[simp] theorem exec_startUnit (r : PipeRef) (s : State) : exec (.startUnit r) s = execStartUnit r s := rfl
@[simp] theorem exec_endUnit (r : PipeRef) (s : State) : exec (.endUnit r) s = execEndUnit r s := rfl
@[simp] theorem exec_raw (r : PipeRef) (s : State) : exec (.raw r) s = execRaw r s := rfl
@[simp] theorem exec_inject (r : PipeRef) (s : State) : exec (.inject r) s = execInject r s := rfl
@[simp] theorem exec_sseSums (r : PipeRef) (s : State) : exec (.sseSums r) s = execSseSums r s := rfl
@[simp] theorem exec_ssimSums (r : PipeRef) (s : State) : exec (.ssimSums r) s = execSsimSums r s := rfl
@[simp] theorem exec_compare (r : PipeRef) (s : State) : exec (.compare r) s = execCompare r s := rfl
@[simp] theorem exec_rcStep (r : PipeRef) (s : State) : exec (.rcStep r) s = execRcStep r s := rfl
@[simp] theorem exec_hrdStep (r : PipeRef) (s : State) : exec (.hrdStep r) s = execHrdStep r s := rfl
@[simp] theorem exec_refAlloc (r : PipeRef) (s : State) : exec (.refAlloc r) s = execRefAlloc r s := rfl
@[simp] theorem exec_refFree (r : PipeRef) (s : State) : exec (.refFree r) s = execRefFree r s := rfl
@[simp] theorem exec_picOut (r : PipeRef) (s : State) : exec (.picOut r) s = execPicOut r s := rfl
@[simp] theorem exec_flowRead (r : PipeRef) (s : State) : exec (.flowRead r) s = execFlowRead r s := rfl
@[simp] theorem exec_timeNow (r : PipeRef) (s : State) : exec (.timeNow r) s = execTimeNow r s := rfl
@[simp] theorem exec_portFill (r : PipeRef) (s : State) : exec (.portFill r) s = execPortFill r s := rfl
@[simp] theorem exec_aruPartialWrite (n : Fin 4) (s : State) : exec (.aruPartialWrite n) s = execAruPartialWrite n s := rfl
@[simp] theorem exec_aruReadIdxReread (n : Fin 4) (s : State) : exec (.aruReadIdxReread n) s = execAruReadIdxReread n s := rfl
@[simp] theorem exec_dramTrained (n : Fin 2) (s : State) : exec (.dramTrained n) s = execDramTrained n s := rfl
@[simp] theorem exec_dramInitDone (n : Fin 2) (s : State) : exec (.dramInitDone n) s = execDramInitDone n s := rfl
@[simp] theorem exec_lfsInitDone (s : State) : exec (.lfsInitDone) s = execLfsInitDone s := rfl
@[simp] theorem exec_dramSelfRefreshEntry (n : Fin 2) (s : State) : exec (.dramSelfRefreshEntry n) s = execDramSelfRefreshEntry n s := rfl
@[simp] theorem exec_dramSelfRefreshExit (n : Fin 2) (s : State) : exec (.dramSelfRefreshExit n) s = execDramSelfRefreshExit n s := rfl
@[simp] theorem exec_dramReread (word : Nat) (recovered : Bool) (s : State) : exec (.dramReread word recovered) s = execDramReread word recovered s := rfl
@[simp] theorem exec_correctionWriteBack (word : Nat) (s : State) : exec (.correctionWriteBack word) s = execCorrectionWriteBack word s := rfl
@[simp] theorem exec_scrubBurst (s : State) : exec (.scrubBurst) s = execScrubBurst s := rfl
@[simp] theorem exec_scrubCatchUp (n : Fin 2) (s : State) : exec (.scrubCatchUp n) s = execScrubCatchUp n s := rfl
@[simp] theorem exec_mramBurstEnd (s : State) : exec (.mramBurstEnd) s = execMramBurstEnd s := rfl
@[simp] theorem exec_fabTimeout (port : Fin 16) (s : State) : exec (.fabTimeout port) s = execFabTimeout port s := rfl
@[simp] theorem exec_start (n : Fin 16) (s : State) : exec (.start n) s = execStart n s := rfl
@[simp] theorem exec_abort (n : Fin 16) (s : State) : exec (.abort n) s = execAbort n s := rfl
@[simp] theorem exec_clear (n : Fin 16) (s : State) : exec (.clear n) s = execClear n s := rfl
@[simp] theorem exec_dmaEndOfCount (n : Fin 16) (s : State) : exec (.dmaEndOfCount n) s = execDmaEndOfCount n s := rfl
@[simp] theorem exec_dmaErrorStop (n : Fin 16) (s : State) : exec (.dmaErrorStop n) s = execDmaErrorStop n s := rfl
@[simp] theorem exec_laneLock (n : Fin 16) (s : State) : exec (.laneLock n) s = execLaneLock n s := rfl
@[simp] theorem exec_laneLockLoss (n : Fin 16) (s : State) : exec (.laneLockLoss n) s = execLaneLockLoss n s := rfl
@[simp] theorem exec_relockAttemptFailed (n : Fin 16) (s : State) : exec (.relockAttemptFailed n) s = execRelockAttemptFailed n s := rfl
@[simp] theorem exec_laneWatchdog (n : Fin 16) (s : State) : exec (.laneWatchdog n) s = execLaneWatchdog n s := rfl
@[simp] theorem exec_sdiLineTransmit (n : Fin 16) (arrived : Bool) (frameStart : Bool) (line : Nat) (active : Option Nat) (s : State) : exec (.sdiLineTransmit n arrived frameStart line active) s = execSdiLineTransmit n arrived frameStart line active s := rfl
@[simp] theorem exec_sdiLineReceive (n : Fin 16) (l : SdiLine) (s : State) : exec (.sdiLineReceive n l) s = execSdiLineReceive n l s := rfl
@[simp] theorem exec_ancPacketReceive (n : Fin 16) (p : AncPacket) (s : State) : exec (.ancPacketReceive n p) s = execAncPacketReceive n p s := rfl
@[simp] theorem exec_ethFrameReceive (n : Fin 16) (f : EthFrame) (s : State) : exec (.ethFrameReceive n f) s = execEthFrameReceive n f s := rfl
@[simp] theorem exec_ethFrameTransmit (n : Fin 16) (s : State) : exec (.ethFrameTransmit n) s = execEthFrameTransmit n s := rfl
@[simp] theorem exec_egressFetch (n : Fin 16) (s : State) : exec (.egressFetch n) s = execEgressFetch n s := rfl
@[simp] theorem exec_linkFault (n : Fin 16) (remote : Bool) (s : State) : exec (.linkFault n remote) s = execLinkFault n remote s := rfl
@[simp] theorem exec_ptpLoss (s : State) : exec (.ptpLoss) s = execPtpLoss s := rfl
@[simp] theorem exec_runSet (s : State) : exec (.runSet) s = execRunSet s := rfl
@[simp] theorem exec_runClr (s : State) : exec (.runClr) s = execRunClr s := rfl
@[simp] theorem exec_step (s : State) : exec (.step) s = execStep s := rfl
@[simp] theorem exec_lossSet (s : State) : exec (.lossSet) s = execLossSet s := rfl
@[simp] theorem exec_lossClr (s : State) : exec (.lossClr) s = execLossClr s := rfl
@[simp] theorem exec_lockSet (s : State) : exec (.lockSet) s = execLockSet s := rfl
@[simp] theorem exec_lockClr (s : State) : exec (.lockClr) s = execLockClr s := rfl
@[simp] theorem exec_ptpNsRead (p : Path) (addr : Nat) (s : State) : exec (.ptpNsRead p addr) s = execPtpNsRead p addr s := rfl
@[simp] theorem exec_ptpTsFifoPop (s : State) : exec (.ptpTsFifoPop) s = execPtpTsFifoPop s := rfl
@[simp] theorem exec_ptpTarget (s : State) : exec (.ptpTarget) s = execPtpTarget s := rfl
@[simp] theorem exec_ppsIn (s : State) : exec (.ppsIn) s = execPpsIn s := rfl
@[simp] theorem exec_fsyncIn (s : State) : exec (.fsyncIn) s = execFsyncIn s := rfl
@[simp] theorem exec_ppsOut (rising : Bool) (s : State) : exec (.ppsOut rising) s = execPpsOut rising s := rfl
@[simp] theorem exec_fsyncOut (rising : Bool) (s : State) : exec (.fsyncOut rising) s = execFsyncOut rising s := rfl
@[simp] theorem exec_flowEntryAgeOut (e : Fin 4096) (s : State) : exec (.flowEntryAgeOut e) s = execFlowEntryAgeOut e s := rfl
@[simp] theorem exec_captureFlush (n : Fin 16) (s : State) : exec (.captureFlush n) s = execCaptureFlush n s := rfl
@[simp] theorem exec_packetiserResume (flow : Fin 1024) (s : State) : exec (.packetiserResume flow) s = execPacketiserResume flow s := rfl
@[simp] theorem exec_eventFifoRead (i : Fin 3) (s : State) : exec (.eventFifoRead i) s = execEventFifoRead i s := rfl
@[simp] theorem exec_faultReport (src : Fin 128) (detail : Word32) (s : State) : exec (.faultReport src detail) s = execFaultReport src detail s := rfl
@[simp] theorem exec_conditionEnd (src : Fin 128) (s : State) : exec (.conditionEnd src) s = execConditionEnd src s := rfl
@[simp] theorem exec_quietExpiry (src : Fin 128) (s : State) : exec (.quietExpiry src) s = execQuietExpiry src s := rfl
@[simp] theorem exec_fltActiveClear (src : Fin 128) (s : State) : exec (.fltActiveClear src) s = execFltActiveClear src s := rfl
@[simp] theorem exec_causeReopen (s : State) : exec (.causeReopen) s = execCauseReopen s := rfl
@[simp] theorem exec_comparatorProof (pairB detected : Bool) (s : State) : exec (.comparatorProof pairB detected) s = execComparatorProof pairB detected s := rfl
@[simp] theorem exec_hazelWdog (pairB : Bool) (s : State) : exec (.hazelWdog pairB) s = execHazelWdog pairB s := rfl
@[simp] theorem exec_pipWdog (s : State) : exec (.pipWdog) s = execPipWdog s := rfl
@[simp] theorem exec_logReinit (s : State) : exec (.logReinit) s = execLogReinit s := rfl
@[simp] theorem exec_lrClear (s : State) : exec (.lrClear) s = execLrClear s := rfl
@[simp] theorem exec_errForceSet (s : State) : exec (.errForceSet) s = execErrForceSet s := rfl
@[simp] theorem exec_errForceClr (s : State) : exec (.errForceClr) s = execErrForceClr s := rfl
@[simp] theorem exec_persistentEntryWrite (s : State) : exec (.persistentEntryWrite) s = execPersistentEntryWrite s := rfl
@[simp] theorem exec_smbusWrite (addr : Nat) (v : Word32) (pec : Pec) (s : State) : exec (.smbusWrite addr v pec) s = execSmbusWrite addr v pec s := rfl
@[simp] theorem exec_smbusRead (addr : Nat) (s : State) : exec (.smbusRead addr) s = execSmbusRead addr s := rfl
@[simp] theorem exec_smbusClockTimeout (s : State) : exec (.smbusClockTimeout) s = execSmbusClockTimeout s := rfl
@[simp] theorem exec_alertResponse (s : State) : exec (.alertResponse) s = execAlertResponse s := rfl
@[simp] theorem exec_cfgKey (v : Word32) (s : State) : exec (.cfgKey v) s = execCfgKey v s := rfl
@[simp] theorem exec_stage (s : State) : exec (.stage) s = execStage s := rfl
@[simp] theorem exec_commit (s : State) : exec (.commit) s = execCommit s := rfl
@[simp] theorem exec_cfgCommitEnd (ok : Bool) (s : State) : exec (.cfgCommitEnd ok) s = execCfgCommitEnd ok s := rfl
@[simp] theorem exec_read (s : State) : exec (.read) s = execRead s := rfl
@[simp] theorem exec_discard (s : State) : exec (.discard) s = execDiscard s := rfl
@[simp] theorem exec_jtagUnlock (t : JtagToken) (s : State) : exec (.jtagUnlock t) s = execJtagUnlock t s := rfl
@[simp] theorem exec_jtagTokenDecision (s : State) : exec (.jtagTokenDecision) s = execJtagTokenDecision s := rfl
@[simp] theorem exec_mramBankDReady (s : State) : exec (.mramBankDReady) s = execMramBankDReady s := rfl
@[simp] theorem exec_linkFaultCleared (n : Fin 16) (remote : Bool) (s : State) : exec (.linkFaultCleared n remote) s = execLinkFaultCleared n remote s := rfl

end Sys2Proof.Machine
end

