-- ==== Sys2Proof/Laws/Faults.lean ====
section
/-! SUPPORT. What a report to the fault collector can change (15 R780 to R791), and what is left after a chip reset. -/

namespace Sys2Proof.Machine

theorem logEvent_shape (s : State) (kind src : Nat) : ∃ f, s.logEvent kind src = { s with flt := f } := by
  unfold State.logEvent
  split
  · exact ⟨_, rfl⟩
  · split
    · exact ⟨_, rfl⟩
    · exact ⟨s.flt, rfl⟩

theorem reactNmi_shape (s : State) (src : Nat) : ∃ f, s.reactNmi src = { s with flt := f } := by
  unfold State.reactNmi
  split
  · exact ⟨_, rfl⟩
  · unfold State.dropReaction
    obtain ⟨f, h⟩ := logEvent_shape { s with flt := { s.flt with dropped := satAdd 32 s.flt.dropped 1 } } 4 src
    exact ⟨f, h⟩

/-- The reactions of a source without a reset target change the collector, and the reset that is due. -/
theorem react_shape (s : State) (src mask detail : Nat) (h1 : fltHazelReset src = false) (h2 : fltBlock src detail = none) :
    ∃ f r, s.react src mask detail = { s with flt := f, husk := { s.husk with resetDue := r } } := by
  have key : ∀ t : State, (∃ f, t = { s with flt := f }) →
      ∃ f r, (if bitAt mask 3 then { t with husk := { t.husk with resetDue := some (t.husk.resetDue.getD (.fault, some src)) } }
        else if bitAt mask 2 then t.reactBlock src detail else t) = { s with flt := f, husk := { s.husk with resetDue := r } } := by
    rintro t ⟨f, rfl⟩
    split
    · exact ⟨f, _, rfl⟩
    · refine ⟨f, s.husk.resetDue, ?_⟩
      split
      · simp [State.reactBlock, h1, h2]
      · rfl
  unfold State.react
  by_cases hm : bitAt mask 1 = true
  · simp only [hm, if_true]; exact key _ (reactNmi_shape s src)
  · simp only [hm]; exact key _ ⟨s.flt, rfl⟩

/-- A record changes the collector, and the reset that is due, of a source without a reset target. -/
theorem record_shape (s : State) (src detail : Nat) (stands : Bool) (h1 : fltHazelReset src = false) (h2 : fltBlock src detail = none) :
    ∃ f r, s.record src detail stands = { s with flt := f, husk := { s.husk with resetDue := r } } := by
  unfold State.record
  dsimp only
  split
  · exact ⟨_, s.husk.resetDue, rfl⟩
  · have key : ∀ t : State, (∃ f, t = { s with flt := f }) →
        ∃ f r, t.react src (s.reactMask src) detail = { s with flt := f, husk := { s.husk with resetDue := r } } := by
      rintro t ⟨f, rfl⟩
      obtain ⟨g, r, h⟩ := react_shape { s with flt := f } src (s.reactMask src) detail h1 h2
      exact ⟨g, r, h⟩
    apply key
    obtain ⟨f, h⟩ := logEvent_shape (s.setFltSrc src { s.fltSrc src with open_ := true, mask := s.reactMask src, detail := detail
                                                                         standing := stands, causeFlag := false, last := s.now
                                                                         cnt := satAdd 16 (s.fltSrc src).cnt 1 }) 1 src
    split
    · rw [h]; exact ⟨_, rfl⟩
    · rw [h]; exact ⟨f, rfl⟩

theorem report_shape (s : State) (src detail : Nat) (h1 : fltHazelReset src = false) (h2 : fltBlock src (detail % 2 ^ 32) = none) :
    ∃ f r, s.report src detail = { s with flt := f, husk := { s.husk with resetDue := r } } := by
  unfold State.report
  split
  · exact record_shape _ _ _ _ h1 h2
  · exact ⟨s.flt, s.husk.resetDue, rfl⟩

theorem reportHusk_shape (s : State) (src detail : Nat) (h1 : fltHazelReset src = false) (h2 : fltBlock src (detail % 2 ^ 32) = none) :
    ∃ f r, s.reportHusk src detail = { s with flt := f, husk := { s.husk with resetDue := r } } := by
  unfold State.reportHusk
  split
  · exact record_shape _ _ _ _ h1 h2
  · exact ⟨s.flt, s.husk.resetDue, rfl⟩

theorem endCondition_shape (s : State) (src : Nat) : ∃ f, s.endCondition src = { s with flt := f } := by
  unfold State.endCondition
  dsimp only
  split
  · exact ⟨_, rfl⟩
  · exact ⟨s.flt, rfl⟩

/-- What the journal scan of bank M and the configuration checks can change at a chip reset. -/
structure ResetWork (s t : State) : Prop where
  husk : ∃ r, t.husk = { s.husk with resetDue := r }
  rdy : t.rdy = s.rdy
  ever : t.ever = s.ever
  fell : t.fell = s.fell
  now : t.now = s.now
  pending : t.pending = s.pending
  plls : t.plls = s.plls
  vtc : t.vtc = s.vtc
  pac : t.pac = s.pac
  pcie : t.pcie = s.pcie
  mbx : t.mbx = s.mbx
  icu : t.icu = s.icu
  hazel : t.hazel = s.hazel
  dram : t.dram = s.dram
  dma : t.dma = s.dma
  pipes : t.pipes = s.pipes
  lanes : t.lanes = s.lanes
  flows : t.flows = s.flows
  ptp : t.ptp = s.ptp

theorem ResetWork.refl (s : State) : ResetWork s s := by
  constructor <;> first | rfl | exact ⟨s.husk.resetDue, rfl⟩

theorem ResetWork.trans {s t u : State} (h : ResetWork s t) (k : ResetWork t u) : ResetWork s u := by
  obtain ⟨r, hr⟩ := h.husk
  obtain ⟨q, hq⟩ := k.husk
  refine { husk := ⟨q, by rw [hq, hr]⟩, rdy := k.rdy.trans h.rdy, ever := k.ever.trans h.ever, fell := k.fell.trans h.fell
           now := k.now.trans h.now, pending := k.pending.trans h.pending
           plls := k.plls.trans h.plls, vtc := k.vtc.trans h.vtc, pac := k.pac.trans h.pac, pcie := k.pcie.trans h.pcie
           mbx := k.mbx.trans h.mbx, icu := k.icu.trans h.icu, hazel := k.hazel.trans h.hazel, dram := k.dram.trans h.dram
           dma := k.dma.trans h.dma, pipes := k.pipes.trans h.pipes, lanes := k.lanes.trans h.lanes
           flows := k.flows.trans h.flows, ptp := k.ptp.trans h.ptp }

theorem ResetWork.of_shape {s t : State} (h : ∃ f r, t = { s with flt := f, husk := { s.husk with resetDue := r } }) : ResetWork s t := by
  obtain ⟨f, r, rfl⟩ := h
  constructor <;> first | rfl | exact ⟨r, rfl⟩

theorem resetWork_cfgBad (s : State) (item loader : Nat) (bad : Bool) : ResetWork s (s.cfgBad item loader bad) := by
  unfold State.cfgBad
  split
  · exact ResetWork.of_shape (reportHusk_shape _ _ _ rfl rfl)
  · exact ResetWork.refl s

theorem resetWork_foldRange (f : Nat → State → State) (n : Nat) (s : State) (h : ∀ i u, ResetWork u (f i u)) : ResetWork s (foldRange f n s) := by
  induction n with
  | zero => exact ResetWork.refl s
  | succ n ih => exact ih.trans (h n _)

theorem resetWork_checkConfig (s : State) : ResetWork s s.checkConfig :=
  ((((resetWork_cfgBad s _ _ _).trans (resetWork_cfgBad _ _ _ _)).trans (resetWork_cfgBad _ _ _ _)).trans
    (resetWork_cfgBad _ _ _ _)).trans (resetWork_foldRange _ _ _ fun _ _ => resetWork_cfgBad _ _ _ _)

theorem resetWork_torn (s : State) (husk : Bool) (d : Nat) :
    ResetWork s (if husk then s.reportHusk 26 d else s.report 26 d) := by
  split
  · exact ResetWork.of_shape (reportHusk_shape _ _ _ rfl rfl)
  · exact ResetWork.of_shape (report_shape _ _ _ rfl rfl)

theorem resetWork_scan (s : State) (husk : Bool) (l : List JRec) : ResetWork s (s.scanJournal husk l) := by
  induction l generalizing s with
  | nil => exact ResetWork.refl s
  | cons r l ih =>
    unfold State.scanJournal
    refine ResetWork.trans ?_ (ih _)
    split
    · constructor <;> first | rfl | exact ⟨s.husk.resetDue, rfl⟩
    · refine ResetWork.trans (t := { s with mram := { s.mram with torn := satAdd 16 s.mram.torn 1 } }) ?_ (resetWork_torn _ _ _)
      constructor <;> first | rfl | exact ⟨s.husk.resetDue, rfl⟩

/-- What a chip reset leaves in the parts that its journal scan and its configuration checks do not reach; `kept` tells
whether the main rails stay up (01 R57). -/
structure AfterReset (s t : State) (c : Cause) (kept : Bool) : Prop where
  cause : t.husk.rstCause = c
  power : t.husk.power = if kept then .mainOn else .awake
  mode : t.husk.pipMode = .boot
  pins : t.husk.hpEn = s.husk.hpEn ∧ t.husk.wakeIn = s.husk.wakeIn ∧ t.husk.strap = s.husk.strap ∧ t.husk.pgMain = s.husk.pgMain
    ∧ t.husk.pgSrd = s.husk.pgSrd ∧ t.husk.pgDram = s.husk.pgDram
  enables : t.husk.enMain = s.husk.enMain ∧ t.husk.enSrd = s.husk.enSrd ∧ t.husk.enDram = s.husk.enDram
  rdy : t.rdy = if kept && s.ready 2 then rdyBit 0 ||| rdyBit 2 ||| rdyBit 14 ||| rdyBit 15 else rdyBit 0
  ever : t.ever = t.rdy
  fell : t.fell = 0
  now : t.now = s.now
  pending : t.pending = s.pending
  plls : t.plls = []
  vtc : t.vtc = {}
  pac : t.pac = {}
  mbx : t.mbx = []
  hazel : t.hazel = {}
  dram : t.dram = []
  dma : t.dma = []
  pipes : t.pipes = []
  lanes : t.lanes = []
  flows : t.flows = []
  ptp : t.ptp = {}

theorem mainStart_shape (s : State) : ∃ f, s.mainStart =
    { s with rdy := s.rdy ||| rdyBit 14 ||| rdyBit 15, ever := s.ever ||| rdyBit 14 ||| rdyBit 15, flt := f } := ⟨_, rfl⟩

theorem afterReset (s : State) (c : Cause) (kept : Bool) (src : List Nat) : AfterReset s (s.fullChipReset c kept src) c kept := by
  have k0 := resetWork_scan { s.chipReset c kept with mram := { (s.chipReset c kept).mram with journalM := [] } } true (s.chipReset c kept).mram.journalM
  generalize hv : State.scanJournal { s.chipReset c kept with mram := { (s.chipReset c kept).mram with journalM := [] } } true
    (s.chipReset c kept).mram.journalM = v at k0
  have k1 := resetWork_checkConfig { v with
    husk := { v.husk.reload v.bankM with rstCause := c }
    flt := { v.flt with react := v.bankM.reacts, quiet := Trip.of (v.bankM.item 0x0020 3277 legal16).1 } }
  generalize hw : State.checkConfig { v with
    husk := { v.husk.reload v.bankM with rstCause := c }
    flt := { v.flt with react := v.bankM.reacts, quiet := Trip.of (v.bankM.item 0x0020 3277 legal16).1 } } = w at k1
  obtain ⟨r, hr⟩ := k0.husk
  obtain ⟨q, hq⟩ := k1.husk
  have h2 : w.rdy = if kept && s.ready 2 then rdyBit 0 ||| rdyBit 2 else rdyBit 0 := by
    rw [k1.rdy]; refine k0.rdy.trans ?_
    simp only [State.chipReset]; split <;> simp
  have h2e : w.ever = w.rdy := by
    rw [h2, k1.ever]; refine k0.ever.trans ?_
    simp only [State.chipReset]; split <;> simp
  obtain ⟨f, hf⟩ := mainStart_shape { w with husk := { w.husk with reopen := src.map fun i => (i, (s.fltSrc i).detail) } }
  have e : s.fullChipReset c kept src =
      if w.rdy.getLsbD 2
      then { w with husk := { w.husk with reopen := src.map fun i => (i, (s.fltSrc i).detail) }, flt := f
                    rdy := w.rdy ||| rdyBit 14 ||| rdyBit 15, ever := w.ever ||| rdyBit 14 ||| rdyBit 15 }
      else { w with husk := { w.husk with reopen := src.map fun i => (i, (s.fltSrc i).detail) } } := by
    unfold State.fullChipReset
    dsimp only
    rw [hv, hw, hf]
    rfl
  have h3 : w.rdy.getLsbD 2 = (kept && s.ready 2) := by
    rw [h2]; cases (kept && s.ready 2) <;> decide
  rw [e]
  cases hk : (kept && s.ready 2)
  all_goals
    rw [h3, hk]
    simp only [Bool.false_eq_true, if_false, if_true]
    refine {
      cause := by simp [hq], power := by simp [hq, hr, Husk.reload, State.chipReset]
      mode := by simp [hq, hr, Husk.reload, State.chipReset]
      pins := by simp [hq, hr, Husk.reload, State.chipReset]
      enables := by simp [hq, hr, Husk.reload, State.chipReset]
      rdy := by simp [h2, hk]
      ever := by simp [h2e]
      fell := k1.fell.trans (k0.fell.trans rfl), now := k1.now.trans (k0.now.trans rfl)
      pending := k1.pending.trans (k0.pending.trans rfl), plls := k1.plls.trans (k0.plls.trans rfl)
      vtc := k1.vtc.trans (k0.vtc.trans rfl), pac := k1.pac.trans (k0.pac.trans rfl), mbx := k1.mbx.trans (k0.mbx.trans rfl)
      hazel := k1.hazel.trans (k0.hazel.trans rfl), dram := k1.dram.trans (k0.dram.trans rfl)
      dma := k1.dma.trans (k0.dma.trans rfl), pipes := k1.pipes.trans (k0.pipes.trans rfl)
      lanes := k1.lanes.trans (k0.lanes.trans rfl), flows := k1.flows.trans (k0.flows.trans rfl)
      ptp := k1.ptp.trans (k0.ptp.trans rfl) }

end Sys2Proof.Machine
end

