-- ==== Sys2Proof/Laws/Memory.lean ====
section
/-! SUPPORT. The canonical form of memory (Memory.wf) under the writes of memory, and the rules by which the lemmas of
MemOkCore, MemOkHost, MemOkDevice and MemOkWork go. -/

namespace Sys2Proof.Machine

theorem memOk_of {s : State} (h1 : Table.wf (0 : Byte) s.mem = true) (h2 : Table.wf Mark.clean s.marks = true) : s.memOk = true := by
  unfold State.memOk Memory.wf; rw [h1, h2]; rfl

theorem State.mem_ok (s : State) (h : s.memOk = true) : Table.wf (0 : Byte) s.mem = true := by
  unfold State.memOk Memory.wf at h
  exact (Bool.and_eq_true _ _ ▸ h).1

theorem State.marks_ok (s : State) (h : s.memOk = true) : Table.wf Mark.clean s.marks = true := by
  unfold State.memOk Memory.wf at h
  exact (Bool.and_eq_true _ _ ▸ h).2

/-- An operation that changes neither memory nor marks. -/
theorem memOk_same {s t : State} (h : s.memOk = true) (h1 : t.mem = s.mem) (h2 : t.marks = s.marks) : t.memOk = true :=
  memOk_of (h1 ▸ s.mem_ok h) (h2 ▸ s.marks_ok h)

theorem memOk_foldRange (f : Nat → State → State) (k : Nat) (s : State) (hs : s.memOk = true)
    (hf : ∀ i u, u.memOk = true → (f i u).memOk = true) : (foldRange f k s).memOk = true :=
  foldRange_keeps (fun u : State => u.memOk = true) f hf k s hs

theorem memOk_foldl {β : Type} (f : State → β → State) (l : List β) (s : State) (hs : s.memOk = true)
    (hf : ∀ u b, u.memOk = true → (f u b).memOk = true) : (l.foldl f s).memOk = true :=
  foldl_keeps (fun u : State => u.memOk = true) f hf l s hs

theorem pokes_wf (m : List Host.Cell) (a : Nat) (bs : List Byte) (h : Table.wf (0 : Byte) m = true) : Table.wf (0 : Byte) (pokes m a bs) = true := by
  induction bs generalizing m a with
  | nil => exact h
  | cons b bs ih => exact ih _ _ (Table.set_wf _ _ _ _ h)

theorem pokeSome_wf (m : List Host.Cell) (a : Nat) (bs : List (Option Byte)) (h : Table.wf (0 : Byte) m = true) :
    Table.wf (0 : Byte) (pokeSome m a bs) = true := by
  induction bs generalizing m a with
  | nil => exact h
  | cons b bs ih =>
    cases b with
    | none => exact ih _ _ h
    | some b => exact ih _ _ (Table.set_wf _ _ _ _ h)

theorem memOk_pair2 {α : Type} (a : α) (t : State) (h : t.memOk = true) : (a, t).2.memOk = true := h

theorem memOk_ite {p : Prop} [Decidable p] {x y : State} (hx : x.memOk = true) (hy : y.memOk = true) : (if p then x else y).memOk = true := by
  split <;> assumption

theorem memOk_ite2 {α : Type} {p : Prop} [Decidable p] {x y : α × State} (hx : x.2.memOk = true) (hy : y.2.memOk = true) :
    (if p then x else y).2.memOk = true := by
  split <;> assumption

end Sys2Proof.Machine
end

