-- ==== Sys2Proof/Laws/MemOkCore.lean ====
section
/-! SUPPORT. Memory keeps its canonical form: one lemma per operation of the shared operations, power and clocks, resets, faults, memory, the board. -/

namespace Sys2Proof.Machine

theorem State.advance_memOk (s : State) (d : Nat) (hs : s.memOk = true) : (State.advance s d).memOk = true := by
  unfold State.advance
  grind [State.memOk, Memory.wf, memOk_foldRange, memOk_foldl]

theorem State.until_memOk (s : State) (due : Nat) (hs : s.memOk = true) : (State.until s due).memOk = true := by
  unfold State.until
  grind [State.memOk, Memory.wf, memOk_foldRange, memOk_foldl, State.advance_memOk]

theorem State.idle_memOk (s : State) (hs : s.memOk = true) : (State.idle s).memOk = true := by
  unfold State.idle
  grind [State.memOk, Memory.wf, memOk_foldRange, memOk_foldl, State.advance_memOk]

theorem State.tookFree_memOk (s : State) (hs : s.memOk = true) : (State.tookFree s).memOk = true := by
  unfold State.tookFree
  grind [State.memOk, Memory.wf, memOk_foldRange, memOk_foldl]

theorem State.setReady_memOk (s : State) (i : Nat) (hs : s.memOk = true) : (State.setReady s i).memOk = true := by
  unfold State.setReady
  grind [State.memOk, Memory.wf, memOk_foldRange, memOk_foldl]

theorem State.dropReady_memOk (s : State) (m : BitVec 40) (hs : s.memOk = true) : (State.dropReady s m).memOk = true := by
  unfold State.dropReady
  grind [State.memOk, Memory.wf, memOk_foldRange, memOk_foldl]

theorem State.clearReady_memOk (s : State) (m : BitVec 40) (hs : s.memOk = true) : (State.clearReady s m).memOk = true := by
  unfold State.clearReady
  grind [State.memOk, Memory.wf, memOk_foldRange, memOk_foldl]

theorem State.setPll_memOk (s : State) (p : Nat) (x : PllState) (hs : s.memOk = true) : (State.setPll s p x).memOk = true := by
  unfold State.setPll
  grind [State.memOk, Memory.wf, memOk_foldRange, memOk_foldl]

theorem State.setBox_memOk (s : State) (m : Nat) (x : Mbx) (hs : s.memOk = true) : (State.setBox s m x).memOk = true := by
  unfold State.setBox
  grind [State.memOk, Memory.wf, memOk_foldRange, memOk_foldl]

theorem State.setFltSrc_memOk (s : State) (i : Nat) (x : FltSrc) (hs : s.memOk = true) : (State.setFltSrc s i x).memOk = true := by
  unfold State.setFltSrc
  grind [State.memOk, Memory.wf, memOk_foldRange, memOk_foldl]

theorem State.setStack_memOk (s : State) (i : Nat) (x : Stack) (hs : s.memOk = true) : (State.setStack s i x).memOk = true := by
  unfold State.setStack
  grind [State.memOk, Memory.wf, memOk_foldRange, memOk_foldl]

theorem State.setChan_memOk (s : State) (i : Nat) (x : Dma) (hs : s.memOk = true) : (State.setChan s i x).memOk = true := by
  unfold State.setChan
  grind [State.memOk, Memory.wf, memOk_foldRange, memOk_foldl]

theorem State.setPort16_memOk (s : State) (i : Nat) (x : FabPort) (hs : s.memOk = true) : (State.setPort16 s i x).memOk = true := by
  unfold State.setPort16
  grind [State.memOk, Memory.wf, memOk_foldRange, memOk_foldl]

theorem State.setQueue_memOk (s : State) (k : Nat) (x : Queue) (hs : s.memOk = true) : (State.setQueue s k x).memOk = true := by
  unfold State.setQueue
  grind [State.memOk, Memory.wf, memOk_foldRange, memOk_foldl]

theorem State.setPipe_memOk (s : State) (n : Nat) (x : Pipe) (hs : s.memOk = true) : (State.setPipe s n x).memOk = true := by
  unfold State.setPipe
  grind [State.memOk, Memory.wf, memOk_foldRange, memOk_foldl]

theorem State.setLane_memOk (s : State) (n : Nat) (x : Lane) (hs : s.memOk = true) : (State.setLane s n x).memOk = true := by
  unfold State.setLane
  grind [State.memOk, Memory.wf, memOk_foldRange, memOk_foldl]

theorem State.setFlow_memOk (s : State) (f : Nat) (x : Flow) (hs : s.memOk = true) : (State.setFlow s f x).memOk = true := by
  unfold State.setFlow
  grind [State.memOk, Memory.wf, memOk_foldRange, memOk_foldl]

theorem State.setEntry_memOk (s : State) (e : Nat) (x : Entry) (hs : s.memOk = true) : (State.setEntry s e x).memOk = true := by
  unfold State.setEntry
  grind [State.memOk, Memory.wf, memOk_foldRange, memOk_foldl]

theorem State.setSession_memOk (s : State) (i : Nat) (x : Session) (hs : s.memOk = true) : (State.setSession s i x).memOk = true := by
  unfold State.setSession
  grind [State.memOk, Memory.wf, memOk_foldRange, memOk_foldl]

theorem State.setPod_memOk (s : State) (h : Nat) (x : Pod) (hs : s.memOk = true) : (State.setPod s h x).memOk = true := by
  unfold State.setPod
  grind [State.memOk, Memory.wf, memOk_foldRange, memOk_foldl]

theorem State.edges_memOk (s : State) (m : BitVec 256) (hs : s.memOk = true) : (State.edges s m).memOk = true := by
  unfold State.edges
  grind [State.memOk, Memory.wf, memOk_foldRange, memOk_foldl]

theorem State.edge_memOk (s : State) (i : Nat) (hs : s.memOk = true) : (State.edge s i).memOk = true := by
  unfold State.edge
  grind [State.memOk, Memory.wf, memOk_foldRange, memOk_foldl, State.edges_memOk]

theorem State.message_memOk (s : State) (v : Nat) (hs : s.memOk = true) : (State.message s v).memOk = true := by
  unfold State.message
  grind [State.memOk, Memory.wf, memOk_foldRange, memOk_foldl]

theorem State.messages_memOk (s : State) (m : BitVec 64) (y0 : Nat) (hs : s.memOk = true) : (State.messages s m y0).memOk = true := by
  induction y0 generalizing s m <;> (unfold State.messages; grind [State.memOk, Memory.wf, memOk_foldRange, memOk_foldl, State.message_memOk])

theorem State.flushMsix_memOk (s : State) (hs : s.memOk = true) : (State.flushMsix s).memOk = true := by
  unfold State.flushMsix
  grind [State.memOk, Memory.wf, memOk_foldRange, memOk_foldl, State.message_memOk]

theorem State.release_memOk (s : State) (r : Requester) (hs : s.memOk = true) : (State.release s r).memOk = true := by
  unfold State.release
  grind [State.memOk, Memory.wf, memOk_foldRange, memOk_foldl]

theorem State.withdraw_memOk (s : State) (r : Requester) (hs : s.memOk = true) : (State.withdraw s r).memOk = true := by
  unfold State.withdraw
  grind [State.memOk, Memory.wf, memOk_foldRange, memOk_foldl]

theorem State.reclaim_memOk (s : State) (p : Requester → Bool) (hs : s.memOk = true) : (State.reclaim s p).memOk = true := by
  unfold State.reclaim
  grind [State.memOk, Memory.wf, memOk_foldRange, memOk_foldl]

theorem State.endJobs_memOk (s : State) (p : Cmd → Bool) (status detail : Nat) (hs : s.memOk = true) : (State.endJobs s p status detail).memOk = true := by
  unfold State.endJobs
  grind [State.memOk, Memory.wf, memOk_foldRange, memOk_foldl]

theorem State.endWaiting_memOk (s : State) (r : Requester) (status detail : Nat) (hs : s.memOk = true) : (State.endWaiting s r status detail).memOk = true := by
  unfold State.endWaiting
  grind [State.memOk, Memory.wf, memOk_foldRange, memOk_foldl, State.endJobs_memOk]

theorem State.releaseIdlePipes_memOk (s : State) (y0 : Nat) (hs : s.memOk = true) : (State.releaseIdlePipes s y0).memOk = true := by
  induction y0 generalizing s <;> (unfold State.releaseIdlePipes; grind [State.memOk, Memory.wf, memOk_foldRange, memOk_foldl, State.setPipe_memOk, State.withdraw_memOk])

theorem State.endPort_memOk (s : State) (n status : Nat) (detail : Nat → Nat) (hs : s.memOk = true) : (State.endPort s n status detail).memOk = true := by
  unfold State.endPort
  grind [State.memOk, Memory.wf, memOk_foldRange, memOk_foldl, State.setLane_memOk, State.withdraw_memOk, State.endJobs_memOk]

theorem State.wakeRefused_memOk (s : State) (n : Nat) (hs : s.memOk = true) : (State.wakeRefused s n).memOk = true := by
  unfold State.wakeRefused
  grind [State.memOk, Memory.wf, memOk_foldRange, memOk_foldl, State.setStack_memOk, State.setChan_memOk]

theorem State.dropBist_memOk (s : State) (n : Nat) (hs : s.memOk = true) : (State.dropBist s n).memOk = true := by
  unfold State.dropBist
  grind [State.memOk, Memory.wf, memOk_foldRange, memOk_foldl, State.setPipe_memOk]

theorem State.bistsLater_memOk (s : State) (hs : s.memOk = true) : (State.bistsLater s).memOk = true := by
  unfold State.bistsLater
  grind [State.memOk, Memory.wf, memOk_foldRange, memOk_foldl, State.setPll_memOk, State.dropBist_memOk]

theorem State.settleWork_memOk (s : State) (r : Requester) (status : Nat) (detail : Nat → Nat) (hs : s.memOk = true) : (State.settleWork s r status detail).memOk = true := by
  unfold State.settleWork
  grind [State.memOk, Memory.wf, memOk_foldRange, memOk_foldl, State.setPll_memOk, State.setPipe_memOk, State.endJobs_memOk, State.endWaiting_memOk, State.releaseIdlePipes_memOk, State.endPort_memOk, State.wakeRefused_memOk, State.dropBist_memOk, State.bistsLater_memOk]

theorem State.onRefuse_memOk (s : State) (r : Requester) (hs : s.memOk = true) : (State.onRefuse s r).memOk = true := by
  unfold State.onRefuse
  grind [State.memOk, Memory.wf, memOk_foldRange, memOk_foldl, State.settleWork_memOk]

theorem State.refuse_memOk (s : State) (q : PacReq) (code : Nat) (hs : s.memOk = true) : (State.refuse s q code).memOk = true := by
  unfold State.refuse
  grind [State.memOk, Memory.wf, memOk_foldRange, memOk_foldl, State.edge_memOk, State.onRefuse_memOk]

theorem State.retest_memOk (s : State) (hs : s.memOk = true) : (State.retest s).memOk = true := by
  unfold State.retest
  grind [State.memOk, Memory.wf, memOk_foldRange, memOk_foldl, State.refuse_memOk]

theorem State.request_memOk (s : State) (r : Requester) (cls : Nat) (hs : s.memOk = true) : (State.request s r cls).memOk = true := by
  unfold State.request
  grind [State.memOk, Memory.wf, memOk_foldRange, memOk_foldl, State.refuse_memOk]

theorem State.startPll_memOk (s : State) (p : Pll) (cls : Nat) (hs : s.memOk = true) : (State.startPll s p cls).memOk = true := by
  unfold State.startPll
  grind [State.memOk, Memory.wf, memOk_foldRange, memOk_foldl, State.setPll_memOk, State.request_memOk]

theorem State.wakeStack_memOk (s : State) (n cls : Nat) (hs : s.memOk = true) : (State.wakeStack s n cls).memOk = true := by
  unfold State.wakeStack
  grind [State.memOk, Memory.wf, memOk_foldRange, memOk_foldl, State.setStack_memOk, State.request_memOk]

theorem State.haltRun_memOk (s : State) (sess : Nat) (hs : s.memOk = true) : (State.haltRun s sess).memOk = true := by
  unfold State.haltRun
  grind [State.memOk, Memory.wf, memOk_foldRange, memOk_foldl, State.setPipe_memOk, State.setSession_memOk]

theorem State.haltRuns_memOk (s : State) (p : Session → Bool) (y0 : Nat) (hs : s.memOk = true) : (State.haltRuns s p y0).memOk = true := by
  induction y0 generalizing s <;> (unfold State.haltRuns; grind [State.memOk, Memory.wf, memOk_foldRange, memOk_foldl, State.haltRun_memOk])

theorem State.resetPipe_memOk (s : State) (n : Nat) (hs : s.memOk = true) : (State.resetPipe s n).memOk = true := by
  unfold State.resetPipe
  grind [State.memOk, Memory.wf, memOk_foldRange, memOk_foldl, State.setReady_memOk, State.dropReady_memOk, State.setPipe_memOk, State.reclaim_memOk, State.endJobs_memOk, State.releaseIdlePipes_memOk, State.haltRuns_memOk]

theorem State.resetLane_memOk (s : State) (n : Nat) (hs : s.memOk = true) : (State.resetLane s n).memOk = true := by
  unfold State.resetLane
  grind [State.memOk, Memory.wf, memOk_foldRange, memOk_foldl, State.dropReady_memOk, State.setLane_memOk, State.reclaim_memOk, State.endPort_memOk]

theorem State.wipe_memOk (s : State) (p : Nat → Bool) (hs : s.memOk = true) : (State.wipe s p).memOk = true := by
  unfold State.wipe
  refine memOk_of ?_ ?_ <;> dsimp only <;> apply Table.keep_wf
  · exact s.mem_ok hs
  · exact s.marks_ok hs

theorem State.resetStack_memOk (s : State) (n : Nat) (hs : s.memOk = true) : (State.resetStack s n).memOk = true := by
  unfold State.resetStack
  grind [State.memOk, Memory.wf, memOk_foldRange, memOk_foldl, State.dropReady_memOk, State.setStack_memOk, State.reclaim_memOk, State.endJobs_memOk, State.endWaiting_memOk, State.wakeStack_memOk, State.wipe_memOk]

theorem State.resetVtc_memOk (s : State) (hs : s.memOk = true) : (State.resetVtc s).memOk = true := by
  unfold State.resetVtc
  grind [State.memOk, Memory.wf, memOk_foldRange, memOk_foldl, State.dropReady_memOk, State.setPll_memOk, State.edge_memOk, State.reclaim_memOk, State.endWaiting_memOk]

theorem State.blockReset_memOk (s : State) (b : Block) (hs : s.memOk = true) : (State.blockReset s b).memOk = true := by
  unfold State.blockReset
  grind [State.memOk, Memory.wf, memOk_foldRange, memOk_foldl, State.setReady_memOk, State.dropReady_memOk, State.setChan_memOk, State.reclaim_memOk, State.endJobs_memOk, State.resetPipe_memOk, State.resetLane_memOk, State.wipe_memOk, State.resetStack_memOk, State.resetVtc_memOk]

theorem State.mailDiscard_memOk (s : State) (hs : s.memOk = true) : (State.mailDiscard s).memOk = true := by
  unfold State.mailDiscard
  grind [State.memOk, Memory.wf, memOk_foldRange, memOk_foldl, State.setBox_memOk, State.edge_memOk]

theorem State.scramble_memOk (s : State) (a : Nat) (y0 : Nat) (hs : s.memOk = true) : (State.scramble s a y0).memOk = true := by
  induction y0 with
  | zero => exact hs
  | succ n ih =>
    unfold State.scramble State.tookFree
    dsimp only
    generalize State.scramble s a n = t at *
    exact memOk_of (Table.set_wf _ _ _ _ (t.mem_ok ih)) (t.marks_ok ih)

theorem State.resetHostChannels_memOk (s : State) (hs : s.memOk = true) : (State.resetHostChannels s).memOk = true := by
  unfold State.resetHostChannels
  grind [State.memOk, Memory.wf, memOk_foldRange, memOk_foldl, State.setChan_memOk, State.scramble_memOk]

theorem State.linkLost_memOk (s : State) (hs : s.memOk = true) : (State.linkLost s).memOk = true := by
  unfold State.linkLost
  grind [State.memOk, Memory.wf, memOk_foldRange, memOk_foldl]

theorem State.hazelReset_memOk (s : State) (hs : s.memOk = true) : (State.hazelReset s).memOk = true := by
  unfold State.hazelReset
  grind [State.memOk, Memory.wf, memOk_foldRange, memOk_foldl, State.dropReady_memOk, State.setBox_memOk, State.setChan_memOk]

theorem State.pipReset_memOk (s : State) (hs : s.memOk = true) : (State.pipReset s).memOk = true := by
  unfold State.pipReset
  grind [State.memOk, Memory.wf, memOk_foldRange, memOk_foldl, State.idle_memOk, State.dropReady_memOk]

theorem State.chipReset_memOk (s : State) (c : Cause) (railsKept : Bool) (hs : s.memOk = true) : (State.chipReset s c railsKept).memOk = true := by
  unfold State.chipReset
  refine memOk_of ?_ ?_ <;> dsimp only <;> apply Table.keep_wf
  · exact s.mem_ok hs
  · exact s.marks_ok hs

theorem State.logEvent_memOk (s : State) (kind src : Nat) (hs : s.memOk = true) : (State.logEvent s kind src).memOk = true := by
  unfold State.logEvent
  grind [State.memOk, Memory.wf, memOk_foldRange, memOk_foldl]

theorem State.flushLog_memOk (s : State) (hs : s.memOk = true) : (State.flushLog s).memOk = true := by
  unfold State.flushLog
  grind [State.memOk, Memory.wf, memOk_foldRange, memOk_foldl]

theorem State.plogDue_memOk (s : State) (kind src : Nat) (hs : s.memOk = true) : (State.plogDue s kind src).memOk = true := by
  unfold State.plogDue
  grind [State.memOk, Memory.wf, memOk_foldRange, memOk_foldl]

theorem State.dropReaction_memOk (s : State) (src : Nat) (hs : s.memOk = true) : (State.dropReaction s src).memOk = true := by
  unfold State.dropReaction
  grind [State.memOk, Memory.wf, memOk_foldRange, memOk_foldl, State.logEvent_memOk]

theorem State.reactNmi_memOk (s : State) (src : Nat) (hs : s.memOk = true) : (State.reactNmi s src).memOk = true := by
  unfold State.reactNmi
  grind [State.memOk, Memory.wf, memOk_foldRange, memOk_foldl, State.dropReaction_memOk]

theorem State.reactBlock_memOk (s : State) (src detail : Nat) (hs : s.memOk = true) : (State.reactBlock s src detail).memOk = true := by
  unfold State.reactBlock
  grind [State.memOk, Memory.wf, memOk_foldRange, memOk_foldl, State.blockReset_memOk, State.hazelReset_memOk, State.dropReaction_memOk]

theorem State.react_memOk (s : State) (src mask detail : Nat) (hs : s.memOk = true) : (State.react s src mask detail).memOk = true := by
  unfold State.react
  grind [State.memOk, Memory.wf, memOk_foldRange, memOk_foldl, State.reactNmi_memOk, State.reactBlock_memOk]

theorem State.record_memOk (s : State) (src detail : Nat) (stands : Bool) (hs : s.memOk = true) : (State.record s src detail stands).memOk = true := by
  unfold State.record
  grind [State.memOk, Memory.wf, memOk_foldRange, memOk_foldl, State.setFltSrc_memOk, State.logEvent_memOk, State.plogDue_memOk, State.react_memOk]

theorem State.report_memOk (s : State) (src detail : Nat) (hs : s.memOk = true) : (State.report s src detail).memOk = true := by
  unfold State.report
  grind [State.memOk, Memory.wf, memOk_foldRange, memOk_foldl, State.record_memOk]

theorem State.reportHusk_memOk (s : State) (src detail : Nat) (hs : s.memOk = true) : (State.reportHusk s src detail).memOk = true := by
  unfold State.reportHusk
  grind [State.memOk, Memory.wf, memOk_foldRange, memOk_foldl, State.record_memOk]

theorem State.closeQuiet_memOk (s : State) (src : Nat) (hs : s.memOk = true) : (State.closeQuiet s src).memOk = true := by
  unfold State.closeQuiet
  grind [State.memOk, Memory.wf, memOk_foldRange, memOk_foldl, State.setFltSrc_memOk, State.logEvent_memOk]

theorem State.closeClear_memOk (s : State) (src : Nat) (hs : s.memOk = true) : (State.closeClear s src).memOk = true := by
  unfold State.closeClear
  grind [State.memOk, Memory.wf, memOk_foldRange, memOk_foldl, State.setFltSrc_memOk, State.logEvent_memOk]

theorem State.endCondition_memOk (s : State) (src : Nat) (hs : s.memOk = true) : (State.endCondition s src).memOk = true := by
  unfold State.endCondition
  grind [State.memOk, Memory.wf, memOk_foldRange, memOk_foldl, State.setFltSrc_memOk]

theorem State.cfgBad_memOk (s : State) (item loader : Nat) (bad : Bool) (hs : s.memOk = true) : (State.cfgBad s item loader bad).memOk = true := by
  unfold State.cfgBad
  grind [State.memOk, Memory.wf, memOk_foldRange, memOk_foldl, State.reportHusk_memOk]

theorem State.checkConfig_memOk (s : State) (hs : s.memOk = true) : (State.checkConfig s).memOk = true := by
  unfold State.checkConfig
  grind [State.memOk, Memory.wf, memOk_foldRange, memOk_foldl, State.cfgBad_memOk]

theorem State.applyRecord_memOk (s : State) (r : JRec) (hs : s.memOk = true) : (State.applyRecord s r).memOk = true := by
  unfold State.applyRecord
  refine memOk_of ?_ (s.marks_ok hs)
  dsimp only
  split
  · exact pokes_wf _ _ _ (s.mem_ok hs)
  · exact s.mem_ok hs

theorem State.scanJournal_memOk (s : State) (husk : Bool) (y0 : List JRec) (hs : s.memOk = true) : (State.scanJournal s husk y0).memOk = true := by
  induction y0 generalizing s husk <;> (unfold State.scanJournal; grind [State.memOk, Memory.wf, memOk_foldRange, memOk_foldl, State.report_memOk, State.reportHusk_memOk, State.applyRecord_memOk])

theorem State.mainStart_memOk (s : State) (hs : s.memOk = true) : (State.mainStart s).memOk = true := by
  unfold State.mainStart
  grind [State.memOk, Memory.wf, memOk_foldRange, memOk_foldl, State.setReady_memOk, State.flushLog_memOk]

theorem State.reopenCause_memOk (s : State) (src detail : Nat) (hs : s.memOk = true) : (State.reopenCause s src detail).memOk = true := by
  unfold State.reopenCause
  grind [State.memOk, Memory.wf, memOk_foldRange, memOk_foldl, State.setFltSrc_memOk, State.logEvent_memOk, State.plogDue_memOk]

theorem State.fullChipReset_memOk (s : State) (c : Cause) (railsKept : Bool) (src : List Nat) (hs : s.memOk = true) : (State.fullChipReset s c railsKept src).memOk = true := by
  unfold State.fullChipReset
  grind [State.memOk, Memory.wf, memOk_foldRange, memOk_foldl, State.chipReset_memOk, State.react_memOk, State.checkConfig_memOk, State.scanJournal_memOk, State.mainStart_memOk]

theorem State.setMark_memOk (s : State) (w : Nat) (m : Mark) (hs : s.memOk = true) : (State.setMark s w m).memOk = true := by
  unfold State.setMark
  exact memOk_of (s.mem_ok hs) (Table.set_wf _ _ _ _ (s.marks_ok hs))

theorem State.poisonDram_memOk (s : State) (n w : Nat) (hs : s.memOk = true) : (State.poisonDram s n w).memOk = true := by
  unfold State.poisonDram
  grind [State.memOk, Memory.wf, memOk_foldRange, memOk_foldl, State.setStack_memOk, State.report_memOk, State.setMark_memOk]

theorem State.poisonLfs_memOk (s : State) (w : Nat) (hs : s.memOk = true) : (State.poisonLfs s w).memOk = true := by
  unfold State.poisonLfs
  grind [State.memOk, Memory.wf, memOk_foldRange, memOk_foldl, State.report_memOk, State.setMark_memOk]

theorem State.poisonMram_memOk (s : State) (w : Nat) (hs : s.memOk = true) : (State.poisonMram s w).memOk = true := by
  unfold State.poisonMram
  grind [State.memOk, Memory.wf, memOk_foldRange, memOk_foldl, State.report_memOk, State.setMark_memOk]

theorem State.touchWord_memOk (s : State) (w : Nat) (hs : s.memOk = true) : (State.touchWord s w).memOk = true := by
  unfold State.touchWord
  grind [State.memOk, Memory.wf, memOk_foldRange, memOk_foldl, State.setStack_memOk, State.report_memOk, State.setMark_memOk, State.poisonDram_memOk, State.poisonLfs_memOk, State.poisonMram_memOk]

theorem State.touchWords_memOk (s : State) (w : Nat) (y0 : Nat) (hs : s.memOk = true) : (State.touchWords s w y0).memOk = true := by
  induction y0 generalizing s w <;> (unfold State.touchWords; grind [State.memOk, Memory.wf, memOk_foldRange, memOk_foldl, State.touchWord_memOk])

theorem State.account_memOk (s : State) (port a n : Nat) (hs : s.memOk = true) : (State.account s port a n).memOk = true := by
  unfold State.account
  grind [State.memOk, Memory.wf, memOk_foldRange, memOk_foldl, State.setStack_memOk, State.setPort16_memOk]

theorem State.readMem_memOk (s : State) (port a n : Nat) (hs : s.memOk = true) : (State.readMem s port a n).state.memOk = true := by
  unfold State.readMem
  grind [State.memOk, Memory.wf, memOk_foldRange, memOk_foldl, State.touchWords_memOk, State.account_memOk]

theorem State.countDiscard_memOk (s : State) (a : Nat) (hs : s.memOk = true) : (State.countDiscard s a).memOk = true := by
  unfold State.countDiscard
  grind [State.memOk, Memory.wf, memOk_foldRange, memOk_foldl, State.setStack_memOk]

theorem State.fillUnspecified_memOk (s : State) (w : Nat) (hs : s.memOk = true) : (State.fillUnspecified s w).memOk = true := by
  unfold State.fillUnspecified
  split
  · exact memOk_of (pokes_wf _ _ _ (s.mem_ok hs)) (s.marks_ok hs)
  · exact hs

theorem State.writeWord_memOk (s : State) (a : Nat) (bs : List (Option Byte)) (hs : s.memOk = true) : (State.writeWord s a bs).memOk = true := by
  unfold State.writeWord
  split
  · exact memOk_of (pokeSome_wf _ _ _ (s.mem_ok hs)) (Table.set_wf _ _ _ _ (s.marks_ok hs))
  split
  · exact hs
  · have ht := State.fillUnspecified_memOk _ (a / 8) (State.touchWord_memOk s (a / 8) hs)
    dsimp only
    generalize (s.touchWord (a / 8)).fillUnspecified (a / 8) = t at *
    split
    · exact State.countDiscard_memOk _ _ ht
    · exact memOk_of (pokeSome_wf _ _ _ (t.mem_ok ht)) (Table.set_wf _ _ _ _ (t.marks_ok ht))

theorem State.writeWords_memOk (s : State) (a : Nat) (bs : List (Option Byte)) (y0 : Nat) (hs : s.memOk = true) : (State.writeWords s a bs y0).memOk = true := by
  induction y0 generalizing s a bs <;> (unfold State.writeWords; grind [State.memOk, Memory.wf, memOk_foldRange, memOk_foldl, State.writeWord_memOk])

theorem State.writeSome_memOk (s : State) (port a : Nat) (bs : List (Option Byte)) (hs : s.memOk = true) : (State.writeSome s port a bs).memOk = true := by
  unfold State.writeSome
  grind [State.memOk, Memory.wf, memOk_foldRange, memOk_foldl, State.account_memOk, State.writeWords_memOk]

theorem State.writeMem_memOk (s : State) (port a : Nat) (bs : List Byte) (hs : s.memOk = true) : (State.writeMem s port a bs).memOk = true := by
  unfold State.writeMem
  grind [State.memOk, Memory.wf, memOk_foldRange, memOk_foldl, State.writeSome_memOk]

theorem State.poisonRange_memOk (s : State) (a n : Nat) (hs : s.memOk = true) : (State.poisonRange s a n).memOk = true := by
  unfold State.poisonRange
  grind [State.memOk, Memory.wf, memOk_foldRange, memOk_foldl, State.setMark_memOk]

theorem State.wearBy_memOk (s : State) (r words : Nat) (hs : s.memOk = true) : (State.wearBy s r words).memOk = true := by
  unfold State.wearBy
  dsimp only
  split
  · exact State.report_memOk _ _ _ (memOk_same hs rfl rfl)
  · exact memOk_same hs rfl rfl

theorem State.applyBurst_memOk (s : State) (r : JRec) (hs : s.memOk = true) : (State.applyBurst s r).memOk = true := by
  unfold State.applyBurst
  refine State.wearBy_memOk _ _ _ (State.wearBy_memOk _ _ _ (memOk_of ?_ ?_)) <;> dsimp only
  · exact pokes_wf _ _ _ (s.mem_ok hs)
  · apply Table.keep_wf
    exact s.marks_ok hs

theorem State.wearM_memOk (s : State) (r n : Nat) (hs : s.memOk = true) : (State.wearM s r n).memOk = true := by
  unfold State.wearM
  grind [State.memOk, Memory.wf, memOk_foldRange, memOk_foldl, State.wearBy_memOk]

theorem State.setBoard_memOk (s : State) (b : Board) (hs : s.memOk = true) : (State.setBoard s b).memOk = true := by
  unfold State.setBoard
  grind [State.memOk, Memory.wf, memOk_foldRange, memOk_foldl]

theorem State.cfgStage_memOk (s : State) (hs : s.memOk = true) : (State.cfgStage s).memOk = true := by
  unfold State.cfgStage
  grind [State.memOk, Memory.wf, memOk_foldRange, memOk_foldl, State.setBoard_memOk]

theorem State.cfgRead_memOk (s : State) (hs : s.memOk = true) : (State.cfgRead s).memOk = true := by
  unfold State.cfgRead
  grind [State.memOk, Memory.wf, memOk_foldRange, memOk_foldl, State.setBoard_memOk]

theorem State.cfgDiscard_memOk (s : State) (hs : s.memOk = true) : (State.cfgDiscard s).memOk = true := by
  unfold State.cfgDiscard
  grind [State.memOk, Memory.wf, memOk_foldRange, memOk_foldl, State.setBoard_memOk]

theorem State.cfgCommit_memOk (s : State) (hs : s.memOk = true) : (State.cfgCommit s).memOk = true := by
  unfold State.cfgCommit
  grind [State.memOk, Memory.wf, memOk_foldRange, memOk_foldl, State.setBoard_memOk]

theorem State.cfgDo_memOk (s : State) (c : Nat) (hs : s.memOk = true) : (State.cfgDo s c).memOk = true := by
  unfold State.cfgDo
  grind [State.memOk, Memory.wf, memOk_foldRange, memOk_foldl, State.cfgStage_memOk, State.cfgRead_memOk, State.cfgDiscard_memOk, State.cfgCommit_memOk]

theorem State.cfgCmd_memOk (s : State) (c : Nat) (hs : s.memOk = true) : (State.cfgCmd s c).memOk = true := by
  unfold State.cfgCmd
  grind [State.memOk, Memory.wf, memOk_foldRange, memOk_foldl, State.setBoard_memOk, State.cfgDo_memOk]

theorem State.cfgPump_memOk (s : State) (hs : s.memOk = true) : (State.cfgPump s).memOk = true := by
  unfold State.cfgPump
  grind [State.memOk, Memory.wf, memOk_foldRange, memOk_foldl, State.setBoard_memOk, State.cfgDo_memOk]

theorem State.cfgKey_memOk (s : State) (v : Nat) (hs : s.memOk = true) : (State.cfgKey s v).memOk = true := by
  unfold State.cfgKey
  grind [State.memOk, Memory.wf, memOk_foldRange, memOk_foldl, State.setBoard_memOk]

theorem State.wakePip_memOk (s : State) (hs : s.memOk = true) : (State.wakePip s).memOk = true := by
  unfold State.wakePip
  grind [State.memOk, Memory.wf, memOk_foldRange, memOk_foldl, State.idle_memOk]

theorem State.settleIcu_memOk (s : State) (hs : s.memOk = true) : (State.settleIcu s).memOk = true := by
  unfold State.settleIcu
  grind [State.memOk, Memory.wf, memOk_foldRange, memOk_foldl, State.messages_memOk]

theorem State.settle_memOk (s : State) (hs : s.memOk = true) : (State.settle s).memOk = true := by
  unfold State.settle
  grind [State.memOk, Memory.wf, memOk_foldRange, memOk_foldl, State.cfgPump_memOk, State.wakePip_memOk, State.settleIcu_memOk]

theorem State.begin_memOk (s : State) (hs : s.memOk = true) : (State.begin s).memOk = true := by
  unfold State.begin
  grind [State.memOk, Memory.wf, memOk_foldRange, memOk_foldl]

/-- A command whose effect keeps the form keeps it. -/
theorem run_memOk (f : State → State) (s t : State) (hf : ∀ u : State, u.memOk = true → (f u).memOk = true) (hs : s.memOk = true)
    (h : run f s = .next t) : t.memOk = true := by
  cases h
  exact State.settle_memOk _ (hf _ (State.begin_memOk _ hs))

end Sys2Proof.Machine
end

