-- ==== Sys2Proof/Laws/MemOkHost.lean ====
section
/-! SUPPORT. Memory keeps its canonical form: one lemma per operation of the DMA engine, runs, the husk, the link, the mailboxes, Lomod. -/

namespace Sys2Proof.Machine

theorem State.wakeFor_memOk (s : State) (a cls : Nat) (hs : s.memOk = true) : (State.wakeFor s a cls).memOk = true := by
  unfold State.wakeFor
  grind [State.memOk, Memory.wf, memOk_foldRange, memOk_foldl, State.wakeStack_memOk]

theorem State.hostRead_memOk (s : State) (n : Nat) (hs : s.memOk = true) : (State.hostRead s n).memOk = true := by
  unfold State.hostRead
  grind [State.memOk, Memory.wf, memOk_foldRange, memOk_foldl]

theorem State.dmaStop_memOk (s : State) (n code addr k : Nat) (hs : s.memOk = true) : (State.dmaStop s n code addr k).memOk = true := by
  unfold State.dmaStop
  grind [State.memOk, Memory.wf, memOk_foldRange, memOk_foldl, State.setChan_memOk]

theorem State.dmaBegin_memOk (s : State) (n : Nat) (hs : s.memOk = true) : (State.dmaBegin s n).memOk = true := by
  unfold State.dmaBegin
  grind [State.memOk, Memory.wf, memOk_foldRange, memOk_foldl, State.wakeFor_memOk, State.hostRead_memOk, State.dmaStop_memOk]

theorem State.dmaLoad_memOk (s : State) (n a : Nat) (hs : s.memOk = true) : (State.dmaLoad s n a).memOk = true := by
  unfold State.dmaLoad
  grind [State.memOk, Memory.wf, memOk_foldRange, memOk_foldl, State.setChan_memOk, State.readMem_memOk, State.wakeFor_memOk, State.dmaStop_memOk, State.dmaBegin_memOk]

theorem State.dmaStart_memOk (s : State) (n : Nat) (hs : s.memOk = true) : (State.dmaStart s n).memOk = true := by
  unfold State.dmaStart
  grind [State.memOk, Memory.wf, memOk_foldRange, memOk_foldl, State.idle_memOk, State.setChan_memOk, State.dmaBegin_memOk, State.dmaLoad_memOk]

theorem State.dmaAbort_memOk (s : State) (n : Nat) (hs : s.memOk = true) : (State.dmaAbort s n).memOk = true := by
  unfold State.dmaAbort
  grind [State.memOk, Memory.wf, memOk_foldRange, memOk_foldl, State.setChan_memOk]

theorem State.dmaClear_memOk (s : State) (n : Nat) (hs : s.memOk = true) : (State.dmaClear s n).memOk = true := by
  unfold State.dmaClear
  grind [State.memOk, Memory.wf, memOk_foldRange, memOk_foldl, State.idle_memOk, State.setChan_memOk]

theorem State.dmaCount_memOk (s : State) (a n tx : Nat) (hs : s.memOk = true) : (State.dmaCount s a n tx).memOk = true := by
  unfold State.dmaCount
  grind [State.memOk, Memory.wf, memOk_foldRange, memOk_foldl, State.setStack_memOk, State.setPort16_memOk]

theorem State.dmaRead_memOk (s : State) (d : Dma) (hs : s.memOk = true) : (State.dmaRead s d).state.memOk = true := by
  unfold State.dmaRead
  grind [State.memOk, Memory.wf, memOk_foldRange, memOk_foldl, State.touchWords_memOk, State.dmaCount_memOk]

theorem State.dmaWrite_memOk (s : State) (d : Dma) (off : Nat) (bs : List Byte) (hs : s.memOk = true) : (State.dmaWrite s d off bs).memOk = true := by
  unfold State.dmaWrite
  grind [State.memOk, Memory.wf, memOk_foldRange, memOk_foldl, State.writeWords_memOk, State.dmaCount_memOk]

theorem State.dmaResume_memOk (s : State) (n : Nat) (hs : s.memOk = true) : (State.dmaResume s n).memOk = true := by
  unfold State.dmaResume
  grind [State.memOk, Memory.wf, memOk_foldRange, memOk_foldl, State.dmaLoad_memOk]

theorem State.dmaEnd_memOk (s : State) (n : Nat) (hs : s.memOk = true) : (State.dmaEnd s n).memOk = true := by
  unfold State.dmaEnd
  grind [State.memOk, Memory.wf, memOk_foldRange, memOk_foldl, State.idle_memOk, State.setChan_memOk, State.edge_memOk, State.dmaLoad_memOk, State.dmaRead_memOk, State.dmaWrite_memOk]

theorem State.dmaFails_memOk (s : State) (n code addr k : Nat) (hs : s.memOk = true) : (State.dmaFails s n code addr k).memOk = true := by
  unfold State.dmaFails
  grind [State.memOk, Memory.wf, memOk_foldRange, memOk_foldl, State.tookFree_memOk, State.scramble_memOk, State.dmaStop_memOk, State.dmaRead_memOk, State.dmaWrite_memOk]

theorem State.dmaDeliver_memOk (s : State) (n off : Nat) (bs : List Byte) (hs : s.memOk = true) : (State.dmaDeliver s n off bs).memOk = true := by
  unfold State.dmaDeliver
  grind [State.memOk, Memory.wf, memOk_foldRange, memOk_foldl, State.setChan_memOk, State.dmaWrite_memOk]

theorem State.choose_memOk (s : State) (l : List Nat) (hs : s.memOk = true) : (State.choose s l).2.memOk = true := by
  unfold State.choose
  grind [State.memOk, Memory.wf, memOk_foldRange, memOk_foldl, State.tookFree_memOk]

theorem State.ringPut_memOk (s : State) (n : Nat) (g : Ring) (b : List Byte) (hs : s.memOk = true) : (State.ringPut s n g b).1.memOk = true := by
  unfold State.ringPut
  grind [State.memOk, Memory.wf, memOk_foldRange, memOk_foldl, State.writeMem_memOk]

theorem State.ringReread_memOk (s : State) (n : Nat) (g : Ring) (hs : s.memOk = true) : (State.ringReread s n g).1.memOk = true := by
  unfold State.ringReread
  grind [State.memOk, Memory.wf, memOk_foldRange, memOk_foldl, State.readMem_memOk]

theorem State.ringGap_memOk (s : State) (n sess : Nat) (g : Ring) (hs : s.memOk = true) : (State.ringGap s n sess g).1.memOk = true := by
  unfold State.ringGap
  grind [State.memOk, Memory.wf, memOk_foldRange, memOk_foldl, State.ringPut_memOk]

theorem State.ringRecord_memOk (s : State) (n sess seq : Nat) (g : Ring) (b : List Byte) (hs : s.memOk = true) : (State.ringRecord s n sess seq g b).1.memOk = true := by
  unfold State.ringRecord
  grind [State.memOk, Memory.wf, memOk_foldRange, memOk_foldl, State.ringPut_memOk, State.ringReread_memOk, State.ringGap_memOk]

theorem State.aruOne_memOk (s : State) (n : Nat) (e : Nat × Nat × Bool × List Byte) (hs : s.memOk = true) : (State.aruOne s n e).memOk = true := by
  unfold State.aruOne
  grind [State.memOk, Memory.wf, memOk_foldRange, memOk_foldl, State.setSession_memOk, State.ringRecord_memOk]

theorem State.aruIndex_memOk (s : State) (n sess : Nat) (hs : s.memOk = true) : (State.aruIndex s n sess).memOk = true := by
  unfold State.aruIndex
  grind [State.memOk, Memory.wf, memOk_foldRange, memOk_foldl, State.writeMem_memOk]

theorem State.aruLevel_memOk (s : State) (n : Nat) (hs : s.memOk = true) : (State.aruLevel s n).memOk = true := by
  unfold State.aruLevel
  grind [State.memOk, Memory.wf, memOk_foldRange, memOk_foldl, State.setPipe_memOk]

theorem State.aruFlush_memOk (s : State) (n : Nat) (hs : s.memOk = true) : (State.aruFlush s n).memOk = true := by
  unfold State.aruFlush
  grind [State.memOk, Memory.wf, memOk_foldRange, memOk_foldl, State.setPipe_memOk, State.wakeStack_memOk, State.aruOne_memOk, State.aruIndex_memOk, State.aruLevel_memOk]

theorem State.batch_memOk (s : State) (sess status : Nat) (hs : s.memOk = true) : (State.batch s sess status).memOk = true := by
  unfold State.batch
  grind [State.memOk, Memory.wf, memOk_foldRange, memOk_foldl, State.setPipe_memOk, State.setSession_memOk, State.aruFlush_memOk]

theorem State.saveScalars_memOk (s : State) (sess : Nat) (hs : s.memOk = true) : (State.saveScalars s sess).memOk = true := by
  unfold State.saveScalars
  grind [State.memOk, Memory.wf, memOk_foldRange, memOk_foldl, State.setSession_memOk]

theorem State.countBusy_memOk (s : State) (n : Nat) (hs : s.memOk = true) : (State.countBusy s n).memOk = true := by
  unfold State.countBusy
  grind [State.memOk, Memory.wf, memOk_foldRange, memOk_foldl, State.setPipe_memOk]

theorem State.endRun_memOk (s : State) (sess status : Nat) (hs : s.memOk = true) : (State.endRun s sess status).memOk = true := by
  unfold State.endRun
  grind [State.memOk, Memory.wf, memOk_foldRange, memOk_foldl, State.edge_memOk, State.haltRun_memOk, State.batch_memOk, State.saveScalars_memOk, State.countBusy_memOk]

theorem State.endRuns_memOk (s : State) (status : Nat) (y0 : Nat) (hs : s.memOk = true) : (State.endRuns s status y0).memOk = true := by
  induction y0 generalizing s status <;> (unfold State.endRuns; grind [State.memOk, Memory.wf, memOk_foldRange, memOk_foldl, State.endRun_memOk])

theorem State.settleHost_memOk (s : State) (hs : s.memOk = true) : (State.settleHost s).memOk = true := by
  unfold State.settleHost
  grind [State.memOk, Memory.wf, memOk_foldRange, memOk_foldl, State.endJobs_memOk, State.releaseIdlePipes_memOk, State.endRuns_memOk]

theorem State.hostReset_memOk (s : State) (sticky : Bool) (hs : s.memOk = true) : (State.hostReset s sticky).memOk = true := by
  unfold State.hostReset
  grind [State.memOk, Memory.wf, memOk_foldRange, memOk_foldl, State.mailDiscard_memOk, State.resetHostChannels_memOk, State.settleHost_memOk]

theorem State.mainRisen_memOk (s : State) (hs : s.memOk = true) : (State.mainRisen s).memOk = true := by
  unfold State.mainRisen
  grind [State.memOk, Memory.wf, memOk_foldRange, memOk_foldl]

theorem State.mainRequest_memOk (s : State) (hs : s.memOk = true) : (State.mainRequest s).memOk = true := by
  unfold State.mainRequest
  grind [State.memOk, Memory.wf, memOk_foldRange, memOk_foldl, State.mainRisen_memOk]

theorem State.settleMainOff_memOk (s : State) (hs : s.memOk = true) : (State.settleMainOff s).memOk = true := by
  unfold State.settleMainOff
  grind [State.memOk, Memory.wf, memOk_foldRange, memOk_foldl, State.endJobs_memOk, State.releaseIdlePipes_memOk, State.endRuns_memOk]

theorem State.tellHazelOff_memOk (s : State) (hs : s.memOk = true) : (State.tellHazelOff s).memOk = true := by
  unfold State.tellHazelOff
  grind [State.memOk, Memory.wf, memOk_foldRange, memOk_foldl, State.tookFree_memOk, State.setBox_memOk, State.settleMainOff_memOk]

theorem State.offRequest_memOk (s : State) (hs : s.memOk = true) : (State.offRequest s).memOk = true := by
  unfold State.offRequest
  grind [State.memOk, Memory.wf, memOk_foldRange, memOk_foldl, State.tellHazelOff_memOk]

theorem State.dormantRequest_memOk (s : State) (hs : s.memOk = true) : (State.dormantRequest s).memOk = true := by
  unfold State.dormantRequest
  grind [State.memOk, Memory.wf, memOk_foldRange, memOk_foldl, State.offRequest_memOk]

theorem State.pipActs_memOk (s : State) (hs : s.memOk = true) : (State.pipActs s).memOk = true := by
  unfold State.pipActs
  grind [State.memOk, Memory.wf, memOk_foldRange, memOk_foldl, State.mainRequest_memOk, State.offRequest_memOk, State.dormantRequest_memOk]

theorem State.writeCtrl_memOk (s : State) (c : BitVec 3) (hs : s.memOk = true) : (State.writeCtrl s c).memOk = true := by
  unfold State.writeCtrl
  grind [State.memOk, Memory.wf, memOk_foldRange, memOk_foldl, State.wakePip_memOk, State.pipActs_memOk]

theorem State.wake_memOk (s : State) (w : WakeSource) (hs : s.memOk = true) : (State.wake s w).memOk = true := by
  unfold State.wake
  grind [State.memOk, Memory.wf, memOk_foldRange, memOk_foldl, State.idle_memOk, State.wakePip_memOk, State.pipActs_memOk]

theorem State.dormantCommit_memOk (s : State) (coincident : Option WakeSource) (hs : s.memOk = true) : (State.dormantCommit s coincident).memOk = true := by
  unfold State.dormantCommit
  grind [State.memOk, Memory.wf, memOk_foldRange, memOk_foldl, State.idle_memOk, State.dropReady_memOk, State.wakePip_memOk, State.pipActs_memOk]

theorem State.pipStops_memOk (s : State) (hs : s.memOk = true) : (State.pipStops s).memOk = true := by
  unfold State.pipStops
  grind [State.memOk, Memory.wf, memOk_foldRange, memOk_foldl, State.idle_memOk]

theorem State.powerLost_memOk (s : State) (hs : s.memOk = true) : (State.powerLost s).memOk = true := by
  unfold State.powerLost
  refine memOk_of ?_ ?_ <;> dsimp only <;> apply Table.keep_wf
  · exact s.mem_ok hs
  · exact s.marks_ok hs

theorem State.powerOn_memOk (s : State) (strap : Nat) (hpEn wakeIn : Bool) (hs : s.memOk = true) : (State.powerOn s strap hpEn wakeIn).memOk = true := by
  unfold State.powerOn
  grind [State.memOk, Memory.wf, memOk_foldRange, memOk_foldl, State.advance_memOk, State.fullChipReset_memOk, State.wake_memOk]

theorem State.wantPhy_memOk (s : State) (hs : s.memOk = true) : (State.wantPhy s).memOk = true := by
  unfold State.wantPhy
  grind [State.memOk, Memory.wf, memOk_foldRange, memOk_foldl, State.startPll_memOk]

theorem State.dramRisen_memOk (s : State) (hs : s.memOk = true) : (State.dramRisen s).memOk = true := by
  unfold State.dramRisen
  grind [State.memOk, Memory.wf, memOk_foldRange, memOk_foldl, State.setStack_memOk]

theorem State.raiseDram_memOk (s : State) (hs : s.memOk = true) : (State.raiseDram s).memOk = true := by
  unfold State.raiseDram
  grind [State.memOk, Memory.wf, memOk_foldRange, memOk_foldl, State.dramRisen_memOk]

theorem State.dropLink_memOk (s : State) (surprise : Bool) (hs : s.memOk = true) : (State.dropLink s surprise).memOk = true := by
  unfold State.dropLink
  grind [State.memOk, Memory.wf, memOk_foldRange, memOk_foldl, State.dropReady_memOk, State.linkLost_memOk, State.report_memOk, State.hostReset_memOk]

theorem State.lowerDram_memOk (s : State) (hs : s.memOk = true) : (State.lowerDram s).memOk = true := by
  unfold State.lowerDram
  grind [State.memOk, Memory.wf, memOk_foldRange, memOk_foldl, State.dropReady_memOk, State.setStack_memOk, State.reclaim_memOk, State.wipe_memOk]

theorem State.lowerSrd_memOk (s : State) (hs : s.memOk = true) : (State.lowerSrd s).memOk = true := by
  unfold State.lowerSrd
  grind [State.memOk, Memory.wf, memOk_foldRange, memOk_foldl, State.dropReady_memOk, State.setPll_memOk, State.withdraw_memOk, State.reclaim_memOk, State.dropLink_memOk]

theorem State.removalEnds_memOk (s : State) (hs : s.memOk = true) : (State.removalEnds s).memOk = true := by
  unfold State.removalEnds
  grind [State.memOk, Memory.wf, memOk_foldRange, memOk_foldl, State.pipActs_memOk]

theorem State.lowerMain_memOk (s : State) (r : Removal) (hs : s.memOk = true) : (State.lowerMain s r).memOk = true := by
  unfold State.lowerMain
  grind [State.memOk, Memory.wf, memOk_foldRange, memOk_foldl, State.fullChipReset_memOk, State.removalEnds_memOk]

theorem State.lowerNext_memOk (s : State) (hs : s.memOk = true) : (State.lowerNext s).memOk = true := by
  unfold State.lowerNext
  grind [State.memOk, Memory.wf, memOk_foldRange, memOk_foldl, State.lowerDram_memOk, State.lowerSrd_memOk, State.removalEnds_memOk, State.lowerMain_memOk]

theorem State.pgRises_memOk (s : State) (r : Rail) (hs : s.memOk = true) : (State.pgRises s r).memOk = true := by
  unfold State.pgRises
  grind [State.memOk, Memory.wf, memOk_foldRange, memOk_foldl, State.mainRisen_memOk, State.wantPhy_memOk, State.dramRisen_memOk]

theorem State.pgLate_memOk (s : State) (r : Rail) (hs : s.memOk = true) : (State.pgLate s r).memOk = true := by
  unfold State.pgLate
  grind [State.memOk, Memory.wf, memOk_foldRange, memOk_foldl, State.reportHusk_memOk, State.lowerDram_memOk, State.lowerSrd_memOk]

theorem State.reopenAs_memOk (s : State) (src detail : Nat) (hs : s.memOk = true) : (State.reopenAs s src detail).memOk = true := by
  unfold State.reopenAs
  grind [State.memOk, Memory.wf, memOk_foldRange, memOk_foldl]

theorem State.mainLost_memOk (s : State) (r : Rail) (hs : s.memOk = true) : (State.mainLost s r).memOk = true := by
  unfold State.mainLost
  grind [State.memOk, Memory.wf, memOk_foldRange, memOk_foldl, State.fullChipReset_memOk, State.pipActs_memOk, State.reopenAs_memOk]

theorem State.pgFalls_memOk (s : State) (r : Rail) (hs : s.memOk = true) : (State.pgFalls s r).memOk = true := by
  unfold State.pgFalls
  grind [State.memOk, Memory.wf, memOk_foldRange, memOk_foldl, State.removalEnds_memOk, State.mainLost_memOk]

theorem State.hpFalls_memOk (s : State) (hs : s.memOk = true) : (State.hpFalls s).memOk = true := by
  unfold State.hpFalls
  grind [State.memOk, Memory.wf, memOk_foldRange, memOk_foldl]

theorem State.thermalCrit_memOk (s : State) (hs : s.memOk = true) : (State.thermalCrit s).memOk = true := by
  unfold State.thermalCrit
  grind [State.memOk, Memory.wf, memOk_foldRange, memOk_foldl, State.plogDue_memOk, State.fullChipReset_memOk, State.reopenAs_memOk]

theorem State.startRemoval_memOk (s : State) (hs : s.memOk = true) : (State.startRemoval s).memOk = true := by
  unfold State.startRemoval
  grind [State.memOk, Memory.wf, memOk_foldRange, memOk_foldl]

theorem State.xtFails_memOk (s : State) (hs : s.memOk = true) : (State.xtFails s).memOk = true := by
  unfold State.xtFails
  grind [State.memOk, Memory.wf, memOk_foldRange, memOk_foldl, State.reportHusk_memOk]

theorem State.xoSettles_memOk (s : State) (hs : s.memOk = true) : (State.xoSettles s).memOk = true := by
  unfold State.xoSettles
  grind [State.memOk, Memory.wf, memOk_foldRange, memOk_foldl, State.until_memOk, State.setReady_memOk, State.endCondition_memOk, State.mainStart_memOk]

theorem State.abandonStart_memOk (s : State) (p : Pll) (hs : s.memOk = true) : (State.abandonStart s p).memOk = true := by
  unfold State.abandonStart
  grind [State.memOk, Memory.wf, memOk_foldRange, memOk_foldl, State.setPll_memOk, State.withdraw_memOk, State.request_memOk]

theorem State.xoLost_memOk (s : State) (early : Bool) (hs : s.memOk = true) : (State.xoLost s early).memOk = true := by
  unfold State.xoLost
  grind [State.memOk, Memory.wf, memOk_foldRange, memOk_foldl, State.dropReady_memOk, State.reportHusk_memOk, State.fullChipReset_memOk, State.abandonStart_memOk]

theorem State.aerUnc_memOk (s : State) (bit src : Nat) (hs : s.memOk = true) : (State.aerUnc s bit src).memOk = true := by
  unfold State.aerUnc
  grind [State.memOk, Memory.wf, memOk_foldRange, memOk_foldl, State.report_memOk]

theorem State.aerCor_memOk (s : State) (bit : Nat) (hs : s.memOk = true) : (State.aerCor s bit).memOk = true := by
  unfold State.aerCor
  grind [State.memOk, Memory.wf, memOk_foldRange, memOk_foldl, State.report_memOk]

theorem State.completerAbort_memOk (s : State) (hs : s.memOk = true) : (State.completerAbort s).memOk = true := by
  unfold State.completerAbort
  grind [State.memOk, Memory.wf, memOk_foldRange, memOk_foldl, State.aerUnc_memOk]

theorem State.rejectRead_memOk (s : State) (hs : s.memOk = true) : (State.rejectRead s).memOk = true := by
  unfold State.rejectRead
  grind [State.memOk, Memory.wf, memOk_foldRange, memOk_foldl, State.aerUnc_memOk]

theorem State.perstAssert_memOk (s : State) (hs : s.memOk = true) : (State.perstAssert s).memOk = true := by
  unfold State.perstAssert
  grind [State.memOk, Memory.wf, memOk_foldRange, memOk_foldl, State.clearReady_memOk, State.setPll_memOk, State.withdraw_memOk, State.linkLost_memOk, State.hostReset_memOk]

theorem State.flrStart_memOk (s : State) (hs : s.memOk = true) : (State.flrStart s).memOk = true := by
  unfold State.flrStart
  grind [State.memOk, Memory.wf, memOk_foldRange, memOk_foldl, State.hostReset_memOk]

theorem State.enterD3_memOk (s : State) (hs : s.memOk = true) : (State.enterD3 s).memOk = true := by
  unfold State.enterD3
  grind [State.memOk, Memory.wf, memOk_foldRange, memOk_foldl]

theorem State.leaveD3_memOk (s : State) (hs : s.memOk = true) : (State.leaveD3 s).memOk = true := by
  unfold State.leaveD3
  grind [State.memOk, Memory.wf, memOk_foldRange, memOk_foldl, State.flushMsix_memOk]

theorem State.cfgSpaceWrite_memOk (s : State) (o v : Nat) (hs : s.memOk = true) : (State.cfgSpaceWrite s o v).memOk = true := by
  unfold State.cfgSpaceWrite
  grind [State.memOk, Memory.wf, memOk_foldRange, memOk_foldl, State.flushMsix_memOk, State.flrStart_memOk, State.enterD3_memOk, State.leaveD3_memOk]

theorem State.discardBar2_memOk (s : State) (hs : s.memOk = true) : (State.discardBar2 s).memOk = true := by
  unfold State.discardBar2
  grind [State.memOk, Memory.wf, memOk_foldRange, memOk_foldl]

theorem State.bar2Do_memOk (s : State) (r : HeldReq) (hs : s.memOk = true) : (State.bar2Do s r).memOk = true := by
  unfold State.bar2Do
  grind [State.memOk, Memory.wf, memOk_foldRange, memOk_foldl, State.readMem_memOk, State.writeSome_memOk, State.poisonRange_memOk, State.aerUnc_memOk]

theorem State.bar2Fail_memOk (s : State) (r : HeldReq) (hs : s.memOk = true) : (State.bar2Fail s r).memOk = true := by
  unfold State.bar2Fail
  grind [State.memOk, Memory.wf, memOk_foldRange, memOk_foldl, State.completerAbort_memOk, State.discardBar2_memOk]

theorem State.bar2_memOk (s : State) (r : HeldReq) (hs : s.memOk = true) : (State.bar2 s r).memOk = true := by
  unfold State.bar2
  grind [State.memOk, Memory.wf, memOk_foldRange, memOk_foldl, State.wakeStack_memOk, State.bar2Do_memOk, State.bar2Fail_memOk]

theorem State.rejectWrite_memOk (s : State) (bar2 : Bool) (hs : s.memOk = true) : (State.rejectWrite s bar2).memOk = true := by
  unfold State.rejectWrite
  grind [State.memOk, Memory.wf, memOk_foldRange, memOk_foldl, State.aerUnc_memOk, State.discardBar2_memOk, State.bar2_memOk]

theorem State.takeHeld_memOk (s : State) (n : Nat) (hs : s.memOk = true) : (State.takeHeld s n).2.memOk = true := by
  unfold State.takeHeld
  grind [State.memOk, Memory.wf, memOk_foldRange, memOk_foldl]

theorem State.serveHeld_memOk (s : State) (n : Nat) (hs : s.memOk = true) : (State.serveHeld s n).memOk = true := by
  unfold State.serveHeld
  grind [State.memOk, Memory.wf, memOk_foldRange, memOk_foldl, State.bar2Do_memOk, State.takeHeld_memOk]

theorem State.dropUp_memOk (s : State) (tag : Nat) (hs : s.memOk = true) : (State.dropUp s tag).memOk = true := by
  unfold State.dropUp
  grind [State.memOk, Memory.wf, memOk_foldRange, memOk_foldl]

theorem State.dmaFail_memOk (s : State) (n code : Nat) (hs : s.memOk = true) : (State.dmaFail s n code).memOk = true := by
  unfold State.dmaFail
  grind [State.memOk, Memory.wf, memOk_foldRange, memOk_foldl, State.setChan_memOk]

theorem State.completion_memOk (s : State) (r : UpReq) (st : CplStatus) (data : List Byte) (hs : s.memOk = true) : (State.completion s r st data).memOk = true := by
  unfold State.completion
  grind [State.memOk, Memory.wf, memOk_foldRange, memOk_foldl, State.report_memOk, State.hostRead_memOk, State.dmaDeliver_memOk, State.aerUnc_memOk, State.dropUp_memOk, State.dmaFail_memOk]

theorem State.unmask_memOk (s : State) (v : Nat) (hs : s.memOk = true) : (State.unmask s v).memOk = true := by
  unfold State.unmask
  grind [State.memOk, Memory.wf, memOk_foldRange, memOk_foldl, State.flushMsix_memOk]

theorem State.overrun_memOk (s : State) (m : Nat) (hs : s.memOk = true) : (State.overrun s m).memOk = true := by
  unfold State.overrun
  grind [State.memOk, Memory.wf, memOk_foldRange, memOk_foldl, State.setBox_memOk, State.report_memOk]

theorem State.sendLo_memOk (s : State) (m v : Nat) (hs : s.memOk = true) : (State.sendLo s m v).memOk = true := by
  unfold State.sendLo
  grind [State.memOk, Memory.wf, memOk_foldRange, memOk_foldl, State.setBox_memOk, State.overrun_memOk]

theorem State.sendHi_memOk (s : State) (m hi : Nat) (lo : Option Nat) (hs : s.memOk = true) : (State.sendHi s m hi lo).memOk = true := by
  unfold State.sendHi
  grind [State.memOk, Memory.wf, memOk_foldRange, memOk_foldl, State.setBox_memOk, State.overrun_memOk]

theorem State.noticeTaken_memOk (s : State) (k : Nat) (hs : s.memOk = true) : (State.noticeTaken s k).memOk = true := by
  unfold State.noticeTaken
  grind [State.memOk, Memory.wf, memOk_foldRange, memOk_foldl]

theorem State.takeHi_memOk (s : State) (m : Nat) (hs : s.memOk = true) : (State.takeHi s m).memOk = true := by
  unfold State.takeHi
  grind [State.memOk, Memory.wf, memOk_foldRange, memOk_foldl, State.setBox_memOk, State.noticeTaken_memOk]

theorem State.setJob_memOk (s : State) (i : Nat) (c : Cmd) (hs : s.memOk = true) : (State.setJob s i c).memOk = true := by
  unfold State.setJob
  grind [State.memOk, Memory.wf, memOk_foldRange, memOk_foldl]

theorem State.dropJob_memOk (s : State) (i : Nat) (hs : s.memOk = true) : (State.dropJob s i).memOk = true := by
  unfold State.dropJob
  grind [State.memOk, Memory.wf, memOk_foldRange, memOk_foldl]

theorem State.notice_memOk (s : State) (i : Nat) (c : Cmd) (hs : s.memOk = true) : (State.notice s i c).memOk = true := by
  unfold State.notice
  grind [State.memOk, Memory.wf, memOk_foldRange, memOk_foldl, State.edge_memOk, State.sendHi_memOk, State.setJob_memOk, State.dropJob_memOk]

theorem State.applyQueue_memOk (s : State) (c : Cmd) (hs : s.memOk = true) : (State.applyQueue s c).memOk = true := by
  unfold State.applyQueue
  grind [State.memOk, Memory.wf, memOk_foldRange, memOk_foldl, State.setQueue_memOk]

theorem State.writeRecord_memOk (s : State) (i : Nat) (c : Cmd) (hs : s.memOk = true) : (State.writeRecord s i c).memOk = true := by
  unfold State.writeRecord
  grind [State.memOk, Memory.wf, memOk_foldRange, memOk_foldl, State.writeMem_memOk, State.setJob_memOk, State.dropJob_memOk, State.applyQueue_memOk]

theorem State.postQueue_memOk (s : State) (k : Nat) (y0 : Nat) (hs : s.memOk = true) : (State.postQueue s k y0).memOk = true := by
  induction y0 generalizing s k <;> (unfold State.postQueue; grind [State.memOk, Memory.wf, memOk_foldRange, memOk_foldl, State.wakeFor_memOk, State.dropJob_memOk, State.notice_memOk, State.writeRecord_memOk])

theorem State.post_memOk (s : State) (hs : s.memOk = true) : (State.post s).memOk = true := by
  unfold State.post
  grind [State.memOk, Memory.wf, memOk_foldRange, memOk_foldl, State.postQueue_memOk]

theorem State.takeIn_memOk (s : State) (k : Nat) (c : Cmd) (abi qfield : Nat) (hs : s.memOk = true) : (State.takeIn s k c abi qfield).1.memOk = true := by
  unfold State.takeIn
  grind [State.memOk, Memory.wf, memOk_foldRange, memOk_foldl, State.setQueue_memOk]

theorem State.readBody_memOk (s : State) (a : Nat) (c : Cmd) (hs : s.memOk = true) : (State.readBody s a c).1.memOk = true := by
  unfold State.readBody
  grind [State.memOk, Memory.wf, memOk_foldRange, memOk_foldl, State.readMem_memOk]

theorem State.badNotice_memOk (s : State) (k : Nat) (hs : s.memOk = true) : (State.badNotice s k).memOk = true := by
  unfold State.badNotice
  grind [State.memOk, Memory.wf, memOk_foldRange, memOk_foldl, State.setQueue_memOk]

theorem State.withBody_memOk (x : State × Cmd) (a : Nat) (hx : x.1.memOk = true) : (State.withBody x a).1.memOk = true := by
  unfold State.withBody
  grind [State.memOk, Memory.wf, memOk_foldRange, memOk_foldl, State.readBody_memOk]

theorem State.pushJob_memOk (x : State × Cmd) (hx : x.1.memOk = true) : (State.pushJob x).memOk = true := by
  exact memOk_same hx rfl rfl

theorem State.headerRead_memOk (r : MemRead) (k a now : Nat) (hr : r.state.memOk = true) : (State.headerRead r k a now).memOk = true := by
  unfold State.headerRead
  split
  · exact State.badNotice_memOk _ _ hr
  · dsimp only
    split
    · exact State.pushJob_memOk _ (State.withBody_memOk _ _ (State.takeIn_memOk _ _ _ _ _ hr))
    · exact State.badNotice_memOk _ _ hr

theorem State.noticeAt_memOk (s : State) (k a : Nat) (hs : s.memOk = true) : (State.noticeAt s k a).memOk = true := by
  unfold State.noticeAt
  grind [State.memOk, Memory.wf, memOk_foldRange, memOk_foldl, State.readMem_memOk, State.badNotice_memOk, State.headerRead_memOk]

theorem State.takeNotice_memOk (s : State) (k : Nat) (hs : s.memOk = true) : (State.takeNotice s k).memOk = true := by
  exact State.noticeAt_memOk _ _ _ (State.takeHi_memOk _ _ hs)

theorem State.pollQueue_memOk (s : State) (k : Nat) (hs : s.memOk = true) : (State.pollQueue s k).memOk = true := by
  unfold State.pollQueue
  exact memOk_ite (memOk_ite (State.wakeFor_memOk _ _ _ hs) (State.takeNotice_memOk _ _ hs)) hs

theorem State.serve_memOk (s : State) (k op : Nat) (shape : State → Cmd → Shape) (f : State → Cmd → State × Cmd) (hs : s.memOk = true) (hf : ∀ u v0, u.memOk = true → (f u v0).1.memOk = true) : (State.serve s k op shape f).memOk = true := by
  unfold State.serve
  grind [State.memOk, Memory.wf, memOk_foldRange, memOk_foldl, State.wakeStack_memOk, State.setJob_memOk, State.post_memOk]

theorem State.ask_memOk (s : State) (c : Cmd) (r : Requester) (cls : Nat) (hs : s.memOk = true) : (State.ask s c r cls).1.memOk = true := by
  unfold State.ask
  grind [State.memOk, Memory.wf, memOk_foldRange, memOk_foldl, State.request_memOk]

theorem State.enableLanes_memOk (s : State) (l : List Nat) (hs : s.memOk = true) : (State.enableLanes s l).memOk = true := by
  unfold State.enableLanes
  grind [State.memOk, Memory.wf, memOk_foldRange, memOk_foldl, State.setReady_memOk, State.setLane_memOk]

theorem State.yieldBist_memOk (s : State) (n : Nat) (hs : s.memOk = true) : (State.yieldBist s n).memOk = true := by
  unfold State.yieldBist
  grind [State.memOk, Memory.wf, memOk_foldRange, memOk_foldl, State.withdraw_memOk, State.dropBist_memOk]

theorem State.askFor_memOk (s : State) (i : Nat) (f : State → State) (hs : s.memOk = true) (hf : ∀ u : State, u.memOk = true → (f u).memOk = true) : (State.askFor s i f).memOk = true := by
  unfold State.askFor
  grind [State.memOk, Memory.wf, memOk_foldRange, memOk_foldl]

theorem State.askJob_memOk (s : State) (i : Nat) (c : Cmd) (ps : List Nat) (hs : s.memOk = true) : (State.askJob s i c ps).memOk = true := by
  unfold State.askJob
  grind [State.memOk, Memory.wf, memOk_foldRange, memOk_foldl, State.request_memOk, State.startPll_memOk, State.setJob_memOk, State.yieldBist_memOk, State.askFor_memOk]

theorem State.waitJob_memOk (s : State) (i : Nat) (c : Cmd) (ps : List Nat) (hs : s.memOk = true) : (State.waitJob s i c ps).memOk = true := by
  unfold State.waitJob
  grind [State.memOk, Memory.wf, memOk_foldRange, memOk_foldl, State.setPipe_memOk, State.setJob_memOk]

theorem State.advanceJob_memOk (s : State) (i : Nat) (c : Cmd) (hs : s.memOk = true) : (State.advanceJob s i c).memOk = true := by
  unfold State.advanceJob
  grind [State.memOk, Memory.wf, memOk_foldRange, memOk_foldl, State.setJob_memOk, State.askJob_memOk, State.waitJob_memOk]

theorem State.startMove_memOk (s : State) (c : Cmd) (hs : s.memOk = true) : (State.startMove s c).1.memOk = true := by
  unfold State.startMove
  grind [State.memOk, Memory.wf, memOk_foldRange, memOk_foldl, State.setChan_memOk, State.writeMem_memOk, State.dmaStart_memOk]

theorem State.advanceCopy_memOk (s : State) (i : Nat) (c : Cmd) (hs : s.memOk = true) : (State.advanceCopy s i c).memOk = true := by
  unfold State.advanceCopy
  grind [State.memOk, Memory.wf, memOk_foldRange, memOk_foldl, State.idle_memOk, State.dmaClear_memOk, State.setJob_memOk, State.startMove_memOk]

theorem State.closeSession_memOk (s : State) (sess : Nat) (hs : s.memOk = true) : (State.closeSession s sess).memOk = true := by
  unfold State.closeSession
  grind [State.memOk, Memory.wf, memOk_foldRange, memOk_foldl, State.setSession_memOk]

theorem State.dropFlow_memOk (s : State) (k : Nat) (hs : s.memOk = true) : (State.dropFlow s k).memOk = true := by
  unfold State.dropFlow
  grind [State.memOk, Memory.wf, memOk_foldRange, memOk_foldl, State.setStack_memOk, State.setFlow_memOk]

theorem State.askPort_memOk (s : State) (i : Nat) (c : Cmd) (hs : s.memOk = true) : (State.askPort s i c).memOk = true := by
  unfold State.askPort
  grind [State.memOk, Memory.wf, memOk_foldRange, memOk_foldl, State.request_memOk, State.startPll_memOk, State.setJob_memOk, State.enableLanes_memOk, State.askFor_memOk]

theorem State.advanceCmd_memOk (s : State) (i : Nat) (c : Cmd) (hs : s.memOk = true) : (State.advanceCmd s i c).memOk = true := by
  unfold State.advanceCmd
  grind [State.memOk, Memory.wf, memOk_foldRange, memOk_foldl, State.setJob_memOk, State.enableLanes_memOk, State.advanceJob_memOk, State.advanceCopy_memOk, State.closeSession_memOk, State.dropFlow_memOk, State.askPort_memOk]

theorem State.bistWaits_memOk (s : State) (n : Nat) (r : Requester) (hs : s.memOk = true) : (State.bistWaits s n r).memOk = true := by
  unfold State.bistWaits
  grind [State.memOk, Memory.wf, memOk_foldRange, memOk_foldl]

theorem State.advanceBist_memOk (s : State) (n : Nat) (hs : s.memOk = true) : (State.advanceBist s n).memOk = true := by
  unfold State.advanceBist
  grind [State.memOk, Memory.wf, memOk_foldRange, memOk_foldl, State.request_memOk, State.startPll_memOk, State.bistWaits_memOk]

theorem State.progress_memOk (s : State) (hs : s.memOk = true) : (State.progress s).memOk = true := by
  unfold State.progress
  grind [State.memOk, Memory.wf, memOk_foldRange, memOk_foldl, State.post_memOk, State.advanceCmd_memOk, State.advanceBist_memOk]

theorem State.scrubStart_memOk (s : State) (hs : s.memOk = true) : (State.scrubStart s).memOk = true := by
  unfold State.scrubStart
  grind [State.memOk, Memory.wf, memOk_foldRange, memOk_foldl, State.setReady_memOk]

theorem State.askBist_memOk (s : State) (n : Nat) (hs : s.memOk = true) : (State.askBist s n).memOk = true := by
  unfold State.askBist
  grind [State.memOk, Memory.wf, memOk_foldRange, memOk_foldl, State.setPipe_memOk]

theorem State.serviceStart_memOk (s : State) (hs : s.memOk = true) : (State.serviceStart s).memOk = true := by
  unfold State.serviceStart
  grind [State.memOk, Memory.wf, memOk_foldRange, memOk_foldl, State.setReady_memOk, State.askBist_memOk]

theorem State.serveFaults_memOk (s : State) (hs : s.memOk = true) : (State.serveFaults s).memOk = true := by
  unfold State.serveFaults
  grind [State.memOk, Memory.wf, memOk_foldRange, memOk_foldl, State.setPipe_memOk]

end Sys2Proof.Machine
end

