-- ==== Sys2Proof/Laws/MemOkDevice.lean ====
section
/-! SUPPORT. Memory keeps its canonical form: one lemma per operation of slots, clocks, the PAC, memory events, boot, the registers. -/

namespace Sys2Proof.Machine

theorem State.rtWrite_memOk (s : State) (port a : Nat) (bs : List Byte) (hs : s.memOk = true) : (State.rtWrite s port a bs).memOk = true := by
  unfold State.rtWrite
  grind [State.memOk, Memory.wf, memOk_foldRange, memOk_foldl, State.wakeStack_memOk, State.writeMem_memOk]

theorem State.rtGet_memOk (s : State) (port a n : Nat) (hs : s.memOk = true) : (State.rtGet s port a n).2.memOk = true := by
  unfold State.rtGet
  grind [State.memOk, Memory.wf, memOk_foldRange, memOk_foldl, State.wakeStack_memOk, State.readMem_memOk]

theorem State.rtRead_memOk (s : State) (port a n : Nat) (hs : s.memOk = true) : (State.rtRead s port a n).2.memOk = true := by
  unfold State.rtRead
  grind [State.memOk, Memory.wf, memOk_foldRange, memOk_foldl, State.rtGet_memOk]

theorem State.lineStatus_memOk (s : State) (n y v : Nat) (hs : s.memOk = true) : (State.lineStatus s n y v).memOk = true := by
  unfold State.lineStatus
  grind [State.memOk, Memory.wf, memOk_foldRange, memOk_foldl, State.rtWrite_memOk]

theorem State.rxCut_memOk (s : State) (n : Nat) (hs : s.memOk = true) : (State.rxCut s n).memOk = true := by
  unfold State.rxCut
  grind [State.memOk, Memory.wf, memOk_foldRange, memOk_foldl, State.lineStatus_memOk]

theorem State.unlock_memOk (s : State) (p : Pll) (hs : s.memOk = true) : (State.unlock s p).memOk = true := by
  unfold State.unlock
  grind [State.memOk, Memory.wf, memOk_foldRange, memOk_foldl, State.report_memOk]

theorem State.setVtc_memOk (s : State) (v : Vtc) (hs : s.memOk = true) : (State.setVtc s v).memOk = true := by
  unfold State.setVtc
  grind [State.memOk, Memory.wf, memOk_foldRange, memOk_foldl, State.edge_memOk]

theorem State.wakeStacks_memOk (s : State) (hs : s.memOk = true) : (State.wakeStacks s).memOk = true := by
  unfold State.wakeStacks
  grind [State.memOk, Memory.wf, memOk_foldRange, memOk_foldl, State.wakeStack_memOk]

theorem State.locked_memOk (s : State) (p : Pll) (hs : s.memOk = true) : (State.locked s p).memOk = true := by
  unfold State.locked
  grind [State.memOk, Memory.wf, memOk_foldRange, memOk_foldl, State.setReady_memOk, State.progress_memOk, State.setVtc_memOk, State.wakeStacks_memOk]

theorem State.lockFails_memOk (s : State) (p : Pll) (hs : s.memOk = true) : (State.lockFails s p).memOk = true := by
  unfold State.lockFails
  grind [State.memOk, Memory.wf, memOk_foldRange, memOk_foldl, State.setPll_memOk, State.withdraw_memOk, State.settleWork_memOk, State.progress_memOk, State.unlock_memOk]

theorem State.laneLost_memOk (s : State) (n : Nat) (hs : s.memOk = true) : (State.laneLost s n).memOk = true := by
  unfold State.laneLost
  grind [State.memOk, Memory.wf, memOk_foldRange, memOk_foldl, State.dropReady_memOk, State.setLane_memOk, State.rxCut_memOk]

theorem State.quadLost_memOk (s : State) (q : Nat) (hs : s.memOk = true) : (State.quadLost s q).memOk = true := by
  unfold State.quadLost
  grind [State.memOk, Memory.wf, memOk_foldRange, memOk_foldl, State.laneLost_memOk]

theorem State.lockLost_memOk (s : State) (p : Pll) (hs : s.memOk = true) : (State.lockLost s p).memOk = true := by
  unfold State.lockLost
  grind [State.memOk, Memory.wf, memOk_foldRange, memOk_foldl, State.dropReady_memOk, State.setPll_memOk, State.withdraw_memOk, State.startPll_memOk, State.wantPhy_memOk, State.dropLink_memOk, State.unlock_memOk, State.quadLost_memOk]

theorem State.retry_memOk (s : State) (t : RetryTarget) (hs : s.memOk = true) : (State.retry s t).memOk = true := by
  unfold State.retry
  grind [State.memOk, Memory.wf, memOk_foldRange, memOk_foldl, State.startPll_memOk, State.wakeStack_memOk, State.wantPhy_memOk]

theorem State.vtcLoss_memOk (s : State) (hs : s.memOk = true) : (State.vtcLoss s).memOk = true := by
  unfold State.vtcLoss
  grind [State.memOk, Memory.wf, memOk_foldRange, memOk_foldl, State.report_memOk, State.setVtc_memOk, State.locked_memOk]

theorem State.pacReports_memOk (s : State) (hs : s.memOk = true) : (State.pacReports s).memOk = true := by
  unfold State.pacReports
  grind [State.memOk, Memory.wf, memOk_foldRange, memOk_foldl, State.report_memOk, State.cfgBad_memOk]

theorem State.pacLoad_memOk (s : State) (hs : s.memOk = true) : (State.pacLoad s).memOk = true := by
  unfold State.pacLoad
  grind [State.memOk, Memory.wf, memOk_foldRange, memOk_foldl, State.advance_memOk, State.setReady_memOk, State.retest_memOk, State.startPll_memOk, State.wantPhy_memOk, State.pacReports_memOk]

theorem State.startBurst_memOk (s : State) (hs : s.memOk = true) : (State.startBurst s).memOk = true := by
  unfold State.startBurst
  grind [State.memOk, Memory.wf, memOk_foldRange, memOk_foldl]

theorem State.wakeGranted_memOk (s : State) (n : Nat) (hs : s.memOk = true) : (State.wakeGranted s n).memOk = true := by
  unfold State.wakeGranted
  grind [State.memOk, Memory.wf, memOk_foldRange, memOk_foldl, State.setStack_memOk, State.raiseDram_memOk]

theorem State.memTestStarts_memOk (s : State) (i : Nat) (hs : s.memOk = true) : (State.memTestStarts s i).memOk = true := by
  unfold State.memTestStarts
  grind [State.memOk, Memory.wf, memOk_foldRange, memOk_foldl, State.dropReady_memOk, State.setStack_memOk]

theorem State.onGrant_memOk (s : State) (r : Requester) (hs : s.memOk = true) : (State.onGrant s r).memOk = true := by
  unfold State.onGrant
  grind [State.memOk, Memory.wf, memOk_foldRange, memOk_foldl, State.dropReady_memOk, State.setPll_memOk, State.setPipe_memOk, State.startBurst_memOk, State.wakeGranted_memOk, State.memTestStarts_memOk]

theorem State.grant_memOk (s : State) (hs : s.memOk = true) : (State.grant s).memOk = true := by
  unfold State.grant
  grind [State.memOk, Memory.wf, memOk_foldRange, memOk_foldl, State.until_memOk, State.progress_memOk, State.onGrant_memOk]

theorem State.releaseGrant_memOk (s : State) (r : Requester) (hs : s.memOk = true) : (State.releaseGrant s r).memOk = true := by
  unfold State.releaseGrant
  grind [State.memOk, Memory.wf, memOk_foldRange, memOk_foldl, State.release_memOk]

theorem State.pacLate_memOk (s : State) (r : Requester) (hs : s.memOk = true) : (State.pacLate s r).memOk = true := by
  unfold State.pacLate
  grind [State.memOk, Memory.wf, memOk_foldRange, memOk_foldl, State.until_memOk, State.refuse_memOk, State.progress_memOk, State.grant_memOk]

theorem State.sample_memOk (s : State) (tj : Int) (hs : s.memOk = true) : (State.sample s tj).memOk = true := by
  unfold State.sample
  grind [State.memOk, Memory.wf, memOk_foldRange, memOk_foldl, State.report_memOk, State.endCondition_memOk]

theorem State.clamp_memOk (s : State) (hs : s.memOk = true) : (State.clamp s).memOk = true := by
  unfold State.clamp
  grind [State.memOk, Memory.wf, memOk_foldRange, memOk_foldl, State.retest_memOk]

theorem State.budgetWrite_memOk (s : State) (r : BudgetRail) (v : Nat) (hs : s.memOk = true) : (State.budgetWrite s r v).memOk = true := by
  unfold State.budgetWrite
  grind [State.memOk, Memory.wf, memOk_foldRange, memOk_foldl, State.retest_memOk]

theorem State.stackServes_memOk (s : State) (n : Nat) (hs : s.memOk = true) : (State.stackServes s n).memOk = true := by
  unfold State.stackServes
  grind [State.memOk, Memory.wf, memOk_foldRange, memOk_foldl, State.serveHeld_memOk, State.progress_memOk, State.scrubStart_memOk]

theorem State.trained_memOk (s : State) (n : Nat) (hs : s.memOk = true) : (State.trained s n).memOk = true := by
  unfold State.trained
  grind [State.memOk, Memory.wf, memOk_foldRange, memOk_foldl, State.setReady_memOk, State.setStack_memOk, State.stackServes_memOk]

theorem State.initEnds_memOk (s : State) (n : Nat) (hs : s.memOk = true) : (State.initEnds s n).memOk = true := by
  unfold State.initEnds
  dsimp only
  split
  · exact State.setStack_memOk _ _ _ (memOk_of (s.mem_ok hs) (Table.filter_wf _ _ _ (s.marks_ok hs)))
  · exact hs

theorem State.toSelfRefresh_memOk (s : State) (n : Nat) (hs : s.memOk = true) : (State.toSelfRefresh s n).memOk = true := by
  unfold State.toSelfRefresh
  grind [State.memOk, Memory.wf, memOk_foldRange, memOk_foldl, State.setStack_memOk, State.release_memOk]

theorem State.mainOffSleep_memOk (s : State) (hs : s.memOk = true) : (State.mainOffSleep s).memOk = true := by
  unfold State.mainOffSleep
  grind [State.memOk, Memory.wf, memOk_foldRange, memOk_foldl, State.until_memOk, State.toSelfRefresh_memOk]

theorem State.reread_memOk (s : State) (w : Nat) (recovered : Bool) (hs : s.memOk = true) : (State.reread s w recovered).memOk = true := by
  unfold State.reread
  grind [State.memOk, Memory.wf, memOk_foldRange, memOk_foldl, State.setStack_memOk, State.setMark_memOk, State.poisonDram_memOk]

theorem State.writeBack_memOk (s : State) (w : Nat) (hs : s.memOk = true) : (State.writeBack s w).memOk = true := by
  unfold State.writeBack
  grind [State.memOk, Memory.wf, memOk_foldRange, memOk_foldl, State.setMark_memOk]

theorem State.scrubFound_memOk (s : State) (w : Nat) (hs : s.memOk = true) : (State.scrubFound s w).memOk = true := by
  unfold State.scrubFound
  grind [State.memOk, Memory.wf, memOk_foldRange, memOk_foldl, State.report_memOk, State.setMark_memOk]

theorem State.scrubWord_memOk (s : State) (w : Nat) (hs : s.memOk = true) : (State.scrubWord s w).memOk = true := by
  unfold State.scrubWord
  grind [State.memOk, Memory.wf, memOk_foldRange, memOk_foldl, State.setMark_memOk, State.touchWord_memOk, State.scrubFound_memOk]

theorem State.scrubAt_memOk (s : State) (a : Nat) (hs : s.memOk = true) : (State.scrubAt s a).memOk = true := by
  unfold State.scrubAt
  grind [State.memOk, Memory.wf, memOk_foldRange, memOk_foldl, State.account_memOk, State.scrubWord_memOk]

theorem State.scrubPass_memOk (s : State) (hs : s.memOk = true) : (State.scrubPass s).memOk = true := by
  unfold State.scrubPass
  grind [State.memOk, Memory.wf, memOk_foldRange, memOk_foldl]

theorem State.setScrub_memOk (s : State) (f : Scrub → Scrub) (hs : s.memOk = true) : (State.setScrub s f).memOk = true := by
  exact memOk_same hs rfl rfl

theorem State.scrubNext_memOk (s : State) (hs : s.memOk = true) : (State.scrubNext s).memOk = true := by
  unfold State.scrubNext
  grind [State.memOk, Memory.wf, memOk_foldRange, memOk_foldl, State.scrubAt_memOk, State.setScrub_memOk]

theorem State.staged_memOk (s : State) (c : Cmd) (hs : s.memOk = true) : (State.staged s c).memOk = true := by
  unfold State.staged
  grind [State.memOk, Memory.wf, memOk_foldRange, memOk_foldl]

theorem State.burstDone_memOk (s : State) (i : Nat) (c : Cmd) (hs : s.memOk = true) : (State.burstDone s i c).memOk = true := by
  unfold State.burstDone
  grind [State.memOk, Memory.wf, memOk_foldRange, memOk_foldl, State.setJob_memOk, State.staged_memOk]

theorem State.nextBurst_memOk (s : State) (hs : s.memOk = true) : (State.nextBurst s).memOk = true := by
  unfold State.nextBurst
  grind [State.memOk, Memory.wf, memOk_foldRange, memOk_foldl, State.request_memOk]

theorem State.burstApplied_memOk (s : State) (r : JRec) (hs : s.memOk = true) : (State.burstApplied s r).memOk = true := by
  exact State.edge_memOk _ 92 (State.release_memOk _ ⟨.mramBurst, 0⟩ (State.applyBurst_memOk s r hs))

theorem State.afterBurst_memOk (s : State) (r : JRec) (hs : s.memOk = true) : (State.afterBurst s r).memOk = true := by
  unfold State.afterBurst
  grind [State.memOk, Memory.wf, memOk_foldRange, memOk_foldl, State.progress_memOk, State.burstDone_memOk, State.nextBurst_memOk]

theorem State.burstEnds_memOk (s : State) (hs : s.memOk = true) : (State.burstEnds s).memOk = true := by
  unfold State.burstEnds
  grind [State.memOk, Memory.wf, memOk_foldRange, memOk_foldl, State.burstApplied_memOk, State.afterBurst_memOk]

theorem State.bankDReady_memOk (s : State) (hs : s.memOk = true) : (State.bankDReady s).memOk = true := by
  unfold State.bankDReady
  grind [State.memOk, Memory.wf, memOk_foldRange, memOk_foldl, State.setReady_memOk, State.scanJournal_memOk]

theorem State.pipSlotsBad_memOk (s : State) (first : Bool) (hs : s.memOk = true) : (State.pipSlotsBad s first).memOk = true := by
  unfold State.pipSlotsBad
  grind [State.memOk, Memory.wf, memOk_foldRange, memOk_foldl, State.reportHusk_memOk]

theorem State.pipBoots_memOk (s : State) (hs : s.memOk = true) : (State.pipBoots s).memOk = true := by
  unfold State.pipBoots
  grind [State.memOk, Memory.wf, memOk_foldRange, memOk_foldl, State.setReady_memOk, State.pipActs_memOk, State.clamp_memOk, State.pipSlotsBad_memOk]

theorem State.hazelStarts_memOk (s : State) (hs : s.memOk = true) : (State.hazelStarts s).memOk = true := by
  unfold State.hazelStarts
  grind [State.memOk, Memory.wf, memOk_foldRange, memOk_foldl, State.wearM_memOk, State.sendHi_memOk, State.locked_memOk]

theorem State.hazelSlotsBad_memOk (s : State) (first : Bool) (hs : s.memOk = true) : (State.hazelSlotsBad s first).memOk = true := by
  unfold State.hazelSlotsBad
  grind [State.memOk, Memory.wf, memOk_foldRange, memOk_foldl, State.report_memOk]

theorem State.cutPorts_memOk (s : State) (hs : s.memOk = true) : (State.cutPorts s).memOk = true := by
  unfold State.cutPorts
  grind [State.memOk, Memory.wf, memOk_foldRange, memOk_foldl, State.endPort_memOk]

theorem State.settleHazel_memOk (s : State) (hs : s.memOk = true) : (State.settleHazel s).memOk = true := by
  unfold State.settleHazel
  grind [State.memOk, Memory.wf, memOk_foldRange, memOk_foldl, State.setPipe_memOk, State.withdraw_memOk, State.endJobs_memOk, State.releaseIdlePipes_memOk, State.endRuns_memOk, State.cutPorts_memOk]

theorem State.hazelBStarts_memOk (s : State) (hs : s.memOk = true) : (State.hazelBStarts s).memOk = true := by
  unfold State.hazelBStarts
  grind [State.memOk, Memory.wf, memOk_foldRange, memOk_foldl, State.setReady_memOk, State.startPll_memOk]

theorem State.hazelOn_memOk (s : State) (h : Hazel) (hs : s.memOk = true) : (State.hazelOn s h).memOk = true := by
  exact State.settleHazel_memOk _ (State.setReady_memOk _ _ (State.setReady_memOk _ _ (memOk_same hs rfl rfl)))

theorem State.hazelLoads_memOk (s : State) (v : Nat) (hs : s.memOk = true) : (State.hazelLoads s v).memOk = true := by
  unfold State.hazelLoads
  dsimp only
  split
  · split
    · exact State.hazelBStarts_memOk _ (State.report_memOk _ _ _ (State.clamp_memOk _ (State.hazelOn_memOk _ _ hs)))
    · exact State.hazelBStarts_memOk _ (State.hazelOn_memOk _ _ hs)
  · exact State.report_memOk _ _ _ (State.hazelOn_memOk _ _ hs)

theorem State.hazelRuns_memOk (s : State) (hs : s.memOk = true) : (State.hazelRuns s).memOk = true := by
  unfold State.hazelRuns
  split
  · exact State.hazelLoads_memOk _ _ (State.hazelSlotsBad_memOk _ _ (State.takeHi_memOk _ _ hs))
  · exact hs

theorem State.detect_memOk (s : State) (src detail : Nat) (hs : s.memOk = true) : (State.detect s src detail).memOk = true := by
  unfold State.detect
  grind [State.memOk, Memory.wf, memOk_foldRange, memOk_foldl, State.report_memOk]

theorem State.rewriteConfig_memOk (s : State) (hs : s.memOk = true) : (State.rewriteConfig s).memOk = true := by
  unfold State.rewriteConfig
  grind [State.memOk, Memory.wf, memOk_foldRange, memOk_foldl, State.react_memOk]

theorem State.quietEnds_memOk (s : State) (src : Nat) (hs : s.memOk = true) : (State.quietEnds s src).memOk = true := by
  unfold State.quietEnds
  grind [State.memOk, Memory.wf, memOk_foldRange, memOk_foldl, State.until_memOk, State.closeQuiet_memOk]

theorem State.reopenAll_memOk (s : State) (hs : s.memOk = true) : (State.reopenAll s).memOk = true := by
  unfold State.reopenAll
  grind [State.memOk, Memory.wf, memOk_foldRange, memOk_foldl, State.reopenCause_memOk]

theorem State.proof_memOk (s : State) (pairB detected : Bool) (hs : s.memOk = true) : (State.proof s pairB detected).memOk = true := by
  unfold State.proof
  grind [State.memOk, Memory.wf, memOk_foldRange, memOk_foldl, State.report_memOk, State.locked_memOk]

theorem State.logReinit_memOk (s : State) (hs : s.memOk = true) : (State.logReinit s).memOk = true := by
  unfold State.logReinit
  grind [State.memOk, Memory.wf, memOk_foldRange, memOk_foldl, State.endCondition_memOk]

theorem State.lrClear_memOk (s : State) (hs : s.memOk = true) : (State.lrClear s).memOk = true := by
  unfold State.lrClear
  grind [State.memOk, Memory.wf, memOk_foldRange, memOk_foldl]

theorem State.errForce_memOk (s : State) (b : Bool) (hs : s.memOk = true) : (State.errForce s b).memOk = true := by
  unfold State.errForce
  grind [State.memOk, Memory.wf, memOk_foldRange, memOk_foldl]

theorem State.plogWrite_memOk (s : State) (hs : s.memOk = true) : (State.plogWrite s).memOk = true := by
  unfold State.plogWrite
  grind [State.memOk, Memory.wf, memOk_foldRange, memOk_foldl, State.plogDue_memOk, State.wearM_memOk]

theorem State.pcieCounter_memOk (s : State) (o : Nat) (hs : s.memOk = true) : ∀ c, (State.pcieCounter s o) = some c → c.zero.memOk = true := by
  intro c h
  unfold State.pcieCounter at h
  dsimp only at h
  repeat' split at h
  all_goals first
    | (cases h; done)
    | (cases h; exact memOk_same hs rfl rfl)

theorem State.pipeCounter_memOk (s : State) (n o : Nat) (hs : s.memOk = true) : ∀ c, (State.pipeCounter s n o) = some c → c.zero.memOk = true := by
  intro c h
  unfold State.pipeCounter at h
  dsimp only at h
  repeat' split at h
  all_goals first
    | (cases h; done)
    | (cases h; exact memOk_same hs rfl rfl)

theorem State.fabCounter_memOk (s : State) (p o : Nat) (hs : s.memOk = true) : ∀ c, (State.fabCounter s p o) = some c → c.zero.memOk = true := by
  intro c h
  unfold State.fabCounter at h
  dsimp only at h
  repeat' split at h
  all_goals first
    | (cases h; done)
    | (cases h; exact memOk_same hs rfl rfl)

theorem State.dramCounter_memOk (s : State) (n o : Nat) (hs : s.memOk = true) : ∀ c, (State.dramCounter s n o) = some c → c.zero.memOk = true := by
  intro c h
  unfold State.dramCounter at h
  dsimp only at h
  repeat' split at h
  all_goals first
    | (cases h; done)
    | (cases h; exact memOk_same hs rfl rfl)

theorem State.lfsCounter_memOk (s : State) (o : Nat) (hs : s.memOk = true) : ∀ c, (State.lfsCounter s o) = some c → c.zero.memOk = true := by
  intro c h
  unfold State.lfsCounter at h
  dsimp only at h
  repeat' split at h
  all_goals first
    | (cases h; done)
    | (cases h; exact memOk_same hs rfl rfl)

theorem State.dmaCounter_memOk (s : State) (n o : Nat) (hs : s.memOk = true) : ∀ c, (State.dmaCounter s n o) = some c → c.zero.memOk = true := by
  intro c h
  unfold State.dmaCounter at h
  dsimp only at h
  repeat' split at h
  all_goals first
    | (cases h; done)
    | (cases h; exact memOk_same hs rfl rfl)

theorem State.laneCounter_memOk (s : State) (n o : Nat) (hs : s.memOk = true) : ∀ c, (State.laneCounter s n o) = some c → c.zero.memOk = true := by
  intro c h
  unfold State.laneCounter at h
  dsimp only at h
  repeat' split at h
  all_goals first
    | (cases h; done)
    | (cases h; exact memOk_same hs rfl rfl)

theorem State.portCounter_memOk (s : State) (p o : Nat) (hs : s.memOk = true) : ∀ c, (State.portCounter s p o) = some c → c.zero.memOk = true := by
  intro c h
  unfold State.portCounter at h
  dsimp only at h
  repeat' split at h
  all_goals first
    | (cases h; done)
    | (cases h; exact memOk_same hs rfl rfl)

theorem State.flowCounter_memOk (s : State) (f o : Nat) (hs : s.memOk = true) : ∀ c, (State.flowCounter s f o) = some c → c.zero.memOk = true := by
  intro c h
  unfold State.flowCounter at h
  dsimp only at h
  repeat' split at h
  all_goals first
    | (cases h; done)
    | (cases h; exact memOk_same hs rfl rfl)

theorem State.fltCounter_memOk (s : State) (o : Nat) (hs : s.memOk = true) : ∀ c, (State.fltCounter s o) = some c → c.zero.memOk = true := by
  intro c h
  unfold State.fltCounter at h
  dsimp only at h
  repeat' split at h
  all_goals first
    | (cases h; done)
    | (cases h; exact memOk_same hs rfl rfl)

theorem State.counterAt_memOk (s : State) (a : Nat) (hs : s.memOk = true) : ∀ c, (State.counterAt s a) = some c → c.zero.memOk = true := by
  have H : ∀ {p : Prop} [Decidable p] {x y : Option Counter}, (∀ c, x = some c → c.zero.memOk = true) →
      (∀ c, y = some c → c.zero.memOk = true) → ∀ c, (if p then x else y) = some c → c.zero.memOk = true := by
    intro p _ x y hx hy
    split <;> assumption
  exact H (State.pcieCounter_memOk _ _ hs) (H (State.pipeCounter_memOk _ _ _ hs) (H (State.fabCounter_memOk _ _ _ hs)
    (H (State.dramCounter_memOk _ _ _ hs) (H (State.lfsCounter_memOk _ _ hs) (H (State.dmaCounter_memOk _ _ _ hs)
    (H (State.laneCounter_memOk _ _ _ hs) (H (State.portCounter_memOk _ _ _ hs) (H (State.flowCounter_memOk _ _ _ hs)
    (H (State.fltCounter_memOk _ _ hs) (H (fun c h => by cases h; exact State.setEntry_memOk _ _ _ hs) (fun c h => by cases h)))))))))))

theorem State.setTgt_memOk (s : State) (t : Target) (x : IcuTgt) (hs : s.memOk = true) : (State.setTgt s t x).memOk = true := by
  unfold State.setTgt
  grind [State.memOk, Memory.wf, memOk_foldRange, memOk_foldl]

theorem State.clearNotified_memOk (s : State) (t : Target) (v : Nat) (hs : s.memOk = true) : (State.clearNotified s t v).memOk = true := by
  unfold State.clearNotified
  grind [State.memOk, Memory.wf, memOk_foldRange, memOk_foldl, State.setTgt_memOk]

theorem State.claim_memOk (s : State) (t : Target) (v : Nat) (hs : s.memOk = true) : (State.claim s t v).2.memOk = true := by
  unfold State.claim
  grind [State.memOk, Memory.wf, memOk_foldRange, memOk_foldl, State.setTgt_memOk, State.clearNotified_memOk]

theorem State.complete_memOk (s : State) (t : Target) (i : Nat) (hs : s.memOk = true) : (State.complete s t i).memOk = true := by
  unfold State.complete
  grind [State.memOk, Memory.wf, memOk_foldRange, memOk_foldl, State.setTgt_memOk]

theorem State.writePend_memOk (s : State) (t : Target) (i v : Nat) (hs : s.memOk = true) : (State.writePend s t i v).memOk = true := by
  unfold State.writePend
  grind [State.memOk, Memory.wf, memOk_foldRange, memOk_foldl, State.setTgt_memOk]

theorem State.swiSet_memOk (s : State) (v : Nat) (hs : s.memOk = true) : (State.swiSet s v).memOk = true := by
  unfold State.swiSet
  grind [State.memOk, Memory.wf, memOk_foldRange, memOk_foldl, State.edges_memOk]

theorem State.sleep_memOk (s : State) (t : Target) (coincident : Option Nat) (hs : s.memOk = true) : (State.sleep s t coincident).memOk = true := by
  unfold State.sleep
  grind [State.memOk, Memory.wf, memOk_foldRange, memOk_foldl, State.edge_memOk, State.setTgt_memOk]

theorem State.wakeCore_memOk (s : State) (t : Target) (hs : s.memOk = true) : (State.wakeCore s t).memOk = true := by
  unfold State.wakeCore
  grind [State.memOk, Memory.wf, memOk_foldRange, memOk_foldl, State.startPll_memOk, State.locked_memOk, State.setTgt_memOk]

theorem State.setPtp_memOk (s : State) (p : Ptp) (hs : s.memOk = true) : (State.setPtp s p).memOk = true := by
  unfold State.setPtp
  grind [State.memOk, Memory.wf, memOk_foldRange, memOk_foldl]

theorem State.ptpRun_memOk (s : State) (b : Bool) (hs : s.memOk = true) : (State.ptpRun s b).memOk = true := by
  unfold State.ptpRun
  grind [State.memOk, Memory.wf, memOk_foldRange, memOk_foldl, State.setReady_memOk, State.dropReady_memOk, State.setPtp_memOk]

theorem State.ptpLossSet_memOk (s : State) (hs : s.memOk = true) : (State.ptpLossSet s).memOk = true := by
  unfold State.ptpLossSet
  grind [State.memOk, Memory.wf, memOk_foldRange, memOk_foldl, State.vtcLoss_memOk, State.setPtp_memOk]

theorem State.ptpCtrl_memOk (s : State) (v : Nat) (hs : s.memOk = true) : (State.ptpCtrl s v).memOk = true := by
  unfold State.ptpCtrl
  grind [State.memOk, Memory.wf, memOk_foldRange, memOk_foldl, State.locked_memOk, State.setPtp_memOk, State.ptpRun_memOk, State.ptpLossSet_memOk]

theorem State.ptpDo_memOk (s : State) (v : Nat) (hs : s.memOk = true) : (State.ptpDo s v).memOk = true := by
  unfold State.ptpDo
  grind [State.memOk, Memory.wf, memOk_foldRange, memOk_foldl, State.ptpCtrl_memOk]

theorem State.setLatch_memOk (s : State) (p : Path) (a v : Nat) (hs : s.memOk = true) : (State.setLatch s p a v).memOk = true := by
  unfold State.setLatch
  grind [State.memOk, Memory.wf, memOk_foldRange, memOk_foldl]

theorem State.popEvent_memOk (s : State) (i : Nat) (hs : s.memOk = true) : (State.popEvent s i).2.memOk = true := by
  unfold State.popEvent
  grind [State.memOk, Memory.wf, memOk_foldRange, memOk_foldl]

theorem State.counterRead_memOk (s : State) (p : Path) (a : Nat) (c : Counter) (hs : s.memOk = true) (hc : c.zero.memOk = true) : (State.counterRead s p a c).2.memOk = true := by
  unfold State.counterRead
  dsimp only
  split <;> dsimp only <;> (try refine State.setLatch_memOk _ _ _ _ ?_) <;> split <;> assumption

theorem State.windowRead_memOk (s : State) (p : Path) (a : Nat) (hs : s.memOk = true) : (State.windowRead s p a).2.memOk = true := by
  unfold State.windowRead
  grind [State.memOk, Memory.wf, memOk_foldRange, memOk_foldl, State.counterAt_memOk, State.popEvent_memOk, State.counterRead_memOk]

theorem State.regRead_memOk (s : State) (p : Path) (a : Nat) (hs : s.memOk = true) : (State.regRead s p a).2.memOk = true := by
  have same (t : State) (h1 : t.mem = s.mem) (h2 : t.marks = s.marks) : t.memOk = true := memOk_same hs h1 h2
  unfold State.regRead
  refine memOk_ite2 hs (memOk_ite2 (State.windowRead_memOk _ _ _ hs) ?_)
  split
  · exact memOk_ite2 (State.takeHi_memOk _ _ hs) hs
  · refine memOk_ite2 hs ?_
    refine memOk_ite2 hs ?_
    refine memOk_ite2 (memOk_ite2 hs (memOk_ite2 (State.setTgt_memOk _ _ _ hs) (memOk_ite2 (State.claim_memOk _ _ _ hs) hs))) ?_
    refine memOk_ite2 (memOk_ite (same _ rfl rfl) hs) ?_
    refine memOk_ite2 hs ?_
    refine memOk_ite2 (memOk_ite (same _ rfl rfl) hs) ?_
    refine memOk_ite2 hs ?_
    refine memOk_ite2 ?_ ?_
    · split
      · exact State.setLatch_memOk _ _ _ _ hs
      · exact memOk_ite (State.setPtp_memOk _ _ hs) hs
    refine memOk_ite2 (memOk_ite (same _ rfl rfl) hs) ?_
    exact memOk_ite2 hs (memOk_ite2 hs (memOk_ite2 hs (memOk_ite2 hs hs)))

theorem State.smbusRead32_memOk (s : State) (a : Nat) (hs : s.memOk = true) : (State.smbusRead32 s a).2.memOk = true := by
  unfold State.smbusRead32
  grind [State.memOk, Memory.wf, memOk_foldRange, memOk_foldl, State.setBoard_memOk, State.windowRead_memOk]

theorem State.read32_memOk (s : State) (p : Path) (a : Nat) (hs : s.memOk = true) : (State.read32 s p a).2.memOk = true := by
  unfold State.read32
  grind [State.memOk, Memory.wf, memOk_foldRange, memOk_foldl, State.regRead_memOk, State.smbusRead32_memOk]

theorem State.readReg_memOk (s : State) (p : Path) (a : Nat) (hs : s.memOk = true) : (State.readReg s p a).memOk = true := by
  unfold State.readReg
  grind [State.memOk, Memory.wf, memOk_foldRange, memOk_foldl, State.rejectRead_memOk, State.read32_memOk]

theorem State.readPair_memOk (s : State) (p : Path) (a : Nat) (hs : s.memOk = true) : (State.readPair s p a).2.memOk = true := by
  exact memOk_pair2 _ _ (State.read32_memOk _ _ _ (State.read32_memOk _ _ _ hs))

theorem State.wideAt_memOk (s : State) (a : Nat) (hs : s.memOk = true) : ∀ c, (State.wideAt s a) = some c → c.zero.memOk = true := by
  intro c h
  unfold State.wideAt at h
  split at h
  · rw [Option.filter_eq_some_iff] at h
    exact State.counterAt_memOk _ _ hs _ h.1
  · cases h

theorem State.read64_memOk (s : State) (p : Path) (a : Nat) (hs : s.memOk = true) : (State.read64 s p a).2.memOk = true := by
  unfold State.read64
  split
  · rename_i c h
    refine State.setLatch_memOk _ _ _ _ ?_
    split
    · exact State.wideAt_memOk _ _ hs _ h
    · exact hs
  · exact State.readPair_memOk _ _ _ hs

theorem State.readReg64_memOk (s : State) (p : Path) (a : Nat) (hs : s.memOk = true) : (State.readReg64 s p a).memOk = true := by
  unfold State.readReg64
  grind [State.memOk, Memory.wf, memOk_foldRange, memOk_foldl, State.rejectRead_memOk, State.read64_memOk]

theorem State.setHusk_memOk (s : State) (h : Husk) (hs : s.memOk = true) : (State.setHusk s h).memOk = true := by
  unfold State.setHusk
  grind [State.memOk, Memory.wf, memOk_foldRange, memOk_foldl]

theorem State.hskWrite_memOk (s : State) (o v : Nat) (hs : s.memOk = true) : (State.hskWrite s o v).memOk = true := by
  unfold State.hskWrite
  grind [State.memOk, Memory.wf, memOk_foldRange, memOk_foldl, State.writeCtrl_memOk, State.setHusk_memOk]

theorem State.setPac_memOk (s : State) (p : Pac) (hs : s.memOk = true) : (State.setPac s p).memOk = true := by
  unfold State.setPac
  grind [State.memOk, Memory.wf, memOk_foldRange, memOk_foldl]

theorem State.pacWrite_memOk (s : State) (o v : Nat) (hs : s.memOk = true) : (State.pacWrite s o v).memOk = true := by
  unfold State.pacWrite
  grind [State.memOk, Memory.wf, memOk_foldRange, memOk_foldl, State.clamp_memOk, State.budgetWrite_memOk, State.setPac_memOk]

theorem State.reactWrite_memOk (s : State) (i v : Nat) (hs : s.memOk = true) : (State.reactWrite s i v).memOk = true := by
  unfold State.reactWrite
  grind [State.memOk, Memory.wf, memOk_foldRange, memOk_foldl, State.react_memOk]

theorem State.fltCtrl_memOk (s : State) (v : Nat) (hs : s.memOk = true) : (State.fltCtrl s v).memOk = true := by
  unfold State.fltCtrl
  grind [State.memOk, Memory.wf, memOk_foldRange, memOk_foldl, State.logReinit_memOk, State.lrClear_memOk, State.errForce_memOk]

theorem State.activeWrite_memOk (s : State) (i v : Nat) (hs : s.memOk = true) : (State.activeWrite s i v).memOk = true := by
  unfold State.activeWrite
  grind [State.memOk, Memory.wf, memOk_foldRange, memOk_foldl, State.closeClear_memOk]

theorem State.fltWrite_memOk (s : State) (o v : Nat) (full : Bool) (hs : s.memOk = true) : (State.fltWrite s o v full).memOk = true := by
  unfold State.fltWrite
  grind [State.memOk, Memory.wf, memOk_foldRange, memOk_foldl, State.reactWrite_memOk, State.fltCtrl_memOk, State.activeWrite_memOk]

theorem State.icuWrite_memOk (s : State) (p : Path) (o v : Nat) (hs : s.memOk = true) : (State.icuWrite s p o v).memOk = true := by
  unfold State.icuWrite
  grind [State.memOk, Memory.wf, memOk_foldRange, memOk_foldl, State.setTgt_memOk, State.complete_memOk, State.writePend_memOk, State.swiSet_memOk]

theorem State.dmaCtrl_memOk (s : State) (n v : Nat) (hs : s.memOk = true) : (State.dmaCtrl s n v).memOk = true := by
  unfold State.dmaCtrl
  grind [State.memOk, Memory.wf, memOk_foldRange, memOk_foldl, State.idle_memOk, State.dmaStart_memOk, State.dmaAbort_memOk, State.dmaClear_memOk]

theorem State.dmaWriteReg_memOk (s : State) (p : Path) (n o v : Nat) (hs : s.memOk = true) : (State.dmaWriteReg s p n o v).memOk = true := by
  unfold State.dmaWriteReg
  grind [State.memOk, Memory.wf, memOk_foldRange, memOk_foldl, State.setChan_memOk, State.dmaCtrl_memOk]

theorem State.pinFw_memOk (s : State) (n : Nat) (b : Bool) (hs : s.memOk = true) : (State.pinFw s n b).memOk = true := by
  unfold State.pinFw
  grind [State.memOk, Memory.wf, memOk_foldRange, memOk_foldl, State.setStack_memOk, State.wakeStack_memOk]

theorem State.validWrite_memOk (s : State) (o v : Nat) (hs : s.memOk = true) : (State.validWrite s o v).memOk = true := by
  unfold State.validWrite
  grind [State.memOk, Memory.wf, memOk_foldRange, memOk_foldl, State.setStack_memOk]

theorem State.fabWrite_memOk (s : State) (p : Path) (o v : Nat) (hs : s.memOk = true) : (State.fabWrite s p o v).memOk = true := by
  unfold State.fabWrite
  grind [State.memOk, Memory.wf, memOk_foldRange, memOk_foldl, State.setStack_memOk, State.setPort16_memOk, State.pinFw_memOk, State.validWrite_memOk]

theorem State.ptpWrite_memOk (s : State) (o v : Nat) (hs : s.memOk = true) : (State.ptpWrite s o v).memOk = true := by
  unfold State.ptpWrite
  grind [State.memOk, Memory.wf, memOk_foldRange, memOk_foldl, State.setPtp_memOk, State.ptpCtrl_memOk]

theorem State.vtcMoves_memOk (s : State) (old : Vtc) (hs : s.memOk = true) : (State.vtcMoves s old).memOk = true := by
  unfold State.vtcMoves
  grind [State.memOk, Memory.wf, memOk_foldRange, memOk_foldl, State.dropReady_memOk, State.setPll_memOk, State.startPll_memOk, State.setVtc_memOk, State.locked_memOk]

theorem State.vtcCfg_memOk (s : State) (v : Nat) (hs : s.memOk = true) : (State.vtcCfg s v).memOk = true := by
  unfold State.vtcCfg
  grind [State.memOk, Memory.wf, memOk_foldRange, memOk_foldl, State.vtcMoves_memOk]

theorem State.vtcWrite_memOk (s : State) (o v : Nat) (hs : s.memOk = true) : (State.vtcWrite s o v).memOk = true := by
  unfold State.vtcWrite
  grind [State.memOk, Memory.wf, memOk_foldRange, memOk_foldl, State.vtcCfg_memOk]

theorem State.msixWrite_memOk (s : State) (o v : Nat) (hs : s.memOk = true) : (State.msixWrite s o v).memOk = true := by
  unfold State.msixWrite
  grind [State.memOk, Memory.wf, memOk_foldRange, memOk_foldl, State.flushMsix_memOk]

theorem State.mbxWrite_memOk (s : State) (p : Path) (m o v : Nat) (hs : s.memOk = true) : (State.mbxWrite s p m o v).memOk = true := by
  unfold State.mbxWrite
  grind [State.memOk, Memory.wf, memOk_foldRange, memOk_foldl, State.setBox_memOk, State.overrun_memOk, State.sendLo_memOk, State.sendHi_memOk]

theorem State.regWrite_memOk (s : State) (p : Path) (a v : Nat) (hs : s.memOk = true) : (State.regWrite s p a v).memOk = true := by
  have same (t : State) (h1 : t.mem = s.mem) (h2 : t.marks = s.marks) : t.memOk = true := memOk_same hs h1 h2
  unfold State.regWrite
  split
  · exact memOk_ite (State.mbxWrite_memOk _ _ _ _ _ hs) hs
  · refine memOk_ite (memOk_ite (same _ rfl rfl) hs) (memOk_ite (memOk_ite (same _ rfl rfl) hs)
      (memOk_ite (State.icuWrite_memOk _ _ _ _ hs) (memOk_ite (memOk_ite (memOk_ite (same _ rfl rfl) hs) (State.fltWrite_memOk _ _ _ _ hs))
      (memOk_ite (State.dmaWriteReg_memOk _ _ _ _ _ hs) (memOk_ite (memOk_ite (State.pacWrite_memOk _ _ _ hs) hs)
      (memOk_ite (State.fabWrite_memOk _ _ _ _ hs) (memOk_ite (memOk_ite (State.ptpWrite_memOk _ _ _ hs) hs)
      (memOk_ite (memOk_ite (State.vtcWrite_memOk _ _ _ hs) hs) (memOk_ite (memOk_ite (State.hskWrite_memOk _ _ _ hs) hs)
      (memOk_ite (memOk_ite (State.msixWrite_memOk _ _ _ hs) hs) hs))))))))))

theorem State.boardWrite_memOk (s : State) (a v : Nat) (hs : s.memOk = true) : (State.boardWrite s a v).memOk = true := by
  unfold State.boardWrite
  grind [State.memOk, Memory.wf, memOk_foldRange, memOk_foldl, State.setBoard_memOk, State.cfgCmd_memOk, State.cfgKey_memOk]

theorem State.smbusWrite32_memOk (s : State) (a v : Nat) (hs : s.memOk = true) : (State.smbusWrite32 s a v).memOk = true := by
  unfold State.smbusWrite32
  grind [State.memOk, Memory.wf, memOk_foldRange, memOk_foldl, State.hskWrite_memOk, State.pacWrite_memOk, State.fltWrite_memOk, State.boardWrite_memOk]

theorem State.writeReg_memOk (s : State) (p : Path) (a v : Nat) (hs : s.memOk = true) : (State.writeReg s p a v).memOk = true := by
  unfold State.writeReg
  grind [State.memOk, Memory.wf, memOk_foldRange, memOk_foldl, State.rejectWrite_memOk, State.regWrite_memOk, State.smbusWrite32_memOk]

theorem State.smbusFirst_memOk (s : State) (f : State → State) (hs : s.memOk = true) (hf : ∀ u : State, u.memOk = true → (f u).memOk = true) : (State.smbusFirst s f).memOk = true := by
  unfold State.smbusFirst
  grind [State.memOk, Memory.wf, memOk_foldRange, memOk_foldl, State.wake_memOk]

theorem State.smbusWrite_memOk (s : State) (a v : Nat) (pec : Pec) (hs : s.memOk = true) : (State.smbusWrite s a v pec).memOk = true := by
  unfold State.smbusWrite
  grind [State.memOk, Memory.wf, memOk_foldRange, memOk_foldl, State.reportHusk_memOk, State.setBoard_memOk, State.smbusWrite32_memOk]

theorem State.commitEnds_memOk (s : State) (ok : Bool) (hs : s.memOk = true) : (State.commitEnds s ok).memOk = true := by
  unfold State.commitEnds
  grind [State.memOk, Memory.wf, memOk_foldRange, memOk_foldl, State.wearM_memOk, State.setBoard_memOk, State.staged_memOk]

theorem State.tokenDecided_memOk (s : State) (hs : s.memOk = true) : (State.tokenDecided s).memOk = true := by
  unfold State.tokenDecided
  grind [State.memOk, Memory.wf, memOk_foldRange, memOk_foldl, State.tookFree_memOk, State.reportHusk_memOk, State.setBoard_memOk]

end Sys2Proof.Machine
end

