-- ==== Sys2Proof/Laws/MemOkWork.lean ====
section
/-! SUPPORT. Memory keeps its canonical form: one lemma per operation of the commands of Lomod, the Pods, the ports and the flows. -/

namespace Sys2Proof.Machine

theorem State.needing_memOk (s : State) (c : Cmd) (bits : List Nat) (f : Unit → State × Cmd) (hs : s.memOk = true) (hf : (f ()).1.memOk = true) : (State.needing s c bits f).1.memOk = true := by
  unfold State.needing
  split <;> assumption

theorem State.firmwareOff_memOk (s : State) (dormant : Bool) (hs : s.memOk = true) : (State.firmwareOff s dormant).memOk = true := by
  unfold State.firmwareOff
  grind [State.memOk, Memory.wf, memOk_foldRange, memOk_foldl]

theorem State.defer_memOk (s : State) (c : Cmd) (d : Deferred) (hs : s.memOk = true) : (State.defer s c d).memOk = true := by
  unfold State.defer
  grind [State.memOk, Memory.wf, memOk_foldRange, memOk_foldl]

theorem State.inject_memOk (s : State) (src detail : Nat) (hs : s.memOk = true) : (State.inject s src detail).memOk = true := by
  unfold State.inject
  grind [State.memOk, Memory.wf, memOk_foldRange, memOk_foldl, State.record_memOk]

theorem State.perform_memOk (s : State) (d : Deferred) (hs : s.memOk = true) : (State.perform s d).memOk = true := by
  unfold State.perform
  grind [State.memOk, Memory.wf, memOk_foldRange, memOk_foldl, State.hazelReset_memOk, State.pipReset_memOk, State.inject_memOk]

theorem State.clearRing_memOk (s : State) (g : Ring) (hs : s.memOk = true) : (State.clearRing s g).memOk = true := by
  unfold State.clearRing
  grind [State.memOk, Memory.wf, memOk_foldRange, memOk_foldl, State.writeMem_memOk]

theorem State.openAt_memOk (s : State) (x : Session) (i n : Nat) (hs : s.memOk = true) : (State.openAt s x i n).memOk = true := by
  unfold State.openAt
  grind [State.memOk, Memory.wf, memOk_foldRange, memOk_foldl, State.setSession_memOk, State.clearRing_memOk]

theorem State.openSession_memOk (s : State) (c : Cmd) (hs : s.memOk = true) : (State.openSession s c).1.memOk = true := by
  unfold State.openSession
  grind [State.memOk, Memory.wf, memOk_foldRange, memOk_foldl, State.choose_memOk, State.openAt_memOk]

theorem State.setSessionBlock_memOk (s : State) (c : Cmd) (hs : s.memOk = true) : (State.setSessionBlock s c).1.memOk = true := by
  unfold State.setSessionBlock
  grind [State.memOk, Memory.wf, memOk_foldRange, memOk_foldl, State.setSession_memOk, State.aruLevel_memOk, State.clearRing_memOk]

theorem State.readRows_memOk (s : State) (port : Nat) (y0 : List (Nat × Nat)) (hs : s.memOk = true) : (State.readRows s port y0).1.memOk = true := by
  induction y0 generalizing s port <;> (unfold State.readRows; grind [State.memOk, Memory.wf, memOk_foldRange, memOk_foldl, State.readMem_memOk])

theorem State.putResult_memOk (s : State) (c : Cmd) (bs : List Byte) (hs : s.memOk = true) : (State.putResult s c bs).memOk = true := by
  unfold State.putResult
  grind [State.memOk, Memory.wf, memOk_foldRange, memOk_foldl, State.writeMem_memOk]

theorem State.endRunning_memOk (s : State) (i : Nat) (c : Cmd) (r : Run) (status detail result : Nat) (hs : s.memOk = true) : (State.endRunning s i c r status detail result).memOk = true := by
  unfold State.endRunning
  grind [State.memOk, Memory.wf, memOk_foldRange, memOk_foldl, State.setSession_memOk, State.releaseIdlePipes_memOk, State.batch_memOk, State.endRun_memOk, State.setJob_memOk, State.putResult_memOk]

theorem State.endJobAt_memOk (s : State) (i status detail result : Nat) (hs : s.memOk = true) : (State.endJobAt s i status detail result).memOk = true := by
  unfold State.endJobAt
  grind [State.memOk, Memory.wf, memOk_foldRange, memOk_foldl, State.releaseIdlePipes_memOk, State.setJob_memOk, State.endRunning_memOk]

theorem State.stopRun_memOk (s : State) (sess status detail result : Nat) (hs : s.memOk = true) : (State.stopRun s sess status detail result).memOk = true := by
  unfold State.stopRun
  grind [State.memOk, Memory.wf, memOk_foldRange, memOk_foldl, State.progress_memOk, State.endJobAt_memOk]

theorem State.cancelBefore_memOk (s : State) (sess detail : Nat) (y0 : Nat) (hs : s.memOk = true) : (State.cancelBefore s sess detail y0).memOk = true := by
  induction y0 generalizing s sess detail <;> (unfold State.cancelBefore; grind [State.memOk, Memory.wf, memOk_foldRange, memOk_foldl, State.endJobAt_memOk])

theorem State.closing_memOk (s : State) (c : Cmd) (hs : s.memOk = true) : (State.closing s c).1.memOk = true := by
  unfold State.closing
  grind [State.memOk, Memory.wf, memOk_foldRange, memOk_foldl, State.setSession_memOk, State.cancelBefore_memOk]

theorem State.cancel_memOk (s : State) (c : Cmd) (hs : s.memOk = true) : (State.cancel s c).1.memOk = true := by
  unfold State.cancel
  grind [State.memOk, Memory.wf, memOk_foldRange, memOk_foldl, State.endJobAt_memOk]

theorem State.loadImage_memOk (s : State) (c : Cmd) (b : List Byte) (lib : Nat) (hs : s.memOk = true) : (State.loadImage s c b lib).1.memOk = true := by
  unfold State.loadImage
  grind [State.memOk, Memory.wf, memOk_foldRange, memOk_foldl, State.setPod_memOk, State.writeMem_memOk, State.choose_memOk]

theorem State.loadFrom_memOk (s : State) (c : Cmd) (a n lib : Nat) (hs : s.memOk = true) : (State.loadFrom s c a n lib).1.memOk = true := by
  unfold State.loadFrom
  grind [State.memOk, Memory.wf, memOk_foldRange, memOk_foldl, State.readMem_memOk, State.loadImage_memOk]

theorem State.podLoad_memOk (s : State) (c : Cmd) (hs : s.memOk = true) : (State.podLoad s c).1.memOk = true := by
  unfold State.podLoad
  grind [State.memOk, Memory.wf, memOk_foldRange, memOk_foldl, State.wakeStack_memOk, State.needing_memOk, State.loadImage_memOk, State.loadFrom_memOk]

theorem State.askBurst_memOk (s : State) (c : Cmd) (cls : Nat) (hs : s.memOk = true) : (State.askBurst s c cls).1.memOk = true := by
  unfold State.askBurst
  grind [State.memOk, Memory.wf, memOk_foldRange, memOk_foldl, State.ask_memOk]

theorem State.submit_memOk (s : State) (c : Cmd) (hs : s.memOk = true) : (State.submit s c).1.memOk = true := by
  unfold State.submit
  grind [State.memOk, Memory.wf, memOk_foldRange, memOk_foldl]

theorem State.setThread_memOk (s : State) (n t : Nat) (x : Thread) (hs : s.memOk = true) : (State.setThread s n t x).memOk = true := by
  unfold State.setThread
  grind [State.memOk, Memory.wf, memOk_foldRange, memOk_foldl, State.setPipe_memOk]

theorem State.startThread_memOk (s : State) (sess j : Nat) (a : Allot) (t : Nat) (hs : s.memOk = true) : (State.startThread s sess j a t).memOk = true := by
  unfold State.startThread
  grind [State.memOk, Memory.wf, memOk_foldRange, memOk_foldl, State.setThread_memOk]

theorem State.startOn_memOk (s : State) (sess j n : Nat) (run : Bool) (hs : s.memOk = true) : (State.startOn s sess j n run).memOk = true := by
  unfold State.startOn
  grind [State.memOk, Memory.wf, memOk_foldRange, memOk_foldl, State.setPipe_memOk, State.startThread_memOk]

theorem State.readTables_memOk (s : State) (x : Session) (body : List Byte) (hs : s.memOk = true) : (State.readTables s x body).1.memOk = true := by
  unfold State.readTables
  grind [State.memOk, Memory.wf, memOk_foldRange, memOk_foldl, State.readMem_memOk, State.writeMem_memOk]

theorem State.startJob_memOk (s : State) (i : Nat) (hs : s.memOk = true) : (State.startJob s i).memOk = true := by
  unfold State.startJob
  grind [State.memOk, Memory.wf, memOk_foldRange, memOk_foldl, State.advance_memOk, State.setSession_memOk, State.setJob_memOk, State.stopRun_memOk, State.startOn_memOk, State.readTables_memOk]

theorem State.measureReads_memOk (s : State) (n : Nat) (m : Measure) (hs : s.memOk = true) : (State.measureReads s n m).1.memOk = true := by
  unfold State.measureReads
  grind [State.memOk, Memory.wf, memOk_foldRange, memOk_foldl, State.readRows_memOk]

theorem State.threadFault_memOk (s : State) (n : Nat) (x : Thread) (code step : Nat) (hs : s.memOk = true) : (State.threadFault s n x code step).memOk = true := by
  unfold State.threadFault
  grind [State.memOk, Memory.wf, memOk_foldRange, memOk_foldl, State.setPipe_memOk, State.stopRun_memOk]

theorem State.sandboxFault_memOk (s : State) (n : Nat) (x : Thread) (code : Nat) (hs : s.memOk = true) : (State.sandboxFault s n x code).memOk = true := by
  unfold State.sandboxFault
  grind [State.memOk, Memory.wf, memOk_foldRange, memOk_foldl, State.setPipe_memOk, State.report_memOk, State.stopRun_memOk]

theorem State.pageArrives_memOk (s : State) (n : Nat) (hs : s.memOk = true) : (State.pageArrives s n).memOk = true := by
  unfold State.pageArrives
  grind [State.memOk, Memory.wf, memOk_foldRange, memOk_foldl, State.setPipe_memOk, State.setPod_memOk, State.wakeStack_memOk, State.readMem_memOk, State.stopRun_memOk]

theorem State.pageMiss_memOk (s : State) (n t : Nat) (x : Thread) (hs : s.memOk = true) : (State.pageMiss s n t x).memOk = true := by
  unfold State.pageMiss
  grind [State.memOk, Memory.wf, memOk_foldRange, memOk_foldl, State.setPipe_memOk, State.stopRun_memOk, State.setThread_memOk]

theorem State.bistDone_memOk (s : State) (n result : Nat) (hs : s.memOk = true) : (State.bistDone s n result).memOk = true := by
  unfold State.bistDone
  grind [State.memOk, Memory.wf, memOk_foldRange, memOk_foldl, State.setPipe_memOk]

theorem State.bistOver_memOk (s : State) (n : Nat) (hs : s.memOk = true) : (State.bistOver s n).memOk = true := by
  unfold State.bistOver
  grind [State.memOk, Memory.wf, memOk_foldRange, memOk_foldl, State.edge_memOk, State.release_memOk]

theorem State.failWaiting_memOk (s : State) (n : Nat) (hs : s.memOk = true) : (State.failWaiting s n).memOk = true := by
  unfold State.failWaiting
  grind [State.memOk, Memory.wf, memOk_foldRange, memOk_foldl, State.endJobs_memOk]

theorem State.bistEnds_memOk (s : State) (n code : Nat) (hs : s.memOk = true) : (State.bistEnds s n code).memOk = true := by
  unfold State.bistEnds
  grind [State.memOk, Memory.wf, memOk_foldRange, memOk_foldl, State.until_memOk, State.setReady_memOk, State.setPipe_memOk, State.report_memOk, State.progress_memOk, State.bistDone_memOk, State.bistOver_memOk, State.failWaiting_memOk]

theorem State.bistAborts_memOk (s : State) (n : Nat) (hs : s.memOk = true) : (State.bistAborts s n).memOk = true := by
  unfold State.bistAborts
  grind [State.memOk, Memory.wf, memOk_foldRange, memOk_foldl, State.advance_memOk, State.setReady_memOk, State.setPipe_memOk, State.progress_memOk, State.bistDone_memOk, State.bistOver_memOk]

theorem State.waitOver_memOk (s : State) (n : Nat) (hs : s.memOk = true) : (State.waitOver s n).memOk = true := by
  unfold State.waitOver
  grind [State.memOk, Memory.wf, memOk_foldRange, memOk_foldl, State.until_memOk, State.setPipe_memOk, State.setJob_memOk, State.progress_memOk]

theorem State.memTestDone_memOk (s : State) (i result : Nat) (hs : s.memOk = true) : (State.memTestDone s i result).memOk = true := by
  unfold State.memTestDone
  grind [State.memOk, Memory.wf, memOk_foldRange, memOk_foldl]

theorem State.stackTested_memOk (s : State) (n code : Nat) (hs : s.memOk = true) : (State.stackTested s n code).memOk = true := by
  unfold State.stackTested
  grind [State.memOk, Memory.wf, memOk_foldRange, memOk_foldl, State.setReady_memOk, State.setStack_memOk, State.wipe_memOk]

theorem State.writeDst_memOk (s : State) (n t code v : Nat) (hs : s.memOk = true) : (State.writeDst s n t code v).memOk = true := by
  unfold State.writeDst
  grind [State.memOk, Memory.wf, memOk_foldRange, memOk_foldl, State.setPipe_memOk, State.setThread_memOk]

theorem State.goTo_memOk (s : State) (n t pc : Nat) (hs : s.memOk = true) : (State.goTo s n t pc).memOk = true := by
  unfold State.goTo
  grind [State.memOk, Memory.wf, memOk_foldRange, memOk_foldl, State.setThread_memOk, State.threadFault_memOk]

theorem State.nextStep_memOk (s : State) (n t : Nat) (hs : s.memOk = true) : (State.nextStep s n t).memOk = true := by
  unfold State.nextStep
  grind [State.memOk, Memory.wf, memOk_foldRange, memOk_foldl, State.goTo_memOk]

theorem State.issued_memOk (s : State) (n t : Nat) (x : Thread) (hs : s.memOk = true) : (State.issued s n t x).memOk = true := by
  unfold State.issued
  grind [State.memOk, Memory.wf, memOk_foldRange, memOk_foldl, State.setPipe_memOk]

theorem State.step1_memOk (s : State) (n t : Nat) (ok : Nat → Bool) (f : State → Thread → Nat → State) (hs : s.memOk = true) (hf : ∀ u v0 v1, u.memOk = true → (f u v0 v1).memOk = true) : (State.step1 s n t ok f).memOk = true := by
  unfold State.step1
  dsimp only
  repeat' split
  · exact hs
  · exact hs
  · exact State.pageMiss_memOk _ _ _ _ hs
  · exact State.sandboxFault_memOk _ _ _ _ hs
  · exact hf _ _ _ (State.issued_memOk _ _ _ _ hs)

theorem State.setFlags_memOk (s : State) (n t : Nat) (y : Thread) (hs : s.memOk = true) : (State.setFlags s n t y).memOk = true := by
  unfold State.setFlags
  grind [State.memOk, Memory.wf, memOk_foldRange, memOk_foldl, State.setThread_memOk]

theorem State.scalar_memOk (s : State) (r : PipeRef) (op : Nat) (bad : W → W → Bool) (res : W → W → Nat → W) (flags : Thread → W → W → W → Bool → Thread) (hs : s.memOk = true) : (State.scalar s r op bad res flags).memOk = true := by
  unfold State.scalar
  grind [State.memOk, Memory.wf, memOk_foldRange, memOk_foldl, State.tookFree_memOk, State.threadFault_memOk, State.writeDst_memOk, State.nextStep_memOk, State.step1_memOk, State.setFlags_memOk]

theorem State.branch_memOk (s : State) (r : PipeRef) (op : Nat) (f : State → Thread → Nat → State) (hs : s.memOk = true) (hf : ∀ u v0 v1, u.memOk = true → (f u v0 v1).memOk = true) : (State.branch s r op f).memOk = true := by
  unfold State.branch
  grind [State.memOk, Memory.wf, memOk_foldRange, memOk_foldl, State.step1_memOk]

theorem State.endThread_memOk (s : State) (n t : Nat) (hs : s.memOk = true) : (State.endThread s n t).memOk = true := by
  unfold State.endThread
  grind [State.memOk, Memory.wf, memOk_foldRange, memOk_foldl, State.setThread_memOk]

theorem State.passCounter_memOk (s : State) (n t : Nat) (gang : Bool) (i : Nat) (hs : s.memOk = true) : (State.passCounter s n t gang i).memOk = true := by
  unfold State.passCounter
  grind [State.memOk, Memory.wf, memOk_foldRange, memOk_foldl, State.setThread_memOk, State.nextStep_memOk]

theorem State.unblock_memOk (s : State) (n t : Nat) (hs : s.memOk = true) : (State.unblock s n t).memOk = true := by
  unfold State.unblock
  grind [State.memOk, Memory.wf, memOk_foldRange, memOk_foldl, State.setThread_memOk, State.nextStep_memOk, State.endThread_memOk, State.passCounter_memOk]

theorem State.addCounter_memOk (s : State) (n : Nat) (x : Thread) (gang : Bool) (i v : Nat) (hs : s.memOk = true) : (State.addCounter s n x gang i v).memOk = true := by
  unfold State.addCounter
  grind [State.memOk, Memory.wf, memOk_foldRange, memOk_foldl, State.setPipe_memOk]

theorem State.stageRec_memOk (s : State) (x : Thread) (e : Rec) (hs : s.memOk = true) : (State.stageRec s x e).memOk = true := by
  unfold State.stageRec
  grind [State.memOk, Memory.wf, memOk_foldRange, memOk_foldl, State.setSession_memOk]

theorem State.pipeRead_memOk (s : State) (n : Nat) (r : Nat × Nat) (hs : s.memOk = true) : (State.pipeRead s n r).1.memOk = true := by
  unfold State.pipeRead
  grind [State.memOk, Memory.wf, memOk_foldRange, memOk_foldl, State.touchWords_memOk, State.readMem_memOk]

theorem State.pipeReads_memOk (s : State) (n : Nat) (y0 : List (Nat × Nat)) (hs : s.memOk = true) : (State.pipeReads s n y0).1.memOk = true := by
  induction y0 generalizing s n <;> (unfold State.pipeReads; grind [State.memOk, Memory.wf, memOk_foldRange, memOk_foldl, State.pipeRead_memOk])

theorem State.pipeWrite_memOk (s : State) (n : Nat) (r : Nat × Nat) (hs : s.memOk = true) : (State.pipeWrite s n r).memOk = true := by
  unfold State.pipeWrite
  grind [State.memOk, Memory.wf, memOk_foldRange, memOk_foldl, State.writeWords_memOk, State.writeMem_memOk]

theorem State.accept_memOk (s : State) (n t : Nat) (x : Thread) (w : Nat) (q : UnitAsk) (hs : s.memOk = true) : (State.accept s n t x w q).memOk = true := by
  unfold State.accept
  grind [State.memOk, Memory.wf, memOk_foldRange, memOk_foldl, State.tookFree_memOk, State.stopRun_memOk, State.setThread_memOk, State.nextStep_memOk, State.pipeReads_memOk, State.pipeWrite_memOk]

theorem State.request1_memOk (s u : State) (n t : Nat) (x : Thread) (w : Nat) (q : UnitAsk) (hs : s.memOk = true) (hu : u.memOk = true) : (State.request1 s u n t x w q).memOk = true := by
  unfold State.request1
  grind [State.memOk, Memory.wf, memOk_foldRange, memOk_foldl, State.wakeStack_memOk, State.stopRun_memOk, State.threadFault_memOk, State.sandboxFault_memOk, State.accept_memOk]

theorem State.issue_memOk (s : State) (r : PipeRef) (unit fn : Nat) (ask : State → Thread → Nat → UnitAsk) (hs : s.memOk = true) : (State.issue s r unit fn ask).memOk = true := by
  unfold State.issue
  grind [State.memOk, Memory.wf, memOk_foldRange, memOk_foldl, State.ask_memOk, State.step1_memOk, State.request1_memOk]

theorem State.unitReturns_memOk (s : State) (n t : Nat) (hs : s.memOk = true) : (State.unitReturns s n t).memOk = true := by
  unfold State.unitReturns
  grind [State.memOk, Memory.wf, memOk_foldRange, memOk_foldl, State.setThread_memOk, State.writeDst_memOk]

theorem State.fcall_memOk (s : State) (r : PipeRef) (fn : Nat) (f : State → Thread → Nat → Option (State × Nat)) (hs : s.memOk = true) (hf : ∀ u v0 v1 y, u.memOk = true → f u v0 v1 = some y → y.1.memOk = true) : (State.fcall s r fn f).memOk = true := by
  unfold State.fcall
  refine memOk_ite (State.step1_memOk _ _ _ _ _ hs fun u x w hu => ?_) hs
  split
  · exact hs
  · rename_i y h
    exact State.nextStep_memOk _ _ _ (State.writeDst_memOk _ _ _ _ _ (hf u x w y hu h))

theorem State.fcallChecked_memOk (s : State) (r : PipeRef) (fn : Nat) (refuses denies : State → Thread → Nat → Bool) (f : State → Thread → Nat → Option (State × Nat)) (hs : s.memOk = true) (hf : ∀ u v0 v1 y, u.memOk = true → f u v0 v1 = some y → y.1.memOk = true) : (State.fcallChecked s r fn refuses denies f).memOk = true := by
  unfold State.fcallChecked
  grind [State.memOk, Memory.wf, memOk_foldRange, memOk_foldl, State.threadFault_memOk, State.sandboxFault_memOk, State.step1_memOk, State.fcall_memOk]

theorem State.rcStep_memOk (s : State) (x : Thread) (w : Nat) (hs : s.memOk = true) : (State.rcStep s x w).1.memOk = true := by
  unfold State.rcStep
  grind [State.memOk, Memory.wf, memOk_foldRange, memOk_foldl, State.setSession_memOk]

theorem State.hrdStep_memOk (s : State) (x : Thread) (w : Nat) (hs : s.memOk = true) : (State.hrdStep s x w).1.memOk = true := by
  unfold State.hrdStep
  grind [State.memOk, Memory.wf, memOk_foldRange, memOk_foldl, State.tookFree_memOk, State.setSession_memOk]

theorem State.refAlloc_memOk (s : State) (x : Thread) (w : Nat) (hs : s.memOk = true) : (State.refAlloc s x w).1.memOk = true := by
  unfold State.refAlloc
  grind [State.memOk, Memory.wf, memOk_foldRange, memOk_foldl, State.setSession_memOk]

theorem State.refFree_memOk (s : State) (x : Thread) (w : Nat) (hs : s.memOk = true) : (State.refFree s x w).1.memOk = true := by
  unfold State.refFree
  grind [State.memOk, Memory.wf, memOk_foldRange, memOk_foldl, State.setSession_memOk]

theorem State.picOut_memOk (s : State) (x : Thread) (hs : s.memOk = true) : (State.picOut s x).1.memOk = true := by
  unfold State.picOut
  grind [State.memOk, Memory.wf, memOk_foldRange, memOk_foldl, State.setSession_memOk]

theorem State.moveData_memOk (s : State) (c : Cmd) (hs : s.memOk = true) : (State.moveData s c).1.memOk = true := by
  unfold State.moveData
  grind [State.memOk, Memory.wf, memOk_foldRange, memOk_foldl, State.writeMem_memOk, State.choose_memOk, State.startMove_memOk]

theorem State.readEdges_memOk (s : State) (a n : Nat) (hs : s.memOk = true) : (State.readEdges s a n).1.memOk = true := by
  unfold State.readEdges
  grind [State.memOk, Memory.wf, memOk_foldRange, memOk_foldl, State.readMem_memOk]

theorem State.userWrite_memOk (s : State) (c : Cmd) (hs : s.memOk = true) : (State.userWrite s c).1.memOk = true := by
  unfold State.userWrite
  grind [State.memOk, Memory.wf, memOk_foldRange, memOk_foldl, State.readMem_memOk, State.askBurst_memOk, State.readEdges_memOk]

theorem State.memPin_memOk (s : State) (c : Cmd) (hs : s.memOk = true) : (State.memPin s c).1.memOk = true := by
  unfold State.memPin
  grind [State.memOk, Memory.wf, memOk_foldRange, memOk_foldl, State.pinFw_memOk]

theorem State.readCounters_memOk (s : State) (a : Nat) (y0 : Nat) (hs : s.memOk = true) : (State.readCounters s a y0).2.memOk = true := by
  induction y0 using Nat.twoStepInduction generalizing s a with
  | zero => exact hs
  | one => exact State.read32_memOk _ _ _ hs
  | more n h0 h1 =>
    unfold State.readCounters
    have h2 := State.read32_memOk s .hazelA a hs
    have h4 := State.read64_memOk s .hazelA a hs
    split
    · split
      · exact h0 _ _ h4
      · exact h1 _ _ h2
    · exact h1 _ _ h2

theorem State.clearCounters_memOk (s : State) (a : Nat) (y0 : Nat) (hs : s.memOk = true) : (State.clearCounters s a y0).memOk = true := by
  induction y0 generalizing s a <;> (unfold State.clearCounters; grind [State.memOk, Memory.wf, memOk_foldRange, memOk_foldl, State.counterAt_memOk, State.counterRead_memOk])

theorem State.configFault_memOk (s : State) (src react : Nat) (setQuiet : Bool) (quiet : Nat) (hs : s.memOk = true) : (State.configFault s src react setQuiet quiet).memOk = true := by
  unfold State.configFault
  grind [State.memOk, Memory.wf, memOk_foldRange, memOk_foldl, State.react_memOk]

theorem State.testPipe_memOk (s : State) (c : Cmd) (n : Nat) (hs : s.memOk = true) : (State.testPipe s c n).1.memOk = true := by
  unfold State.testPipe
  grind [State.memOk, Memory.wf, memOk_foldRange, memOk_foldl, State.setPipe_memOk]

theorem State.testMemory_memOk (s : State) (c : Cmd) (i : Nat) (hs : s.memOk = true) : (State.testMemory s c i).1.memOk = true := by
  unfold State.testMemory
  grind [State.memOk, Memory.wf, memOk_foldRange, memOk_foldl, State.wakeStack_memOk, State.ask_memOk, State.needing_memOk]

theorem State.stageBegin_memOk (s : State) (c : Cmd) (hs : s.memOk = true) : (State.stageBegin s c).memOk = true := by
  unfold State.stageBegin
  grind [State.memOk, Memory.wf, memOk_foldRange, memOk_foldl]

theorem State.stagePip_memOk (s : State) (b : List Byte) (hs : s.memOk = true) : (State.stagePip s b).memOk = true := by
  unfold State.stagePip
  grind [State.memOk, Memory.wf, memOk_foldRange, memOk_foldl, State.wearM_memOk]

theorem State.stageChunk_memOk (s : State) (c : Cmd) (hs : s.memOk = true) : (State.stageChunk s c).1.memOk = true := by
  unfold State.stageChunk
  grind [State.memOk, Memory.wf, memOk_foldRange, memOk_foldl, State.readMem_memOk, State.askBurst_memOk, State.stageBegin_memOk, State.stagePip_memOk]

theorem State.activate_memOk (s : State) (pip : Bool) (hs : s.memOk = true) : (State.activate s pip).memOk = true := by
  unfold State.activate
  grind [State.memOk, Memory.wf, memOk_foldRange, memOk_foldl, State.wearM_memOk, State.stagePip_memOk]

theorem State.commitImage_memOk (s : State) (c : Cmd) (hs : s.memOk = true) : (State.commitImage s c).1.memOk = true := by
  unfold State.commitImage
  grind [State.memOk, Memory.wf, memOk_foldRange, memOk_foldl, State.defer_memOk, State.activate_memOk]

theorem State.cancelWork_memOk (s : State) (c : Cmd) (hs : s.memOk = true) : (State.cancelWork s c).memOk = true := by
  unfold State.cancelWork
  grind [State.memOk, Memory.wf, memOk_foldRange, memOk_foldl, State.setChan_memOk, State.setPipe_memOk, State.withdraw_memOk, State.endPort_memOk, State.dropBist_memOk, State.scramble_memOk]

theorem State.timeOut_memOk (s : State) (q seq : Nat) (hs : s.memOk = true) : (State.timeOut s q seq).memOk = true := by
  unfold State.timeOut
  grind [State.memOk, Memory.wf, memOk_foldRange, memOk_foldl, State.until_memOk, State.setJob_memOk, State.progress_memOk, State.endJobAt_memOk, State.cancelWork_memOk]

theorem State.ringSlotsPut_memOk (s : State) (port : Nat) (g : Ring) (bs : List Byte) (y0 : Nat) (hs : s.memOk = true) : (State.ringSlotsPut s port g bs y0).1.memOk = true := by
  induction y0 generalizing s port g bs <;> (unfold State.ringSlotsPut; grind [State.memOk, Memory.wf, memOk_foldRange, memOk_foldl, State.rtWrite_memOk])

theorem State.rtReread_memOk (s : State) (port : Nat) (g : Ring) (hs : s.memOk = true) : (State.rtReread s port g).1.memOk = true := by
  unfold State.rtReread
  grind [State.memOk, Memory.wf, memOk_foldRange, memOk_foldl, State.rtRead_memOk]

theorem State.ringEntry_memOk (s : State) (port : Nat) (g : Ring) (bs : List Byte) (hs : s.memOk = true) : (State.ringEntry s port g bs).1.memOk = true := by
  unfold State.ringEntry
  grind [State.memOk, Memory.wf, memOk_foldRange, memOk_foldl, State.ringSlotsPut_memOk, State.rtReread_memOk]

theorem State.ringIndex_memOk (s : State) (port : Nat) (g : Ring) (hs : s.memOk = true) : (State.ringIndex s port g).memOk = true := by
  unfold State.ringIndex
  grind [State.memOk, Memory.wf, memOk_foldRange, memOk_foldl, State.rtWrite_memOk]

theorem State.event_memOk (s : State) (i kind idx flow : Nat) (hs : s.memOk = true) : (State.event s i kind idx flow).memOk = true := by
  unfold State.event
  grind [State.memOk, Memory.wf, memOk_foldRange, memOk_foldl]

theorem State.untilPtp_memOk (s : State) (due : Nat) (hs : s.memOk = true) : (State.untilPtp s due).memOk = true := by
  unfold State.untilPtp
  grind [State.memOk, Memory.wf, memOk_foldRange, memOk_foldl, State.advance_memOk]

theorem State.portOff_memOk (s : State) (port : Nat) (hs : s.memOk = true) : (State.portOff s port).memOk = true := by
  unfold State.portOff
  grind [State.memOk, Memory.wf, memOk_foldRange, memOk_foldl, State.dropReady_memOk, State.setLane_memOk, State.withdraw_memOk]

theorem State.portSet_memOk (s : State) (c : Cmd) (hs : s.memOk = true) : (State.portSet s c).memOk = true := by
  unfold State.portSet
  grind [State.memOk, Memory.wf, memOk_foldRange, memOk_foldl, State.setLane_memOk, State.clearRing_memOk]

theorem State.portConfig_memOk (s : State) (c : Cmd) (hs : s.memOk = true) : (State.portConfig s c).1.memOk = true := by
  unfold State.portConfig
  grind [State.memOk, Memory.wf, memOk_foldRange, memOk_foldl, State.portOff_memOk, State.portSet_memOk]

theorem State.vtcConfig_memOk (s : State) (c : Cmd) (hs : s.memOk = true) : (State.vtcConfig s c).1.memOk = true := by
  unfold State.vtcConfig
  grind [State.memOk, Memory.wf, memOk_foldRange, memOk_foldl, State.locked_memOk, State.vtcCfg_memOk, State.vtcWrite_memOk]

theorem State.multicast_memOk (s : State) (c : Cmd) (hs : s.memOk = true) : (State.multicast s c).1.memOk = true := by
  unfold State.multicast
  grind [State.memOk, Memory.wf, memOk_foldRange, memOk_foldl, State.setLane_memOk]

theorem State.installFlow_memOk (s : State) (k : Nat) (x : FlowAsk) (hs : s.memOk = true) : (State.installFlow s k x).1.memOk = true := by
  unfold State.installFlow
  grind [State.memOk, Memory.wf, memOk_foldRange, memOk_foldl, State.tookFree_memOk, State.setStack_memOk, State.setFlow_memOk, State.setEntry_memOk, State.wakeStack_memOk, State.clearRing_memOk]

theorem State.addFlow_memOk (s : State) (c : Cmd) (hs : s.memOk = true) : (State.addFlow s c).1.memOk = true := by
  unfold State.addFlow
  grind [State.memOk, Memory.wf, memOk_foldRange, memOk_foldl, State.installFlow_memOk]

theorem State.dropEntries_memOk (s : State) (k : Nat) (hs : s.memOk = true) : (State.dropEntries s k).memOk = true := by
  unfold State.dropEntries
  grind [State.memOk, Memory.wf, memOk_foldRange, memOk_foldl]

theorem State.removeFlow_memOk (s : State) (c : Cmd) (hs : s.memOk = true) : (State.removeFlow s c).1.memOk = true := by
  unfold State.removeFlow
  grind [State.memOk, Memory.wf, memOk_foldRange, memOk_foldl, State.setFlow_memOk, State.dropFlow_memOk]

theorem State.bindFlow_memOk (s : State) (c : Cmd) (hs : s.memOk = true) : (State.bindFlow s c).1.memOk = true := by
  unfold State.bindFlow
  grind [State.memOk, Memory.wf, memOk_foldRange, memOk_foldl, State.setFlow_memOk]

theorem State.rereadSession_memOk (s : State) (n i : Nat) (hs : s.memOk = true) : (State.rereadSession s n i).memOk = true := by
  unfold State.rereadSession
  grind [State.memOk, Memory.wf, memOk_foldRange, memOk_foldl, State.setSession_memOk, State.ringReread_memOk]

theorem State.laneGains_memOk (s : State) (n : Nat) (hs : s.memOk = true) : (State.laneGains s n).memOk = true := by
  unfold State.laneGains
  grind [State.memOk, Memory.wf, memOk_foldRange, memOk_foldl, State.setReady_memOk, State.setLane_memOk]

theorem State.lateLock_memOk (s : State) (l : List Nat) (hs : s.memOk = true) : (State.lateLock s l).memOk = true := by
  unfold State.lateLock
  grind [State.memOk, Memory.wf, memOk_foldRange, memOk_foldl, State.setLane_memOk, State.report_memOk]

theorem State.insertAll_memOk (s : State) (room : Nat × Nat) (y0 : List Nat) (hs : s.memOk = true) : (State.insertAll s room y0).1.memOk = true := by
  induction y0 generalizing s room <;> (unfold State.insertAll; grind [State.memOk, Memory.wf, memOk_foldRange, memOk_foldl, State.setFlow_memOk, State.staged_memOk])

theorem State.readAnc_memOk (s : State) (n k line : Nat) (y0 : Nat) (hs : s.memOk = true) : (State.readAnc s n k line y0).memOk = true := by
  induction y0 generalizing s n k line <;> (unfold State.readAnc; grind [State.memOk, Memory.wf, memOk_foldRange, memOk_foldl, State.setFlow_memOk, State.rtRead_memOk, State.staged_memOk])

theorem State.readNext_memOk (s : State) (n line : Nat) (hs : s.memOk = true) : (State.readNext s n line).memOk = true := by
  unfold State.readNext
  grind [State.memOk, Memory.wf, memOk_foldRange, memOk_foldl, State.readAnc_memOk]

theorem State.txSamples_memOk (s : State) (n y : Nat) (arrived : Bool) (hs : s.memOk = true) : (State.txSamples s n y arrived).1.memOk = true := by
  unfold State.txSamples
  grind [State.memOk, Memory.wf, memOk_foldRange, memOk_foldl, State.rtRead_memOk]

theorem State.sendLine_memOk (s : State) (n line : Nat) (active : Option Nat) (arrived : Bool) (hs : s.memOk = true) : (State.sendLine s n line active arrived).memOk = true := by
  unfold State.sendLine
  grind [State.memOk, Memory.wf, memOk_foldRange, memOk_foldl, State.setLane_memOk, State.insertAll_memOk, State.readNext_memOk, State.txSamples_memOk]

theorem State.lineToSlot_memOk (s : State) (n y : Nat) (x : SdiLine) (hs : s.memOk = true) : (State.lineToSlot s n y x).memOk = true := by
  unfold State.lineToSlot
  grind [State.memOk, Memory.wf, memOk_foldRange, memOk_foldl, State.setLane_memOk, State.rtWrite_memOk]

theorem State.ancToRing_memOk (s : State) (n : Nat) (p : AncPacket) (hs : s.memOk = true) : (State.ancToRing s n p).memOk = true := by
  unfold State.ancToRing
  grind [State.memOk, Memory.wf, memOk_foldRange, memOk_foldl, State.setLane_memOk, State.ringEntry_memOk, State.ringIndex_memOk]

theorem State.putBack_memOk (s : State) (x : Frame) (hs : s.memOk = true) : (State.putBack s x).memOk = true := by
  unfold State.putBack
  grind [State.memOk, Memory.wf, memOk_foldRange, memOk_foldl, State.setFlow_memOk]

theorem State.holdPort_memOk (s : State) (n : Nat) (hs : s.memOk = true) : (State.holdPort s n).memOk = true := by
  unfold State.holdPort
  grind [State.memOk, Memory.wf, memOk_foldRange, memOk_foldl, State.setLane_memOk, State.event_memOk, State.putBack_memOk]

theorem State.resumeFlow_memOk (s : State) (k : Nat) (hs : s.memOk = true) : (State.resumeFlow s k).memOk = true := by
  unfold State.resumeFlow
  grind [State.memOk, Memory.wf, memOk_foldRange, memOk_foldl, State.setFlow_memOk]

theorem State.learn_memOk (s : State) (k : Nat) (f : EthFrame) (hs : s.memOk = true) : (State.learn s k f).memOk = true := by
  unfold State.learn
  grind [State.memOk, Memory.wf, memOk_foldRange, memOk_foldl, State.setFlow_memOk, State.setEntry_memOk]

theorem State.hit_memOk (s : State) (i : Nat) (hs : s.memOk = true) : (State.hit s i).memOk = true := by
  unfold State.hit
  grind [State.memOk, Memory.wf, memOk_foldRange, memOk_foldl, State.idle_memOk, State.setFlow_memOk, State.setEntry_memOk, State.event_memOk]

theorem State.ageOut_memOk (s : State) (i : Nat) (hs : s.memOk = true) : (State.ageOut s i).memOk = true := by
  unfold State.ageOut
  grind [State.memOk, Memory.wf, memOk_foldRange, memOk_foldl, State.idle_memOk, State.setFlow_memOk, State.setEntry_memOk, State.event_memOk]

theorem State.police_memOk (s : State) (k n : Nat) (hs : s.memOk = true) : (State.police s k n).1.memOk = true := by
  unfold State.police
  grind [State.memOk, Memory.wf, memOk_foldRange, memOk_foldl, State.setFlow_memOk, State.event_memOk]

theorem State.newStamp_memOk (s : State) (k ts : Nat) (hs : s.memOk = true) : (State.newStamp s k ts).memOk = true := by
  unfold State.newStamp
  grind [State.memOk, Memory.wf, memOk_foldRange, memOk_foldl, State.setFlow_memOk, State.rtWrite_memOk]

theorem State.putPgroups_memOk (s : State) (k : Nat) (f : EthFrame) (hs : s.memOk = true) : (State.putPgroups s k f).memOk = true := by
  unfold State.putPgroups
  grind [State.memOk, Memory.wf, memOk_foldRange, memOk_foldl, State.setFlow_memOk, State.rtWrite_memOk]

theorem State.deliver_memOk (s : State) (k : Nat) (f : EthFrame) (hs : s.memOk = true) : (State.deliver s k f).memOk = true := by
  unfold State.deliver
  grind [State.memOk, Memory.wf, memOk_foldRange, memOk_foldl, State.setFlow_memOk, State.newStamp_memOk, State.putPgroups_memOk]

theorem State.flowPacket_memOk (s : State) (i : Nat) (f : EthFrame) (hs : s.memOk = true) : (State.flowPacket s i f).memOk = true := by
  unfold State.flowPacket
  grind [State.memOk, Memory.wf, memOk_foldRange, memOk_foldl, State.setFlow_memOk, State.learn_memOk, State.hit_memOk, State.police_memOk, State.deliver_memOk]

theorem State.writeSlots_memOk (s : State) (k : Nat) (b : List (List Byte)) (hs : s.memOk = true) : (State.writeSlots s k b).memOk = true := by
  unfold State.writeSlots
  have h : ∀ (l : List (List Byte)) (p : State × Ring), p.1.memOk = true → (l.foldl (fun (p : State × Ring) c =>
      (p.1.rtWrite (12 + (s.flow k).port / 4) (p.2.addr + 64 + 64 * (p.2.w % ringSlots p.2.size)) c, { p.2 with w := p.2.w + 1 })) p).1.memOk = true := by
    intro l
    induction l with
    | nil => exact fun _ hp => hp
    | cons c l ih => exact fun p hp => ih _ (State.rtWrite_memOk _ _ _ _ hp)
  exact State.ringIndex_memOk _ _ _ (State.setFlow_memOk _ _ _ (h b _ hs))

theorem State.drainCapture_memOk (s : State) (k : Nat) (partly : Bool) (hs : s.memOk = true) : (State.drainCapture s k partly).memOk = true := by
  unfold State.drainCapture
  grind [State.memOk, Memory.wf, memOk_foldRange, memOk_foldl, State.setFlow_memOk, State.wakeStack_memOk, State.staged_memOk, State.writeSlots_memOk]

theorem State.captureLost_memOk (s : State) (n k : Nat) (hs : s.memOk = true) : (State.captureLost s n k).memOk = true := by
  unfold State.captureLost
  grind [State.memOk, Memory.wf, memOk_foldRange, memOk_foldl, State.setLane_memOk, State.setFlow_memOk, State.ringIndex_memOk]

theorem State.captureIn_memOk (s : State) (n k : Nat) (b : List (List Byte)) (hs : s.memOk = true) : (State.captureIn s n k b).memOk = true := by
  unfold State.captureIn
  grind [State.memOk, Memory.wf, memOk_foldRange, memOk_foldl, State.setLane_memOk, State.setFlow_memOk, State.staged_memOk, State.rtReread_memOk, State.drainCapture_memOk, State.captureLost_memOk]

theorem State.capture_memOk (s : State) (n : Nat) (f : EthFrame) (hs : s.memOk = true) : (State.capture s n f).memOk = true := by
  unfold State.capture
  grind [State.memOk, Memory.wf, memOk_foldRange, memOk_foldl, State.setLane_memOk, State.captureIn_memOk]

theorem State.stampRx_memOk (s : State) (n : Nat) (f : EthFrame) (hs : s.memOk = true) : (State.stampRx s n f).memOk = true := by
  unfold State.stampRx
  grind [State.memOk, Memory.wf, memOk_foldRange, memOk_foldl, State.setLane_memOk, State.setPtp_memOk]

theorem State.classed_memOk (s : State) (n : Nat) (hs : s.memOk = true) : (State.classed s n).memOk = true := by
  unfold State.classed
  grind [State.memOk, Memory.wf, memOk_foldRange, memOk_foldl, State.setLane_memOk]

theorem State.classify_memOk (s : State) (n : Nat) (f : EthFrame) (hs : s.memOk = true) : (State.classify s n f).memOk = true := by
  unfold State.classify
  grind [State.memOk, Memory.wf, memOk_foldRange, memOk_foldl, State.setLane_memOk, State.flowPacket_memOk, State.stampRx_memOk, State.classed_memOk]

theorem State.queueFrames_memOk (s : State) (k : Nat) (l : List (List Byte)) (hs : s.memOk = true) : (State.queueFrames s k l).memOk = true := by
  unfold State.queueFrames
  grind [State.memOk, Memory.wf, memOk_foldRange, memOk_foldl, State.setFlow_memOk, State.takeIn_memOk, State.event_memOk]

theorem State.feedFlow_memOk (s : State) (x : Session) (table : List Byte) (pics : Nat) (au : List Byte) (k : Nat) (hs : s.memOk = true) : (State.feedFlow s x table pics au k).memOk = true := by
  unfold State.feedFlow
  grind [State.memOk, Memory.wf, memOk_foldRange, memOk_foldl, State.tookFree_memOk, State.setFlow_memOk, State.queueFrames_memOk]

theorem State.feed_memOk (s : State) (sess : Nat) (c : Cmd) (r : Run) (hs : s.memOk = true) : (State.feed s sess c r).memOk = true := by
  unfold State.feed
  grind [State.memOk, Memory.wf, memOk_foldRange, memOk_foldl, State.tookFree_memOk, State.setSession_memOk, State.feedFlow_memOk]

theorem State.jobEnds_memOk (s : State) (n sess : Nat) (hs : s.memOk = true) : (State.jobEnds s n sess).memOk = true := by
  unfold State.jobEnds
  grind [State.memOk, Memory.wf, memOk_foldRange, memOk_foldl, State.wakeStack_memOk, State.stopRun_memOk, State.measureReads_memOk, State.feed_memOk]

theorem State.resumeQueue_memOk (s : State) (k : Nat) (hs : s.memOk = true) : (State.resumeQueue s k).memOk = true := by
  unfold State.resumeQueue
  grind [State.memOk, Memory.wf, memOk_foldRange, memOk_foldl, State.setFlow_memOk, State.takeIn_memOk, State.progress_memOk]

theorem State.readPacket_memOk (s : State) (k : Nat) (hs : s.memOk = true) : (State.readPacket s k).2.memOk = true := by
  unfold State.readPacket
  grind [State.memOk, Memory.wf, memOk_foldRange, memOk_foldl, State.setFlow_memOk, State.rtGet_memOk]

theorem State.atFrame_memOk (s : State) (k : Nat) (hs : s.memOk = true) : (State.atFrame s k).memOk = true := by
  unfold State.atFrame
  grind [State.memOk, Memory.wf, memOk_foldRange, memOk_foldl, State.setFlow_memOk]

theorem State.fifoPut_memOk (s : State) (n : Nat) (x : Frame) (hs : s.memOk = true) : (State.fifoPut s n x).memOk = true := by
  unfold State.fifoPut
  grind [State.memOk, Memory.wf, memOk_foldRange, memOk_foldl, State.setLane_memOk]

theorem State.fetchHead_memOk (s : State) (n k : Nat) (due : Option Nat) (hs : s.memOk = true) : (State.fetchHead s n k due).memOk = true := by
  unfold State.fetchHead
  grind [State.memOk, Memory.wf, memOk_foldRange, memOk_foldl, State.setFlow_memOk, State.fifoPut_memOk]

theorem State.fetchPaced_memOk (s : State) (n d k : Nat) (hs : s.memOk = true) : (State.fetchPaced s n d k).memOk = true := by
  unfold State.fetchPaced
  grind [State.memOk, Memory.wf, memOk_foldRange, memOk_foldl, State.untilPtp_memOk, State.readPacket_memOk, State.fifoPut_memOk, State.fetchHead_memOk]

theorem State.holdFrames_memOk (s : State) (k : Nat) (hs : s.memOk = true) : (State.holdFrames s k).memOk = true := by
  unfold State.holdFrames
  grind [State.memOk, Memory.wf, memOk_foldRange, memOk_foldl, State.setFlow_memOk]

theorem State.fetchNext_memOk (s : State) (n : Nat) (hs : s.memOk = true) : (State.fetchNext s n).memOk = true := by
  have ht := memOk_foldl State.atFrame (s.pacedReady n) s hs (fun u b hu => State.atFrame_memOk u b hu)
  unfold State.fetchNext
  dsimp only
  generalize List.foldl State.atFrame s (s.pacedReady n) = t at *
  split
  · split
    · exact State.fetchHead_memOk _ _ _ _ ht
    · exact State.fetchPaced_memOk _ _ _ _ ht
  · exact State.fetchPaced_memOk _ _ _ _ ht
  · exact State.fetchHead_memOk _ _ _ _ ht
  · exact ht

theorem State.shape_memOk (s : State) (k : Nat) (hs : s.memOk = true) : (State.shape s k).memOk = true := by
  unfold State.shape
  grind [State.memOk, Memory.wf, memOk_foldRange, memOk_foldl, State.setFlow_memOk]

theorem State.setSched_memOk (s : State) (n v : Nat) (x : Sched) (hs : s.memOk = true) : (State.setSched s n v x).memOk = true := by
  unfold State.setSched
  grind [State.memOk, Memory.wf, memOk_foldRange, memOk_foldl]

theorem State.fillSched_memOk (s : State) (n v : Nat) (hs : s.memOk = true) : (State.fillSched s n v).memOk = true := by
  unfold State.fillSched
  grind [State.memOk, Memory.wf, memOk_foldRange, memOk_foldl, State.setSched_memOk]

theorem State.innerRound_memOk (s : State) (n v : Nat) (l : List Nat) (y0 : Nat) (hs : s.memOk = true) : (State.innerRound s n v l y0).1.memOk = true := by
  induction y0 generalizing s n v l <;> (unfold State.innerRound; grind [State.memOk, Memory.wf, memOk_foldRange, memOk_foldl, State.setFlow_memOk, State.setSched_memOk])

theorem State.outerRound_memOk (s : State) (n : Nat) (l : List Nat) (y0 : Nat) (hs : s.memOk = true) : (State.outerRound s n l y0).1.memOk = true := by
  induction y0 generalizing s n l <;> (unfold State.outerRound; grind [State.memOk, Memory.wf, memOk_foldRange, memOk_foldl, State.setLane_memOk, State.setSched_memOk, State.innerRound_memOk])

theorem State.clearDeficits_memOk (s : State) (n : Nat) (hs : s.memOk = true) : (State.clearDeficits s n).memOk = true := by
  unfold State.clearDeficits
  grind [State.memOk, Memory.wf, memOk_foldRange, memOk_foldl, State.setLane_memOk, State.setFlow_memOk, State.setSched_memOk]

theorem State.normal_memOk (s : State) (n : Nat) (hs : s.memOk = true) : (State.normal s n).1.memOk = true := by
  have ht := memOk_foldl State.shape (s.egressFlows n) s hs (fun u b hu => State.shape_memOk u b hu)
  have hu := memOk_foldRange (fun v u => u.fillSched n v) 64 _ ht (fun v u hu => State.fillSched_memOk u n v hu)
  have hv := State.clearDeficits_memOk _ n hu
  unfold State.normal
  dsimp only
  exact State.outerRound_memOk _ _ _ _ hv

theorem State.startFrame_memOk (s : State) (n : Nat) (b : List Byte) (hs : s.memOk = true) : (State.startFrame s n b).memOk = true := by
  unfold State.startFrame
  grind [State.memOk, Memory.wf, memOk_foldRange, memOk_foldl, State.setLane_memOk]

theorem State.fifoTake_memOk (s : State) (n : Nat) (x : Frame) (hs : s.memOk = true) : (State.fifoTake s n x).memOk = true := by
  unfold State.fifoTake
  grind [State.memOk, Memory.wf, memOk_foldRange, memOk_foldl, State.setLane_memOk]

theorem State.sendPaced_memOk (s : State) (n d : Nat) (x : Frame) (hs : s.memOk = true) : (State.sendPaced s n d x).memOk = true := by
  unfold State.sendPaced
  grind [State.memOk, Memory.wf, memOk_foldRange, memOk_foldl, State.setFlow_memOk, State.event_memOk, State.startFrame_memOk, State.fifoTake_memOk]

theorem State.sendShaped_memOk (s : State) (n : Nat) (x : Frame) (hs : s.memOk = true) : (State.sendShaped s n x).memOk = true := by
  unfold State.sendShaped
  grind [State.memOk, Memory.wf, memOk_foldRange, memOk_foldl, State.setFlow_memOk, State.setSched_memOk, State.startFrame_memOk, State.fifoTake_memOk]

theorem State.sendControl_memOk (s : State) (n : Nat) (hs : s.memOk = true) : (State.sendControl s n).memOk = true := by
  unfold State.sendControl
  grind [State.memOk, Memory.wf, memOk_foldRange, memOk_foldl, State.setLane_memOk, State.startFrame_memOk]

theorem State.sendNow_memOk (s : State) (n : Nat) (hs : s.memOk = true) : ∀ u, (State.sendNow s n) = some u → u.memOk = true := by
  unfold State.sendNow
  grind [State.memOk, Memory.wf, memOk_foldRange, memOk_foldl, State.normal_memOk, State.sendPaced_memOk, State.sendShaped_memOk, State.sendControl_memOk]

theorem State.untilFrame_memOk (s : State) (n : Nat) (hs : s.memOk = true) : (State.untilFrame s n).memOk = true := by
  unfold State.untilFrame
  grind [State.memOk, Memory.wf, memOk_foldRange, memOk_foldl, State.until_memOk, State.untilPtp_memOk]

theorem State.transmit_memOk (s : State) (n : Nat) (hs : s.memOk = true) : (State.transmit s n).memOk = true := by
  have ht := State.until_memOk s (s.lane n).lineFree hs
  unfold State.transmit
  dsimp only
  generalize s.until (s.lane n).lineFree = t at *
  split
  · rename_i u hu
    exact State.sendNow_memOk t n ht u hu
  · have hw := State.untilFrame_memOk t n ht
    generalize t.untilFrame n = w at *
    cases e : w.sendNow n with
    | none => exact hw
    | some u => exact State.sendNow_memOk w n hw u e

end Sys2Proof.Machine
end

