-- ==== Sys2Proof/Laws/PerInstr.lean ====
section
/-! SUPPORT. The register address that a command names is an aligned word of BAR0's window (04 R212, R214): one lemma per
constructor, for commands that the outside world can supply. -/

namespace Sys2Proof.Laws.Addr

open Sys2Proof

/-- The register address that a command names, if it names one in the numbering of BAR0. -/
def reg : Instr → Option Nat
  | .registerWrite _ a _ | .rcRead _ a | .counterLowHalfRead _ a | .counterHighHalfRead _ a
  | .counter64Read _ a | .ptpNsRead _ a => some a
  | _ => none

/-- A well-formed command that names a register address names an aligned word below 4 MiB. -/
def Statement (i : Instr) : Prop := i.wf = true → ∀ a ∈ reg i, a % 4 = 0 ∧ a < 0x400000

theorem of_word {i : Instr} {a : Nat} (h : i.wf = true → wordAddr a = true) (e : reg i = some a) : Statement i := by
  intro w b hb
  rw [e] at hb
  cases hb
  simpa [wordAddr] using h w

theorem of_none {i : Instr} (e : reg i = none) : Statement i := by
  intro _ a ha
  rw [e] at ha
  cases ha

theorem registerWrite (p : Path) (addr : Nat) (v : Word32) : Statement (.registerWrite p addr v) := of_word id rfl
theorem rcRead (p : Path) (addr : Nat) : Statement (.rcRead p addr) := of_word id rfl
theorem counterLowHalfRead (p : Path) (addr : Nat) : Statement (.counterLowHalfRead p addr) := of_word id rfl
theorem counterHighHalfRead (p : Path) (addr : Nat) : Statement (.counterHighHalfRead p addr) := of_word id rfl
theorem counter64Read (p : Path) (addr : Nat) : Statement (.counter64Read p addr) := of_word (fun h => by simp only [Instr.wf, Bool.and_eq_true] at h; exact h.1) rfl
theorem powerOnResetRelease (strap : Fin 4) (hpEn wakeIn : Bool) : Statement (.powerOnResetRelease strap hpEn wakeIn) := of_none rfl
theorem vaonFall : Statement .vaonFall := of_none rfl
theorem chipReset : Statement .chipReset := of_none rfl
theorem hazelReset : Statement .hazelReset := of_none rfl
theorem pipReset : Statement .pipReset := of_none rfl
theorem blockReset (b : Block) : Statement (.blockReset b) := of_none rfl
theorem dormantEntry (coincident : Option WakeSource) : Statement (.dormantEntry coincident) := of_none rfl
theorem wakeInEdge (rising : Bool) : Statement (.wakeInEdge rising) := of_none rfl
theorem hpEnRise : Statement .hpEnRise := of_none rfl
theorem smbusWakeMatch : Statement .smbusWakeMatch := of_none rfl
theorem alarm : Statement .alarm := of_none rfl
theorem pipTimer : Statement .pipTimer := of_none rfl
theorem pipStop : Statement .pipStop := of_none rfl
theorem mainOn : Statement .mainOn := of_none rfl
theorem mainOff : Statement .mainOff := of_none rfl
theorem goDormant : Statement .goDormant := of_none rfl
theorem mainOffAnswer : Statement .mainOffAnswer := of_none rfl
theorem mainOffTimeout : Statement .mainOffTimeout := of_none rfl
theorem mainOffSelfRefresh : Statement .mainOffSelfRefresh := of_none rfl
theorem pgRise (r : Rail) : Statement (.pgRise r) := of_none rfl
theorem enSrdRaise : Statement .enSrdRaise := of_none rfl
theorem pgTimeout (r : Rail) : Statement (.pgTimeout r) := of_none rfl
theorem pgFall (r : Rail) : Statement (.pgFall r) := of_none rfl
theorem railEnableLower : Statement .railEnableLower := of_none rfl
theorem hpEnFall : Statement .hpEnFall := of_none rfl
theorem pipRemovalRecord : Statement .pipRemovalRecord := of_none rfl
theorem thermalCrit : Statement .thermalCrit := of_none rfl
theorem xt32Qualified : Statement .xt32Qualified := of_none rfl
theorem xt32QualifyTimeout : Statement .xt32QualifyTimeout := of_none rfl
theorem xt32EdgeLoss : Statement .xt32EdgeLoss := of_none rfl
theorem xoSettleExpiry : Statement .xoSettleExpiry := of_none rfl
theorem xoLoss (early : Bool) : Statement (.xoLoss early) := of_none rfl
theorem pllLock (p : Pll) : Statement (.pllLock p) := of_none rfl
theorem pllLockTimeout (p : Pll) : Statement (.pllLockTimeout p) := of_none rfl
theorem pllLossOfLock (p : Pll) : Statement (.pllLossOfLock p) := of_none rfl
theorem pllIdleStop (p : Pll) : Statement (.pllIdleStop p) := of_none rfl
theorem pllRetry (t : RetryTarget) : Statement (.pllRetry t) := of_none rfl
theorem clockGate (b : Clocked) : Statement (.clockGate b) := of_none rfl
theorem vtcLocked : Statement .vtcLocked := of_none rfl
theorem vtcSourceLoss : Statement .vtcSourceLoss := of_none rfl
theorem vtcHoldExpiry : Statement .vtcHoldExpiry := of_none rfl
theorem vtcReacquire : Statement .vtcReacquire := of_none rfl
theorem pipBoot : Statement .pipBoot := of_none rfl
theorem hazelStart : Statement .hazelStart := of_none rfl
theorem hazelImageStart : Statement .hazelImageStart := of_none rfl
theorem pacLoad : Statement .pacLoad := of_none rfl
theorem pacRequest (r : Requester) (cls : Fin 3) : Statement (.pacRequest r cls) := of_none rfl
theorem pacGrant : Statement .pacGrant := of_none rfl
theorem pacRelease (r : Requester) : Statement (.pacRelease r) := of_none rfl
theorem pacWithdraw (r : Requester) : Statement (.pacWithdraw r) := of_none rfl
theorem pacTimeout (r : Requester) : Statement (.pacTimeout r) := of_none rfl
theorem pacThermalSample (tj : Int) : Statement (.pacThermalSample tj) := of_none rfl
theorem clampSet : Statement .clampSet := of_none rfl
theorem pacBudgetWrite (r : BudgetRail) (v : Word32) : Statement (.pacBudgetWrite r v) := of_none rfl
theorem linkTrainingL0 : Statement .linkTrainingL0 := of_none rfl
theorem linkDown : Statement .linkDown := of_none rfl
theorem hotReset : Statement .hotReset := of_none rfl
theorem perstNAssert : Statement .perstNAssert := of_none rfl
theorem perstNDeassert (sris : Bool) : Statement (.perstNDeassert sris) := of_none rfl
theorem flrInitiate : Statement .flrInitiate := of_none rfl
theorem flrComplete : Statement .flrComplete := of_none rfl
theorem configRequest (a : ConfigAccess) : Statement (.configRequest a) := of_none rfl
theorem d3hotEntry : Statement .d3hotEntry := of_none rfl
theorem d0Return : Statement .d0Return := of_none rfl
theorem bar2Read (offset len : Nat) : Statement (.bar2Read offset len) := of_none rfl
theorem bar2Write (offset : Nat) (data : List (Option Byte)) (ep : Bool) : Statement (.bar2Write offset data ep) := of_none rfl
theorem bar2WakeTimeout (n : Fin 2) : Statement (.bar2WakeTimeout n) := of_none rfl
theorem upstreamCompletion (tag : Nat) (st : CplStatus) (data : List Byte) : Statement (.upstreamCompletion tag st data) := of_none rfl
theorem completionTimeout (tag : Nat) : Statement (.completionTimeout tag) := of_none rfl
theorem tlpReplay (rollover : Bool) : Statement (.tlpReplay rollover) := of_none rfl
theorem msixUnmask (v : Fin 64) : Statement (.msixUnmask v) := of_none rfl
theorem mbxDataLoWrite (m : Mailbox) (v : Word32) : Statement (.mbxDataLoWrite m v) := of_none rfl
theorem mbxDataHiWrite (m : Mailbox) (hi : Word32) (lo : Option Word32) : Statement (.mbxDataHiWrite m hi lo) := of_none rfl
theorem mbxDataHiRead (m : Mailbox) : Statement (.mbxDataHiRead m) := of_none rfl
theorem fwServicePass : Statement .fwServicePass := of_none rfl
theorem icuEdgeRequest (src : Fin 256) : Statement (.icuEdgeRequest src) := of_none rfl
theorem icuLevelChange (src : Fin 256) (level : Bool) : Statement (.icuLevelChange src level) := of_none rfl
theorem icuClaim (t : Target) (v : Fin 64) : Statement (.icuClaim t v) := of_none rfl
theorem icuComplete (t : Target) (id : Fin 256) : Statement (.icuComplete t id) := of_none rfl
theorem icuPendWrite (t : Target) (i : Fin 8) (v : Word32) : Statement (.icuPendWrite t i v) := of_none rfl
theorem icuSwiSet (t : Target) (v : Byte) : Statement (.icuSwiSet t v) := of_none rfl
theorem waitForInterrupt (t : Target) (coincident : Option (Fin 256)) : Statement (.waitForInterrupt t coincident) := of_none rfl
theorem coreWake (t : Target) : Statement (.coreWake t) := of_none rfl
theorem identify (q : Fin 16) : Statement (.identify q) := of_none rfl
theorem getVersions (q : Fin 16) : Statement (.getVersions q) := of_none rfl
theorem nop (q : Fin 16) : Statement (.nop q) := of_none rfl
theorem queueConfig (q : Fin 16) : Statement (.queueConfig q) := of_none rfl
theorem queueStatus (q : Fin 16) : Statement (.queueStatus q) := of_none rfl
theorem powerState (q : Fin 16) : Statement (.powerState q) := of_none rfl
theorem reset (q : Fin 16) : Statement (.reset q) := of_none rfl
theorem deferredReset : Statement .deferredReset := of_none rfl
theorem sessionOpen (q : Fin 16) : Statement (.sessionOpen q) := of_none rfl
theorem sessionClose (q : Fin 16) : Statement (.sessionClose q) := of_none rfl
theorem sessionQuery (q : Fin 16) : Statement (.sessionQuery q) := of_none rfl
theorem sessionSet (q : Fin 16) : Statement (.sessionSet q) := of_none rfl
theorem sessionSize (q : Fin 16) : Statement (.sessionSize q) := of_none rfl
theorem podLoad (q : Fin 16) : Statement (.podLoad q) := of_none rfl
theorem podUnload (q : Fin 16) : Statement (.podUnload q) := of_none rfl
theorem podStore (q : Fin 16) : Statement (.podStore q) := of_none rfl
theorem podDelete (q : Fin 16) : Statement (.podDelete q) := of_none rfl
theorem jobEncode (q : Fin 16) : Statement (.jobEncode q) := of_none rfl
theorem jobDecode (q : Fin 16) : Statement (.jobDecode q) := of_none rfl
theorem jobLoopback (q : Fin 16) : Statement (.jobLoopback q) := of_none rfl
theorem jobMeasure (q : Fin 16) : Statement (.jobMeasure q) := of_none rfl
theorem jobCancel (q : Fin 16) : Statement (.jobCancel q) := of_none rfl
theorem portConfig (q : Fin 16) : Statement (.portConfig q) := of_none rfl
theorem portQuery (q : Fin 16) : Statement (.portQuery q) := of_none rfl
theorem flowAdd (q : Fin 16) : Statement (.flowAdd q) := of_none rfl
theorem flowRemove (q : Fin 16) : Statement (.flowRemove q) := of_none rfl
theorem flowBind (q : Fin 16) : Statement (.flowBind q) := of_none rfl
theorem schedConfig (q : Fin 16) : Statement (.schedConfig q) := of_none rfl
theorem vtcConfig (q : Fin 16) : Statement (.vtcConfig q) := of_none rfl
theorem ptpConfig (q : Fin 16) : Statement (.ptpConfig q) := of_none rfl
theorem mcast (q : Fin 16) : Statement (.mcast q) := of_none rfl
theorem memCopy (q : Fin 16) : Statement (.memCopy q) := of_none rfl
theorem memFill (q : Fin 16) : Statement (.memFill q) := of_none rfl
theorem memPin (q : Fin 16) : Statement (.memPin q) := of_none rfl
theorem userRead (q : Fin 16) : Statement (.userRead q) := of_none rfl
theorem userWrite (q : Fin 16) : Statement (.userWrite q) := of_none rfl
theorem scrubConfig (q : Fin 16) : Statement (.scrubConfig q) := of_none rfl
theorem counterRead (q : Fin 16) : Statement (.counterRead q) := of_none rfl
theorem counterClear (q : Fin 16) : Statement (.counterClear q) := of_none rfl
theorem faultConfig (q : Fin 16) : Statement (.faultConfig q) := of_none rfl
theorem faultLogRead (q : Fin 16) : Statement (.faultLogRead q) := of_none rfl
theorem faultInject (q : Fin 16) : Statement (.faultInject q) := of_none rfl
theorem faultClear (q : Fin 16) : Statement (.faultClear q) := of_none rfl
theorem selftest (q : Fin 16) : Statement (.selftest q) := of_none rfl
theorem fwStage (q : Fin 16) : Statement (.fwStage q) := of_none rfl
theorem fwCommit (q : Fin 16) : Statement (.fwCommit q) := of_none rfl
theorem commandTimeout (q : Fin 16) (seq : Word32) : Statement (.commandTimeout q seq) := of_none rfl
theorem pipeJobStart (n : Fin 4) : Statement (.pipeJobStart n) := of_none rfl
theorem pipeJobEnd (n : Fin 4) (session : Fin 64) : Statement (.pipeJobEnd n session) := of_none rfl
theorem pageFetchComplete (n : Fin 4) : Statement (.pageFetchComplete n) := of_none rfl
theorem threadDeadlock (n : Fin 4) (session : Fin 64) : Statement (.threadDeadlock n session) := of_none rfl
theorem unitResultReturn (r : PipeRef) : Statement (.unitResultReturn r) := of_none rfl
theorem threadWaitRelease (r : PipeRef) : Statement (.threadWaitRelease r) := of_none rfl
theorem periodicSelftest (n : Fin 4) : Statement (.periodicSelftest n) := of_none rfl
theorem pipeSelftestEnd (n : Fin 4) (failCode : BitVec 16) : Statement (.pipeSelftestEnd n failCode) := of_none rfl
theorem pipeSelftestAbort (n : Fin 4) : Statement (.pipeSelftestAbort n) := of_none rfl
theorem selftestWaitExpired (n : Fin 4) : Statement (.selftestWaitExpired n) := of_none rfl
theorem memorySelftestEnd (i : Fin 3) (failCode : BitVec 16) : Statement (.memorySelftestEnd i failCode) := of_none rfl
theorem add (r : PipeRef) : Statement (.add r) := of_none rfl
theorem sub (r : PipeRef) : Statement (.sub r) := of_none rfl
theorem mul (r : PipeRef) : Statement (.mul r) := of_none rfl
theorem divu (r : PipeRef) : Statement (.divu r) := of_none rfl
theorem divs (r : PipeRef) : Statement (.divs r) := of_none rfl
theorem remu (r : PipeRef) : Statement (.remu r) := of_none rfl
theorem and (r : PipeRef) : Statement (.and r) := of_none rfl
theorem or (r : PipeRef) : Statement (.or r) := of_none rfl
theorem xor (r : PipeRef) : Statement (.xor r) := of_none rfl
theorem shl (r : PipeRef) : Statement (.shl r) := of_none rfl
theorem shru (r : PipeRef) : Statement (.shru r) := of_none rfl
theorem shrs (r : PipeRef) : Statement (.shrs r) := of_none rfl
theorem min (r : PipeRef) : Statement (.min r) := of_none rfl
theorem max (r : PipeRef) : Statement (.max r) := of_none rfl
theorem mov (r : PipeRef) : Statement (.mov r) := of_none rfl
theorem cmp (r : PipeRef) : Statement (.cmp r) := of_none rfl
theorem tstb (r : PipeRef) : Statement (.tstb r) := of_none rfl
theorem ext (r : PipeRef) : Statement (.ext r) := of_none rfl
theorem ins (r : PipeRef) : Statement (.ins r) := of_none rfl
theorem ldc (r : PipeRef) : Statement (.ldc r) := of_none rfl
theorem clz (r : PipeRef) : Statement (.clz r) := of_none rfl
theorem wlen (r : PipeRef) : Statement (.wlen r) := of_none rfl
theorem sel (r : PipeRef) : Statement (.sel r) := of_none rfl
theorem nopStep (r : PipeRef) : Statement (.nopStep r) := of_none rfl
theorem br (r : PipeRef) : Statement (.br r) := of_none rfl
theorem brx (r : PipeRef) : Statement (.brx r) := of_none rfl
theorem call (r : PipeRef) : Statement (.call r) := of_none rfl
theorem ret (r : PipeRef) : Statement (.ret r) := of_none rfl
theorem endStep (r : PipeRef) : Statement (.endStep r) := of_none rfl
theorem waitCnt (r : PipeRef) : Statement (.waitCnt r) := of_none rfl
theorem waitUnit (r : PipeRef) : Statement (.waitUnit r) := of_none rfl
theorem signal (r : PipeRef) : Statement (.signal r) := of_none rfl
theorem emit (r : PipeRef) : Statement (.emit r) := of_none rfl
theorem fetch (r : PipeRef) : Statement (.fetch r) := of_none rfl
theorem list (r : PipeRef) : Statement (.list r) := of_none rfl
theorem grid (r : PipeRef) : Statement (.grid r) := of_none rfl
theorem predict (r : PipeRef) : Statement (.predict r) := of_none rfl
theorem interp (r : PipeRef) : Statement (.interp r) := of_none rfl
theorem sad (r : PipeRef) : Statement (.sad r) := of_none rfl
theorem sse (r : PipeRef) : Statement (.sse r) := of_none rfl
theorem satd (r : PipeRef) : Statement (.satd r) := of_none rfl
theorem rate (r : PipeRef) : Statement (.rate r) := of_none rfl
theorem fwdQ (r : PipeRef) : Statement (.fwdQ r) := of_none rfl
theorem deqInv (r : PipeRef) : Statement (.deqInv r) := of_none rfl
theorem deblock (r : PipeRef) : Statement (.deblock r) := of_none rfl
theorem sao (r : PipeRef) : Statement (.sao r) := of_none rfl
theorem alf (r : PipeRef) : Statement (.alf r) := of_none rfl
theorem cdef (r : PipeRef) : Statement (.cdef r) := of_none rfl
theorem stats (r : PipeRef) : Statement (.stats r) := of_none rfl
theorem encode (r : PipeRef) : Statement (.encode r) := of_none rfl
theorem decode (r : PipeRef) : Statement (.decode r) := of_none rfl
theorem init (r : PipeRef) : Statement (.init r) := of_none rfl
theorem flush (r : PipeRef) : Statement (.flush r) := of_none rfl
theorem startUnit (r : PipeRef) : Statement (.startUnit r) := of_none rfl
theorem endUnit (r : PipeRef) : Statement (.endUnit r) := of_none rfl
theorem raw (r : PipeRef) : Statement (.raw r) := of_none rfl
theorem inject (r : PipeRef) : Statement (.inject r) := of_none rfl
theorem sseSums (r : PipeRef) : Statement (.sseSums r) := of_none rfl
theorem ssimSums (r : PipeRef) : Statement (.ssimSums r) := of_none rfl
theorem compare (r : PipeRef) : Statement (.compare r) := of_none rfl
theorem rcStep (r : PipeRef) : Statement (.rcStep r) := of_none rfl
theorem hrdStep (r : PipeRef) : Statement (.hrdStep r) := of_none rfl
theorem refAlloc (r : PipeRef) : Statement (.refAlloc r) := of_none rfl
theorem refFree (r : PipeRef) : Statement (.refFree r) := of_none rfl
theorem picOut (r : PipeRef) : Statement (.picOut r) := of_none rfl
theorem flowRead (r : PipeRef) : Statement (.flowRead r) := of_none rfl
theorem timeNow (r : PipeRef) : Statement (.timeNow r) := of_none rfl
theorem portFill (r : PipeRef) : Statement (.portFill r) := of_none rfl
theorem aruPartialWrite (n : Fin 4) : Statement (.aruPartialWrite n) := of_none rfl
theorem aruReadIdxReread (n : Fin 4) : Statement (.aruReadIdxReread n) := of_none rfl
theorem dramTrained (n : Fin 2) : Statement (.dramTrained n) := of_none rfl
theorem dramInitDone (n : Fin 2) : Statement (.dramInitDone n) := of_none rfl
theorem lfsInitDone : Statement .lfsInitDone := of_none rfl
theorem dramSelfRefreshEntry (n : Fin 2) : Statement (.dramSelfRefreshEntry n) := of_none rfl
theorem dramSelfRefreshExit (n : Fin 2) : Statement (.dramSelfRefreshExit n) := of_none rfl
theorem dramReread (word : Nat) (recovered : Bool) : Statement (.dramReread word recovered) := of_none rfl
theorem correctionWriteBack (word : Nat) : Statement (.correctionWriteBack word) := of_none rfl
theorem scrubBurst : Statement .scrubBurst := of_none rfl
theorem scrubCatchUp (n : Fin 2) : Statement (.scrubCatchUp n) := of_none rfl
theorem mramBurstEnd : Statement .mramBurstEnd := of_none rfl
theorem fabTimeout (port : Fin 16) : Statement (.fabTimeout port) := of_none rfl
theorem start (n : Fin 16) : Statement (.start n) := of_none rfl
theorem abort (n : Fin 16) : Statement (.abort n) := of_none rfl
theorem clear (n : Fin 16) : Statement (.clear n) := of_none rfl
theorem dmaEndOfCount (n : Fin 16) : Statement (.dmaEndOfCount n) := of_none rfl
theorem dmaErrorStop (n : Fin 16) : Statement (.dmaErrorStop n) := of_none rfl
theorem laneLock (n : Fin 16) : Statement (.laneLock n) := of_none rfl
theorem laneLockLoss (n : Fin 16) : Statement (.laneLockLoss n) := of_none rfl
theorem relockAttemptFailed (n : Fin 16) : Statement (.relockAttemptFailed n) := of_none rfl
theorem laneWatchdog (n : Fin 16) : Statement (.laneWatchdog n) := of_none rfl
theorem sdiLineTransmit (n : Fin 16) (arrived : Bool) (frameStart : Bool) (line : Nat) (active : Option Nat) : Statement (.sdiLineTransmit n arrived frameStart line active) := of_none rfl
theorem sdiLineReceive (n : Fin 16) (l : SdiLine) : Statement (.sdiLineReceive n l) := of_none rfl
theorem ancPacketReceive (n : Fin 16) (p : AncPacket) : Statement (.ancPacketReceive n p) := of_none rfl
theorem ethFrameReceive (n : Fin 16) (f : EthFrame) : Statement (.ethFrameReceive n f) := of_none rfl
theorem ethFrameTransmit (n : Fin 16) : Statement (.ethFrameTransmit n) := of_none rfl
theorem egressFetch (n : Fin 16) : Statement (.egressFetch n) := of_none rfl
theorem linkFault (n : Fin 16) (remote : Bool) : Statement (.linkFault n remote) := of_none rfl
theorem ptpLoss : Statement .ptpLoss := of_none rfl
theorem runSet : Statement .runSet := of_none rfl
theorem runClr : Statement .runClr := of_none rfl
theorem step : Statement .step := of_none rfl
theorem lossSet : Statement .lossSet := of_none rfl
theorem lossClr : Statement .lossClr := of_none rfl
theorem lockSet : Statement .lockSet := of_none rfl
theorem lockClr : Statement .lockClr := of_none rfl
theorem ptpNsRead (p : Path) (addr : Nat) : Statement (.ptpNsRead p addr) := of_word id rfl
theorem ptpTsFifoPop : Statement .ptpTsFifoPop := of_none rfl
theorem ptpTarget : Statement .ptpTarget := of_none rfl
theorem ppsIn : Statement .ppsIn := of_none rfl
theorem fsyncIn : Statement .fsyncIn := of_none rfl
theorem ppsOut (rising : Bool) : Statement (.ppsOut rising) := of_none rfl
theorem fsyncOut (rising : Bool) : Statement (.fsyncOut rising) := of_none rfl
theorem flowEntryAgeOut (e : Fin 4096) : Statement (.flowEntryAgeOut e) := of_none rfl
theorem captureFlush (n : Fin 16) : Statement (.captureFlush n) := of_none rfl
theorem packetiserResume (flow : Fin 1024) : Statement (.packetiserResume flow) := of_none rfl
theorem eventFifoRead (i : Fin 3) : Statement (.eventFifoRead i) := of_none rfl
theorem faultReport (src : Fin 128) (detail : Word32) : Statement (.faultReport src detail) := of_none rfl
theorem conditionEnd (src : Fin 128) : Statement (.conditionEnd src) := of_none rfl
theorem quietExpiry (src : Fin 128) : Statement (.quietExpiry src) := of_none rfl
theorem fltActiveClear (src : Fin 128) : Statement (.fltActiveClear src) := of_none rfl
theorem causeReopen : Statement .causeReopen := of_none rfl
theorem comparatorProof (pairB detected : Bool) : Statement (.comparatorProof pairB detected) := of_none rfl
theorem hazelWdog (pairB : Bool) : Statement (.hazelWdog pairB) := of_none rfl
theorem pipWdog : Statement .pipWdog := of_none rfl
theorem logReinit : Statement .logReinit := of_none rfl
theorem lrClear : Statement .lrClear := of_none rfl
theorem errForceSet : Statement .errForceSet := of_none rfl
theorem errForceClr : Statement .errForceClr := of_none rfl
theorem persistentEntryWrite : Statement .persistentEntryWrite := of_none rfl
theorem smbusWrite (addr : Nat) (v : Word32) (pec : Pec) : Statement (.smbusWrite addr v pec) := of_none rfl
theorem smbusRead (addr : Nat) : Statement (.smbusRead addr) := of_none rfl
theorem smbusClockTimeout : Statement .smbusClockTimeout := of_none rfl
theorem alertResponse : Statement .alertResponse := of_none rfl
theorem cfgKey (v : Word32) : Statement (.cfgKey v) := of_none rfl
theorem stage : Statement .stage := of_none rfl
theorem commit : Statement .commit := of_none rfl
theorem cfgCommitEnd (ok : Bool) : Statement (.cfgCommitEnd ok) := of_none rfl
theorem read : Statement .read := of_none rfl
theorem discard : Statement .discard := of_none rfl
theorem jtagUnlock (t : JtagToken) : Statement (.jtagUnlock t) := of_none rfl
theorem jtagTokenDecision : Statement .jtagTokenDecision := of_none rfl
theorem mramBankDReady : Statement .mramBankDReady := of_none rfl
theorem linkFaultCleared (n : Fin 16) (remote : Bool) : Statement (.linkFaultCleared n remote) := of_none rfl

end Sys2Proof.Laws.Addr
end

section
/-! PROOFS of 00_scope.md. The device as power is applied (R9, R10), what a read answers, clears and latches (R13, R18 to R22),
and writes by access path (R9 to R14). -/

namespace Sys2Proof.Machine

/-! ### Commands that settle their effect -/

/-- A command that settles an effect does what its effect, settled, shows. -/
theorem does_run {c : Instr} {f : State → State} {s : State} {P : State → Prop} (h : exec c s = run f s) :
    Does c s P ↔ P (f s.begin).settle := by
  unfold Does
  rw [h, run_eq]
  exact ⟨fun ⟨t, e, ht⟩ => by cases e; exact ht, fun hp => ⟨_, rfl, hp⟩⟩

/-! ### Frames of an effect that answers -/

theorem only_settle {l : List Part} {s u : State} (h : Only l s u) (hb : .board ∈ l → .mram ∈ l) : Only l s u.settle :=
  only_run (f := fun _ => u) h hb

/-- What was answered and what left the device belong to no part. -/
theorem Only.answered {l : List Part} {s t : State} (h : Only l s t) (o : List Out) (x : Answer) :
    Only l s { t with outs := o, answer := x } := by
  refine ⟨h.1, fun p hp => ?_⟩
  have k := h.2 p hp
  cases p <;> exact k

theorem only_settle_answered (l : List Part) (s : State) (x : Answer) (hb : .board ∈ l → .mram ∈ l) :
    Only l s (State.settle { s.begin with answer := x }) :=
  only_settle ((Only.refl l s).answered [] x) hb

/-! ### The state at power-on -/

/-- Settles O58: every field listed is a default of `State` or of one of its parts. -/
theorem resetHoldsTheStatedValues : Obligations.ResetHoldsTheStatedValues := by
  unfold Obligations.ResetHoldsTheStatedValues
  have hcleared : Cleared State.reset := by repeat' constructor
  have hmem : ∀ a, Table.get 0 State.reset.mem a = 0 := fun _ => rfl
  exact ⟨rfl, rfl, rfl, rfl, rfl, rfl, rfl, rfl, rfl, rfl, rfl, rfl, hcleared, rfl, hmem, rfl⟩

/-! ### Counters (00 R18, R21, R22) -/

/-- What a counter reads as: its width, its value, and whether a read clears it. -/
def Counter.reading (c : Counter) : Bool × Nat × Bool := (c.wide, c.val, c.rc)

/-- The two states hold the same counters. -/
structure SameCounters (s t : State) : Prop where
  pcie : t.pcie.kept = s.pcie.kept
  pipes : t.pipes = s.pipes
  fab : t.fab = s.fab
  dram : t.dram = s.dram
  lfs : t.lfs = s.lfs
  scrub : t.scrub = s.scrub
  mram : { t.mram with journalM := [] } = { s.mram with journalM := [] }
  dma : t.dma = s.dma
  lanes : t.lanes = s.lanes
  flows : t.flows = s.flows
  flt : t.flt = s.flt
  entries : t.entries = s.entries

/-- A place where a counter may stand: what it reads as follows from the counters of the state, and the state with it
cleared has the same latches and, where a read clears it, reads it as 0. -/
structure CounterPlace (read : State → Option Counter) : Prop where
  same : ∀ {s t : State}, SameCounters s t → (read t).map Counter.reading = (read s).map Counter.reading
  zeroed : ∀ {s : State} {c : Counter}, read s = some c →
    c.zero.latches = s.latches ∧ (c.rc = true → (read c.zero).map (·.val) = some 0)

theorem CounterPlace.none : CounterPlace fun _ => none where
  same _ := rfl
  zeroed h := by cases h

theorem CounterPlace.ite {p : Prop} [Decidable p] {f g : State → Option Counter} (hf : CounterPlace f) (hg : CounterPlace g) :
    CounterPlace fun s => if p then f s else g s := by
  by_cases h : p
  · simpa only [h, if_true] using hf
  · simpa only [h, if_false] using hg

/-! Each block's counters are counter places: the cases are the words of the block. -/

theorem pcieCounter_place (o : Nat) : CounterPlace fun s => s.pcieCounter o where
  same {s t} h := by
    have h0 := h.pcie
    simp only [Pcie.kept, Pcie.mk.injEq] at h0
    unfold State.pcieCounter
    split <;> simp [Counter.reading, h0]
  zeroed {s c} h := by
    unfold State.pcieCounter at h
    split at h <;> cases h <;> simp [State.pcieCounter, pair16]

theorem pipeCounter_place (n o : Nat) : CounterPlace fun s => s.pipeCounter n o where
  same h := by
    unfold State.pipeCounter State.pipe
    rw [h.pipes]
    split <;> rfl
  zeroed h := by
    unfold State.pipeCounter at h
    split at h <;> cases h <;> simp [State.pipeCounter, pair16]

theorem fabCounter_place (n o : Nat) : CounterPlace fun s => s.fabCounter n o where
  same h := by
    unfold State.fabCounter State.port16
    rw [h.fab]
    split <;> rfl
  zeroed h := by
    unfold State.fabCounter at h
    split at h <;> cases h <;> simp [State.fabCounter]

theorem dramCounter_place (n o : Nat) : CounterPlace fun s => s.dramCounter n o where
  same h := by
    unfold State.dramCounter State.stack
    rw [h.dram]
    split <;> rfl
  zeroed h := by
    unfold State.dramCounter at h
    split at h <;> cases h <;> simp [State.dramCounter, pair16]

theorem lfsCounter_place (o : Nat) : CounterPlace fun s => s.lfsCounter o where
  same {s t} h := by
    have hmram := h.mram
    simp only [Mram.mk.injEq] at hmram
    unfold State.lfsCounter
    rw [h.lfs, h.scrub]
    split
    case h_10 => split <;> simp [Counter.reading, hmram]
    all_goals simp [Counter.reading, hmram]
  zeroed {s c} h := by
    unfold State.lfsCounter at h
    split at h
    case h_10 =>
      split at h
      next => cases h; exact ⟨rfl, fun h => by cases h⟩
      next => cases h
    all_goals
      cases h
      simp [State.lfsCounter, pair16]

theorem dmaCounter_place (n o : Nat) : CounterPlace fun s => s.dmaCounter n o where
  same h := by
    unfold State.dmaCounter State.chan
    rw [h.dma]
    split <;> rfl
  zeroed h := by
    unfold State.dmaCounter at h
    split at h <;> cases h <;> simp [State.dmaCounter, pair16]

theorem laneCounter_place (n o : Nat) : CounterPlace fun s => s.laneCounter n o where
  same h := by
    unfold State.laneCounter State.lane
    rw [h.lanes]
    split <;> rfl
  zeroed h := by
    unfold State.laneCounter at h
    split at h <;> cases h <;> simp [State.laneCounter, pair16]

theorem portCounter_place (n o : Nat) : CounterPlace fun s => s.portCounter n o where
  same h := by
    unfold State.portCounter State.lane
    rw [h.lanes]
    split <;> rfl
  zeroed h := by
    unfold State.portCounter at h
    split at h <;> cases h <;> simp [State.portCounter, pair16]

theorem flowCounter_place (n o : Nat) : CounterPlace fun s => s.flowCounter n o where
  same h := by
    unfold State.flowCounter State.flow
    rw [h.flows]
    split <;> rfl
  zeroed h := by
    unfold State.flowCounter at h
    split at h <;> cases h <;> simp [State.flowCounter, pair16]

theorem fltSrc_setFltSrc (s : State) (i j : Nat) (x : FltSrc) : (s.setFltSrc i x).fltSrc j = if j = i then x else s.fltSrc j :=
  Table.get_set _ _ _ _ _

theorem fltCounter_place (o : Nat) : CounterPlace fun s => s.fltCounter o where
  same h := by
    unfold State.fltCounter State.fltSrc
    rw [h.flt]
    split
    · rfl
    · split
      · rfl
      · split <;> rfl
  zeroed {s c} h := by
    unfold State.fltCounter at h
    split at h
    next h1 =>
      cases h
      refine ⟨by simp, fun _ => ?_⟩
      simp only [State.fltCounter, if_pos h1]
      simp [pair16, fltSrc_setFltSrc]
    next h1 =>
      split at h
      next h2 =>
        cases h
        refine ⟨by simp, fun _ => ?_⟩
        simp only [State.fltCounter, if_neg h1, if_pos h2]
        simp [pair16, fltSrc_setFltSrc]
      next h2 =>
        split at h
        next h3 =>
          subst h3
          cases h
          simp [State.fltCounter]
        next => cases h

/-- The packets of a flow-table entry (14 R768). -/
theorem entryCounter_place (e : Nat) :
    CounterPlace fun s => some { val := (s.entry e).packets, zero := s.setEntry e { s.entry e with packets := 0 } } where
  same h := by
    unfold State.entry
    rw [h.entries]
    rfl
  zeroed h := by
    cases h
    simp

theorem counterAt_place (a : Nat) : CounterPlace fun s => s.counterAt a :=
  (pcieCounter_place _).ite <| (pipeCounter_place _ _).ite <| (fabCounter_place _ _).ite <| (dramCounter_place _ _).ite <|
    (lfsCounter_place _).ite <| (dmaCounter_place _ _).ite <| (laneCounter_place _ _).ite <| (portCounter_place _ _).ite <|
    (flowCounter_place _ _).ite <| (fltCounter_place _).ite <| (entryCounter_place _).ite .none

/-! Settling appends to journal M at most: the counters of MRAM stay as they are. -/

theorem cfgDo_mram (s : State) (c : Nat) :
    { (s.cfgDo c).mram with journalM := [] } = { s.mram with journalM := [] } := by
  unfold State.cfgDo
  split
  · rfl
  split
  · unfold State.cfgCommit; dsimp only; split <;> rfl
  split
  · unfold State.cfgRead; dsimp only; split
    · rfl
    · split <;> rfl
  split
  · unfold State.cfgDiscard; dsimp only; split <;> rfl
  · rfl

theorem settle_mram (s : State) : { s.settle.mram with journalM := [] } = { s.mram with journalM := [] } := by
  obtain ⟨-, -, -, hicu, -⟩ := settleIcu_rest s
  obtain ⟨-, -, -, hpip, -⟩ := wakePip_rest s.settleIcu
  have hpump : { s.settleIcu.wakePip.cfgPump.mram with journalM := [] } = { s.settleIcu.wakePip.mram with journalM := [] } := by
    unfold State.cfgPump
    split
    · exact cfgDo_mram _ _
    · rfl
  rw [State.settle, hpump, hpip, hicu]

/-- What follows a command changes no counter. -/
theorem sameCounters_settle (s : State) : SameCounters s s.settle := by
  obtain ⟨-, -, hpcie, -⟩ := settle_rest s
  have h := settled_settle s
  exact ⟨hpcie, h.pipes, h.fab, h.dram, h.lfs, h.scrub, settle_mram s, h.dma, h.lanes, h.flows, h.flt, h.entries⟩

theorem sameCounters_begin (s : State) : SameCounters s s.begin := by constructor <;> rfl

/-- A latch, what left the device and what was answered are no counters. -/
theorem sameCounters_answered (s : State) (l : List (Nat × Nat)) (x : Answer) :
    SameCounters s { s with latches := l, answer := x } := by constructor <;> rfl

/-! ### Reads of a counter -/

section

variable {s : State} {p : Path} {a : Nat} {c : Counter}

/-- Path `p` is served and reaches the counter `c` at address `a` of the counter window. -/
structure AtCounter (s : State) (p : Path) (a : Nat) (c : Counter) : Prop where
  up : s.pathUp p = true
  notSmbus : p ≠ .smbus
  reaches : pathReaches p a = true
  lo : 0x100000 ≤ a
  hi : a < 0x200000
  noEvent : eventAt a = none
  place : s.counterAt a = some c

/-- The counter as a command finds it reads the same. -/
theorem AtCounter.begin (h : AtCounter s p a c) :
    ∃ d, AtCounter s.begin p a d ∧ d.wide = c.wide ∧ d.val = c.val ∧ d.rc = c.rc := by
  have hsame := (counterAt_place a).same (sameCounters_begin s)
  simp only [h.place, Option.map_some, Option.map_eq_some_iff, Counter.reading, Prod.mk.injEq] at hsame
  obtain ⟨d, hd, hr⟩ := hsame
  exact ⟨d, ⟨by simp [h.up], h.notSmbus, h.reaches, h.lo, h.hi, h.noEvent, hd⟩, hr⟩

/-- The state after the effect of a read on the counter. -/
def State.readCounter (s : State) (c : Counter) : State := if c.rc then c.zero else s

theorem AtCounter.readCounter_latches (h : AtCounter s p a c) : (s.readCounter c).latches = s.latches := by
  unfold State.readCounter
  split
  · exact ((counterAt_place a).zeroed h.place).1
  · rfl

/-- A read clears an RC counter, whatever the read latches and answers. -/
theorem AtCounter.cleared (h : AtCounter s p a c) (hrc : c.rc = true) (l : List (Nat × Nat)) (x : Answer) :
    ((State.settle { s.readCounter c with latches := l, answer := x }).counterAt a).map (·.val) = some 0 := by
  have hzero := ((counterAt_place a).zeroed h.place).2 hrc
  have hsettle := (counterAt_place a).same (sameCounters_settle { c.zero with latches := l, answer := x })
  have hanswer := (counterAt_place a).same (sameCounters_answered c.zero l x)
  have hval := congrArg (Option.map fun r : Bool × Nat × Bool => r.2.1) (hsettle.trans hanswer)
  simp only [Option.map_map] at hval
  rw [State.readCounter, if_pos hrc]
  exact hval.trans hzero

theorem AtCounter.windowRead (h : AtCounter s p a c) : s.windowRead p a = s.counterRead p a c := by
  simp only [State.windowRead, h.noEvent, h.place]

/-- A 32-bit read in the counter window goes to the window. -/
theorem readReg_window (hup : s.pathUp p = true) (hp : p ≠ .smbus) (hreach : pathReaches p a = true) (hlo : 0x100000 ≤ a)
    (hhi : a < 0x200000) :
    s.readReg p a = { (s.windowRead p a).2 with answer := .data (BitVec.ofNat 64 (s.windowRead p a).1) } := by
  have hreg : s.regRead p a = s.windowRead p a := by
    unfold State.regRead
    rw [if_neg (by omega), if_pos ⟨hlo, hhi⟩]
  simp only [State.readReg, State.read32, hup, hp, hreach, if_true, if_false, hreg]

theorem AtCounter.readReg_narrow (h : AtCounter s p a c) (hw : c.wide = false) :
    s.readReg p a = { s.readCounter c with latches := s.latches, answer := .data (BitVec.ofNat 64 (c.val % 2 ^ 32)) } := by
  rw [readReg_window h.up h.notSmbus h.reaches h.lo h.hi, h.windowRead, ← h.readCounter_latches]
  simp only [State.counterRead, hw, Bool.false_eq_true, if_false, State.readCounter]

theorem AtCounter.readReg_wide (h : AtCounter s p a c) (hw : c.wide = true) :
    s.readReg p a = { (s.readCounter c).setLatch p a (c.val / 2 ^ 32) with
      answer := .data (BitVec.ofNat 64 (c.val % 2 ^ 32)) } := by
  rw [readReg_window h.up h.notSmbus h.reaches h.lo h.hi, h.windowRead]
  simp only [State.counterRead, hw, if_true, State.readCounter, half, Bool.false_eq_true, if_false]

theorem AtCounter.readReg64_wide (h : AtCounter s p a c) (hw : c.wide = true) :
    s.readReg64 p a = { (s.readCounter c).setLatch p a (c.val / 2 ^ 32) with answer := .data (BitVec.ofNat 64 c.val) } := by
  have hat : s.wideAt a = some c := by
    simp [State.wideAt, h.lo, h.hi, h.place, Option.filter, hw]
  simp only [State.readReg64, State.read64, h.notSmbus, h.up, h.reaches, hat, if_true, if_false, State.readCounter]

/-- The upper word of a wide counter reads as its latch, and the read has no effect. -/
theorem AtCounter.readReg_upper (h : AtCounter s p a c) (hw : c.wide = true) (h8 : a % 8 = 0) (hnone : s.counterAt (a + 4) = none)
    (hreach : pathReaches p (a + 4) = true) (hhi : a + 4 < 0x200000) :
    s.readReg p (a + 4) = { s with answer := .data (BitVec.ofNat 64 (s.latch p a)) } := by
  have hlo := h.lo
  have hev : eventAt (a + 4) = none := by
    have h0 := h.noEvent
    unfold eventAt at h0 ⊢
    split at h0
    · cases h0
    · rw [if_neg (by omega), if_neg (by omega), if_neg (by omega)]
  have h4 : (a + 4) % 8 = 4 := by omega
  have hwindow : s.windowRead p (a + 4) = (s.latch p a, s) := by
    simp only [State.windowRead, hev, hnone, h4, if_true, Nat.add_sub_cancel, h.place, hw]
  rw [readReg_window h.up h.notSmbus hreach (by omega) hhi, hwindow]

theorem latch_congr {s t : State} (h : t.latches = s.latches) (q : Path) (a : Nat) : t.latch q a = s.latch q a := by
  unfold State.latch
  rw [h]

theorem Path.idx_ne {p q : Path} (hqp : q ≠ p) (hz : (Path.hazel p && Path.hazel q) = false) : Path.idx q ≠ Path.idx p := by
  cases p <;> cases q <;> simp_all [Path.idx, Path.hazel]

@[simp] theorem setLatch_same (s : State) (p : Path) (a v : Nat) : (s.setLatch p a v).latch p a = v := Table.get_set_same _ _ _ _

/-- Loading a path's latch leaves that of another path. -/
theorem setLatch_latch_other {p q : Path} (s : State) (a v : Nat) (hqp : q ≠ p) (hz : (Path.hazel p && Path.hazel q) = false) :
    (s.setLatch p a v).latch q a = s.latch q a := by
  have hidx := Path.idx_ne hqp hz
  exact Table.get_set_other _ _ _ _ _ (by omega)

/-! ### The clauses on counters -/

theorem does_rcRead {P : State → Prop} : Does (.rcRead p a) s P ↔ P (s.begin.readReg p a).settle :=
  does_run (f := fun u => u.readReg p a) (exec_rcRead p a s)

/-- A 32-bit read of a narrow counter answers it, clears it if it is RC, and latches nothing. -/
theorem AtCounter.rcRead_clears (h : AtCounter s p a c) (hw : c.wide = false) : Does (.rcRead p a) s fun t =>
    t.answer = .data (BitVec.ofNat 64 (c.val % 2 ^ 32)) ∧
    (c.rc = true → (t.counterAt a).map (·.val) = some 0) ∧ t.latches = s.latches := by
  obtain ⟨d, hd, hwide, hval, hrc⟩ := h.begin
  rw [does_rcRead, hd.readReg_narrow (hwide.trans hw), hval, ← hrc]
  exact ⟨by simp, fun h => hd.cleared h _ _, by simp⟩

/-- A read of the low half of a wide counter answers it, clears it if it is RC, and latches the high half for its own path. -/
theorem AtCounter.lowHalfRead_latches (h : AtCounter s p a c) (hw : c.wide = true) : Does (.counterLowHalfRead p a) s fun t =>
    t.answer = .data (BitVec.ofNat 64 (c.val % 2 ^ 32)) ∧ t.latch p a = c.val / 2 ^ 32 ∧
    (c.rc = true → (t.counterAt a).map (·.val) = some 0) ∧
    (∀ q, q ≠ p → (Path.hazel p && Path.hazel q) = false → t.latch q a = s.latch q a) := by
  obtain ⟨d, hd, hwide, hval, hrc⟩ := h.begin
  rw [does_run (f := fun u => u.readReg p a) (exec_counterLowHalfRead p a s), hd.readReg_wide (hwide.trans hw), hval, ← hrc]
  refine ⟨by simp, (settle_latch _ _ _).trans (setLatch_same _ _ _ _), fun h => hd.cleared h _ _, fun q hqp hz => ?_⟩
  have hother := setLatch_latch_other (s.begin.readCounter d) a (c.val / 2 ^ 32) hqp hz
  rw [latch_congr hd.readCounter_latches, begin_latch] at hother
  exact (settle_latch _ _ _).trans hother

theorem AtCounter.read64_latches (h : AtCounter s p a c) (hw : c.wide = true) : Does (.counter64Read p a) s fun t =>
    t.answer = .data (BitVec.ofNat 64 c.val) ∧ t.latch p a = c.val / 2 ^ 32 ∧
    (c.rc = true → (t.counterAt a).map (·.val) = some 0) := by
  obtain ⟨d, hd, hwide, hval, hrc⟩ := h.begin
  rw [does_run (f := fun u => u.readReg64 p a) (exec_counter64Read p a s), hd.readReg64_wide (hwide.trans hw), hval, ← hrc]
  exact ⟨by simp, (settle_latch _ _ _).trans (setLatch_same _ _ _ _), fun h => hd.cleared h _ _⟩

theorem AtCounter.highHalfRead_answers_latch (h : AtCounter s p a c) (hw : c.wide = true) (h8 : a % 8 = 0)
    (hnone : s.counterAt (a + 4) = none) (hreach : pathReaches p (a + 4) = true) (hhi : a + 4 < 0x200000) :
    Does (.counterHighHalfRead p (a + 4)) s fun t => t.answer = .data (BitVec.ofNat 64 (s.latch p a)) ∧ Only [] s t := by
  obtain ⟨d, hd, hwide, -, -⟩ := h.begin
  have hnone' : s.begin.counterAt (a + 4) = none := by
    simpa [hnone] using (counterAt_place (a + 4)).same (sameCounters_begin s)
  rw [does_run (f := fun u => u.readReg p (a + 4)) (exec_counterHighHalfRead p (a + 4) s),
    hd.readReg_upper (hwide.trans hw) h8 hnone' hreach hhi]
  exact ⟨by simp, only_settle_answered _ _ _ (by simp)⟩

/-! ### The clause on nanoseconds words (13 R715) -/

/-- A nanoseconds word stands at one of three places of the PTP block. -/
theorem nsWord_place {t : Ptp} {o : Nat} {w : Nat × Nat} (h : t.nsWord o = some w) : o = 0 ∨ o = 0x30 ∨ o = 0x40 := by
  unfold Ptp.nsWord at h
  split at h
  case h_4 => cases h
  all_goals decide

theorem readReg_nsWord {w : Nat × Nat} (hup : s.pathUp p = true) (hp : p ≠ .smbus) (hpip : p ≠ .pip)
    (hw : s.ptp.nsWord (a - 0x80000) = some w) (hlo : 0x80000 ≤ a) :
    s.readReg p a = { s.setLatch p a w.2 with answer := .data (BitVec.ofNat 64 w.1) } := by
  obtain ⟨o, rfl⟩ := Nat.exists_eq_add_of_le hlo
  rw [Nat.add_sub_cancel_left] at hw
  have hplace := nsWord_place hw
  have hreach : pathReaches p (0x80000 + o) = true := by
    cases p <;> simp [pathReaches] at hpip ⊢ <;> omega
  have hreg : s.regRead p (0x80000 + o) = (w.1, s.setLatch p (0x80000 + o) w.2) := by
    rcases hplace with rfl | rfl | rfl <;> cases hw <;> rfl
  simp only [State.readReg, State.read32, hup, hp, hreach, if_true, if_false, hreg]

theorem ptpNsRead_latches {n k : Nat} (hup : s.pathUp p = true) (hp : p ≠ .smbus) (hpip : p ≠ .pip)
    (hw : s.ptp.nsWord (a - 0x80000) = some (n, k)) (hlo : 0x80000 ≤ a) : Does (.ptpNsRead p a) s fun t =>
    t.answer = .data (BitVec.ofNat 64 n) ∧ t.latch p a = k ∧ Only [.latches] s t := by
  rw [does_run (f := fun u => u.readReg p a) (exec_ptpNsRead p a s),
    readReg_nsWord (w := (n, k)) (by simp [hup]) hp hpip (by simp [hw]) hlo]
  exact ⟨by simp, (settle_latch _ _ _).trans (setLatch_same _ _ _ _),
    only_settle ((only_latches s _).answered [] _) (by simp)⟩

end

/-! ### The clauses on FIFOs (13 R716; 14 R769) -/

/-- Hazel-B's read of the FIFO's last word takes the timestamp at the head away. -/
theorem readReg_stampFifo (s : State) (hup : s.pathUp .hazelB = true) :
    s.readReg .hazelB 0x8006C = { s.setPtp { s.ptp with fifo := s.ptp.fifo.drop 1 } with
      answer := .data (BitVec.ofNat 64 (s.ptpReg .hazelB 0x6C)) } := by
  simp only [State.readReg, hup]
  rfl

theorem ptpTsFifoPop_nil {s : State} (hup : s.pathUp .hazelB = true) (h : s.ptp.fifo = []) :
    Does .ptpTsFifoPop s fun t => t.answer = .data 0 ∧ Only [] s t := by
  have hptp : s.begin.setPtp { s.begin.ptp with fifo := s.begin.ptp.fifo.drop 1 } = s.begin := by
    have hdrop : { s.ptp with fifo := s.ptp.fifo.drop 1 } = s.ptp := by rw [h, List.drop_nil, ← h]
    exact congrArg s.begin.setPtp hdrop
  rw [does_run (f := fun u => u.readReg .hazelB 0x8006C) (exec_ptpTsFifoPop s), readReg_stampFifo _ (by simp [hup]), hptp]
  exact ⟨by simp [State.ptpReg, Path.hazel, h], only_settle_answered _ _ _ (by simp)⟩

theorem ptpTsFifoPop_cons {s : State} {x : Stamp} {l : List Stamp} (hup : s.pathUp .hazelB = true) (h : s.ptp.fifo = x :: l) :
    Does .ptpTsFifoPop s fun t =>
      t.answer = .data (BitVec.ofNat 64 (x.word 3)) ∧ t.ptp = { s.ptp with fifo := l } ∧ Only [.ptp] s t := by
  rw [does_run (f := fun u => u.readReg .hazelB 0x8006C) (exec_ptpTsFifoPop s), readReg_stampFifo _ (by simp [hup])]
  exact ⟨by simp [State.ptpReg, Path.hazel, h], by simp [h, State.setPtp],
    only_settle ((only_ptp s _).answered [] _) (by simp)⟩

theorem readReg_eventFifo (s : State) (i : Fin 3) (hup : s.pathUp .pcie = true) :
    s.readReg .pcie (0x150000 + 4 * i.val) = { (s.popEvent i).2 with answer := .data (BitVec.ofNat 64 (s.popEvent i).1) } := by
  have hev : eventAt (0x150000 + 4 * i.val) = some i.val := by
    revert i; decide
  rw [readReg_window hup (by decide) rfl (by omega) (by omega)]
  simp only [State.windowRead, hev]

theorem does_eventFifoRead {s : State} {i : Fin 3} {P : State → Prop} (hup : s.hostUp = true) :
    Does (.eventFifoRead i) s P ↔
      P (State.settle { (s.begin.popEvent i).2 with answer := .data (BitVec.ofNat 64 (s.begin.popEvent i).1) }) := by
  rw [does_run (f := fun u => u.readReg .pcie (0x150000 + 4 * i.val)) (exec_eventFifoRead i s),
    readReg_eventFifo _ _ (by rw [begin_pathUp]; exact hup)]

theorem eventFifoRead_nil {s : State} {i : Fin 3} (hup : s.hostUp = true) (h : (Table.get {} s.events i.val).q = []) :
    Does (.eventFifoRead i) s fun t => t.answer = .data 0 ∧ Only [] s t := by
  have hpop : s.begin.popEvent i = (0, s.begin) := by
    simp only [State.popEvent, begin_frame, h]
  rw [does_eventFifoRead hup, hpop]
  exact ⟨by simp, only_settle_answered _ _ _ (by simp)⟩

theorem eventFifoRead_cons {s : State} {i : Fin 3} {x : Nat} {l : List Nat} (hup : s.hostUp = true)
    (h : (Table.get {} s.events i.val).q = x :: l) : Does (.eventFifoRead i) s fun t =>
      t.answer = .data (BitVec.ofNat 64 x) ∧ (Table.get {} t.events i.val).q = l ∧
      (∀ j, j ≠ i.val → Table.get {} t.events j = Table.get {} s.events j) ∧ Only [.events] s t := by
  have hpop : s.begin.popEvent i =
      (x, { s.begin with events := Table.set {} s.events i.val { Table.get {} s.events i.val with q := l } }) := by
    simp only [State.popEvent, begin_frame, h]
  rw [does_eventFifoRead hup, hpop]
  refine ⟨by simp, by simp, fun j hj => ?_, only_settle ((only_events s _).answered [] _) (by simp)⟩
  simp [Table.get_set, hj]

/-! ### The clause on rejected reads (00 R13; 04 R247) -/

theorem rcRead_rejected {s : State} {a : Nat} (hdown : s.hostUp = false) :
    (s.pcie.linkUp = false → Does (.rcRead .pcie a) s fun t => t.answer = .none ∧ Only [] s t) ∧
    (s.pcie.linkUp = true → s.pcie.flr = true → Does (.rcRead .pcie a) s fun t => t.answer = .unsupported ∧ Only [] s t) := by
  have hread : s.begin.readReg .pcie a = s.begin.rejectRead := by
    have hpath : s.begin.pathUp .pcie = false := by rw [begin_pathUp]; exact hdown
    simp only [State.readReg, hpath, Bool.false_eq_true, if_false, if_true]
  refine ⟨fun hlink => ?_, fun hlink hflr => ?_⟩
  · have hreject : s.begin.rejectRead = s.begin := by simp [State.rejectRead, hlink]
    rw [does_rcRead, hread, hreject]
    exact ⟨by simp [State.begin], only_settle_answered _ _ .none (by simp)⟩
  · have hreject : s.begin.rejectRead = { s.begin with answer := .unsupported } := by simp [State.rejectRead, hlink, hflr]
    rw [does_rcRead, hread, hreject]
    exact ⟨by simp, only_settle_answered _ _ _ (by simp)⟩

/-- Settles O39, clause by clause: the counters, the nanoseconds words, the two kinds of FIFO, and the reads that the endpoint
rejects. -/
theorem readsAnswerLatchAndClear : Obligations.ReadsAnswerLatchAndClear := by
  unfold Obligations.ReadsAnswerLatchAndClear
  intro s p a
  refine ⟨fun hup hp hreach hlo hhi hev c hc => ?_, fun n k hup hp hpip hw hlo => ptpNsRead_latches hup hp hpip hw hlo,
    fun hmain hhazel => ?_, fun i hup => ⟨eventFifoRead_nil hup, fun x l => eventFifoRead_cons hup⟩, rcRead_rejected⟩
  · have h : AtCounter s p a c := ⟨hup, hp, hreach, hlo, hhi, hev, hc.symm⟩
    exact ⟨h.rcRead_clears, fun hw => ⟨h.lowHalfRead_latches hw, h.read64_latches hw, h.highHalfRead_answers_latch hw⟩⟩
  · have hup : s.pathUp .hazelB = true := by simp [State.pathUp, hmain, hhazel]
    exact ⟨ptpTsFifoPop_nil hup, fun x l => ptpTsFifoPop_cons hup⟩

/-! ### Enables of the interrupt controller -/

@[simp] theorem setTgt_same (s : State) (t : Target) (x : IcuTgt) : (s.setTgt t x).tgt t = x := by
  cases t <;> rfl

@[simp] theorem settle_tgt_en (s : State) (t : Target) : (s.settle.tgt t).en = (s.tgt t).en := by
  cases t
  · exact settle_hazelA_en s
  · exact settle_hazelB_en s
  · exact settle_pip_en s
  · exact settle_host_en s

/-- A word put under a mask keeps every bit that the mask leaves out. -/
theorem putWord_getLsbD_of_masked (x m : BitVec 256) (i v k : Nat) (h : m.getLsbD k = false) :
    (putWord x m i v).getLsbD k = x.getLsbD k := by
  simpa [putWord, h] using fun hk : x.getLsbD k = true => BitVec.lt_of_getLsbD hk

/-- A write of ICU_ENi through a path puts the word under the mask of the assigned sources, in the view of that path. -/
theorem writeReg_icuEn (s : State) (p : Path) (i : Fin 8) (v : Nat) (hup : s.pathUp p = true) (hp : p ≠ .smbus)
    (h14 : s.ready 14 = true) :
    s.writeReg p (0x20020 + 4 * i.val) v =
      s.setTgt (Path.view p) { s.tgt (Path.view p) with en := putWord (s.tgt (Path.view p)).en icuAssigned i v } := by
  have hreach : pathReaches p (0x20020 + 4 * i.val) = true := by
    cases p <;> simp [pathReaches] <;> omega
  have hmbx : mbxAt p (0x20020 + 4 * i.val) = none := by
    unfold mbxAt; rw [if_neg (by omega), if_neg (by omega)]
  have hicu : s.icuWrite p (0x20 + 4 * i.val) v =
      s.setTgt (Path.view p) { s.tgt (Path.view p) with en := putWord (s.tgt (Path.view p)).en icuAssigned i v } := by
    have h1 : ¬ 0x20 + 4 * i.val < 0x20 := by omega
    have h2 : 0x20 + 4 * i.val < 0x40 := by omega
    have h3 : (0x20 + 4 * i.val) / 4 - 8 = i.val := by omega
    simp only [State.icuWrite, h14, h1, h2, h3, Bool.not_true, Bool.false_eq_true, if_false, if_true]
  have hreg : s.regWrite p (0x20020 + 4 * i.val) v = s.icuWrite p (0x20 + 4 * i.val) v := by
    have e : 0x20020 + 4 * i.val - 0x20000 = 0x20 + 4 * i.val := by omega
    simp only [State.regWrite, hmbx]
    rw [if_neg (by omega), if_neg (by omega), if_pos (by omega), e]
  simp only [State.writeReg, hup, hp, hreach, if_true, if_false, hreg, hicu]

theorem does_registerWrite {p : Path} {a : Nat} {v : Word32} {s : State} {P : State → Prop} :
    Does (.registerWrite p a v) s P ↔ P (s.begin.writeReg p a v.toNat).settle :=
  does_run (f := fun u => u.writeReg p a v.toNat) (exec_registerWrite p a v s)

/-- Refutes O40: the clause on ICU_ENi (05 R307) says that a write leaves the enables of the unassigned sources 0, but the
model's write keeps them as they were. No write sets such an enable, but the statement ranges over every state: here the host
writes 0 to ICU_EN0 while the enable of source 0, which is unassigned, is 1. -/
theorem not_writesActOnTheirPath : ¬ Obligations.WritesActOnTheirPath := by
  unfold Obligations.WritesActOnTheirPath
  intro h
  obtain ⟨-, -, -, henables, -⟩ := h { State.reset with
    rdy := rdyBit 14, pcie := { linkUp := true, mse := true }, icu := { host := { en := 1 } } } .pcie 0 rfl (by decide)
  obtain ⟨hbits, -⟩ := does_registerWrite.1 (henables (by decide) 0)
  have hzero := hbits 0
  rw [settle_tgt_en, writeReg_icuEn _ .pcie 0 _ rfl (by decide) (by decide), setTgt_same,
    putWord_getLsbD_of_masked _ _ _ _ _ (by decide)] at hzero
  exact absurd hzero (by decide)

end Sys2Proof.Machine
end

section
/-! PROOFS of 01_planes.md. Power-on, power loss and the chip resets (R52, R57), the resets of Hazel and Pip, and what each
block reset reaches (R42, R57). -/

namespace Sys2Proof.Machine

/-! ### Readiness bits -/

theorem rdyBit_getLsbD (i j : Nat) : (rdyBit i).getLsbD j = (decide (j < 40) && decide (i = j)) := by
  rw [rdyBit, BitVec.getLsbD_ofNat, Nat.testBit_two_pow]

/-- A dropped bit is clear, and the others stand. -/
theorem dropReady_ready (s : State) (m : BitVec 40) (i : Nat) : (s.dropReady m).ready i = (s.ready i && !m.getLsbD i) := by
  by_cases h : i < 40
  · simp [State.ready, State.dropReady, h]
  · simp [State.ready, State.dropReady, BitVec.getLsbD_of_ge _ _ (Nat.le_of_not_lt h)]

theorem setReady_ready (s : State) (i j : Nat) :
    (s.setReady i).ready j = (s.ready j || (decide (j < 40) && decide (i = j))) := by
  simp [State.ready, State.setReady, rdyBit_getLsbD]

/-- A bit that is dropped is clear. -/
theorem dropReady_ready_same (s : State) (i : Nat) : (s.dropReady (rdyBit i)).ready i = false := by
  by_cases h : i < 40
  · simp [dropReady_ready, rdyBit_getLsbD, h]
  · exact BitVec.getLsbD_of_ge _ _ (Nat.le_of_not_lt h)

theorem dropReady_ready_other (s : State) {i j : Nat} (h : i ≠ j) : (s.dropReady (rdyBit i)).ready j = s.ready j := by
  simp [dropReady_ready, rdyBit_getLsbD, h]

/-- A block that is ready again at once, if `c` holds, is ready as `c` says. -/
theorem setReady_if_ready {t : State} {i : Nat} (h : t.ready i = false) (hi : i < 40) (c : Bool) :
    (if c then t.setReady i else t).ready i = c := by
  cases c
  · exact h
  · simp [setReady_ready, hi]

theorem readyAgain_ready (s : State) {i : Nat} (hi : i < 40) (c : Bool) :
    (if c then (s.dropReady (rdyBit i)).setReady i else s.dropReady (rdyBit i)).ready i = c :=
  setReady_if_ready (dropReady_ready_same s i) hi c

/-! ### Frames that compose -/

/-- From `s` to `t` only parts of `l` have changed, and the board is none of them: such frames compose without a condition. -/
structure Within (l : List Part) (s t : State) : Prop where
  only : Only l s t
  board : .board ∉ l

theorem Only.within {l : List Part} {s t : State} (h : Only l s t) (hb : .board ∉ l) : Within l s t := ⟨h, hb⟩

theorem Within.refl (s : State) : Within [] s s := ⟨Only.refl [] s, by decide⟩

theorem Within.widen {l m : List Part} {s t : State} (h : Within l s t) (hm : l ⊆ m ∧ .board ∉ m) : Within m s t :=
  ⟨h.only.mono fun _ hp => hm.1 hp, hm.2⟩

theorem Within.seq {l m : List Part} {s t u : State} (h : Within l s t) (k : Within m t u) : Within (l ++ m) s u := by
  have hboard : .board ∉ l ++ m := by simp [h.board, k.board]
  refine ⟨?_, hboard⟩
  exact (h.only.mono fun _ => List.mem_append_left m).trans (k.only.mono fun _ => List.mem_append_right l)
    fun hp => absurd hp hboard

theorem Within.ite {l m : List Part} {s t u : State} {c : Prop} [Decidable c] (ht : Within l s t) (hu : Within m s u) :
    Within (l ++ m) s (if c then t else u) := by
  have hboard : .board ∉ l ++ m := by simp [ht.board, hu.board]
  split
  · exact ht.widen ⟨List.subset_append_left l m, hboard⟩
  · exact hu.widen ⟨List.subset_append_right l m, hboard⟩

theorem within_foldRange {l : List Part} {f : Nat → State → State} (hf : ∀ i u, Within l u (f i u)) (n : Nat) (s : State) :
    Within l s (foldRange f n s) := by
  have hboard := (hf 0 s).board
  induction n with
  | zero => exact ⟨Only.refl l s, hboard⟩
  | succ n ih => exact ⟨ih.only.trans (hf n _).only fun hp => absurd hp hboard, hboard⟩

theorem within_foldl {α : Type} {l : List Part} {f : State → α → State} (hf : ∀ u x, Within l u (f u x)) (hb : .board ∉ l)
    (xs : List α) (s : State) : Within l s (xs.foldl f s) := by
  induction xs generalizing s with
  | nil => exact ⟨Only.refl l s, hb⟩
  | cons x xs ih => exact ⟨(hf s x).only.trans (ih _).only fun hp => absurd hp hb, hb⟩

/-- Readiness stands outside a frame that leaves it out. -/
theorem Within.ready_eq {l : List Part} {s t : State} (h : Within l s t) (i : Nat) (hl : .ready ∉ l) : t.ready i = s.ready i := by
  obtain ⟨hrdy, -⟩ := h.only.2 .ready hl
  exact congrArg (BitVec.getLsbD · i) hrdy

/-! ### Frames of named updates -/

theorem only_ready (s : State) (r e f : BitVec 40) : Only [.ready] s { s with rdy := r, ever := e, fell := f } := by
  refine ⟨rfl, fun p hp => ?_⟩
  cases p <;> first | rfl | exact ⟨rfl, rfl, rfl⟩ | exact ⟨rfl, rfl⟩ | exact fun _ => rfl | exact absurd (by decide) hp

theorem only_memory (s : State) (m : List Host.Cell) (k : List (Nat × Mark)) :
    Only [.memory] s { s with mem := m, marks := k } := by
  refine ⟨rfl, fun p hp => ?_⟩
  cases p <;> first | rfl | exact ⟨rfl, rfl, rfl⟩ | exact ⟨rfl, rfl⟩ | exact fun _ => rfl | exact absurd (by decide) hp

theorem within_dropReady (s : State) (m : BitVec 40) : Within [.ready] s (s.dropReady m) := ⟨only_ready s _ _ _, by decide⟩
theorem within_setReady (s : State) (i : Nat) : Within [.ready] s (s.setReady i) := ⟨only_ready s _ _ _, by decide⟩
theorem within_wipe (s : State) (p : Nat → Bool) : Within [.memory] s (s.wipe p) := ⟨only_memory s _ _, by decide⟩
theorem within_setPll (s : State) (p : Nat) (x : PllState) : Within [.plls] s (s.setPll p x) := ⟨only_plls s _, by decide⟩
theorem within_setBox (s : State) (m : Nat) (x : Mbx) : Within [.mbx] s (s.setBox m x) := ⟨only_mbx s _, by decide⟩
theorem within_setStack (s : State) (i : Nat) (x : Stack) : Within [.dram] s (s.setStack i x) := ⟨only_dram s _, by decide⟩
theorem within_setChan (s : State) (i : Nat) (x : Dma) : Within [.dma] s (s.setChan i x) := ⟨only_dma s _, by decide⟩
theorem within_setPipe (s : State) (n : Nat) (x : Pipe) : Within [.pipes] s (s.setPipe n x) := ⟨only_pipes s _, by decide⟩
theorem within_setLane (s : State) (n : Nat) (x : Lane) : Within [.lanes] s (s.setLane n x) := ⟨only_lanes s _, by decide⟩
theorem within_setSession (s : State) (i : Nat) (x : Session) : Within [.hazel] s (s.setSession i x) :=
  ⟨only_hazel s _, by decide⟩

theorem within_withdraw (s : State) (r : Requester) : Within [.pac] s (s.withdraw r) := ⟨only_pac s _, by decide⟩
theorem within_reclaim (s : State) (p : Requester → Bool) : Within [.pac] s (s.reclaim p) := ⟨only_pac s _, by decide⟩

theorem within_endJobs (s : State) (p : Cmd → Bool) (a b : Nat) : Within [.hazel] s (s.endJobs p a b) :=
  ⟨only_hazel s _, by decide⟩

theorem within_endWaiting (s : State) (r : Requester) (a b : Nat) : Within [.hazel] s (s.endWaiting r a b) :=
  within_endJobs s _ a b

theorem within_edge (s : State) (i : Nat) : Within [.icu] s (s.edge i) := by
  unfold State.edge State.edges
  exact (((only_icu s _).within (by decide)).ite (Within.refl s)).widen (by decide)

/-! ### Frames of the work that waits on a grant -/

theorem within_haltRun (s : State) (k : Nat) : Within [.hazel, .pipes] s (s.haltRun k) :=
  (within_setSession s _ _).seq (within_foldRange (fun _ u => within_setPipe u _ _) 4 _)

theorem within_haltRuns (s : State) (p : Session → Bool) (n : Nat) : Within [.hazel, .pipes] s (s.haltRuns p n) := by
  induction n with
  | zero => exact (Within.refl s).widen (by decide)
  | succ n ih => exact ((ih.seq (within_haltRun _ n)).ite ih).widen (by decide)

theorem within_releaseIdlePipes (s : State) (n : Nat) : Within [.pac, .pipes] s (s.releaseIdlePipes n) := by
  induction n with
  | zero => exact (Within.refl s).widen (by decide)
  | succ n ih =>
    have hgone := ih.seq (within_withdraw _ ⟨.pipeJob, n⟩)
    exact (ih.ite ((hgone.seq (within_setPipe _ n _)).ite hgone)).widen (by decide)

theorem within_endPort (s : State) (n status : Nat) (detail : Nat → Nat) :
    Within [.hazel, .pac, .lanes] s (s.endPort n status detail) := by
  have hlane : ∀ u l, Within [.pac, .lanes] u ((u.withdraw ⟨.laneEnable, l⟩).setLane l
      { u.lane l with mode := 0, capture := false, realtime := false, block := [] }) :=
    fun u l => (within_withdraw u _).seq (within_setLane _ l _)
  unfold State.endPort
  split
  · exact (Within.refl s).widen (by decide)
  · exact (within_endJobs s _ _ _).seq (within_foldl hlane (by decide) _ _)

theorem within_wakeRefused (s : State) (n : Nat) : Within [.dram, .dma] s (s.wakeRefused n) := by
  have hfail : ∀ (i : Nat) (u : State), Within [.dma] u
      (if (u.chan i).touches n then u.setChan i ((u.chan i).fail 7 (u.chan i).src) else u) :=
    fun _ u => ((within_setChan u _ _).ite (Within.refl u)).widen (by decide)
  exact (within_setStack s _ _).seq (within_foldRange hfail 16 _)

theorem within_dropBist (s : State) (n : Nat) : Within [.pipes] s (s.dropBist n) := within_setPipe s _ _

theorem within_bistsLater (s : State) : Within [.pipes, .plls] s s.bistsLater := by
  have hdrop : ∀ c : State → Nat → Bool, ∀ u : State,
      Within [.pipes] u (foldRange (fun n v => if c v n then v.dropBist n else v) 4 u) := fun c u =>
    within_foldRange (fun n v => ((within_dropBist v n).ite (Within.refl v)).widen (by decide)) 4 u
  have hfirst := hdrop (fun v n => (v.pipe n).bistCmd.isSome && (v.pipe n).bist == .requested) s
  have hall := hfirst.seq (hdrop (fun v n => (v.pipe n).bist == .requested) _)
  unfold State.bistsLater
  exact (Within.ite (Within.ite (hfirst.seq (within_setPll _ _ _)) (hall.seq (within_setPll _ _ _)))
    (hfirst.seq (within_setPll _ _ _))).widen (by decide)

/-- The parts that a refusal by the PAC reaches: its own, and those of the work that waited. -/
def refusalParts : List Part := [.pac, .plls, .hazel, .pipes, .lanes, .dram, .dma, .icu]

theorem within_settleWork (s : State) (r : Requester) (status : Nat) (detail : Nat → Nat) :
    Within refusalParts s (s.settleWork r status detail) := by
  have hjobs : ∀ x : Hazel, Within [.hazel] s { s with hazel := x } := fun x => (only_hazel s x).within (by decide)
  have hwaiting := within_endWaiting s r status
  unfold State.settleWork
  cases r.kind with
  | corePll => exact (((hjobs _).seq (within_releaseIdlePipes _ 4)).seq (within_bistsLater _)).widen (by decide)
  | pipeJob => exact ((within_endJobs s _ _ _).seq (within_releaseIdlePipes _ 4)).widen (by decide)
  | quadPll =>
    exact ((within_foldRange (fun _ u => within_endPort u _ _ _) 4 s).seq (within_setPll _ _ _)).widen (by decide)
  | laneEnable => exact (within_endPort s _ _ _).widen (by decide)
  | vtcPll => exact ((hwaiting _).seq (within_setPll _ _ _)).widen (by decide)
  | dramWake => exact ((hwaiting _).seq (within_wakeRefused _ _)).widen (by decide)
  | pipeSelftest => exact (((hwaiting _).seq (within_dropBist _ _)).seq (within_setPipe _ _ _)).widen (by decide)
  | memSelftest | mramBurst => exact (hwaiting _).widen (by decide)
  | fabricPll | hazelPll | phyPll => exact (within_setPll s _ _).widen (by decide)

theorem within_refuse (s : State) (q : PacReq) (code : Nat) : Within refusalParts s (s.refuse q code) := by
  have hrecorded : ∀ p : Pac, Within [.pac, .icu] s (State.edge { s with pac := p } 95) := fun p =>
    ((only_pac s p).within (by decide)).seq (within_edge _ 95)
  unfold State.refuse State.onRefuse
  exact ((hrecorded _).seq (within_settleWork _ _ _ _)).widen (by decide)

theorem within_request (s : State) (r : Requester) (cls : Nat) : Within refusalParts s (s.request r cls) := by
  have hpac : ∀ p : Pac, Within refusalParts s { s with pac := p } := fun p =>
    ((only_pac s p).within (by decide)).widen (by decide)
  unfold State.request
  split
  · exact (Within.refl s).widen (by decide)
  · split
    · exact hpac _
    · dsimp only
      split
      · exact within_refuse s _ _
      · exact hpac _

theorem within_abandonStart (s : State) (p : Pll) : Within refusalParts s (s.abandonStart p) := by
  have hasked := ((within_withdraw s p.who).seq (within_setPll _ p.idx .requested)).seq (within_request _ p.who 1)
  unfold State.abandonStart
  exact (hasked.ite (Within.refl s)).widen (by decide)

/-! ### What a chip reset leaves (01 R57) -/

section

variable {s t : State} {c : Cause} {kept : Bool}

theorem AfterReset.cleared (h : AfterReset s t c kept) : Cleared t :=
  ⟨h.plls, h.vtc, h.pac, h.mbx, h.hazel, h.dram, h.dma, h.pipes, h.lanes, h.flows, h.ptp, h.fell⟩

theorem Cleared.settle (h : Cleared t) : Cleared t.settle := by
  simpa [Cleared] using h

/-- With the XO lost, the Husk's own bit is the only one that stands. -/
theorem AfterReset.rdy_of_lost (h : AfterReset s t c kept) (h2 : s.ready 2 = false) :
    t.rdy = rdyBit 0 := by
  rw [h.rdy, h2, Bool.and_false]
  rfl

theorem AfterReset.power_ne_idle (h : AfterReset s t c kept) : t.husk.power ≠ .idle := by
  rw [h.power]; cases kept <;> decide

/-- What follows a command leaves what a chip reset has made. -/
theorem AfterReset.settle (h : AfterReset s t c kept) : AfterReset s t.settle c kept := by
  obtain ⟨hpll, hvtc, hpac, hmbx, hhazel, hdram, hdma, hpipes, hlanes, hflows, hptp, hfell⟩ := h.cleared.settle
  exact {
    cause := by simpa using h.cause, power := (settle_power t h.power_ne_idle).trans h.power, mode := by simpa using h.mode
    pins := by simpa using h.pins, enables := by simpa using h.enables, rdy := by simpa using h.rdy, ever := by simpa using h.ever
    fell := hfell, now := by simpa using h.now, pending := by simpa using h.pending, plls := hpll, vtc := hvtc, pac := hpac
    mbx := hmbx, hazel := hhazel, dram := hdram, dma := hdma, pipes := hpipes, lanes := hlanes, flows := hflows, ptp := hptp }

/-- The fields of the Husk of which `AfterReset` speaks. -/
def Husk.resetView (h : Husk) : Cause × Power × PipMode × (Bool × Bool × Nat × Bool × Bool × Bool) × Bool × Bool × Bool :=
  (h.rstCause, h.power, h.pipMode, (h.hpEn, h.wakeIn, h.strap, h.pgMain, h.pgSrd, h.pgDram), h.enMain, h.enSrd, h.enDram)

/-- Work on the fault collector and on other fields of the Husk leaves what a chip reset has made. -/
theorem AfterReset.further (h : AfterReset s t c kept) {x : Husk} (f : Flt) (hx : x.resetView = t.husk.resetView) :
    AfterReset s { t with husk := x, flt := f } c kept := by
  obtain ⟨hpll, hvtc, hpac, hmbx, hhazel, hdram, hdma, hpipes, hlanes, hflows, hptp, hfell⟩ := h.cleared
  simp only [Husk.resetView, Prod.mk.injEq] at hx
  obtain ⟨xcause, xpower, xmode, xpins, xenables⟩ := hx
  exact {
    cause := xcause.trans h.cause, power := xpower.trans h.power, mode := xmode.trans h.mode
    pins := by simpa [xpins] using h.pins, enables := by simpa [xenables] using h.enables
    rdy := h.rdy, ever := h.ever
    fell := hfell, now := h.now, pending := h.pending, plls := hpll, vtc := hvtc, pac := hpac
    mbx := hmbx, hazel := hhazel, dram := hdram, dma := hdma, pipes := hpipes, lanes := hlanes, flows := hflows, ptp := hptp }

theorem AfterReset.plogDue (h : AfterReset s t c kept) (kind src : Nat) :
    AfterReset s (t.plogDue kind src) c kept :=
  h.further _ rfl

theorem AfterReset.reopenAs (h : AfterReset s t c kept) (src detail : Nat) :
    AfterReset s (t.reopenAs src detail) c kept :=
  h.further _ rfl

/-- In its boot ROM Pip acts on nothing. -/
theorem pipActs_of_boot (h : s.husk.pipMode = .boot) : s.pipActs = s := by
  simp [State.pipActs, State.pipServes, h]

theorem AfterReset.pipActs (h : AfterReset s t c kept) : AfterReset s t.pipActs c kept := by
  rw [pipActs_of_boot h.mode]
  exact h

/-- In Husk-awake, work starts Pip at most. -/
theorem wakePip_of_awake (h : s.husk.power = .awake) :
    ∃ b, s.wakePip = { s with husk := { s.husk with pipRun := b } } := by
  unfold State.wakePip
  split
  next hidle => cases hidle.symm.trans h
  next =>
    split
    · exact ⟨true, rfl⟩
    · exact ⟨s.husk.pipRun, rfl⟩
  next hmain => cases hmain.symm.trans h
  next => exact ⟨s.husk.pipRun, rfl⟩

/-- HP_EN found high at power-on sets its wake cause, on which Pip acts once it has left its boot ROM (02 R66, R925). -/
theorem AfterReset.wake (h : AfterReset s t c false) : AfterReset s (t.wake .hpEn) c false := by
  have hpower : t.husk.power = .awake := h.power
  obtain ⟨b, hb⟩ := wakePip_of_awake (s := { t with husk := t.husk.cause (wakeBit .hpEn) }) hpower
  have hwake : t.wake .hpEn = { t with husk := { t.husk.cause (wakeBit .hpEn) with pipRun := b } } := by
    simp only [State.wake, hpower]
    exact (congrArg State.pipActs hb).trans (pipActs_of_boot h.mode)
  rw [hwake]
  exact h.further t.flt rfl

end

/-! ### Power-on and power loss -/

/-- The device 64 slow ticks after power-on reset was applied, with its pins sampled (02 R66). -/
def State.sampled (s : State) (strap : Nat) (hpEn wakeIn : Bool) : State :=
  let t := s.advance (ticksNs 64)
  { t with husk := { t.husk with vaon := true, strap := strap, hpEn := hpEn, wakeIn := wakeIn, porAt := t.now } }

theorem powerOn_afterReset {s : State} (h : s.husk.power = .held) (strap : Nat) (hpEn wakeIn : Bool) :
    AfterReset (s.sampled strap hpEn wakeIn) (s.powerOn strap hpEn wakeIn) .por false := by
  have hreset := afterReset (s.sampled strap hpEn wakeIn) .por false []
  have hheld : (s.husk.power == .held) = true := by rw [h]; rfl
  simp only [State.powerOn, hheld, if_true]
  split
  · exact hreset.wake
  · exact hreset

theorem does_vaonFall {s : State} {P : State → Prop} : Does .vaonFall s P ↔ P s.begin.powerLost.settle :=
  does_run (f := State.powerLost) (exec_vaonFall s)

theorem powerLost_cleared (s : State) : Cleared s.powerLost :=
  ⟨rfl, rfl, rfl, rfl, rfl, rfl, rfl, rfl, rfl, rfl, rfl, rfl⟩

/-- Bank D keeps its contents without power (01 R57). -/
theorem powerLost_mem (s : State) {a : Nat} (h : inBankD a = true) : Table.get 0 s.powerLost.mem a = Table.get 0 s.mem a := by
  simp [State.powerLost, Table.get_keep, h]

theorem does_powerOn {s : State} {strap : Fin 4} {hpEn wakeIn : Bool} {P : State → Prop} :
    Does (.powerOnResetRelease strap hpEn wakeIn) s P ↔ P (s.begin.powerOn strap.val hpEn wakeIn).settle :=
  does_run (f := fun u => u.powerOn strap.val hpEn wakeIn) (exec_powerOnResetRelease strap hpEn wakeIn s)

/-- Settles O5: the loss of VAON leaves what has no supply at its reset values, and power-on is a chip reset of the sampled
device (02 R66). -/
theorem powerLossAndPowerOn : Obligations.PowerLossAndPowerOn := by
  unfold Obligations.PowerLossAndPowerOn
  refine fun s => ⟨does_vaonFall.2 ?_, fun hheld strap hpEn wakeIn => does_powerOn.2 ?_,
    fun hup strap hpEn wakeIn => does_powerOn.2 ?_⟩
  · have hheld := (settle_power_iff s.begin.powerLost .held (by decide) (by decide)).2 rfl
    have h := settled_settle s.begin.powerLost
    refine ⟨hheld, settle_husk_vaon _, h.rdy, (powerLost_cleared _).settle, fun a ha => ?_, ?_, h.pending⟩
    · rw [h.mem]
      exact powerLost_mem s.begin ha
    · rw [h.bankM]
      rfl
  · have h := (powerOn_afterReset (s := s.begin) hheld strap.val hpEn wakeIn).settle
    obtain ⟨hHpEn, hWakeIn, hStrap, -⟩ := h.pins
    have hrdy := h.rdy
    exact ⟨h.power, h.cause, h.mode, hStrap, hHpEn, hWakeIn, hrdy, h.ever.trans hrdy, h.now, h.cleared⟩
  · have hsame : s.begin.powerOn strap.val hpEn wakeIn = s.begin := by simp [State.powerOn, hup]
    rw [hsame]
    exact only_settle (Only.refl [] s) (by simp)

/-! ### The causes of a chip reset (01 R52) -/

/-- Every rail enable falls at once. -/
def State.railsDown (s : State) : State := { s with husk := { s.husk with enMain := false, enSrd := false, enDram := false } }

/-- After THERMAL_CRIT the Husk holds EN_MAIN down, and waits for PG_MAIN (02 R85). -/
def State.thermalNoted (t : State) : State :=
  { t with husk := { t.husk with thermalHold := true, mainOff := false
                                 removal := if t.husk.pgMain then some .thermal else none } }

/-- After the loss of a rail the Husk names it, and waits for PG_MAIN (02 R83). -/
def State.lossNoted (t : State) (r : Rail) : State :=
  { t with husk := { t.husk with railFault := t.husk.railFault ||| BitVec.ofNat 7 (2 ^ (4 + railNo r))
                                 removal := if t.husk.pgMain then some .loss else none, mainOff := false } }

theorem thermalCrit_eq {s : State} (h : s.husk.enMain = true) :
    s.thermalCrit = State.reopenAs (State.plogDue (State.thermalNoted
      (s.railsDown.fullChipReset (if s.husk.hpEn then .thermal else .hpRemoval) false [])) 8 13) 13 0 := by
  unfold State.thermalCrit
  rw [if_pos h]
  rfl

theorem mainLost_eq (s : State) (r : Rail) : s.mainLost r =
    (((s.railsDown.fullChipReset .mainLoss false []).lossNoted r).reopenAs 15 (2 ^ railNo r)).pipActs := rfl

theorem AfterReset.thermalNoted {s t : State} {c : Cause} {kept : Bool} (h : AfterReset s t c kept) :
    AfterReset s t.thermalNoted c kept :=
  h.further t.flt rfl

theorem AfterReset.lossNoted {s t : State} {c : Cause} {kept : Bool} (h : AfterReset s t c kept) (r : Rail) :
    AfterReset s (t.lossNoted r) c kept :=
  h.further t.flt rfl

theorem thermalCrit_afterReset {s : State} (h : s.husk.enMain = true) :
    AfterReset s.railsDown s.thermalCrit (if s.husk.hpEn then .thermal else .hpRemoval) false := by
  rw [thermalCrit_eq h]
  exact ((afterReset _ _ _ _).thermalNoted.plogDue 8 13).reopenAs 13 0

theorem mainLost_afterReset (s : State) (r : Rail) : AfterReset s.railsDown (s.mainLost r) .mainLoss false := by
  rw [mainLost_eq]
  exact (((afterReset _ _ _ _).lossNoted r).reopenAs 15 (2 ^ railNo r)).pipActs

/-- EN_MAIN falls in a removal that waits for PG_MAIN. -/
theorem lowerMain_afterReset {s : State} {r : Removal} (hon : s.mainOn = true) (hpg : s.husk.pgMain = true) :
    AfterReset { s with husk := { s.husk with enMain := false } } (s.lowerMain r) r.cause false := by
  have h := afterReset { s with husk := { s.husk with enMain := false } } r.cause false (if r = .xoFail then [10] else [])
  obtain ⟨-, -, -, hpgMain, -⟩ := h.pins
  have hup := hpgMain.trans hpg
  simp only [State.lowerMain, hon, hup, if_true]
  exact h

/-! ### An early XO loss (02 R130) -/

/-- The XO bit falls, and a new settling period begins (02 R922). -/
def State.xoDown (s : State) : State :=
  State.dropReady { s with husk := { s.husk with settled := false, monOk := false
                                                 settleDue := s.now + ticksNs s.husk.xoSettle } } (rdyBit 2)

/-- Every PLL start that uses the XO is abandoned (02 R133). -/
def State.abandonStarts (s : State) : State :=
  (((s.abandonStart .fabric).abandonStart .hazel).abandonStart .core).abandonStart .vtc

/-- What every declared XO loss does: the bit falls, the loss is reported, and PLL starts are abandoned. -/
def State.xoDropped (s : State) : State := (s.xoDown.reportHusk 10 0).abandonStarts

theorem within_abandonStarts (s : State) : Within refusalParts s s.abandonStarts :=
  ((((within_abandonStart s _).seq (within_abandonStart _ _)).seq (within_abandonStart _ _)).seq
    (within_abandonStart _ _)).widen (by decide)

theorem xoDown_ready (s : State) : s.xoDown.ready 2 = false := dropReady_ready_same _ 2

/-- The report of an XO loss changes neither readiness nor the count of early losses. -/
theorem reportHusk10_keeps (s : State) (detail : Nat) : (s.reportHusk 10 detail).rdy = s.rdy
    ∧ (s.reportHusk 10 detail).husk.earlyCount = s.husk.earlyCount := by
  obtain ⟨f, r, h⟩ := reportHusk_shape s 10 detail rfl rfl
  rw [h]
  exact ⟨rfl, rfl⟩

theorem xoDropped_keeps (s : State) : s.xoDropped.ready 2 = false ∧ s.xoDropped.husk.earlyCount = s.husk.earlyCount := by
  obtain ⟨hrdy, hcount⟩ := reportHusk10_keeps s.xoDown 0
  have hframe := within_abandonStarts (s.xoDown.reportHusk 10 0)
  have hready : (s.xoDown.reportHusk 10 0).ready 2 = false := (congrArg (BitVec.getLsbD · 2) hrdy).trans (xoDown_ready s)
  have hkept := keptHusk Husk.earlyCount (hframe.only.2 .husk (by decide)) fun _ => rfl
  unfold State.xoDropped
  exact ⟨(hframe.ready_eq 2 (by decide)).trans hready, hkept.trans hcount⟩

/-- An early loss is counted, and a reset that was due is superseded (02 R130). -/
def State.countedEarly (s : State) : State :=
  { s with husk := { s.husk with earlyCount := satAdd 4 s.husk.earlyCount 1, resetDue := none } }

theorem countedEarly_ready (s : State) (i : Nat) : s.countedEarly.ready i = s.ready i := rfl

/-- An early loss that leaves the count below 3 ends in a chip reset (02 R130). -/
theorem xoLost_early {s : State} (h2 : s.ready 2 = true) (hon : s.mainOn = true) (hn : satAdd 4 s.husk.earlyCount 1 < 3) :
    s.xoLost true = s.xoDropped.countedEarly.fullChipReset .fault true [10] := by
  have hboth : (s.ready 2 && s.mainOn) = true := by rw [h2, hon]; rfl
  rw [← (xoDropped_keeps s).2] at hn
  simp only [State.xoDropped, State.abandonStarts, State.xoDown] at hn
  simp only [State.xoLost, State.xoDropped, State.abandonStarts, State.xoDown, State.countedEarly, hboth, if_true]
  exact if_pos hn

/-! ### The clauses on chip resets -/

theorem does_chipReset {s : State} {c : Cause} {src : Option Nat} {P : State → Prop} (h : s.husk.resetDue = some (c, src)) :
    Does .chipReset s P ↔ P (s.begin.fullChipReset c s.begin.mainOn src.toList).settle := by
  have hdue : s.begin.husk.resetDue = some (c, src) := h
  rw [does_run (exec_chipReset s)]
  simp only [hdue]

theorem does_thermalCrit {s : State} {P : State → Prop} : Does .thermalCrit s P ↔ P s.begin.thermalCrit.settle :=
  does_run (f := State.thermalCrit) (exec_thermalCrit s)

/-- A power-good input that falls while its rail is enabled, outside a removal (02 R83). -/
theorem does_pgFall_enabled {s : State} {r : Rail} {P : State → Prop} (hup : s.husk.power ≠ .held)
    (hrem : s.husk.removal = none) (hen : s.husk.en r = true) (hpg : s.husk.pg r = true) :
    Does (.pgFall r) s P ↔ P (State.mainLost { s.begin with husk := s.husk.setPg r false } r).settle := by
  have hfalls : s.begin.pgFalls r = State.mainLost { s.begin with husk := s.husk.setPg r false } r := by
    simp [State.pgFalls, hup, hrem, hen, hpg]
  rw [does_run (f := fun u => u.pgFalls r) (exec_pgFall r s), hfalls]

/-- The last step of a removal, with the other enables low (02 R84). -/
theorem does_railEnableLower_main {s : State} {r : Removal} {P : State → Prop} (hrem : s.husk.removal = some r)
    (hdram : s.husk.enDram = false) (hsrd : s.husk.enSrd = false) (hmain : s.husk.enMain = true) :
    Does .railEnableLower s P ↔ P (s.begin.lowerMain r).settle := by
  have hlower : s.begin.lowerNext = s.begin.lowerMain r := by
    simp [State.lowerNext, hrem, hdram, hsrd, hmain]
  rw [does_run (f := State.lowerNext) (exec_railEnableLower s), hlower]

theorem does_xoLoss {s : State} {early : Bool} {P : State → Prop} :
    Does (.xoLoss early) s P ↔ P (s.begin.xoLost early).settle :=
  does_run (f := fun u => u.xoLost early) (exec_xoLoss early s)

/-- Settles O6: each cause ends in a chip reset with its own name, of a state whose enables are as the cause leaves them. -/
theorem chipResetsRecordTheirCause : Obligations.ChipResetsRecordTheirCause := by
  unfold Obligations.ChipResetsRecordTheirCause
  refine fun s => ⟨fun c src hdue => ?_, fun hmain => ?_, fun hup hrem r hen hpg => ?_,
    fun r hrem hdram hsrd hmain hon hpg => ?_, fun h2 hon hn => ?_⟩
  · have h := (afterReset s.begin c s.begin.mainOn src.toList).settle
    exact (does_chipReset hdue).2 ⟨h.cause, h.mode, h.cleared, h.power, h.rdy⟩
  · have hcrit := thermalCrit_afterReset (s := s.begin) hmain
    have hhold : s.begin.thermalCrit.husk.thermalHold = true := by rw [thermalCrit_eq (s := s.begin) hmain]; rfl
    have h := hcrit.settle
    obtain ⟨hm, hs, hd⟩ := h.enables
    exact does_thermalCrit.2 ⟨h.cause, hm, hs, hd, by simpa using hhold, h.rdy, h.cleared⟩
  · have h := (mainLost_afterReset { s.begin with husk := s.husk.setPg r false } r).settle
    obtain ⟨hm, hs, hd⟩ := h.enables
    exact (does_pgFall_enabled hup hrem hen hpg).2 ⟨h.cause, hm, hs, hd, h.rdy, h.cleared⟩
  · have h := (lowerMain_afterReset (s := s.begin) (r := r) hon hpg).settle
    obtain ⟨hm, -⟩ := h.enables
    exact (does_railEnableLower_main hrem hdram hsrd hmain).2 ⟨h.cause, hm, h.rdy, h.cleared⟩
  · have h := (afterReset s.begin.xoDropped.countedEarly .fault true [10]).settle
    rw [← xoLost_early (s := s.begin) h2 hon hn] at h
    have hrdy := h.rdy_of_lost ((countedEarly_ready _ 2).trans (xoDropped_keeps s.begin).1)
    have hlost : (s.begin.xoLost true).settle.ready 2 = false := by rw [State.ready, hrdy]; decide
    exact does_xoLoss.2 ⟨h.cause, hlost, h.power, h.cleared⟩

/-! ### Hazel and Pip -/

theorem chan_setChan (s : State) (j i : Nat) (x : Dma) : (s.setChan j x).chan i = if i = j then x else s.chan i :=
  Table.get_set _ _ _ _ _

/-- CH8 to CH15 at a Hazel reset (12 R654). -/
def State.resetHighChans (s : State) : State := foldRange (fun i u => if 8 ≤ i then u.setChan i (u.chan i).reset else u) 16 s

/-- The value in PIP2HZ is discarded and counted (02 R920). -/
def State.losePip2Hz (s : State) : State := s.setBox 33 (s.box 33).lose

/-- Hazel stops: its views of the interrupt controller, its NMI and its deferred work go (05 R325). -/
def State.hazelStopped (s : State) : State :=
  { s with icu := { s.icu with hazelA := {}, hazelB := {} }, flt := { s.flt with nmiPending := false }
           hazel := { s.hazel with mode := .stopped, deferred := [], closed := false } }

theorem hazelReset_eq (s : State) :
    s.hazelReset = s.resetHighChans.losePip2Hz.hazelStopped.dropReady (rdyBit 9 ||| rdyBit 10 ||| rdyBit 11) := by
  simp only [State.hazelReset, State.hazelStopped, State.losePip2Hz, State.resetHighChans]

/-- The reset of the channels from CH8 on, up to channel `n`. -/
theorem foldRange_reset_chan (s : State) (n i : Nat) :
    (foldRange (fun j u => if 8 ≤ j then u.setChan j (u.chan j).reset else u) n s).chan i =
      if 8 ≤ i ∧ i < n then (s.chan i).reset else s.chan i := by
  induction n with
  | zero => simp [foldRange]
  | succ n ih =>
    simp only [foldRange]
    split
    next h8 =>
      rw [chan_setChan]
      split
      next hin =>
        subst hin
        rw [ih, if_neg (by omega), if_pos (by omega)]
      next hin =>
        rw [ih]
        exact if_congr (by omega) rfl rfl
    next h8 =>
      rw [ih]
      exact if_congr (by omega) rfl rfl

theorem hazelReset_ready (s : State) {i : Nat} (h : (rdyBit 9 ||| rdyBit 10 ||| rdyBit 11).getLsbD i = true) :
    s.hazelReset.ready i = false := by
  rw [hazelReset_eq, dropReady_ready, h, Bool.not_true, Bool.and_false]

theorem within_resetHighChans (s : State) : Within [.dma] s s.resetHighChans :=
  within_foldRange (fun _ u => ((within_setChan u _ _).ite (Within.refl u)).widen (by decide)) 16 s

theorem within_hazelStopped (s : State) : Within [.icu, .flt, .hazel] s s.hazelStopped :=
  have h := ((only_icu s { s.icu with hazelA := {}, hazelB := {} }).within (by decide)).seq
    ((only_flt _ { s.flt with nmiPending := false }).within (by decide))
  h.seq ((only_hazel _ { s.hazel with mode := .stopped, deferred := [], closed := false }).within (by decide))

/-- What a Hazel reset reaches beside the channels. -/
theorem within_hazelReset_rest (s : State) : Within [.mbx, .icu, .flt, .hazel, .ready] s.resetHighChans s.hazelReset := by
  rw [hazelReset_eq]
  exact ((within_setBox _ 33 _).seq (within_hazelStopped _)).seq (within_dropReady _ _)

theorem within_hazelReset (s : State) : Within [.dma, .mbx, .icu, .flt, .hazel, .ready] s s.hazelReset :=
  (within_resetHighChans s).seq (within_hazelReset_rest s)

theorem hazelReset_chan (s : State) (i : Nat) :
    s.hazelReset.chan i = if 8 ≤ i ∧ i < 16 then (s.chan i).reset else s.chan i :=
  have hdma : s.hazelReset.dma = s.resetHighChans.dma := (within_hazelReset_rest s).only.2 .dma (by decide)
  (congrArg (fun d => Table.get ({} : Dma) d i) hdma).trans (foldRange_reset_chan s 16 i)

theorem within_pipReset (s : State) : Within [.husk, .icu, .ready] s s.pipReset := by
  have h := ((only_husk s { s.husk with
    pipMode := .boot, pipRun := true, power := if s.husk.power = Power.idle then Power.awake else s.husk.power }).within
    (by decide)).seq ((only_icu _ { s.icu with pip := {} }).within (by decide))
  exact h.seq (within_dropReady _ (rdyBit 1))

theorem does_hazelReset {s : State} {P : State → Prop} (hon : s.mainOn = true) (hup : s.hazelUp = true) :
    Does .hazelReset s P ↔ P s.begin.hazelReset.settle := by
  rw [does_run (exec_hazelReset s)]
  simp [hon, hup]

theorem does_pipReset {s : State} {P : State → Prop} (hup : s.huskUp = true) :
    Does .pipReset s P ↔ P s.begin.pipReset.settle := by
  rw [does_run (exec_pipReset s)]
  simp [hup]

/-- The frame of a command from that of its effect on the state in which it begins. -/
theorem Within.settled {l : List Part} {s u : State} (h : Within l s.begin u) : Only l s u.settle :=
  have hb : .board ∈ l → .mram ∈ l := fun hp => absurd hp h.board
  only_settle ((only_begin l s).trans h.only hb) hb

/-- Settles O7: both clauses read the reset's equation for readiness, channels and interrupt views, and its frame. -/
theorem hazelAndPipResets : Obligations.HazelAndPipResets := by
  unfold Obligations.HazelAndPipResets
  refine fun s => ⟨fun hon hup => (does_hazelReset hon hup).2 ?_, fun hup => (does_pipReset hup).2 ?_⟩
  · have hready : ∀ i, (rdyBit 9 ||| rdyBit 10 ||| rdyBit 11).getLsbD i = true → s.begin.hazelReset.settle.ready i = false :=
      fun i hi => (settle_ready _ i).trans (hazelReset_ready _ hi)
    have hchan : ∀ i, s.begin.hazelReset.settle.chan i = if 8 ≤ i ∧ i < 16 then (s.chan i).reset else s.chan i :=
      fun i => (settle_chan _ i).trans (hazelReset_chan _ i)
    refine ⟨?_, ?_, hready 9 (by decide), hready 10 (by decide), hready 11 (by decide), settle_hazelA_en _, settle_hazelA_pend _,
      settle_hazelB_en _, settle_hazelB_pend _, ?_, fun i hlo hhi => (hchan i).trans (if_pos ⟨hlo, hhi⟩),
      fun i hlo => (hchan i).trans (if_neg (by omega)), (within_hazelReset _).settled⟩
    · rw [(settled_settle _).hazel]; rfl
    · rw [(settled_settle _).hazel]; rfl
    · rw [(settled_settle _).flt]; rfl
  · exact ⟨settle_husk_pipMode _, (settle_ready _ 1).trans (dropReady_ready_same _ 1), settle_pip_en _, settle_pip_pend _,
      settle_hazelA_pend _, settle_host_pend _, (within_pipReset _).settled⟩

/-! ### Block resets (01 R42, R57) -/

theorem does_blockReset {s : State} {b : Block} {P : State → Prop} (hon : s.mainOn = true) :
    Does (.blockReset b) s P ↔ P (s.begin.blockReset b).settle := by
  rw [does_run (exec_blockReset b s)]
  simp [hon]

/-- A pipe of which no work is left: its jobs and self-tests have ended and its grants are reclaimed (01 R42; 06 R384). -/
def State.pipeCleared (s : State) (n : Nat) : State :=
  let k := s.pipe n
  let t := s.haltRuns (fun x => bitAt x.mask n) 64
  let t := t.endJobs (fun c => c.phase == .running && bitAt c.pipes n) 0x0301 1
  let t := t.endJobs (fun c => k.bistCmd == some (c.queue, c.seq)) 0x0301 1
  let t := t.reclaim (Block.pipeReq n)
  t.setPipe n { failed := k.failed, lastTest := k.lastTest, lastJob := k.lastJob, bistRefused := k.bistRefused }

/-- The pipe's readiness bit falls, and the other pipes give back grants for which no job remains. -/
def State.pipeDown (s : State) (n : Nat) : State := ((s.pipeCleared n).dropReady (rdyBit (16 + n))).releaseIdlePipes 4

theorem resetPipe_eq (s : State) (n : Nat) : s.resetPipe n =
    if s.ever.getLsbD (16 + n) && !(s.pipe n).failed then (s.pipeDown n).setReady (16 + n) else s.pipeDown n := rfl

theorem within_pipeCleared (s : State) (n : Nat) : Within [.hazel, .pipes, .pac] s (s.pipeCleared n) :=
  (((((within_haltRuns s _ 64).seq (within_endJobs _ _ _ _)).seq (within_endJobs _ _ _ _)).seq (within_reclaim _ _)).seq
    (within_setPipe _ _ _)).widen (by decide)

theorem within_pipeDown (s : State) (n : Nat) : Within [.hazel, .pipes, .pac, .ready] s (s.pipeDown n) :=
  (((within_pipeCleared s n).seq (within_dropReady _ _)).seq (within_releaseIdlePipes _ 4)).widen (by decide)

theorem within_resetPipe (s : State) (n : Nat) : Within [.hazel, .pipes, .pac, .ready] s (s.resetPipe n) := by
  rw [resetPipe_eq]
  exact (((within_pipeDown s n).seq (within_setReady _ _)).ite (within_pipeDown s n)).widen (by decide)

theorem resetPipe_ready (s : State) (n : Nat) (h : n < 4) :
    (s.resetPipe n).ready (16 + n) = (s.ever.getLsbD (16 + n) && !(s.pipe n).failed) := by
  have hdown : (s.pipeDown n).ready (16 + n) = false :=
    ((within_releaseIdlePipes _ 4).ready_eq _ (by decide)).trans (dropReady_ready_same _ _)
  rw [resetPipe_eq]
  exact setReady_if_ready hdown (by omega) _

theorem within_resetLane (s : State) (n : Nat) : Within [.hazel, .lanes, .pac, .ready] s (s.resetLane n) :=
  ((((within_endPort s n _ _).seq (within_setLane _ _ _)).seq (within_reclaim _ _)).seq (within_dropReady _ _)).widen (by decide)

theorem resetLane_lane (s : State) (n : Nat) : (s.resetLane n).lane n = {} := setLane_same _ n {}

/-- A stack controller at its reset, but for readiness. -/
def State.stackCleared (s : State) (n : Nat) : State :=
  let k := s.stack n
  let t := (s.wipe (inStack n)).setStack n { pinFw := k.pinFw, pinRt := k.pinRt, srIdle := k.srIdle }
  let t := t.endWaiting ⟨.memSelftest, n + 1⟩ 0x0301 1
  let t := t.endJobs (fun (c : Cmd) => c.phase == Phase.running && c.opcode == 0x503 && c.a0 % 2 == n) 0x0301 1
  t.reclaim fun r => (r.kind == .dramWake && r.inst == n) || (r.kind == .memSelftest && r.inst == n + 1)

/-- The stack's readiness bit falls, and the scrubber's with the last stack. -/
def State.stackDown (s : State) (n : Nat) : State :=
  let t := (s.stackCleared n).dropReady (rdyBit (6 + n))
  if t.ready 6 || t.ready 7 then t else t.dropReady (rdyBit 23)

/-- With its supply up the stack is asked to wake at once (12 R926). -/
theorem resetStack_eq (s : State) (n : Nat) :
    s.resetStack n = if s.husk.enDram then (s.stackDown n).wakeStack n 1 else s.stackDown n := rfl

theorem within_stackCleared (s : State) (n : Nat) : Within [.memory, .dram, .hazel, .pac] s (s.stackCleared n) := by
  unfold State.stackCleared
  exact (((((within_wipe s _).seq (within_setStack _ _ _)).seq (within_endWaiting _ _ _ _)).seq (within_endJobs _ _ _ _)).seq
    (within_reclaim _ _)).widen (by decide)

theorem stackCleared_mem (s : State) (n : Nat) : (s.stackCleared n).mem = (s.wipe (inStack n)).mem := rfl

theorem within_stackDown_ready (s : State) (n : Nat) : Within [.ready] (s.stackCleared n) (s.stackDown n) :=
  have hdrop := within_dropReady (s.stackCleared n) (rdyBit (6 + n))
  (hdrop.ite (hdrop.seq (within_dropReady _ _))).widen (by decide)

theorem within_stackDown (s : State) (n : Nat) : Within [.memory, .dram, .hazel, .pac, .ready] s (s.stackDown n) :=
  (within_stackCleared s n).seq (within_stackDown_ready s n)

theorem stackDown_ready (s : State) (n : Nat) : (s.stackDown n).ready (6 + n) = false := by
  have hdrop := dropReady_ready_same (s.stackCleared n) (6 + n)
  unfold State.stackDown
  dsimp only
  split
  · exact hdrop
  · rw [dropReady_ready, hdrop, Bool.false_and]

theorem stackDown_stack (s : State) (n : Nat) : (s.stackDown n).stack n =
    { pinFw := (s.stack n).pinFw, pinRt := (s.stack n).pinRt, srIdle := (s.stack n).srIdle } :=
  have hdram : (s.stackDown n).dram = (s.stackCleared n).dram := (within_stackDown_ready s n).only.2 .dram (by decide)
  (congrArg (fun d => Table.get ({} : Stack) d n) hdram).trans (setStack_same _ n _)

/-- What a wipe forgets lies where `p` selects. -/
theorem wipe_mem_other (s : State) {p : Nat → Bool} {a : Nat} (h : p a = false) :
    Table.get 0 (s.wipe p).mem a = Table.get 0 s.mem a := by
  simp [State.wipe, Table.get_keep, h]

theorem stackDown_mem (s : State) (n : Nat) {a : Nat} (h : inStack n a = false) :
    Table.get 0 (s.stackDown n).mem a = Table.get 0 s.mem a := by
  obtain ⟨hmem, -⟩ := (within_stackDown_ready s n).only.2 .memory (by decide)
  rw [hmem, stackCleared_mem]
  exact wipe_mem_other s h

theorem within_resetVtc (s : State) : Within [.vtc, .plls, .hazel, .pac, .icu, .ready] s s.resetVtc := by
  have hended := (within_endWaiting s ⟨.vtcPll, 0⟩ 0x0301 1).seq (within_reclaim _ fun r => r.kind == .vtcPll)
  have hstopped : ∀ u : State, Within [.vtc, .plls, .ready] u
      (State.dropReady (State.setPll { u with vtc := {} } 8 .stopped) (rdyBit 20)) := fun u =>
    (((only_vtc u {}).within (by decide)).seq (within_setPll _ 8 .stopped)).seq (within_dropReady _ _)
  unfold State.resetVtc
  dsimp only
  split
  · exact (hended.seq (hstopped _)).widen (by decide)
  · exact ((hended.seq (within_edge _ 88)).seq (hstopped _)).widen (by decide)

theorem resetVtc_vtc (s : State) : s.resetVtc.vtc = {} := rfl

theorem resetVtc_pll (s : State) : s.resetVtc.pll 8 = .stopped := setPll_same _ 8 .stopped

theorem within_resetChannel (s : State) (n : Fin 16) : Within [.dma, .hazel] s (s.blockReset (.channel n)) :=
  ((within_endJobs s _ 0x0301 1).seq (within_setChan _ n.val {})).widen (by decide)

theorem resetChannel_chan (s : State) (n : Fin 16) (i : Nat) :
    (s.blockReset (.channel n)).chan i = if i = n.val then {} else s.chan i :=
  chan_setChan _ n.val i {}

theorem within_resetPtp (s : State) : Within [.ptp, .ready] s (s.blockReset .ptp) :=
  ((only_ptp s {}).within (by decide)).seq (within_dropReady _ _)

/-! The scheduler, the scrubber and the DMA engine are ready again at once where what they depend on is ready (log 26). -/

/-- A bit that falls and sets again at once where `c` holds. -/
theorem within_readyAgain (s : State) (i : Nat) (c : Bool) :
    Within [.ready] s (if c then (s.dropReady (rdyBit i)).setReady i else s.dropReady (rdyBit i)) :=
  have hdrop := within_dropReady s (rdyBit i)
  ((hdrop.seq (within_setReady _ _)).ite hdrop).widen (by decide)

theorem within_resetScheduler (s : State) : Within [.sched, .ready] s (s.blockReset .scheduler) :=
  ((only_sched s []).within (by decide)).seq (within_readyAgain _ 22 _)

theorem resetScheduler_ready (s : State) : (s.blockReset .scheduler).ready 22 = s.ready 10 :=
  (readyAgain_ready { s with sched := [] } (by decide) _).trans (dropReady_ready_other _ (by decide))

/-- The scrubber after its reset: its settings, and no progress and no log. -/
def Scrub.reset (k : Scrub) : Scrub := { enable := k.enable, passHours := k.passHours }

theorem within_resetScrubber (s : State) : Within [.scrub, .ready] s (s.blockReset .scrubber) :=
  ((only_scrub s s.scrub.reset).within (by decide)).seq (within_readyAgain _ 23 _)

theorem resetScrubber_scrub (s : State) : (s.blockReset .scrubber).scrub = s.scrub.reset :=
  (within_readyAgain { s with scrub := s.scrub.reset } 23 _).only.2 .scrub (by decide)

theorem resetScrubber_ready (s : State) :
    (s.blockReset .scrubber).ready 23 = (s.ready 10 && s.scrub.enable && (s.ready 6 || s.ready 7)) := by
  have hother : ∀ j, 23 ≠ j → (State.dropReady { s with scrub := s.scrub.reset } (rdyBit 23)).ready j = s.ready j :=
    fun j hj => dropReady_ready_other _ hj
  rw [← hother 10 (by decide), ← hother 6 (by decide), ← hother 7 (by decide)]
  exact readyAgain_ready { s with scrub := s.scrub.reset } (by decide) _

theorem within_resetDmaEngine (s : State) : Within [.dma, .hazel, .ready] s (s.blockReset .dmaEngine) :=
  (((within_endJobs s _ 0x0301 1).seq ((only_dma _ []).within (by decide))).seq (within_readyAgain _ 13 _)).widen (by decide)

theorem resetDmaEngine_dma (s : State) : (s.blockReset .dmaEngine).dma = [] :=
  (within_readyAgain { s.endJobs (fun (c : Cmd) => c.phase == Phase.running && c.chan != 0) 0x0301 1 with dma := [] } 13 _).only.2
    .dma (by decide)

theorem resetDmaEngine_ready (s : State) : (s.blockReset .dmaEngine).ready 13 = s.ready 4 :=
  (readyAgain_ready { s.endJobs (fun (c : Cmd) => c.phase == Phase.running && c.chan != 0) 0x0301 1 with dma := [] }
    (by decide) _).trans (dropReady_ready_other _ (by decide))

theorem within_resetLfs (s : State) : Within [.lfs, .hazel, .memory, .ready] s (s.blockReset .lfs) :=
  ((((only_lfs s {}).within (by decide)).seq ((only_hazel _ { s.hazel with jobs := [] }).within (by decide))).seq
    (within_wipe _ inLfs)).seq (within_dropReady _ _)

theorem within_resetBankD (s : State) : Within [.pac, .ready] s (s.blockReset .bankD) :=
  (within_reclaim s _).seq (within_dropReady _ _)

/-- What a settled state says of readiness is what its effect left. -/
theorem settled_ready {s : State} {i : Nat} {b : Bool} (h : s.ready i = b) : s.settle.ready i = b :=
  (settle_ready s i).trans h

/-- Settles O8, block by block: readiness after the reset, what the block then holds, and the frame of its reset. -/
theorem blockResetsReachTheirBlock : Obligations.BlockResetsReachTheirBlock := by
  unfold Obligations.BlockResetsReachTheirBlock
  refine fun s hon => ⟨fun n => (does_blockReset hon).2 ?pipe, fun n => (does_blockReset hon).2 ?lane,
    fun hdram n => (does_blockReset hon).2 ?stack, fun n => (does_blockReset hon).2 ?channel, (does_blockReset hon).2 ?vtc,
    (does_blockReset hon).2 ?ptp, (does_blockReset hon).2 ?scheduler, (does_blockReset hon).2 ?scrubber,
    (does_blockReset hon).2 ?lfs, (does_blockReset hon).2 ?bankD, (does_blockReset hon).2 ?dmaEngine⟩
  case pipe => exact ⟨settled_ready (resetPipe_ready s.begin n n.isLt), (within_resetPipe _ n).settled⟩
  case lane =>
    exact ⟨(settle_lane _ n).trans (resetLane_lane _ n), settled_ready (dropReady_ready_same _ (24 + n.val)),
      (within_resetLane _ n).settled⟩
  case stack =>
    have hdown : s.begin.blockReset (.stack n) = s.begin.stackDown n :=
      (resetStack_eq s.begin n).trans (if_neg (ne_true_of_eq_false hdram))
    have hstack := (settle_stack _ n).trans (stackDown_stack s.begin n)
    rw [hdown]
    refine ⟨settled_ready (stackDown_ready s.begin n), ?_, ?_, fun a ha => ?_, (within_stackDown _ n).settled⟩
    · rw [hstack]
    · rw [hstack]
    · rw [(settled_settle _).mem]
      exact stackDown_mem s.begin n ha
  case channel =>
    have hchan : ∀ i, (s.begin.blockReset (.channel n)).settle.chan i = if i = n.val then {} else s.chan i :=
      fun i => (settle_chan _ i).trans (resetChannel_chan s.begin n i)
    exact ⟨(hchan n).trans (if_pos rfl), fun i hi => (hchan i).trans (if_neg hi), (within_resetChannel _ n).settled⟩
  case vtc =>
    exact ⟨(settled_settle _).vtc.trans (resetVtc_vtc _), (settle_pll _ 8).trans (resetVtc_pll _),
      settled_ready (dropReady_ready_same _ 20), (within_resetVtc _).settled⟩
  case ptp =>
    exact ⟨(settled_settle _).ptp, settled_ready (dropReady_ready_same _ 21), (within_resetPtp _).settled⟩
  case scheduler =>
    have hsched : (s.begin.blockReset .scheduler).sched = [] :=
      (within_readyAgain { s.begin with sched := [] } 22 _).only.2 .sched (by decide)
    exact ⟨(settled_settle _).sched.trans hsched, settled_ready (resetScheduler_ready s.begin),
      (within_resetScheduler _).settled⟩
  case scrubber =>
    have hscrub := (settled_settle _).scrub.trans (resetScrubber_scrub s.begin)
    refine ⟨?_, ?_, ?_, settled_ready (resetScrubber_ready s.begin), (within_resetScrubber _).settled⟩
    all_goals rw [hscrub]; rfl
  case lfs =>
    have hmem : ∀ a, inLfs a = false → Table.get 0 (s.begin.blockReset .lfs).mem a = Table.get 0 s.mem a :=
      fun a ha => wipe_mem_other s ha
    refine ⟨settled_ready (dropReady_ready_same _ 5), ?_, fun a ha => ?_, (within_resetLfs _).settled⟩
    · rw [(settled_settle _).hazel]; rfl
    · rw [(settled_settle _).mem]
      exact hmem a ha
  case bankD => exact ⟨settled_ready (dropReady_ready_same _ 8), (within_resetBankD _).settled⟩
  case dmaEngine =>
    exact ⟨(settled_settle _).dma.trans (resetDmaEngine_dma _), settled_ready (resetDmaEngine_ready s.begin),
      (within_resetDmaEngine _).settled⟩

end Sys2Proof.Machine
end

section
/-! PROOFS of 02_husk_clocks_waking.md. The Husk sleeps and wakes (R66 to R74, R116 to R129), main rails and their power-good
inputs (R80 to R85), the slow clock and the XO (R75 to R78, R86, R130 to R133), PLLs (R90 to R97), the video timing clock (R99 to
R103), the start of Pip and Hazel (R104 to R111), and the PAC's load, clamp and budgets (03 R165 to R180). -/

namespace Sys2Proof.Machine

/-! ### One part put -/

/-- The state with its fault collector replaced. -/
def State.setFlt (s : State) (f : Flt) : State := { s with flt := f }

/-- The state with its answer replaced. -/
def State.setAnswer (s : State) (x : Answer) : State := { s with answer := x }

@[simp] theorem setHusk_husk (s : State) (h : Husk) : (s.setHusk h).husk = h := rfl

theorem within_setHusk (s : State) (h : Husk) : Within [.husk] s (s.setHusk h) := ⟨only_husk s h, by decide⟩
theorem within_setPac (s : State) (p : Pac) : Within [.pac] s (s.setPac p) := ⟨only_pac s p, by decide⟩
theorem within_setFlt (s : State) (f : Flt) : Within [.flt] s (s.setFlt f) := ⟨only_flt s f, by decide⟩

/-- The answer belongs to no part. -/
theorem within_setAnswer (s : State) (x : Answer) : Within [] s (s.setAnswer x) :=
  ⟨(Only.refl [] s).answered s.outs x, by decide⟩

theorem within_advance (s : State) (d : Nat) : Within [.time, .ptp] s (s.advance d) := by
  refine ⟨⟨rfl, fun p hp => ?_⟩, by decide⟩
  cases p <;> first | rfl | exact ⟨rfl, rfl, rfl⟩ | exact ⟨rfl, rfl⟩ | exact fun _ => rfl | exact absurd (by decide) hp

/-- To wait for a moment is to let some time pass. -/
theorem until_shape (s : State) (due : Nat) : ∃ d, s.until due = s.advance d := ⟨_, rfl⟩

theorem within_until (s : State) (due : Nat) : Within [.time, .ptp] s (s.until due) := within_advance s _

/-- The present is not before the moment that has been waited for. -/
theorem le_until_now (s : State) (due : Nat) : due ≤ (s.until due).now := by
  simp only [State.until, State.advance]
  omega

/-- The frame of a command whose effect is on the Husk alone. -/
theorem only_setHusk_settled (s : State) (h : Husk) : Only [.husk] s (s.begin.setHusk h).settle :=
  (within_setHusk s.begin h).settled

/-! ### The Husk's power state, and what starts Pip (02 R66, R67) -/

/-- Settling leaves Dormant to no device and brings none into it. -/
theorem settle_dormant_iff (s : State) : s.settle.husk.power = .dormant ↔ s.husk.power = .dormant :=
  settle_power_iff s .dormant (by decide) (by decide)

theorem huskUp_iff {s : State} : s.huskUp = true ↔ s.husk.power ≠ .held ∧ s.husk.power ≠ .dormant := by
  simp [State.huskUp]

/-- The Husk in power state `p`, with Pip running or not. -/
def Husk.inPower (h : Husk) (run : Bool) (p : Power) : Husk := { h with pipRun := run, power := p }

/-- Work starts Pip, and takes an idle Husk to Husk-awake; nothing else follows from it. -/
theorem wakePip_shape (s : State) : ∃ b p, s.wakePip = s.setHusk (s.husk.inPower b p) ∧
    (p = s.husk.power ∨ (s.husk.power = .idle ∧ p = .awake)) := by
  have hsame : ∃ b p, s = s.setHusk (s.husk.inPower b p) ∧ (p = s.husk.power ∨ (s.husk.power = .idle ∧ p = .awake)) :=
    ⟨s.husk.pipRun, s.husk.power, rfl, .inl rfl⟩
  have hrun : ∃ b p, s.setHusk { s.husk with pipRun := true } = s.setHusk (s.husk.inPower b p) ∧
      (p = s.husk.power ∨ (s.husk.power = .idle ∧ p = .awake)) := ⟨true, s.husk.power, rfl, .inl rfl⟩
  unfold State.wakePip
  split
  next hidle =>
    split
    · exact ⟨true, .awake, rfl, .inr ⟨hidle, rfl⟩⟩
    · exact hsame
  · split
    · exact hrun
    · exact hsame
  · split
    · exact hrun
    · exact hsame
  · exact hsame

/-- Pip has heard the requests of HSK_CTRL. -/
def Husk.heard (h : Husk) : Husk := { h with ctrl := 0 }

theorem Husk.heard_of_none {h : Husk} (hc : h.ctrl = 0) : h.heard = h := by
  cases h
  cases hc
  rfl

/-- Without a wake cause that Pip has not seen and without a kept request, Pip acts on HSK_CTRL alone (02 R67, R116). -/
theorem pipActs_of_quiet {s : State} (hs : s.pipServes = true) (hn : s.husk.wakeCause &&& ~~~s.husk.causeSeen = 0)
    (hk : s.husk.keptOn = false) : s.pipActs =
      (let t := s.setHusk s.husk.heard
       let t := if s.husk.ctrl.getLsbD 2 then t.dormantRequest else t
       let t := if s.husk.ctrl.getLsbD 1 then t.offRequest else t
       if s.husk.ctrl.getLsbD 0 then t.mainRequest else t) := by
  have hheard : { s.husk with ctrl := 0, causeSeen := s.husk.causeSeen ||| (s.husk.wakeCause &&& ~~~s.husk.causeSeen)
                              keptOn := s.husk.keptOn && !(s.husk.keptOn && s.husk.removal.isNone && !s.husk.mainOff) } =
      s.husk.heard := by
    simp [Husk.heard, hn, hk]
  unfold State.pipActs
  rw [if_pos hs]
  dsimp only
  rw [hheard]
  simp [hn, hk, State.setHusk]

/-- With no request, no cause that Pip has not seen and no kept request, Pip acts on nothing. -/
theorem pipActs_of_nothing {s : State} (hc : s.husk.ctrl = 0) (hk : s.husk.keptOn = false)
    (hn : s.husk.wakeCause &&& ~~~s.husk.causeSeen = 0) : s.pipActs = s := by
  by_cases hs : s.pipServes = true
  · rw [pipActs_of_quiet hs hn hk, Husk.heard_of_none hc]
    simp [hc, State.setHusk]
  · exact if_neg hs

/-! ### Wake sources (02 R71, R74, R117, R120, R121) -/

/-- The Husk once source `w` has woken it from Dormant. -/
def Husk.woken (h : Husk) (w : WakeSource) : Husk := { h.cause (wakeBit w) with power := .idle, pipMode := .boot }

theorem wake_of_dormant (s : State) (w : WakeSource) (hd : s.husk.power = .dormant) :
    s.wake w = if s.husk.wakeEnabled w then s.setHusk (s.husk.woken w) else s := by
  unfold State.wake
  rw [hd]
  rfl

theorem edgeSelected_enabled {h : Husk} {rising : Bool} (he : h.edgeSelected rising = true) : h.wakeEnabled .wakeIn = true := by
  have hmode : bitsOf h.cfg 5 2 ≠ 3 := by
    intro h3
    simp [Husk.edgeSelected, h3] at he
  simpa [Husk.wakeEnabled] using hmode

/-- A source that wakes the Husk leaves its cause, and a Husk out of Dormant. -/
theorem woken_settled (s : State) (h : Husk) (w : WakeSource) :
    (s.setHusk (h.woken w)).settle.husk.wakeCause = h.wakeCause ||| wakeBit w ∧
      (s.setHusk (h.woken w)).settle.husk.power ≠ .dormant := by
  refine ⟨settle_husk_wakeCause _, fun hdormant => ?_⟩
  have hidle : Power.idle = .dormant := (settle_dormant_iff (s.setHusk (h.woken w))).1 hdormant
  cases hidle

theorem does_pipTimer {s : State} {P : State → Prop} (hup : s.huskUp = true) :
    Does .pipTimer s P ↔ P (s.begin.setHusk { s.husk with timerExpired := true }).settle := by
  rw [does_run (exec_pipTimer s), if_pos (show s.begin.huskUp = true from hup)]
  rfl

/-- WAKE_IN has taken a level. -/
def Husk.edged (h : Husk) (rising : Bool) : Husk := { h with wakeIn := rising }

theorem does_wakeInEdge {s : State} {rising : Bool} {P : State → Prop} : Does (.wakeInEdge rising) s P ↔
    P (State.settle (if s.husk.edgeSelected rising then (s.begin.setHusk (s.husk.edged rising)).wake .wakeIn
      else s.begin.setHusk (s.husk.edged rising))) :=
  does_run (f := fun u => if u.husk.edgeSelected rising then (u.setHusk (u.husk.edged rising)).wake .wakeIn
    else u.setHusk (u.husk.edged rising)) (exec_wakeInEdge rising s)

/-- HP_EN has risen: the write gate is open, and no removal record is due (04 R243, R244). -/
def Husk.hpRisen (h : Husk) : Husk := { h with hpEn := true, gateClosed := false, removalDue := false }

theorem does_hpEnRise {s : State} {P : State → Prop} (h : s.husk.hpEn = false) :
    Does .hpEnRise s P ↔ P ((s.begin.setHusk s.husk.hpRisen).wake .hpEn).settle := by
  rw [does_run (exec_hpEnRise s), if_neg (show ¬ s.begin.husk.hpEn = true from ne_true_of_eq_false h)]
  rfl

theorem does_smbusWakeMatch_dormant {s : State} {P : State → Prop} (hd : s.husk.power = .dormant) :
    Does .smbusWakeMatch s P ↔ P ((s.begin.wake .smbus).setAnswer .nack).settle := by
  have hdormant : (s.begin.husk.power == .dormant) = true := by simp [hd]
  rw [does_run (exec_smbusWakeMatch s), if_pos hdormant]
  rfl

theorem does_smbusWakeMatch_up {s : State} {P : State → Prop} (hup : s.huskUp = true) :
    Does .smbusWakeMatch s P ↔ P (s.begin.setAnswer .ack).settle := by
  obtain ⟨-, hd⟩ := huskUp_iff.1 hup
  have hdormant : ¬ (s.begin.husk.power == .dormant) = true := by simp [hd]
  rw [does_run (exec_smbusWakeMatch s), if_neg hdormant, if_pos (show s.begin.huskUp = true from hup)]
  rfl

/-- HSK_ALARM reads 0 (02 R121). -/
def Husk.alarmOver (h : Husk) : Husk := { h with alarm := 0 }

/-- The alarm wakes the device some time later, when its count has run down. -/
theorem exec_alarm_eq {s : State} (ha : s.husk.alarm ≠ 0) (hheld : s.husk.power ≠ .held) :
    ∃ d, exec .alarm s = .next (((s.begin.advance d).setHusk s.husk.alarmOver).wake .alarm).settle := by
  have hruns : ¬ (s.begin.husk.alarm = 0 ∨ s.begin.husk.power = .held) := not_or.2 ⟨ha, hheld⟩
  obtain ⟨d, hd⟩ := until_shape s.begin s.begin.husk.alarmDue
  refine ⟨d, ?_⟩
  rw [exec_alarm, execAlarm, run_eq, if_neg hruns]
  dsimp only
  rw [hd]
  rfl

theorem wakeInEdge_dormant {s : State} (hd : s.husk.power = .dormant) (rising : Bool) (he : s.husk.edgeSelected rising = true) :
    Does (.wakeInEdge rising) s fun t =>
      t.husk.wakeIn = rising ∧ t.husk.wakeCause = s.husk.wakeCause ||| 1 ∧ t.husk.power ≠ .dormant ∧ Only [.husk] s t := by
  have hwake := (wake_of_dormant (s.begin.setHusk (s.husk.edged rising)) .wakeIn hd).trans (if_pos (edgeSelected_enabled he))
  obtain ⟨hcause, hpower⟩ := woken_settled s.begin (s.husk.edged rising) .wakeIn
  rw [does_wakeInEdge, if_pos he, hwake]
  exact ⟨settle_husk_wakeIn _, hcause, hpower, only_setHusk_settled s _⟩

theorem hpEnRise_dormant_enabled {s : State} (hd : s.husk.power = .dormant) (hen : s.husk.hpEn = false)
    (he : s.husk.wakeEnabled .hpEn = true) : Does .hpEnRise s fun t =>
      t.husk.hpEn = true ∧ t.husk.gateClosed = false ∧ t.husk.wakeCause = s.husk.wakeCause ||| 2 ∧ t.husk.power ≠ .dormant ∧
        Only [.husk] s t := by
  have hwake := (wake_of_dormant (s.begin.setHusk s.husk.hpRisen) .hpEn hd).trans (if_pos he)
  obtain ⟨hcause, hpower⟩ := woken_settled s.begin s.husk.hpRisen .hpEn
  rw [does_hpEnRise hen, hwake]
  exact ⟨settle_husk_hpEn _, settle_husk_gateClosed _, hcause, hpower, only_setHusk_settled s _⟩

theorem hpEnRise_dormant_disabled {s : State} (hd : s.husk.power = .dormant) (hen : s.husk.hpEn = false)
    (he : s.husk.wakeEnabled .hpEn = false) : Does .hpEnRise s fun t =>
      t.husk.hpEn = true ∧ t.husk.gateClosed = false ∧ t.husk.power = .dormant ∧ Only [.husk] s t := by
  have hwake := (wake_of_dormant (s.begin.setHusk s.husk.hpRisen) .hpEn hd).trans (if_neg (ne_true_of_eq_false he))
  rw [does_hpEnRise hen, hwake]
  exact ⟨settle_husk_hpEn _, settle_husk_gateClosed _, (settle_dormant_iff _).2 hd, only_setHusk_settled s _⟩

theorem smbusWakeMatch_dormant {s : State} (hd : s.husk.power = .dormant) (he : s.husk.wakeEnabled .smbus = true) :
    Does .smbusWakeMatch s fun t => t.answer = .nack ∧ t.husk.wakeCause = s.husk.wakeCause ||| 4 ∧ t.husk.power ≠ .dormant ∧
      Only [.husk] s t := by
  have hwake := (wake_of_dormant s.begin .smbus hd).trans (if_pos he)
  obtain ⟨hcause, hpower⟩ := woken_settled (s.begin.setAnswer .nack) s.husk .smbus
  rw [does_smbusWakeMatch_dormant hd, hwake]
  exact ⟨(settled_settle _).answer, hcause, hpower, ((within_setHusk s.begin _).seq (within_setAnswer _ _)).settled⟩

theorem alarm_dormant {s : State} (hd : s.husk.power = .dormant) (ha : s.husk.alarm ≠ 0) (he : s.husk.wakeEnabled .alarm = true) :
    Does .alarm s fun t => t.husk.alarm = 0 ∧ t.husk.wakeCause = s.husk.wakeCause ||| 8 ∧ t.husk.power ≠ .dormant ∧
      Only [.husk, .time, .ptp] s t := by
  obtain ⟨d, hexec⟩ := exec_alarm_eq ha (fun h => absurd (hd.symm.trans h) (by decide))
  have hwake := (wake_of_dormant ((s.begin.advance d).setHusk s.husk.alarmOver) .alarm hd).trans (if_pos he)
  obtain ⟨hcause, hpower⟩ := woken_settled (s.begin.advance d) s.husk.alarmOver .alarm
  have hframe := (within_advance s.begin d).seq (within_setHusk _ (s.husk.alarmOver.woken .alarm))
  rw [hwake] at hexec
  exact ⟨_, hexec, settle_husk_alarm _, hcause, hpower, (hframe.widen (by decide)).settled⟩

/-! ### Dormant is entered, and Pip stops (02 R66, R67, R129) -/

theorem does_dormantEntry {s : State} {w : Option WakeSource} {P : State → Prop} :
    Does (.dormantEntry w) s P ↔ P (s.begin.dormantCommit w).settle :=
  does_run (f := fun u => u.dormantCommit w) (exec_dormantEntry w s)

/-- The conditions of the commit tick of the Dormant entry. -/
def Husk.commits (h : Husk) : Bool := h.power == .idle && h.wakeCause == 0 && (h.goDormant || bitsOf h.cfg 16 16 != 0)

/-- The Husk in Dormant. -/
def Husk.asleep (h : Husk) : Husk := { h with power := .dormant, goDormant := false, pipMode := .boot, pipRun := false }

/-- The Husk once source `w` has fired in the commit tick of the Dormant entry. -/
def Husk.keptAwake (h : Husk) (w : WakeSource) : Husk :=
  { h.cause ((if w = .smbus then 0 else wakeBit w) ||| 16) with
    goDormant := false, alarm := if w = WakeSource.alarm then 0 else h.alarm }

theorem dormantCommit_none {s : State} (h : s.husk.commits = true) :
    s.dormantCommit none = (s.setHusk s.husk.asleep).dropReady (rdyBit 1) :=
  if_pos h

theorem dormantCommit_some {s : State} (h : s.husk.commits = true) (w : WakeSource) :
    s.dormantCommit (some w) = (s.setHusk (s.husk.keptAwake w)).wakePip.pipActs :=
  if_pos h

section

variable {s : State} (hidle : s.husk.power = .idle) (hc : s.husk.wakeCause = 0)
  (hg : s.husk.goDormant = true ∨ bitsOf s.husk.cfg 16 16 ≠ 0)
include hidle hc hg

theorem commits_of_idle : s.husk.commits = true := by
  simpa [Husk.commits, hidle, hc] using hg

theorem dormantEntry_none : Does (.dormantEntry none) s fun t =>
    t.husk.power = .dormant ∧ t.husk.goDormant = false ∧ t.ready 1 = false ∧ Only [.husk, .ready] s t := by
  have hcommit := dormantCommit_none (s := s.begin) (commits_of_idle hidle hc hg)
  rw [does_dormantEntry, hcommit]
  exact ⟨(settle_dormant_iff _).2 rfl, settle_husk_goDormant _, (settle_ready _ 1).trans (dropReady_ready_same _ 1),
    ((within_setHusk s.begin _).seq (within_dropReady _ _)).settled⟩

theorem dormantEntry_coincident (w : WakeSource) (hboot : s.husk.pipMode = .boot) : Does (.dormantEntry (some w)) s fun t =>
    t.husk.power ≠ .dormant ∧ t.husk.goDormant = false ∧ t.husk.wakeCause &&& 16 = 16 ∧ Only [.husk] s t := by
  obtain ⟨b, p, hwake, hp⟩ := wakePip_shape (s.begin.setHusk (s.begin.husk.keptAwake w))
  have hpower : p ≠ .dormant := by
    rcases hp with rfl | ⟨-, rfl⟩
    · exact fun h => absurd (hidle.symm.trans h) (by decide)
    · decide
  have hacts : (s.begin.setHusk (s.begin.husk.keptAwake w)).wakePip.pipActs =
      s.begin.setHusk ((s.begin.husk.keptAwake w).inPower b p) :=
    (congrArg State.pipActs hwake).trans (pipActs_of_boot hboot)
  have hcommit := dormantCommit_some (s := s.begin) (commits_of_idle hidle hc hg) w
  have hbit : (s.husk.wakeCause ||| ((if w = .smbus then 0 else wakeBit w) ||| 16)) &&& 16 = 16 := by
    rw [hc]
    cases w <;> decide
  rw [does_dormantEntry, hcommit, hacts]
  refine ⟨fun h => hpower ((settle_dormant_iff _).1 h), settle_husk_goDormant _, ?_, only_setHusk_settled s _⟩
  rw [settle_husk_wakeCause]
  exact hbit

end

theorem dormantEntry_not_idle {s : State} (h : s.husk.power ≠ .idle) (w : Option WakeSource) :
    Does (.dormantEntry w) s fun t => Only [] s t := by
  have hcommit : s.begin.dormantCommit w = s.begin := by simp [State.dormantCommit, h]
  rw [does_dormantEntry, hcommit]
  exact (Within.refl s.begin).settled

/-- The Husk once Pip has cleared the causes on which it has acted. -/
def Husk.causesCleared (h : Husk) : Husk :=
  { h with wakeCause := h.wakeCause &&& ~~~h.causeSeen, causeSeen := 0, ctrlWritten := false, timerExpired := false }

/-- Pip clears the causes, and stops unless it has work. -/
theorem pipStops_shape {s : State} (hs : s.pipServes = true) (hr : s.husk.pipRun = true) :
    ∃ b p, s.pipStops = s.setHusk (s.husk.causesCleared.inPower b p) := by
  have hboth : (s.pipServes && s.husk.pipRun) = true := by rw [hs, hr]; rfl
  unfold State.pipStops
  rw [if_pos hboth]
  dsimp only
  split
  · exact ⟨s.husk.pipRun, s.husk.power, rfl⟩
  · exact ⟨false, _, rfl⟩

theorem pipStop_clears {s : State} (hs : s.pipServes = true) (hr : s.husk.pipRun = true) : Does .pipStop s fun t =>
    t.husk.wakeCause = s.husk.wakeCause &&& ~~~s.husk.causeSeen ∧ t.husk.causeSeen = 0 ∧ t.husk.ctrlWritten = false ∧
      t.husk.timerExpired = false ∧ Only [.husk] s t := by
  obtain ⟨b, p, hstop⟩ := pipStops_shape (s := s.begin) hs hr
  rw [does_run (f := State.pipStops) (exec_pipStop s), hstop]
  exact ⟨settle_husk_wakeCause _, settle_husk_causeSeen _, settle_husk_ctrlWritten _, settle_husk_timerExpired _,
    only_setHusk_settled s _⟩

/-- Settles O1, clause by clause: the wake sources while the Husk is up and in Dormant, the entry of Dormant, and Pip's stop. -/
theorem theHuskSleepsAndWakes : Obligations.TheHuskSleepsAndWakes := by
  unfold Obligations.TheHuskSleepsAndWakes
  refine ⟨fun s => ⟨fun hup => ?_, fun rising he => ?_, fun hd => ?_, fun hup => ?_⟩, fun s => ⟨fun hidle hc hg => ?_, ?_, ?_⟩⟩
  · exact (does_pipTimer hup).2 ⟨settle_husk_timerExpired _, only_setHusk_settled s _⟩
  · rw [does_wakeInEdge, if_neg (ne_true_of_eq_false he)]
    exact ⟨settle_husk_wakeIn _, settle_husk_wakeCause _, only_setHusk_settled s _⟩
  · exact ⟨wakeInEdge_dormant hd, hpEnRise_dormant_enabled hd, hpEnRise_dormant_disabled hd,
      smbusWakeMatch_dormant hd, alarm_dormant hd⟩
  · exact (does_smbusWakeMatch_up hup).2 ⟨(settled_settle _).answer, (within_setAnswer s.begin _).settled⟩
  · exact ⟨dormantEntry_none hidle hc hg, dormantEntry_coincident hidle hc hg⟩
  · exact dormantEntry_not_idle
  · exact pipStop_clears

end Sys2Proof.Machine
end


section
/-! PROOFS of 02_husk_clocks_waking.md. Pip's requests of the main rails, of main-off and of Dormant. -/

namespace Sys2Proof.Machine

/-! ### Pip's requests (02 R70, R72, R80, R82, R116) -/

/-- HSK_CTRL has been written, and Pip has heard what it asks. -/
def Husk.served (h : Husk) (run : Bool) (p : Power) : Husk := { h with ctrlWritten := true, ctrl := 0, pipRun := run, power := p }

/-- A write of HSK_CTRL starts Pip, which acts on what was written and on nothing else. -/
theorem writeCtrl_of_quiet {s : State} (hs : s.pipServes = true) (hc : s.husk.ctrl = 0) (hn : s.husk.wakeCause = 0)
    (hk : s.husk.keptOn = false) (c : BitVec 3) :
    ∃ b p, (p = s.husk.power ∨ (s.husk.power = .idle ∧ p = .awake)) ∧ s.writeCtrl c =
      (let t := s.setHusk (s.husk.served b p)
       let t := if c.getLsbD 2 then t.dormantRequest else t
       let t := if c.getLsbD 1 then t.offRequest else t
       if c.getLsbD 0 then t.mainRequest else t) := by
  obtain ⟨hup, hmode⟩ : s.huskUp = true ∧ (s.husk.pipMode != .boot) = true := by simpa [State.pipServes] using hs
  obtain ⟨hheld, hdormant⟩ := huskUp_iff.1 hup
  obtain ⟨b, p, hwake, hp⟩ := wakePip_shape (s.setHusk { s.husk with ctrlWritten := true, ctrl := c })
  have hserves : ((s.setHusk { s.husk with ctrlWritten := true, ctrl := c }).wakePip).pipServes = true := by
    rw [hwake]
    have hp' : p ≠ .held ∧ p ≠ .dormant := by
      rcases hp with rfl | ⟨-, rfl⟩
      · exact ⟨hheld, hdormant⟩
      · decide
    simpa [State.pipServes, State.huskUp, Husk.inPower, hp'] using hmode
  have hwrite : s.writeCtrl c = (s.setHusk { s.husk with ctrlWritten := true, ctrl := c }).wakePip.pipActs := by
    have hor : s.husk.ctrl ||| c = c := by simp [hc]
    unfold State.writeCtrl
    rw [if_pos hup]
    dsimp only
    rw [hor]
    rfl
  refine ⟨b, p, hp, ?_⟩
  rw [hwake] at hserves hwrite
  rw [hwrite, pipActs_of_quiet hserves (by simp [Husk.inPower, hn]) hk]
  rfl

theorem mainRequest_of_low {s : State} (h : s.husk.hpEn = false) : s.mainRequest = s := by
  simp [State.mainRequest, h]

/-- The main rails have been asked for. -/
def Husk.mainAsked (h : Husk) : Husk :=
  { h with thermalHold := false, enMain := true, goDormant := false, power := .awake, pipRun := true }

theorem mainRequest_raises {s : State} (hen : s.husk.hpEn = true) (hhot : s.heldHot = false) (hrem : s.husk.removal = none)
    (hoff : s.husk.mainOff = false) (hpow : s.husk.power ≠ .mainOn) (hm : s.husk.enMain = false) (hpg : s.husk.pgMain = false) :
    s.mainRequest = s.setHusk s.husk.mainAsked := by
  simp [State.mainRequest, State.setHusk, Husk.mainAsked, hen, hhot, hrem, hoff, hpow, hm, hpg]

/-- A main-off has been asked for, and when. -/
def Husk.offAsked (h : Husk) (now : Nat) : Husk := { h with mainOff := true, mainOffAt := now }

theorem offRequest_of_mainOn {s : State} (hrem : s.husk.removal = none) (hoff : s.husk.mainOff = false)
    (hon : s.husk.power = .mainOn) (hz : s.hazel.mode = .stopped) : s.offRequest = s.setHusk (s.husk.offAsked s.now) := by
  simp [State.offRequest, State.tellHazelOff, State.setHusk, Husk.offAsked, hrem, hoff, hon, hz]

theorem offRequest_of_off {s : State} (hpow : s.husk.power ≠ .mainOn) (hm : s.husk.enMain = false) : s.offRequest = s := by
  simp [State.offRequest, hpow, hm]

theorem does_mainOn {s : State} {P : State → Prop} : Does .mainOn s P ↔ P (s.begin.writeCtrl 1).settle :=
  does_run (f := fun u => u.writeCtrl 1) (exec_mainOn s)

theorem does_mainOff {s : State} {P : State → Prop} : Does .mainOff s P ↔ P (s.begin.writeCtrl 2).settle :=
  does_run (f := fun u => u.writeCtrl 2) (exec_mainOff s)

theorem does_goDormant {s : State} {P : State → Prop} : Does .goDormant s P ↔ P (s.begin.writeCtrl 4).settle :=
  does_run (f := fun u => u.writeCtrl 4) (exec_goDormant s)

section

variable {s : State} (hs : s.pipServes = true) (hc : s.husk.ctrl = 0) (hn : s.husk.wakeCause = 0) (hk : s.husk.keptOn = false)
include hs hc hn hk

theorem mainOn_raises (hrem : s.husk.removal = none) (hoff : s.husk.mainOff = false) (hen : s.husk.hpEn = true)
    (hhot : s.heldHot = false) (hm : s.husk.enMain = false) (hpow : s.husk.power ≠ .mainOn) (hpg : s.husk.pgMain = false) :
    Does .mainOn s fun t => t.husk.enMain = true ∧ t.husk.ctrl = 0 ∧ Only [.husk] s t := by
  obtain ⟨b, p, hp, hwrite⟩ := writeCtrl_of_quiet (s := s.begin) hs hc hn hk 1
  have hpow' : p ≠ .mainOn := by
    rcases hp with rfl | ⟨-, rfl⟩
    · exact hpow
    · decide
  have hraise := mainRequest_raises (s := s.begin.setHusk (s.husk.served b p)) hen hhot hrem hoff hpow' hm hpg
  rw [does_mainOn, hwrite.trans hraise]
  exact ⟨settle_husk_enMain _, settle_husk_ctrl _, only_setHusk_settled s _⟩

theorem mainOn_low (hen : s.husk.hpEn = false) :
    Does .mainOn s fun t => t.husk.enMain = s.husk.enMain ∧ t.husk.ctrl = 0 ∧ Only [.husk] s t := by
  obtain ⟨b, p, -, hwrite⟩ := writeCtrl_of_quiet (s := s.begin) hs hc hn hk 1
  rw [does_mainOn, hwrite.trans (mainRequest_of_low (s := s.begin.setHusk (s.husk.served b p)) hen)]
  exact ⟨settle_husk_enMain _, settle_husk_ctrl _, only_setHusk_settled s _⟩

theorem mainOff_noted (hrem : s.husk.removal = none) (hoff : s.husk.mainOff = false) (hon : s.husk.power = .mainOn)
    (hz : s.hazel.mode = .stopped) :
    Does .mainOff s fun t => t.husk.mainOff = true ∧ t.husk.mainOffAt = s.now ∧ Only [.husk] s t := by
  obtain ⟨b, p, hp, hwrite⟩ := writeCtrl_of_quiet (s := s.begin) hs hc hn hk 2
  have hon' : p = .mainOn := by
    rcases hp with rfl | ⟨hidle, -⟩
    · exact hon
    · exact absurd (hidle.symm.trans hon) (by decide)
  have hnote := offRequest_of_mainOn (s := s.begin.setHusk (s.husk.served b p)) hrem hoff hon' hz
  rw [does_mainOff, hwrite.trans hnote]
  exact ⟨settle_husk_mainOff _, settle_husk_mainOffAt _, only_setHusk_settled s _⟩

theorem goDormant_noted (hpow : s.husk.power ≠ .mainOn) (hm : s.husk.enMain = false) :
    Does .goDormant s fun t => t.husk.goDormant = true ∧ t.husk.enMain = false ∧ Only [.husk] s t := by
  obtain ⟨b, p, hp, hwrite⟩ := writeCtrl_of_quiet (s := s.begin) hs hc hn hk 4
  have hpow' : p ≠ .mainOn := by
    rcases hp with rfl | ⟨-, rfl⟩
    · exact hpow
    · decide
  have hnote := offRequest_of_off (s := s.begin.setHusk { s.husk.served b p with goDormant := true }) hpow' hm
  rw [does_goDormant, hwrite.trans hnote]
  exact ⟨settle_husk_goDormant _, (settle_husk_enMain _).trans hm, only_setHusk_settled s _⟩

end

/-! ### The end of an orderly main-off (02 R70) -/

/-- The removal of the rails has begun. -/
def Husk.removing (h : Husk) : Husk := { h with mainOff := false, removal := some .orderly, srdDue := false }

theorem startRemoval_eq {s : State} (h : s.husk.mainOff = true) : s.startRemoval = s.setHusk s.husk.removing := if_pos h

theorem does_mainOffAnswer {s : State} {P : State → Prop} : Does .mainOffAnswer s P ↔ P s.begin.startRemoval.settle :=
  does_run (f := State.startRemoval) (exec_mainOffAnswer s)

theorem does_mainOffTimeout {s : State} {P : State → Prop} (h : s.husk.mainOff = true) :
    Does .mainOffTimeout s P ↔ P (s.begin.until (s.begin.husk.mainOffAt + 100000000)).startRemoval.settle := by
  rw [does_run (exec_mainOffTimeout s), if_pos (show s.begin.husk.mainOff = true from h)]

theorem mainOffAnswer_removes {s : State} (h : s.husk.mainOff = true) : Does .mainOffAnswer s fun t =>
    t.husk.removal = some .orderly ∧ t.husk.mainOff = false ∧ t.husk.srdDue = false ∧ Only [.husk] s t := by
  rw [does_mainOffAnswer, startRemoval_eq (s := s.begin) h]
  exact ⟨settle_husk_removal _, settle_husk_mainOff _, settle_husk_srdDue _, only_setHusk_settled s _⟩

theorem mainOffTimeout_removes {s : State} (h : s.husk.mainOff = true) : Does .mainOffTimeout s fun t =>
    t.husk.removal = some .orderly ∧ t.husk.mainOff = false ∧ t.husk.srdDue = false ∧ s.husk.mainOffAt + 100000000 ≤ t.now ∧
      Only [.husk, .time, .ptp] s t := by
  have hdue := le_until_now s.begin (s.begin.husk.mainOffAt + 100000000)
  obtain ⟨d, hd⟩ := until_shape s.begin (s.begin.husk.mainOffAt + 100000000)
  have hstart : (s.begin.advance d).startRemoval = (s.begin.advance d).setHusk s.husk.removing := startRemoval_eq h
  have hframe := (within_advance s.begin d).seq (within_setHusk _ s.husk.removing)
  rw [hd] at hdue
  rw [does_mainOffTimeout h, hd, hstart]
  refine ⟨settle_husk_removal _, settle_husk_mainOff _, settle_husk_srdDue _, ?_, (hframe.widen (by decide)).settled⟩
  rw [(settled_settle _).now]
  exact hdue

/-- Settles O2: a write of HSK_CTRL starts Pip, which acts on the bit that is set; both ends of a main-off start the removal. -/
theorem huskRequestsAndMainOff : Obligations.HuskRequestsAndMainOff := by
  unfold Obligations.HuskRequestsAndMainOff
  refine ⟨fun s hs hc hn hk hrem hoff => ⟨?_, ?_, ?_, ?_⟩, fun s h => ⟨mainOffAnswer_removes h, mainOffTimeout_removes h⟩⟩
  · exact mainOn_raises hs hc hn hk hrem hoff
  · exact mainOn_low hs hc hn hk
  · exact mainOff_noted hs hc hn hk hrem hoff
  · exact goDormant_noted hs hc hn hk

end Sys2Proof.Machine
end


section
/-! PROOFS of 02_husk_clocks_waking.md. Enables and power-good inputs that rise and fall. -/

namespace Sys2Proof.Machine

/-! ### Power-good inputs that rise (02 R66, R80, R86, R869) -/

theorem does_pgRise {s : State} {r : Rail} {P : State → Prop} : Does (.pgRise r) s P ↔ P (s.begin.pgRises r).settle :=
  does_run (f := fun u => u.pgRises r) (exec_pgRise r s)

theorem pgRises_disabled {s : State} {r : Rail} (h : s.husk.en r = false) : s.pgRises r = s.setHusk (s.husk.setPg r true) := by
  simp [State.pgRises, State.setHusk, h]

/-- A power-good input that rises in time takes the device on. -/
theorem pgRises_enabled {s : State} {r : Rail} (hup : s.husk.power ≠ .held) (hrem : s.husk.removal = none)
    (hen : s.husk.en r = true) (hpg : s.husk.pg r = false) : s.pgRises r =
      match r with
      | .main => (s.setHusk (s.husk.setPg .main true)).mainRisen
      | .srd => (s.setHusk (s.husk.setPg .srd true)).wantPhy
      | .dram => (s.setHusk (s.husk.setPg .dram true)).dramRisen := by
  have hguard : (s.husk.power != .held && s.husk.en r && !s.husk.pg r && s.husk.removal.isNone) = true := by
    simp [hup, hrem, hen, hpg]
  unfold State.pgRises
  rw [if_pos hguard]
  cases r <;> rfl

/-- Main-on, with the XO started and EN_SRD due. -/
def Husk.risen (h : Husk) (now : Nat) : Husk :=
  { h with power := .mainOn, xoOn := true, settled := false, monOk := false, srdDue := true
           settleDue := now + ticksNs h.xoSettle }

/-! VDRAM is up: a stack whose wake is granted trains (12 R615). -/

/-- Stack `n` begins to train if it is off and holds its grant. -/
def State.trainStack (s : State) (n : Nat) : State :=
  if (s.stack n).mode == .off && s.pac.held.contains ⟨.dramWake, n⟩ then s.setStack n { s.stack n with mode := .training } else s

theorem dramRisen_eq (s : State) : s.dramRisen = (s.trainStack 0).trainStack 1 := rfl

theorem within_trainStack (s : State) (n : Nat) : Within [.dram] s (s.trainStack n) :=
  ((within_setStack s n _).ite (Within.refl s)).widen (by decide)

theorem within_dramRisen (s : State) : Within [.dram] s s.dramRisen :=
  ((within_trainStack s 0).seq (within_trainStack _ 1)).widen (by decide)

theorem trainStack_pac (s : State) (n : Nat) : (s.trainStack n).pac = s.pac := (within_trainStack s n).only.2 .pac (by decide)

theorem stack_setStack (s : State) (j i : Nat) (x : Stack) : (s.setStack j x).stack i = if i = j then x else s.stack i :=
  Table.get_set _ _ _ _ _

theorem trainStack_other (s : State) {n i : Nat} (h : i ≠ n) : (s.trainStack n).stack i = s.stack i := by
  unfold State.trainStack
  split
  · rw [stack_setStack, if_neg h]
  · rfl

theorem trainStack_mode (s : State) (n : Nat) : ((s.trainStack n).stack n).mode =
    if (s.stack n).mode = .off ∧ s.pac.held.contains ⟨.dramWake, n⟩ then .training else (s.stack n).mode := by
  unfold State.trainStack
  by_cases h : (s.stack n).mode = .off ∧ s.pac.held.contains ⟨.dramWake, n⟩ = true
  · rw [if_pos h, if_pos (by simpa using h), setStack_same]
  · rw [if_neg h, if_neg (by simpa using h)]

theorem dramRisen_mode (s : State) {n : Nat} (h : n < 2) : ((s.dramRisen).stack n).mode =
    if (s.stack n).mode = .off ∧ s.pac.held.contains ⟨.dramWake, n⟩ then .training else (s.stack n).mode := by
  obtain rfl | rfl : n = 0 ∨ n = 1 := by omega
  · rw [dramRisen_eq, trainStack_other _ (by decide), trainStack_mode]
  · rw [dramRisen_eq, trainStack_mode, trainStack_pac, trainStack_other _ (by decide)]

theorem pgRise_main {s : State} (hup : s.husk.power ≠ .held) (hrem : s.husk.removal = none) (hen : s.husk.enMain = true)
    (hpg : s.husk.pgMain = false) : Does (.pgRise .main) s fun t =>
      t.husk.pgMain = true ∧ t.husk.power = .mainOn ∧ t.husk.xoOn = true ∧ t.husk.srdDue = true ∧ t.husk.settled = false ∧
        t.husk.settleDue = s.now + ticksNs s.husk.xoSettle ∧ Only [.husk] s t := by
  rw [does_pgRise, pgRises_enabled (s := s.begin) (r := .main) hup hrem hen hpg]
  exact ⟨settle_husk_pgMain _, (settle_power_iff _ .mainOn (by decide) (by decide)).2 rfl, settle_husk_xoOn _,
    settle_husk_srdDue _, settle_husk_settled _, settle_husk_settleDue _, only_setHusk_settled s _⟩

theorem pgRise_dram {s : State} (hup : s.husk.power ≠ .held) (hrem : s.husk.removal = none) (hen : s.husk.enDram = true)
    (hpg : s.husk.pgDram = false) : Does (.pgRise .dram) s fun t =>
      t.husk.pgDram = true ∧ (∀ n, n < 2 → (t.stack n).mode =
        if (s.stack n).mode = .off ∧ s.pac.held.contains ⟨.dramWake, n⟩ then .training else (s.stack n).mode) ∧
        Only [.husk, .dram] s t := by
  have hframe := within_dramRisen (s.begin.setHusk (s.husk.setPg .dram true))
  have hpgDram := keptHusk Husk.pgDram (hframe.only.2 .husk (by decide)) fun _ => rfl
  rw [does_pgRise, pgRises_enabled (s := s.begin) (r := .dram) hup hrem hen hpg]
  exact ⟨(settle_husk_pgDram _).trans hpgDram, fun n hn => (congrArg Stack.mode (settle_stack _ n)).trans (dramRisen_mode _ hn),
    ((within_setHusk s.begin _).seq hframe).settled⟩

/-- EN_SRD is up. -/
def Husk.srdRaised (h : Husk) : Husk := { h with srdDue := false, enSrd := true }

theorem does_enSrdRaise {s : State} {P : State → Prop} (hdue : s.husk.srdDue = true) (hon : s.husk.power = .mainOn)
    (hrem : s.husk.removal = none) :
    Does .enSrdRaise s P ↔ P (s.begin.setHusk s.husk.srdRaised).wantPhy.settle := by
  have hguard : (s.begin.husk.srdDue && s.begin.mainOn && s.begin.husk.removal.isNone) = true := by
    simp [State.mainOn, hdue, hon, hrem]
  rw [does_run (exec_enSrdRaise s), if_pos hguard]
  rfl

/-- In reset the endpoint does not ask for the PHY PLL (04 R203). -/
theorem wantPhy_of_perst {s : State} (h : s.pcie.perstN = false) : s.wantPhy = s := by
  simp [State.wantPhy, h]

theorem enSrdRaise_raises {s : State} (hrem : s.husk.removal = none) (hdue : s.husk.srdDue = true) (hon : s.husk.power = .mainOn)
    (hperst : s.pcie.perstN = false) : Does .enSrdRaise s fun t =>
      t.husk.enSrd = true ∧ t.husk.srdDue = false ∧ Only [.husk] s t := by
  rw [does_enSrdRaise hdue hon hrem, wantPhy_of_perst (s := s.begin.setHusk s.husk.srdRaised) hperst]
  exact ⟨settle_husk_enSrd _, settle_husk_srdDue _, only_setHusk_settled s _⟩

/-- Settles O3: a power-good input with its enable low is only noted; each rail that rises has its own effect. -/
theorem powerGoodRaisesTheNextRail : Obligations.PowerGoodRaisesTheNextRail := by
  unfold Obligations.PowerGoodRaisesTheNextRail
  refine fun s => ⟨fun r hen => ?_, fun hup hrem => ⟨pgRise_main hup hrem, pgRise_dram hup hrem, enSrdRaise_raises hrem⟩⟩
  rw [does_pgRise, pgRises_disabled (s := s.begin) hen]
  exact ⟨(settle_rest _).1, only_setHusk_settled s _⟩

/-! ### HP_EN and power-good inputs that fall (02 R83, R84; 04 R243) -/

theorem does_hpEnFall {s : State} {P : State → Prop} : Does .hpEnFall s P ↔ P s.begin.hpFalls.settle :=
  does_run (f := State.hpFalls) (exec_hpEnFall s)

theorem hpFalls_eq {s : State} (h : s.husk.hpEn = true) : ∃ off, s.hpFalls = s.setHusk { s.husk with
    hpEn := false, gateClosed := true, removalDue := true, hpFellAt := s.now, srdDue := false, mainOff := off, keptOn := false
    removal := if (s.husk.enMain || s.husk.enSrd || s.husk.enDram) && s.husk.removal != some .thermal then some .hpFall
      else s.husk.removal } := by
  refine ⟨s.husk.mainOff && !(s.husk.enMain || s.husk.enSrd || s.husk.enDram), ?_⟩
  unfold State.hpFalls
  rw [if_neg (by simp [h])]
  rfl

theorem hpEnFall_removes {s : State} (h : s.husk.hpEn = true) : Does .hpEnFall s fun t =>
    t.husk.hpEn = false ∧ t.husk.gateClosed = true ∧ t.husk.removalDue = true ∧ t.husk.hpFellAt = s.now ∧ t.husk.keptOn = false ∧
      t.husk.removal = (if (s.husk.enMain || s.husk.enSrd || s.husk.enDram) && s.husk.removal != some .thermal then some .hpFall
        else s.husk.removal) ∧ Only [.husk] s t := by
  obtain ⟨off, hfall⟩ := hpFalls_eq (s := s.begin) h
  rw [does_hpEnFall, hfall]
  exact ⟨settle_husk_hpEn _, settle_husk_gateClosed _, settle_husk_removalDue _, settle_husk_hpFellAt _, settle_husk_keptOn _,
    settle_husk_removal _, only_setHusk_settled s _⟩

theorem pgFalls_disabled {s : State} {r : Rail} (hrem : s.husk.removal = none) (hen : s.husk.en r = false) :
    s.pgFalls r = s.setHusk (s.husk.setPg r false) := by
  simp [State.pgFalls, State.setHusk, hrem, hen]

theorem pgFall_disabled {s : State} {r : Rail} (hrem : s.husk.removal = none) (hen : s.husk.en r = false) :
    Does (.pgFall r) s fun t => t.husk.kept = (s.husk.setPg r false).kept ∧ Only [.husk] s t := by
  rw [does_run (f := fun u => u.pgFalls r) (exec_pgFall r s), pgFalls_disabled (s := s.begin) hrem hen]
  exact ⟨(settle_rest _).1, only_setHusk_settled s _⟩

/-! EN_DRAM falls: both stacks go out of service (01 R42, R49). -/

/-- Stack `n` without supply: its contents are gone. -/
def State.stackOff (s : State) (n : Nat) : State :=
  (s.wipe (inStack n)).setStack n { s.stack n with mode := .off, initDone := false, retrying := false }

/-- The grants of the stacks are reclaimed. -/
def dramGrant (r : Requester) : Bool := r.kind == .dramWake || (r.kind == .memSelftest && r.inst != 0)

/-- EN_DRAM is down. -/
def Husk.dramLowered (h : Husk) : Husk := { h with enDram := false }

theorem lowerDram_eq (s : State) : s.lowerDram =
    (((((s.setHusk s.husk.dramLowered).stackOff 0).stackOff 1).reclaim dramGrant).dropReady
      (rdyBit 6 ||| rdyBit 7 ||| rdyBit 23)) := rfl

theorem within_stackOff (s : State) (n : Nat) : Within [.memory, .dram] s (s.stackOff n) :=
  (within_wipe s _).seq (within_setStack _ n _)

theorem within_lowerDram (s : State) : Within [.husk, .memory, .dram, .pac, .ready] s s.lowerDram := by
  rw [lowerDram_eq]
  exact (((((within_setHusk s _).seq (within_stackOff _ 0)).seq (within_stackOff _ 1)).seq (within_reclaim _ _)).seq
    (within_dropReady _ _)).widen (by decide)

theorem stackOff_mode (s : State) (n : Nat) : ((s.stackOff n).stack n).mode = .off := by
  rw [State.stackOff, setStack_same]

theorem stackOff_other (s : State) {n i : Nat} (h : i ≠ n) : (s.stackOff n).stack i = s.stack i :=
  (stack_setStack _ n i _).trans (if_neg h)

/-- What lies outside a stack does not go with it. -/
theorem stackOff_mem (s : State) {n a : Nat} (h : inStack n a = false) :
    Table.get 0 (s.stackOff n).mem a = Table.get 0 s.mem a :=
  wipe_mem_other s h

theorem lowerDram_modes (s : State) : (s.lowerDram.stack 0).mode = .off ∧ (s.lowerDram.stack 1).mode = .off := by
  have hstack : ∀ i, s.lowerDram.stack i = (((s.setHusk s.husk.dramLowered).stackOff 0).stackOff 1).stack i := fun _ => rfl
  rw [hstack, hstack, stackOff_other _ (by decide : 0 ≠ 1)]
  exact ⟨stackOff_mode _ 0, stackOff_mode _ 1⟩

theorem lowerDram_ready (s : State) {i : Nat} (h : (rdyBit 6 ||| rdyBit 7 ||| rdyBit 23).getLsbD i = true) :
    s.lowerDram.ready i = false := by
  rw [lowerDram_eq, dropReady_ready, h, Bool.not_true, Bool.and_false]

/-- Above DRAM memory stays as it is. -/
theorem lowerDram_mem (s : State) {a : Nat} (h : 2 ^ 34 ≤ a) : Table.get 0 s.lowerDram.mem a = Table.get 0 s.mem a := by
  have hout : ∀ n, n < 2 → inStack n a = false := fun n hn => by
    simp only [inStack, beq_eq_false_iff_ne]
    omega
  exact (stackOff_mem _ (hout 1 (by decide))).trans (stackOff_mem _ (hout 0 (by decide)))

theorem does_railEnableLower {s : State} {P : State → Prop} : Does .railEnableLower s P ↔ P s.begin.lowerNext.settle :=
  does_run (f := State.lowerNext) (exec_railEnableLower s)

theorem lowerNext_dram {s : State} (hrem : s.husk.removal ≠ none) (hd : s.husk.enDram = true) : s.lowerNext = s.lowerDram := by
  obtain ⟨r, hr⟩ := Option.ne_none_iff_exists'.1 hrem
  simp [State.lowerNext, hr, hd]

theorem railEnableLower_dram {s : State} (hrem : s.husk.removal ≠ none) (hd : s.husk.enDram = true) :
    Does .railEnableLower s fun t => t.husk.enDram = false ∧ (t.stack 0).mode = .off ∧ (t.stack 1).mode = .off ∧
      t.ready 6 = false ∧ t.ready 7 = false ∧ (∀ a, 2 ^ 34 ≤ a → Table.get 0 t.mem a = Table.get 0 s.mem a) ∧
      Only [.husk, .dram, .memory, .pac, .ready] s t := by
  obtain ⟨h0, h1⟩ := lowerDram_modes s.begin
  rw [does_railEnableLower, lowerNext_dram (s := s.begin) hrem hd]
  refine ⟨settle_husk_enDram _, (congrArg Stack.mode (settle_stack _ 0)).trans h0,
    (congrArg Stack.mode (settle_stack _ 1)).trans h1, settled_ready (lowerDram_ready _ (by decide)),
    settled_ready (lowerDram_ready _ (by decide)), fun a ha => ?_, ((within_lowerDram s.begin).widen (by decide)).settled⟩
  rw [(settled_settle _).mem]
  exact lowerDram_mem s.begin ha

/-- With every enable low the removal ends; in its boot ROM Pip acts on nothing. -/
theorem lowerNext_ends {s : State} (hrem : s.husk.removal ≠ none) (hd : s.husk.enDram = false) (hs : s.husk.enSrd = false)
    (hm : s.husk.enMain = false) (hboot : s.husk.pipMode = .boot) : s.lowerNext =
      s.setHusk { s.husk with removal := none, goDormant := s.husk.goDormant && !s.husk.keptOn } := by
  obtain ⟨r, hr⟩ := Option.ne_none_iff_exists'.1 hrem
  have hends : s.lowerNext = s.removalEnds := by simp [State.lowerNext, hr, hd, hs, hm]
  rw [hends]
  exact pipActs_of_boot hboot

theorem railEnableLower_ends {s : State} (hrem : s.husk.removal ≠ none) (hd : s.husk.enDram = false) (hs : s.husk.enSrd = false)
    (hm : s.husk.enMain = false) (hboot : s.husk.pipMode = .boot) :
    Does .railEnableLower s fun t => t.husk.removal = none ∧ Only [.husk] s t := by
  rw [does_railEnableLower, lowerNext_ends (s := s.begin) hrem hd hs hm hboot]
  exact ⟨settle_husk_removal _, only_setHusk_settled s _⟩

/-- Settles O4: what HP_EN's fall, a power-good input's fall and a removal's steps do to the Husk and to the stacks. -/
theorem enableAndPowerGoodFalls : Obligations.EnableAndPowerGoodFalls := by
  unfold Obligations.EnableAndPowerGoodFalls
  exact fun s => ⟨hpEnFall_removes, fun r => pgFall_disabled, railEnableLower_dram, railEnableLower_ends⟩

end Sys2Proof.Machine
end


section
/-! PROOFS of 02_husk_clocks_waking.md. Late power-good inputs, the slow clock source and the XO. -/

namespace Sys2Proof.Machine

/-! ### Reports to the fault collector (15 R780 to R787) -/

/-- What a report of a source without a reset target reaches. -/
theorem within_of_shape {s t : State} (h : ∃ f r, t = { s with flt := f, husk := { s.husk with resetDue := r } }) :
    Within [.flt, .husk] s t := by
  obtain ⟨f, r, rfl⟩ := h
  exact (within_setFlt s f).seq (within_setHusk _ { s.husk with resetDue := r })

theorem within_report (s : State) {src detail : Nat} (h1 : fltHazelReset src = false)
    (h2 : fltBlock src (detail % 2 ^ 32) = none) : Within [.flt, .husk] s (s.report src detail) :=
  within_of_shape (report_shape s src detail h1 h2)

theorem within_endCondition (s : State) (src : Nat) : Within [.flt] s (s.endCondition src) := by
  obtain ⟨f, h⟩ := endCondition_shape s src
  rw [h]
  exact within_setFlt s f

/-! ### A power-good input that stays low (02 R82, R123) -/

@[simp] theorem settle_husk_en (s : State) (r : Rail) : s.settle.husk.en r = s.husk.en r := by
  cases r <;> simp [Husk.en]

/-- The one rail's enable falls. -/
def State.railOff (s : State) : Rail → State
  | .main => s.setHusk { s.husk with enMain := false }
  | .srd => s.lowerSrd
  | .dram => s.lowerDram

/-- HSK_RAIL_FAULT names the rail. -/
def Husk.railLate (h : Husk) (r : Rail) : Husk := { h with railFault := h.railFault ||| BitVec.ofNat 7 (2 ^ railNo r) }

theorem pgLate_eq {s : State} {r : Rail} (hup : s.huskUp = true) (hrem : s.husk.removal = none) (hen : s.husk.en r = true)
    (hpg : s.husk.pg r = false) :
    s.pgLate r = ((s.railOff r).setHusk ((s.railOff r).husk.railLate r)).reportHusk 14 (2 ^ railNo r) := by
  have hguard : (s.huskUp && s.husk.en r && !s.husk.pg r && s.husk.removal.isNone) = true := by simp [hup, hrem, hen, hpg]
  unfold State.pgLate
  rw [if_pos hguard]
  cases r <;> rfl

theorem dropLink_of_down {s : State} (h : s.pcie.linkUp = false) (b : Bool) : s.dropLink b = s :=
  if_neg (ne_true_of_eq_false h)

/-- The SerDes rail's enable is down, and so are its PLLs and lanes. -/
def State.srdDown (s : State) : State :=
  let t := (s.setPll 7 .stopped).withdraw ⟨.phyPll, 0⟩
  let t := foldRange (fun q u => u.setPll (3 + q) .stopped) 4 t
  let t := t.reclaim fun r => r.kind == .quadPll || r.kind == .laneEnable
  let t := t.setHusk { t.husk with enSrd := false, srdDue := false }
  let t := { t with lanes := Table.mapVals ({} : Lane) (fun l => { l with enabled := false, relocking := false }) t.lanes }
  t.dropReady (BitVec.ofNat 40 ((2 ^ 16 - 1) * 2 ^ 24))

theorem within_srdDown (s : State) : Within [.plls, .pac, .husk, .lanes, .ready] s s.srdDown :=
  ((((((within_setPll s 7 _).seq (within_withdraw _ _)).seq (within_foldRange (fun _ u => within_setPll u _ _) 4 _)).seq
    (within_reclaim _ _)).seq (within_setHusk _ _)).seq (((only_lanes _ _).within (by decide)).seq (within_dropReady _ _))).widen
    (by decide)

/-- Without a link there is none to drop. -/
theorem lowerSrd_of_down {s : State} (h : s.pcie.linkUp = false) : s.lowerSrd = s.srdDown :=
  dropLink_of_down (s := s.srdDown) h _

theorem within_railOff {s : State} {r : Rail} (h : r = .srd → s.pcie.linkUp = false) :
    Within [.husk, .plls, .pac, .lanes, .dram, .memory, .ready] s (s.railOff r) := by
  cases r with
  | main => exact (within_setHusk s _).widen (by decide)
  | srd =>
    rw [State.railOff, lowerSrd_of_down (h rfl)]
    exact (within_srdDown s).widen (by decide)
  | dram => exact (within_lowerDram s).widen (by decide)

/-- The enable of the rail that falls is low, and HSK_RAIL_FAULT is as it was. -/
theorem railOff_husk {s : State} {r : Rail} (h : r = .srd → s.pcie.linkUp = false) :
    (s.railOff r).husk.en r = false ∧ (s.railOff r).husk.railFault = s.husk.railFault := by
  cases r with
  | main => exact ⟨rfl, rfl⟩
  | srd =>
    rw [State.railOff, lowerSrd_of_down (h rfl)]
    exact ⟨rfl, rfl⟩
  | dram => exact ⟨rfl, rfl⟩

theorem pgTimeout_lowers {s : State} (hup : s.huskUp = true) (hrem : s.husk.removal = none) (r : Rail) (hen : s.husk.en r = true)
    (hpg : s.husk.pg r = false) (hlink : r = .srd → s.pcie.linkUp = false) : Does (.pgTimeout r) s fun t =>
      t.husk.en r = false ∧ t.husk.railFault = s.husk.railFault ||| BitVec.ofNat 7 (2 ^ railNo r) ∧
        Only [.husk, .plls, .pac, .lanes, .dram, .memory, .ready, .flt] s t := by
  obtain ⟨hoff, hfault⟩ := railOff_husk (s := s.begin) hlink
  have hframe := ((within_railOff (s := s.begin) hlink).seq (within_setHusk _ ((s.begin.railOff r).husk.railLate r))).seq
    (within_of_shape (reportHusk_shape _ 14 (2 ^ railNo r) rfl rfl))
  obtain ⟨f, d, hreport⟩ :=
    reportHusk_shape ((s.begin.railOff r).setHusk ((s.begin.railOff r).husk.railLate r)) 14 (2 ^ railNo r) rfl rfl
  rw [does_run (f := fun u => u.pgLate r) (exec_pgTimeout r s), pgLate_eq (s := s.begin) hup hrem hen hpg]
  refine ⟨?_, ?_, (hframe.widen (by decide)).settled⟩
  · rw [settle_husk_en, hreport]
    cases r <;> exact hoff
  · rw [settle_husk_railFault, hreport]
    exact congrArg (· ||| BitVec.ofNat 7 (2 ^ railNo r)) hfault

/-! ### The slow clock (02 R75 to R78) -/

theorem xtSelected_of {h : Husk} (hm : bitsOf h.cfg 1 2 < 2) : h.xtSelected = true := by
  simpa [Husk.xtSelected] using hm

theorem xt32Qualified_selects {s : State} (hup : s.husk.power ≠ .held) (hm : bitsOf s.husk.cfg 1 2 < 2) :
    Does .xt32Qualified s fun t => t.husk.slowSrc = true ∧ t.husk.xtFail = s.husk.xtFail ∧ Only [.husk, .flt] s t := by
  have hguard : (s.begin.husk.power != .held && s.begin.husk.xtSelected) = true := by simp [hup, xtSelected_of hm]
  have hframe := within_endCondition (s.begin.setHusk { s.husk with slowSrc := true }) 11
  obtain ⟨f, hend⟩ := endCondition_shape (s.begin.setHusk { s.husk with slowSrc := true }) 11
  have hexec : exec .xt32Qualified s = .next ((s.begin.setHusk { s.husk with slowSrc := true }).endCondition 11).settle := by
    rw [exec_xt32Qualified, execXt32Qualified, run_eq, if_pos hguard]
    rfl
  refine ⟨_, hexec, ?_, ?_, ((within_setHusk s.begin _).seq hframe).settled⟩
  · rw [settle_husk_slowSrc, hend]
    rfl
  · rw [settle_husk_xtFail, hend]
    rfl

/-- The device stays on the LPRC, and XT_FAIL is set. -/
def Husk.xtFailed (h : Husk) : Husk := { h with slowSrc := false, xtFail := true }

theorem xtFails_eq (s : State) : s.xtFails = (s.setHusk s.husk.xtFailed).reportHusk 11 0 := rfl

theorem xtFails_husk (s : State) : s.xtFails.settle.husk.slowSrc = false ∧ s.xtFails.settle.husk.xtFail = true := by
  obtain ⟨f, d, hreport⟩ := reportHusk_shape (s.setHusk s.husk.xtFailed) 11 0 rfl rfl
  rw [settle_husk_slowSrc, settle_husk_xtFail, xtFails_eq, hreport]
  exact ⟨rfl, rfl⟩

theorem within_xtFails (s : State) : Within [.husk, .flt] s s.xtFails :=
  ((within_setHusk s _).seq (within_of_shape (reportHusk_shape _ 11 0 rfl rfl))).widen (by decide)

theorem xt32QualifyTimeout_fails {s : State} (hup : s.husk.power ≠ .held) (hm : bitsOf s.husk.cfg 1 2 < 2)
    (hsrc : s.husk.slowSrc = false) : Does .xt32QualifyTimeout s fun t =>
      t.husk.slowSrc = false ∧ t.husk.xtFail = true ∧ s.husk.porAt + 2000000000 ≤ t.now ∧ Only [.husk, .flt, .time, .ptp] s t := by
  have hguard : (s.begin.husk.power != .held && s.begin.husk.xtSelected && !s.begin.husk.slowSrc) = true := by
    simp [hup, xtSelected_of hm, hsrc]
  have hexec : exec .xt32QualifyTimeout s = .next (s.begin.until (s.begin.husk.porAt + 2000000000)).xtFails.settle := by
    rw [exec_xt32QualifyTimeout, execXt32QualifyTimeout, run_eq, if_pos hguard]
  have hdue := le_until_now s.begin (s.begin.husk.porAt + 2000000000)
  have htime := within_until s.begin (s.begin.husk.porAt + 2000000000)
  generalize s.begin.until (s.begin.husk.porAt + 2000000000) = u at hexec hdue htime
  obtain ⟨hslow, hfail⟩ := xtFails_husk u
  refine ⟨_, hexec, hslow, hfail, ?_, ((htime.seq (within_xtFails u)).widen (by decide)).settled⟩
  rw [(settled_settle _).now, (within_xtFails u).only.2 .time (by decide)]
  exact hdue

theorem xt32EdgeLoss_fails {s : State} (hup : s.husk.power ≠ .held) (hsrc : s.husk.slowSrc = true) :
    Does .xt32EdgeLoss s fun t => t.husk.slowSrc = false ∧ t.husk.xtFail = true ∧ Only [.husk, .flt] s t := by
  have hguard : (s.begin.husk.power != .held && s.begin.husk.slowSrc) = true := by simp [hup, hsrc]
  obtain ⟨hslow, hfail⟩ := xtFails_husk s.begin
  rw [does_run (exec_xt32EdgeLoss s), if_pos hguard]
  exact ⟨hslow, hfail, (within_xtFails s.begin).settled⟩

/-! ### The XO settles (02 R86) -/

/-- The XO bit sets: waiting requests for PLLs count their timeout from now (02 R922). -/
def State.xoUp (s : State) : State :=
  let t := ((s.setHusk { s.husk with settled := true, monOk := true, xoSetAt := s.now }).setReady 2).endCondition 10
  t.setPac { t.pac with queue := t.pac.queue.map fun q => if q.who.pll?.isSome then { q with from_ := t.now } else q }

theorem within_xoUp (s : State) : Within [.husk, .ready, .flt, .pac] s s.xoUp :=
  ((within_setHusk s _).seq (within_setReady _ 2)).seq ((within_endCondition _ 10).seq (within_setPac _ _))

theorem xoUp_keeps (s : State) : s.xoUp.husk = { s.husk with settled := true, monOk := true, xoSetAt := s.now } ∧
    s.xoUp.rdy = s.rdy ||| rdyBit 2 := by
  obtain ⟨f, hend⟩ := endCondition_shape
    ((s.setHusk { s.husk with settled := true, monOk := true, xoSetAt := s.now }).setReady 2) 10
  unfold State.xoUp
  rw [hend]
  exact ⟨rfl, rfl⟩

theorem xoSettles_eq {s : State} (hxo : s.husk.xoOn = true) (h2 : s.ready 2 = false) (hon : s.mainOn = true) :
    s.xoSettles = if (s.until s.husk.settleDue).xoUp.ready 15 then (s.until s.husk.settleDue).xoUp
      else (s.until s.husk.settleDue).xoUp.mainStart := by
  have hguard : (s.husk.xoOn && !s.ready 2 && s.mainOn) = true := by simp [hxo, h2, hon]
  unfold State.xoSettles
  rw [if_pos hguard]
  generalize s.until s.husk.settleDue = u
  rfl

theorem within_mainStart (s : State) : Within [.ready, .flt] s s.mainStart :=
  (((within_setReady s 14).seq (within_setReady _ 15)).seq (within_setFlt _ s.mainStart.flt)).widen (by decide)

section

variable {s : State} (hxo : s.husk.xoOn = true) (h2 : s.ready 2 = false) (hon : s.mainOn = true)
include hxo h2 hon

theorem xoSettleExpiry_restart (h15 : s.ready 15 = true) : Does .xoSettleExpiry s fun t =>
    t.ready 2 = true ∧ t.husk.settled = true ∧ s.husk.settleDue ≤ t.now ∧ t.husk.xoSetAt = t.now ∧
      Only [.husk, .ready, .flt, .pac, .time, .ptp] s t := by
  have heq := xoSettles_eq (s := s.begin) hxo h2 hon
  have hdue := le_until_now s.begin s.begin.husk.settleDue
  have htime := within_until s.begin s.begin.husk.settleDue
  generalize s.begin.until s.begin.husk.settleDue = u at heq hdue htime
  obtain ⟨hhusk, hrdy⟩ := xoUp_keeps u
  have hnow : u.xoUp.now = u.now := (within_xoUp u).only.2 .time (by decide)
  have hready : ∀ i, u.xoUp.ready i = (u.setReady 2).ready i := fun i => congrArg (BitVec.getLsbD · i) hrdy
  have h15' : u.xoUp.ready 15 = true := by
    rw [hready, setReady_ready, htime.ready_eq 15 (by decide), show s.begin.ready 15 = true from h15, Bool.true_or]
  rw [if_pos h15'] at heq
  rw [does_run (f := State.xoSettles) (exec_xoSettleExpiry s), heq]
  refine ⟨?_, ?_, ?_, ?_, ((htime.seq (within_xoUp u)).widen (by decide)).settled⟩
  · rw [settle_ready, hready]
    simp [setReady_ready]
  · rw [settle_husk_settled, hhusk]
  · rw [(settled_settle _).now, hnow]
    exact hdue
  · rw [settle_husk_xoSetAt, (settled_settle _).now, hnow, hhusk]

theorem xoSettleExpiry_start (h15 : s.ready 15 = false) : Does .xoSettleExpiry s fun t =>
    t.rdy = s.rdy ||| rdyBit 2 ||| rdyBit 14 ||| rdyBit 15 ∧ Only [.husk, .ready, .flt, .pac, .time, .ptp] s t := by
  have heq := xoSettles_eq (s := s.begin) hxo h2 hon
  have htime := within_until s.begin s.begin.husk.settleDue
  generalize s.begin.until s.begin.husk.settleDue = u at heq htime
  obtain ⟨-, hrdy⟩ := xoUp_keeps u
  obtain ⟨hsame, -⟩ := htime.only.2 .ready (by decide)
  have hready : ∀ i, u.xoUp.ready i = (u.setReady 2).ready i := fun i => congrArg (BitVec.getLsbD · i) hrdy
  have h15' : ¬ u.xoUp.ready 15 = true := by
    rw [hready, setReady_ready, htime.ready_eq 15 (by decide), show s.begin.ready 15 = false from h15]
    decide
  obtain ⟨f, hstart⟩ := mainStart_shape u.xoUp
  rw [if_neg h15'] at heq
  rw [does_run (f := State.xoSettles) (exec_xoSettleExpiry s), heq]
  refine ⟨?_, (((htime.seq (within_xoUp u)).seq (within_mainStart _)).widen (by decide)).settled⟩
  rw [(settled_settle _).rdy, hstart, hrdy, hsame]
  rfl

end

/-! ### The XO is lost (02 R130 to R133) -/

theorem abandonStart_of_not_starting {s : State} {p : Pll} (h : s.pll p.idx ≠ .starting) : s.abandonStart p = s := by
  simp [State.abandonStart, h]

theorem abandonStarts_of_none {s : State} (h : ∀ p : Pll, s.pll p.idx ≠ .starting) : s.abandonStarts = s := by
  unfold State.abandonStarts
  rw [abandonStart_of_not_starting (h .fabric), abandonStart_of_not_starting (h .hazel), abandonStart_of_not_starting (h .core),
    abandonStart_of_not_starting (h .vtc)]

theorem within_xoDown (s : State) : Within [.husk, .ready] s s.xoDown :=
  (within_setHusk s { s.husk with settled := false, monOk := false, settleDue := s.now + ticksNs s.husk.xoSettle }).seq
    (within_dropReady _ _)

/-- Where no PLL starts, a loss of the XO takes the XO bit, is reported and starts a new settling period. -/
theorem xoDropped_shape {s : State} (h : ∀ p : Pll, s.pll p.idx ≠ .starting) :
    ∃ f r, s.xoDropped = { s.xoDown with flt := f, husk := { s.xoDown.husk with resetDue := r } } := by
  have hshape := reportHusk_shape s.xoDown 10 0 rfl rfl
  have hplls : (s.xoDown.reportHusk 10 0).plls = s.plls :=
    ((within_xoDown s).seq (within_of_shape hshape)).only.2 .plls (by decide)
  have hpll : ∀ p : Pll, (s.xoDown.reportHusk 10 0).pll p.idx ≠ .starting := by
    simpa only [State.pll, hplls] using h
  obtain ⟨f, r, heq⟩ := hshape
  exact ⟨f, r, (abandonStarts_of_none hpll).trans heq⟩

theorem within_xoDropped {s : State} (h : ∀ p : Pll, s.pll p.idx ≠ .starting) : Within [.husk, .ready, .flt] s s.xoDropped :=
  ((within_xoDown s).seq (within_of_shape (xoDropped_shape h))).widen (by decide)

/-- A loss that is not early ends with the XO dropped. -/
theorem xoLost_late {s : State} (h2 : s.ready 2 = true) (hon : s.mainOn = true) : s.xoLost false = s.xoDropped := by
  have hboth : (s.ready 2 && s.mainOn) = true := by rw [h2, hon]; rfl
  simp only [State.xoLost, State.xoDropped, State.abandonStarts, State.xoDown, hboth, if_true, Bool.false_eq_true, if_false]

/-- The third early loss: the main rails are to be removed (02 R131). -/
def Husk.xoGivenUp (h : Husk) : Husk := { h with xoFail := true, mainOff := false, removal := some (h.removal.getD .xoFail) }

/-- The third early loss leaves the count that it reaches, and keeps a removal that runs. -/
theorem xoGivenUp_keeps (s : State) : s.countedEarly.husk.xoGivenUp.earlyCount = satAdd 4 s.husk.earlyCount 1 ∧
    s.countedEarly.husk.xoGivenUp.removal = some (s.husk.removal.getD .xoFail) := ⟨rfl, rfl⟩

theorem xoLost_third {s : State} (h2 : s.ready 2 = true) (hon : s.mainOn = true) (hn : 3 ≤ satAdd 4 s.husk.earlyCount 1) :
    s.xoLost true = s.xoDropped.countedEarly.setHusk s.xoDropped.countedEarly.husk.xoGivenUp := by
  have hboth : (s.ready 2 && s.mainOn) = true := by rw [h2, hon]; rfl
  rw [← (xoDropped_keeps s).2] at hn
  simp only [State.xoDropped, State.abandonStarts, State.xoDown] at hn
  simp only [State.xoLost, State.xoDropped, State.abandonStarts, State.xoDown, State.countedEarly, State.setHusk, Husk.xoGivenUp,
    hboth, if_true]
  exact if_neg (Nat.not_lt.2 hn)

theorem setHusk_ready (s : State) (h : Husk) (i : Nat) : (s.setHusk h).ready i = s.ready i := rfl

theorem within_countedEarly (s : State) : Within [.husk] s s.countedEarly := within_setHusk s _

section

variable {s : State} (h2 : s.ready 2 = true) (hpll : ∀ p : Pll, s.pll p.idx ≠ .starting) (hon : s.mainOn = true)
include h2 hpll hon

theorem xoLoss_late : Does (.xoLoss false) s fun t => t.ready 2 = false ∧ t.husk.settled = false ∧
    t.husk.earlyCount = s.husk.earlyCount ∧ t.husk.settleDue = s.now + ticksNs s.husk.xoSettle ∧
    Only [.husk, .ready, .flt] s t := by
  obtain ⟨hready, hcount⟩ := xoDropped_keeps s.begin
  obtain ⟨f, r, hshape⟩ := xoDropped_shape (s := s.begin) hpll
  rw [does_xoLoss, xoLost_late (s := s.begin) h2 hon]
  refine ⟨settled_ready hready, ?_, (settle_husk_earlyCount _).trans hcount, ?_,
    (within_xoDropped (s := s.begin) hpll).settled⟩
  · rw [settle_husk_settled, hshape]
    rfl
  · rw [settle_husk_settleDue, hshape]
    rfl

theorem xoLoss_third (hn : 3 ≤ satAdd 4 s.husk.earlyCount 1) : Does (.xoLoss true) s fun t =>
    t.ready 2 = false ∧ t.husk.xoFail = true ∧ t.husk.earlyCount = satAdd 4 s.husk.earlyCount 1 ∧
      t.husk.removal = some (s.husk.removal.getD .xoFail) ∧ Only [.husk, .ready, .flt] s t := by
  obtain ⟨hready, hcount⟩ := xoDropped_keeps s.begin
  obtain ⟨f, r, hshape⟩ := xoDropped_shape (s := s.begin) hpll
  have hremoval : s.begin.xoDropped.husk.removal = s.husk.removal := by rw [hshape]; rfl
  have hframe := within_xoDropped (s := s.begin) hpll
  have hlost := xoLost_third (s := s.begin) h2 hon hn
  generalize s.begin.xoDropped = u at hready hcount hremoval hframe hlost
  obtain ⟨hgiven, hgone⟩ := xoGivenUp_keeps u
  rw [does_xoLoss, hlost]
  refine ⟨settled_ready ((setHusk_ready _ _ 2).trans ((countedEarly_ready u 2).trans hready)), settle_husk_xoFail _, ?_, ?_,
    (((hframe.seq (within_countedEarly u)).seq (within_setHusk _ _)).widen (by decide)).settled⟩
  · rw [settle_husk_earlyCount, setHusk_husk, hgiven, hcount]
    rfl
  · rw [settle_husk_removal, setHusk_husk, hgone, hremoval]

end

/-- Settles O9: the late power-good input, the three events of the slow clock, and the XO's settling and its losses. -/
theorem lateRailsAndClockSources : Obligations.LateRailsAndClockSources := by
  unfold Obligations.LateRailsAndClockSources
  refine ⟨fun s => ⟨pgTimeout_lowers, fun hup hm => ⟨xt32Qualified_selects hup hm, xt32QualifyTimeout_fails hup hm,
    xt32EdgeLoss_fails hup⟩⟩, fun s hon => ⟨fun hxo h2 => xoSettleExpiry_restart hxo h2 hon,
    fun hxo h2 => xoSettleExpiry_start hxo h2 hon, fun h2 hpll => ⟨xoLoss_late h2 hpll hon, xoLoss_third h2 hpll hon⟩⟩⟩

end Sys2Proof.Machine
end


section
/-! PROOFS of 02_husk_clocks_waking.md. The video timing clock, and what a report without a block reset does. -/

namespace Sys2Proof.Machine

/-! ### Reports of a source that resets no block (15 R785, R789) -/

theorem bitAt_eq_testBit (m i : Nat) : bitAt m i = m.testBit i := by
  rw [bitAt, Nat.testBit_eq_decide_div_mod_eq]
  rfl

theorem bitAt_of_mild {m : Nat} (h : m &&& 6 = 0) : bitAt m 1 = false ∧ bitAt m 2 = false := by
  have hbit : ∀ i, Nat.testBit 6 i = true → m.testBit i = false := fun i hi => by
    have hand : (m &&& 6).testBit i = false := by rw [h, Nat.zero_testBit]
    rwa [Nat.testBit_and, hi, Bool.and_true] at hand
  rw [bitAt_eq_testBit, bitAt_eq_testBit]
  exact ⟨hbit 1 (by decide), hbit 2 (by decide)⟩

theorem reactMask_congr {s t : State} (h : t.flt = s.flt) (i : Nat) : t.reactMask i = s.reactMask i := by
  simp only [State.reactMask, h]

theorem fltSrc_congr {s t : State} (h : t.flt.src = s.flt.src) (i : Nat) : t.fltSrc i = s.fltSrc i := by
  simp only [State.fltSrc, h]

/-- An entry in the log is no record. -/
theorem Flt.write_src (f : Flt) (e : LogEntry) : (f.write e).src = f.src := by
  unfold Flt.write
  split
  · split <;> rfl
  · rfl

theorem logEvent_src (s : State) (kind src : Nat) : (s.logEvent kind src).flt.src = s.flt.src := by
  unfold State.logEvent
  split
  · exact Flt.write_src _ _
  · split <;> rfl

/-- A mask without NMI and block reset asks for a chip reset at most. -/
theorem react_mild {m : Nat} (h : m &&& 6 = 0) (s : State) (src detail : Nat) :
    ∃ r, s.react src m detail = s.setHusk { s.husk with resetDue := r } := by
  obtain ⟨h1, h2⟩ := bitAt_of_mild h
  unfold State.react
  simp only [h1, h2, Bool.false_eq_true, if_false]
  split
  · exact ⟨_, rfl⟩
  · exact ⟨s.husk.resetDue, rfl⟩

/-- A record of a source that resets no block: the source's record is open and counts the report, and the Husk may owe a
chip reset. -/
theorem record_mild {s : State} {src : Nat} (h : s.mildly src) (detail : Nat) (stands : Bool) :
    ∃ f r, s.record src detail stands = (s.setFlt f).setHusk { s.husk with resetDue := r } ∧
      (Table.get {} f.src src).open_ = true ∧ (Table.get {} f.src src).cnt = satAdd 16 (s.fltSrc src).cnt 1 := by
  unfold State.record
  dsimp only
  split
  next hopen =>
    refine ⟨(s.setFltSrc src { s.fltSrc src with
      cnt := satAdd 16 (s.fltSrc src).cnt 1, last := s.now, standing := stands }).flt, s.husk.resetDue, rfl, ?_⟩
    simpa [State.setFltSrc] using hopen
  next =>
    generalize ht : s.setFltSrc src { s.fltSrc src with
      open_ := true, mask := s.reactMask src, detail := detail, standing := stands, causeFlag := false, last := s.now
      cnt := satAdd 16 (s.fltSrc src).cnt 1 } = t
    obtain ⟨f, hlog⟩ := logEvent_shape t 1 src
    have hsrc : f.src = t.flt.src := by
      have := logEvent_src t 1 src
      rwa [hlog] at this
    have hget : (Table.get {} f.src src).open_ = true ∧ (Table.get {} f.src src).cnt = satAdd 16 (s.fltSrc src).cnt 1 := by
      rw [hsrc, ← ht]
      simp [State.setFltSrc]
    have hreact : ∀ g : Flt, g.src = f.src → ∃ f' r', (t.setFlt g).react src (s.reactMask src) detail =
        (s.setFlt f').setHusk { s.husk with resetDue := r' } ∧ (Table.get {} f'.src src).open_ = true ∧
          (Table.get {} f'.src src).cnt = satAdd 16 (s.fltSrc src).cnt 1 := fun g hg => by
      obtain ⟨r, hr⟩ := react_mild h (t.setFlt g) src detail
      refine ⟨g, r, hr.trans ?_, by rwa [hg]⟩
      rw [← ht]
      rfl
    rw [hlog]
    split
    · exact hreact { f with plogDue := f.plogDue ++ [State.pentry (t.setFlt f) 1 src] } rfl
    · exact hreact f rfl

/-- A report of a source that resets no block. -/
theorem report_mild {s : State} {src : Nat} (h : s.mildly src) (detail : Nat) :
    ∃ f r, s.report src detail = (s.setFlt f).setHusk { s.husk with resetDue := r } ∧
      (s.canRecord src false = true → (Table.get {} f.src src).cnt = satAdd 16 (s.fltSrc src).cnt 1) := by
  unfold State.report
  split
  next =>
    obtain ⟨f, r, heq, -, hcnt⟩ := record_mild h (detail % 2 ^ 32) (fltCondition src)
    exact ⟨f, r, heq, fun _ => hcnt⟩
  next hcan => exact ⟨s.flt, s.husk.resetDue, rfl, fun hc => absurd hc hcan⟩

theorem within_report_mild {s : State} {src : Nat} (h : s.mildly src) (detail : Nat) :
    Within [.flt, .husk] s (s.report src detail) := by
  obtain ⟨f, r, heq, -⟩ := report_mild h detail
  exact within_of_shape ⟨f, r, heq⟩

/-! ### The video timing clock (02 R99 to R103, R125 to R128) -/

theorem within_setVtc (s : State) (v : Vtc) : Within [.vtc, .icu] s (s.setVtc v) := by
  have hput : Within [.vtc] s { s with vtc := v } := ⟨only_vtc s v, by decide⟩
  exact (hput.ite (hput.seq (within_edge _ 88))).widen (by decide)

theorem setVtc_vtc (s : State) (v : Vtc) : (s.setVtc v).vtc = v := by
  unfold State.setVtc
  dsimp only
  split
  · rfl
  · exact (within_edge { s with vtc := v } 88).only.2 .vtc (by decide)

/-- A command whose effect is a change of the VTC. -/
theorem setVtc_settled (s : State) (v : Vtc) : (s.begin.setVtc v).settle.vtc = v ∧ Only [.vtc, .icu] s (s.begin.setVtc v).settle :=
  ⟨(settled_settle _).vtc.trans (setVtc_vtc _ v), (within_setVtc s.begin v).settled⟩

theorem vtcLocked_locks {s : State} (h20 : s.ready 20 = true) (hm : s.vtc.mode = .acquiring) (hp : s.vtcPresent = true)
    (hf : s.vtcFamily = true) : Does .vtcLocked s fun t => t.vtc = { s.vtc with mode := .locked } ∧ Only [.vtc, .icu] s t := by
  have hguard : (s.begin.ready 20 && s.begin.vtc.mode == .acquiring && s.begin.vtcPresent && s.begin.vtcFamily) = true := by
    simp [h20, hm, hp, hf]
  rw [does_run (exec_vtcLocked s), if_pos hguard]
  exact setVtc_settled s _

/-- The VTC in HOLDOVER: the loss of its source is counted (02 R100). -/
def Vtc.heldOver (v : Vtc) : Vtc := { v with mode := .holdover, losses := satAdd 16 v.losses 1 }

theorem vtcSourceLoss_holdsOver {s : State} (h20 : s.ready 20 = true) (hm : s.vtc.mode = .locked ∨ s.vtc.mode = .acquiring)
    (hsel : s.vtc.srcSel ≠ 17) (hmild : s.mildly 21) : Does .vtcSourceLoss s fun t =>
      t.vtc = { s.vtc with mode := .holdover, losses := satAdd 16 s.vtc.losses 1 } ∧
        (t.ready 15 = true → (t.fltSrc 21).cnt = satAdd 16 (s.fltSrc 21).cnt 1) ∧ Only [.vtc, .icu, .flt, .husk] s t := by
  have hguard : (s.begin.ready 20 && (s.begin.vtc.mode == .locked || s.begin.vtc.mode == .acquiring) &&
      s.begin.vtc.srcSel != 17) = true := by simp [h20, hm, hsel]
  have hset := within_setVtc s.begin s.begin.vtc.heldOver
  have hvtc := setVtc_vtc s.begin s.begin.vtc.heldOver
  have hflt : (s.begin.setVtc s.begin.vtc.heldOver).flt = s.flt := hset.only.2 .flt (by decide)
  have hloss : s.begin.vtcLoss =
      (s.begin.setVtc s.begin.vtc.heldOver).report 21 (if s.begin.vtc.srcSel < 16 then s.begin.vtc.srcSel else 0) := if_pos hguard
  generalize s.begin.setVtc s.begin.vtc.heldOver = u at hset hvtc hflt hloss
  have hmild' : u.mildly 21 := (congrArg (· &&& 6) (reactMask_congr hflt 21)).trans hmild
  have hsrc : u.fltSrc 21 = s.fltSrc 21 := fltSrc_congr (by rw [hflt]) 21
  have hrep := within_report_mild hmild' (if s.begin.vtc.srcSel < 16 then s.begin.vtc.srcSel else 0)
  obtain ⟨f, r, heq, hcnt⟩ := report_mild hmild' (if s.begin.vtc.srcSel < 16 then s.begin.vtc.srcSel else 0)
  rw [does_run (f := State.vtcLoss) (exec_vtcSourceLoss s), hloss]
  refine ⟨?_, fun h15 => ?_, ((hset.seq hrep).widen (by decide)).settled⟩
  · rw [(settled_settle _).vtc, heq]
    exact hvtc
  · rw [settle_ready, hrep.ready_eq 15 (by decide)] at h15
    rw [settle_fltSrc, heq, ← hsrc]
    exact hcnt (by simpa [State.canRecord, fltReserved, fltHusk] using h15)

/-- HOLD_LIMIT has run out: the VTC runs free (02 R102). -/
theorem vtcHoldExpiry_runsFree {s : State} (hm : s.vtc.mode = .holdover) (hl : s.vtc.holdLimit ≠ 0) :
    Does .vtcHoldExpiry s fun t =>
      t.vtc = { s.vtc with mode := .freeRun, activeSrc := 17, freeRuns := satAdd 16 s.vtc.freeRuns 1 } ∧ Only [.vtc, .icu] s t := by
  have hguard : (s.begin.vtc.mode == .holdover && s.begin.vtc.holdLimit != 0) = true := by simp [hm, hl]
  rw [does_run (exec_vtcHoldExpiry s), if_pos hguard]
  exact setVtc_settled s _

theorem vtcHoldExpiry_unlimited {s : State} (hl : s.vtc.holdLimit = 0) : Does .vtcHoldExpiry s fun t => Only [] s t := by
  have hguard : ¬ (s.begin.vtc.mode == .holdover && s.begin.vtc.holdLimit != 0) = true := by simp [hl]
  rw [does_run (exec_vtcHoldExpiry s), if_neg hguard]
  exact (Within.refl s.begin).settled

theorem vtcReacquire_acquires {s : State} (h20 : s.ready 20 = true) (hp : s.vtcPresent = true)
    (hm : s.vtc.mode = .holdover ∨ (s.vtc.mode = .freeRun ∧ s.vtc.revert = true)) : Does .vtcReacquire s fun t =>
      t.vtc = { s.vtc with mode := .acquiring, activeSrc := s.vtc.srcSel } ∧ Only [.vtc, .icu] s t := by
  have hguard : (s.begin.ready 20 && s.begin.vtcPresent &&
      (s.begin.vtc.mode == .holdover || (s.begin.vtc.mode == .freeRun && s.begin.vtc.revert))) = true := by simp [h20, hp, hm]
  rw [does_run (exec_vtcReacquire s), if_pos hguard]
  exact setVtc_settled s _

/-- Settles O15, mode by mode: each event of the VTC is a change of its registers, and the loss of its source a report. -/
theorem theVtcFollowsItsSource : Obligations.TheVtcFollowsItsSource := by
  unfold Obligations.TheVtcFollowsItsSource
  exact fun s => ⟨vtcLocked_locks, vtcSourceLoss_holdsOver, vtcHoldExpiry_runsFree, fun _ => vtcHoldExpiry_unlimited,
    vtcReacquire_acquires⟩

end Sys2Proof.Machine
end


section
/-! PROOFS of 03_power_admission.md. What a refusal gives back, and which parts of the device it reaches. -/

namespace Sys2Proof.Machine

/-! ### The PAC's settings, and grants given back (03 R157, R162, R164) -/

/-- The PAC without its grants, its requests and its account of refusals. -/
def Pac.settings (p : Pac) : Pac :=
  { p with held := [], queue := [], lastDeny := 0, denyTimeout := 0, denyFit := 0, waitMax := 0 }

/-- Grants and requests go, none comes, and the settings stand. -/
structure GivesBack (s t : State) : Prop where
  held : ∀ r, r ∈ t.pac.held → r ∈ s.pac.held
  queue : ∀ q, q ∈ t.pac.queue → q ∈ s.pac.queue
  settings : t.pac.settings = s.pac.settings

theorem GivesBack.of_pac_eq {s t : State} (h : t.pac = s.pac) : GivesBack s t :=
  ⟨fun _ hr => h ▸ hr, fun _ hq => h ▸ hq, congrArg Pac.settings h⟩

theorem GivesBack.of_within {l : List Part} {s t : State} (h : Within l s t) (hl : .pac ∉ l) : GivesBack s t :=
  .of_pac_eq (h.only.2 .pac hl)

theorem GivesBack.refl (s : State) : GivesBack s s := .of_pac_eq rfl

theorem GivesBack.trans {s t u : State} (h : GivesBack s t) (k : GivesBack t u) : GivesBack s u :=
  ⟨fun r hr => h.held r (k.held r hr), fun q hq => h.queue q (k.queue q hq), k.settings.trans h.settings⟩

theorem GivesBack.foldl {α : Type} {f : State → α → State} (hf : ∀ u x, GivesBack u (f u x)) (xs : List α) (s : State) :
    GivesBack s (xs.foldl f s) := by
  induction xs generalizing s with
  | nil => exact .refl s
  | cons x xs ih => exact (hf s x).trans (ih _)

theorem GivesBack.foldRange {f : Nat → State → State} (hf : ∀ i u, GivesBack u (f i u)) (n : Nat) (s : State) :
    GivesBack s (foldRange f n s) := by
  induction n with
  | zero => exact .refl s
  | succ n ih => exact ih.trans (hf n _)

theorem givesBack_withdraw (s : State) (r : Requester) : GivesBack s (s.withdraw r) :=
  ⟨fun _ h => (List.mem_filter.1 h).1, fun _ h => (List.mem_filter.1 h).1, rfl⟩

theorem not_mem_held_withdraw (s : State) (r : Requester) : r ∉ (s.withdraw r).pac.held := fun h => by
  simpa using (List.mem_filter.1 h).2

theorem givesBack_releaseIdlePipes (s : State) (n : Nat) : GivesBack s (s.releaseIdlePipes n) := by
  induction n with
  | zero => exact .refl s
  | succ n ih =>
    have hgone := ih.trans (givesBack_withdraw _ ⟨.pipeJob, n⟩)
    unfold State.releaseIdlePipes
    dsimp only
    split
    · exact ih
    · split
      · exact hgone.trans (.of_pac_eq rfl)
      · exact hgone

theorem givesBack_endJobs (s : State) (p : Cmd → Bool) (a b : Nat) : GivesBack s (s.endJobs p a b) := .of_pac_eq rfl

theorem givesBack_endPort (s : State) (n status : Nat) (detail : Nat → Nat) : GivesBack s (s.endPort n status detail) := by
  have hlane : ∀ u l, GivesBack u ((u.withdraw ⟨.laneEnable, l⟩).setLane l
      { u.lane l with mode := 0, capture := false, realtime := false, block := [] }) :=
    fun u l => (givesBack_withdraw u ⟨.laneEnable, l⟩).trans (.of_within (within_setLane _ l _) (by decide))
  unfold State.endPort
  split
  · exact .refl s
  · exact (givesBack_endJobs s _ _ _).trans (.foldl hlane _ _)

theorem givesBack_settleWork (s : State) (r : Requester) (status : Nat) (detail : Nat → Nat) :
    GivesBack s (s.settleWork r status detail) := by
  have hend : ∀ a b, GivesBack s (s.endWaiting r a b) := givesBack_endJobs s _
  unfold State.settleWork
  cases r.kind with
  | corePll =>
    have hjobs : ∀ x : Hazel, GivesBack s { s with hazel := x } := fun _ => .of_pac_eq rfl
    dsimp only
    exact ((hjobs _).trans (givesBack_releaseIdlePipes _ 4)).trans (.of_within (within_bistsLater _) (by decide))
  | pipeJob =>
    dsimp only
    exact (givesBack_endJobs s _ _ _).trans (givesBack_releaseIdlePipes _ 4)
  | quadPll =>
    dsimp only
    exact (GivesBack.foldRange (fun _ u => givesBack_endPort u _ _ _) 4 s).trans (.of_within (within_setPll _ _ _) (by decide))
  | laneEnable => exact givesBack_endPort s _ _ _
  | dramWake =>
    dsimp only
    exact (hend _ _).trans (.of_within (within_wakeRefused _ _) (by decide))
  | vtcPll | pipeSelftest | memSelftest | mramBurst | fabricPll | hazelPll | phyPll => exact .of_pac_eq rfl

theorem edge_pac (s : State) (i : Nat) : (s.edge i).pac = s.pac := (within_edge s i).only.2 .pac (by decide)

theorem givesBack_refuse (s : State) (q : PacReq) (code : Nat) : GivesBack s (s.refuse q code) := by
  have hrefused : ∀ p : Pac, p.held = s.pac.held → p.queue = s.pac.queue.filter (·.who != q.who) →
      p.settings = s.pac.settings → GivesBack s (State.edge { s with pac := p } 95) := fun p hheld hqueue hset =>
    GivesBack.trans (t := s.setPac p) ⟨fun _ h => hheld ▸ h, fun _ h => (List.mem_filter.1 (hqueue ▸ h)).1, hset⟩
      (.of_pac_eq (edge_pac _ _))
  unfold State.refuse State.onRefuse
  refine (hrefused _ ?_ ?_ ?_).trans (givesBack_settleWork _ _ _ _)
  · rfl
  · rfl
  · rfl

theorem givesBack_retest (s : State) : GivesBack s s.retest := by
  refine .foldl (fun t q => ?_) _ _
  split
  · exact givesBack_refuse t q _
  · exact .refl t

/-- Without requests there is none to test again. -/
theorem retest_of_empty {s : State} (h : s.pac.queue = []) : s.retest = s := by
  unfold State.retest
  rw [h]
  rfl

/-! ### What a request reaches (03 R155, R158, R162) -/

/-- The parts of the work that waits on a requester. -/
def workParts : PacKind → List Part
  | .corePll => [.hazel, .pac, .pipes, .plls]
  | .pipeJob => [.hazel, .pac, .pipes]
  | .quadPll => [.hazel, .pac, .lanes, .plls]
  | .laneEnable => [.hazel, .pac, .lanes]
  | .vtcPll => [.hazel, .plls]
  | .dramWake => [.hazel, .dram, .dma]
  | .pipeSelftest => [.hazel, .pipes]
  | .memSelftest | .mramBurst => [.hazel]
  | .fabricPll | .hazelPll | .phyPll => [.plls]

theorem board_not_mem_workParts (k : PacKind) : Part.board ∉ workParts k := by
  cases k <;> decide

theorem within_settleWork_kind (s : State) (r : Requester) (status : Nat) (detail : Nat → Nat) :
    Within (workParts r.kind) s (s.settleWork r status detail) := by
  have hjobs : ∀ x : Hazel, Within [.hazel] s { s with hazel := x } := fun x => (only_hazel s x).within (by decide)
  have hwaiting := within_endWaiting s r status
  unfold State.settleWork
  cases r.kind with
  | corePll => exact (((hjobs _).seq (within_releaseIdlePipes _ 4)).seq (within_bistsLater _)).widen (by decide)
  | pipeJob => exact ((within_endJobs s _ _ _).seq (within_releaseIdlePipes _ 4)).widen (by decide)
  | quadPll =>
    exact ((within_foldRange (fun _ u => within_endPort u _ _ _) 4 s).seq (within_setPll _ _ _)).widen (by decide)
  | laneEnable => exact within_endPort s _ _ _
  | vtcPll => exact (hwaiting _).seq (within_setPll _ _ _)
  | dramWake => exact (hwaiting _).seq (within_wakeRefused _ _)
  | pipeSelftest => exact (((hwaiting _).seq (within_dropBist _ _)).seq (within_setPipe _ _ _)).widen (by decide)
  | memSelftest | mramBurst => exact hwaiting _
  | fabricPll | hazelPll | phyPll => exact within_setPll s _ _

theorem within_refuse_kind (s : State) (q : PacReq) (code : Nat) :
    Within ([.pac, .icu] ++ workParts q.who.kind) s (s.refuse q code) := by
  have hrecorded : ∀ p : Pac, Within [.pac, .icu] s (State.edge { s with pac := p } 95) := fun p =>
    (within_setPac s p).seq (within_edge _ 95)
  unfold State.refuse State.onRefuse
  exact (hrecorded _).seq (within_settleWork_kind _ _ _ _)

theorem within_request_kind (s : State) (r : Requester) (cls : Nat) :
    Within ([.pac, .icu] ++ workParts r.kind) s (s.request r cls) := by
  have hboard : Part.board ∉ [Part.pac, .icu] ++ workParts r.kind := by simp [board_not_mem_workParts]
  have hput : ∀ p : Pac, Within ([.pac, .icu] ++ workParts r.kind) s (s.setPac p) := fun p =>
    (within_setPac s p).widen ⟨by simp, hboard⟩
  have hsame : Within ([.pac, .icu] ++ workParts r.kind) s s := (Within.refl s).widen ⟨by simp, hboard⟩
  unfold State.request
  split
  · exact hsame
  · split
    · exact hput _
    · dsimp only
      split
      · exact within_refuse_kind s ⟨r, cls, s.now, s.pac.timeout, s.now⟩ _
      · exact hput _

end Sys2Proof.Machine
end


section
/-! PROOFS of 03_power_admission.md. What a request does, and what it leaves of the PAC's settings; the load, the
temperature, the clamp and the budgets. -/

namespace Sys2Proof.Machine

/-! ### A request that queues (03 R145, R155, R160) -/

theorem mem_pacInsert {x q : PacReq} {l : List PacReq} : x ∈ pacInsert q l ↔ x = q ∨ x ∈ l := by
  induction l with
  | nil => simp [pacInsert]
  | cons r l ih =>
    unfold pacInsert
    split
    · rw [List.mem_cons, ih, List.mem_cons]
      tauto
    · simp

theorem request_queued {s : State} {r : Requester} (hheld : r ∉ s.pac.held) (hq : ∀ q ∈ s.pac.queue, q.who ≠ r)
    (hb : s.pacBars r = none) (cls : Nat) : s.request r cls =
      s.setPac { s.pac with queue := pacInsert ⟨r, cls, s.now, s.pac.timeout, s.now⟩ s.pac.queue } := by
  unfold State.request
  rw [if_neg (by simpa using hheld), if_neg (by simpa using hq)]
  dsimp only
  rw [hb]
  cases s.ready 3 <;> rfl

/-- What the PAC bars follows from bank M and its settings. -/
theorem pacBars_congr {s t : State} (hm : t.bankM = s.bankM) (hp : t.pac.settings = s.pac.settings) (r : Requester) :
    t.pacBars r = s.pacBars r := by
  have hstep : t.pac.settings.standingStep = s.pac.settings.standingStep := congrArg Pac.standingStep hp
  have hstanding : t.pac.settings.standing = s.pac.settings.standing := congrArg Pac.standing hp
  have hstep' : t.pac.standingStep = s.pac.standingStep := hstep
  have hstanding' : t.pac.standing = s.pac.standing := hstanding
  rw [State.pacBars, State.pacBars, State.chargeOf, State.chargeOf, State.baselines, State.baselines, hm, hstep', hstanding']

theorem startPll_asks {s : State} {p : Pll} (h : s.pll p.idx = .stopped ∨ s.pll p.idx = .retrying) (cls : Nat) :
    s.startPll p cls = (s.setPll p.idx .requested).request p.who cls := by
  unfold State.startPll
  obtain h | h := h <;> rw [h]

/-! ### What a request leaves of the settings -/

theorem settings_request (s : State) (r : Requester) (cls : Nat) : (s.request r cls).pac.settings = s.pac.settings := by
  unfold State.request
  split
  · rfl
  · split
    · rfl
    · dsimp only
      split
      · exact (givesBack_refuse s ⟨r, cls, s.now, s.pac.timeout, s.now⟩ _).settings
      · rfl

theorem settings_startPll (s : State) (p : Pll) (cls : Nat) : (s.startPll p cls).pac.settings = s.pac.settings := by
  unfold State.startPll
  split
  · exact settings_request (s.setPll p.idx .requested) _ _
  · exact settings_request (s.setPll p.idx .requested) _ _
  · exact settings_request s _ _
  · rfl

theorem settings_wantPhy (s : State) : s.wantPhy.pac.settings = s.pac.settings := by
  unfold State.wantPhy
  split
  · exact settings_startPll s _ _
  · rfl

theorem within_startPll (s : State) (p : Pll) (cls : Nat) :
    Within ([.plls, .pac, .icu] ++ workParts p.who.kind) s (s.startPll p cls) := by
  have hboard : Part.board ∉ [Part.plls, .pac, .icu] ++ workParts p.who.kind := by simp [board_not_mem_workParts]
  have hask : Within ([.plls, .pac, .icu] ++ workParts p.who.kind) s ((s.setPll p.idx .requested).request p.who cls) :=
    (within_setPll s p.idx .requested).seq (within_request_kind _ p.who cls)
  unfold State.startPll
  split
  · exact hask
  · exact hask
  · exact (within_request_kind s p.who cls).widen ⟨List.subset_cons_self _ _, hboard⟩
  · exact (Within.refl s).widen ⟨List.nil_subset _, hboard⟩

theorem within_wantPhy (s : State) : Within [.plls, .pac, .icu] s s.wantPhy :=
  ((within_startPll s .phy 1).ite (Within.refl s)).widen (by decide)

theorem within_retest (s : State) : Within refusalParts s s.retest := by
  refine within_foldl (fun t q => ?_) (by decide) _ _
  split
  · exact within_refuse t q _
  · exact (Within.refl t).widen (by decide)

/-! ### The load (03 R175 to R181) -/

/-- The PAC loaded from bank M; the timeouts of waiting requests run from now. -/
def Pac.loaded (p : Pac) (b : BankM) (now : Nat) : Pac :=
  { p.load b with queue := p.queue.map fun q => { q with from_ := now } }

/-- The load reports what it finds, and tests what waits. -/
def State.pacTested (s : State) : State := ((s.setPac (s.pac.loaded s.bankM s.now)).setReady 3).pacReports.retest

theorem pacLoad_eq {s : State} (h2 : s.ready 2 = true) (h3 : s.ready 3 = false) (h15 : s.ready 15 = true) :
    s.pacLoad = ((s.pacTested.startPll .fabric 1).wantPhy.advance 20).startPll .hazel 1 := by
  have hguard : (s.ready 2 && !s.ready 3 && s.ready 15) = true := by simp [h2, h3, h15]
  exact if_pos hguard

theorem within_cfgBad (s : State) (item loader : Nat) (bad : Bool) : Within [.flt, .husk] s (s.cfgBad item loader bad) :=
  ((within_of_shape (reportHusk_shape s 17 _ rfl rfl)).ite (Within.refl s)).widen (by decide)

theorem within_pacReports (s : State) : Within [.flt, .husk] s s.pacReports := by
  have hcharge : ∀ (u : State) (e : Nat × Nat × Amps), Within [.flt, .husk] u
      (if s.bankM.chargesOk e.1 e.2.1 e.2.2 then u else u.report 44 (e.1 + e.2.1 * 256)) := fun u e =>
    ((Within.refl u).ite (within_report u rfl rfl)).widen (by decide)
  exact (((within_foldRange (fun _ u => within_cfgBad u _ _ _) 6 s).seq
    (within_foldRange (fun _ u => within_cfgBad u _ _ _) 8 _)).seq (within_foldl hcharge (by decide) pacAll _)).widen (by decide)

/-- The load leaves the loaded settings, and no time has passed. -/
theorem pacTested_loads (s : State) : s.pacTested.pac.settings = (s.pac.load s.bankM).settings ∧ s.pacTested.ready 3 = true ∧
    s.pacTested.now = s.now := by
  have hrep := within_pacReports ((s.setPac (s.pac.loaded s.bankM s.now)).setReady 3)
  have hall := hrep.seq (within_retest _)
  have hset : s.pacTested.pac.settings = ((s.setPac (s.pac.loaded s.bankM s.now)).setReady 3).pac.settings :=
    (givesBack_retest _).settings.trans (congrArg Pac.settings (hrep.only.2 .pac (by decide)))
  exact ⟨hset.trans rfl, (hall.ready_eq 3 (by decide)).trans ((setReady_ready _ 3 3).trans (Bool.or_true _)), hall.only.2 .time (by decide)⟩

theorem pacLoad_loads {s : State} (h2 : s.ready 2 = true) (h3 : s.ready 3 = false) (h15 : s.ready 15 = true) :
    s.pacLoad.pac.settings = (s.pac.load s.bankM).settings ∧ s.pacLoad.ready 3 = true ∧ s.pacLoad.now = s.now + 20 := by
  obtain ⟨hset, hready, hnow⟩ := pacTested_loads s
  rw [pacLoad_eq h2 h3 h15]
  generalize s.pacTested = u at hset hready hnow ⊢
  have hfirst := (within_startPll u .fabric 1).seq (within_wantPhy _)
  have hlast := within_startPll ((u.startPll .fabric 1).wantPhy.advance 20) .hazel 1
  refine ⟨?_, ?_, ?_⟩
  · exact (settings_startPll _ _ _).trans ((settings_wantPhy _).trans ((settings_startPll _ _ _).trans hset))
  · exact (hlast.ready_eq 3 (by decide)).trans ((hfirst.ready_eq 3 (by decide)).trans hready)
  · refine (hlast.only.2 .time (by decide)).trans ?_
    exact congrArg (· + 20) ((hfirst.only.2 .time (by decide)).trans hnow)

theorem pacLoad_does {s : State} (h2 : s.ready 2 = true) (h3 : s.ready 3 = false) (h15 : s.ready 15 = true) :
    Does .pacLoad s fun t => t.ready 3 = true ∧
      t.pac.timeout = (s.bankM.pacItem 0x10).1 / 65536 ∧ t.pac.slot = (s.bankM.pacItem 0x10).1 % 1024 ∧
      t.pac.warnC = (s.bankM.pacItem 0x11).1 % 256 ∧ t.pac.budget.core = (s.bankM.pacItem 0x12).1 % 65536 ∧
      t.pac.step.core = (s.bankM.pacItem 0x12).1 / 65536 ∧ t.pac.clamped = (s.pac.clamped || s.pac.clampHeld) ∧
      t.now = s.now + 20 := by
  obtain ⟨hset, hready, hnow⟩ := pacLoad_loads (s := s.begin) h2 h3 h15
  have hsettled := settled_settle s.begin.pacLoad
  have hpac : ∀ {α : Type} (f : Pac → α) (_ : ∀ p, f p.settings = f p),
      f s.begin.pacLoad.settle.pac = f (s.pac.load s.bankM) := fun f hf => by
    rw [hsettled.pac, ← hf, hset]
    exact hf _
  rw [does_run (f := State.pacLoad) (exec_pacLoad s)]
  exact ⟨(settle_ready _ 3).trans hready, hpac Pac.timeout fun _ => rfl, hpac Pac.slot fun _ => rfl, hpac Pac.warnC fun _ => rfl,
    hpac (·.budget.core) fun _ => rfl, hpac (·.step.core) fun _ => rfl, hpac Pac.clamped fun _ => rfl, hsettled.now.trans hnow⟩

/-! ### The junction temperature (03 R165) -/

/-- The PAC has taken a sample. -/
def Pac.sampled (p : Pac) (tj : Int) (warn : Bool) : Pac := { p with tj := tj, warn := warn }

/-- The Husk and the PAC have taken a sample. -/
def State.warmed (s : State) (tj : Int) (warn : Bool) : State :=
  (s.setHusk { s.husk with tj := tj }).setPac (s.pac.sampled tj warn)

theorem within_warmed (s : State) (tj : Int) (warn : Bool) : Within [.husk, .pac] s (s.warmed tj warn) :=
  (within_setHusk s { s.husk with tj := tj }).seq (within_setPac _ (s.pac.sampled tj warn))

/-- The samples that the warning threshold tells apart, with 5 degrees of hysteresis. -/
def Pac.warns (p : Pac) (tj : Int) : Bool :=
  if tj ≥ (p.warnC : Int) then true else if tj ≤ (p.warnC : Int) - 5 then false else p.warn

theorem sample_eq {s : State} (h3 : s.ready 3 = true) (tj : Int) : s.sample tj =
    if s.pac.warns tj && !s.pac.warn then (s.warmed tj (s.pac.warns tj)).report 12 0
    else if s.pac.warn && !s.pac.warns tj then (s.warmed tj (s.pac.warns tj)).endCondition 12
    else s.warmed tj (s.pac.warns tj) :=
  if_pos h3

/-- A sample reaches the Husk and the PAC, and the fault collector hears of a warning that begins or ends. -/
theorem sample_shape {s : State} (h3 : s.ready 3 = true) (tj : Int) :
    ∃ f r, s.sample tj = ((s.warmed tj (s.pac.warns tj)).setFlt f).setHusk { s.husk with tj := tj, resetDue := r } := by
  rw [sample_eq h3]
  generalize s.pac.warns tj = w
  split
  · exact report_shape (s.warmed tj w) 12 0 rfl rfl
  · split
    · obtain ⟨f, hf⟩ := endCondition_shape (s.warmed tj w) 12
      exact ⟨f, s.husk.resetDue, hf⟩
    · exact ⟨s.flt, s.husk.resetDue, rfl⟩

theorem sample_does {s : State} (h3 : s.ready 3 = true) (tj : Int) : Does (.pacThermalSample tj) s fun t =>
    t.husk.tj = tj ∧ t.pac = s.pac.sampled tj (s.pac.warns tj) ∧ Only [.husk, .pac, .flt] s t := by
  obtain ⟨f, r, hs⟩ := sample_shape (s := s.begin) h3 tj
  have hframe := ((within_warmed s.begin tj (s.pac.warns tj)).seq (within_setFlt _ f)).seq
    (within_setHusk _ { s.husk with tj := tj, resetDue := r })
  rw [does_run (f := fun u => u.sample tj) (exec_pacThermalSample tj s), hs]
  exact ⟨settle_husk_tj _, (settled_settle _).pac, (hframe.widen (by decide)).settled⟩

theorem sample_between {s : State} (h3 : s.ready 3 = true) {tj : Int} (hlt : tj < (s.pac.warnC : Int))
    (hgt : (s.pac.warnC : Int) - 5 < tj) : Does (.pacThermalSample tj) s fun t =>
      t.pac.tj = tj ∧ t.pac.warn = s.pac.warn ∧ Only [.husk, .pac] s t := by
  have hwarns : s.begin.pac.warns tj = s.pac.warn := by
    rw [Pac.warns, if_neg (show ¬ tj ≥ (s.begin.pac.warnC : Int) from not_le.2 hlt),
      if_neg (show ¬ tj ≤ (s.begin.pac.warnC : Int) - 5 from not_le.2 hgt)]
    rfl
  have hsample : s.begin.sample tj = s.begin.warmed tj s.pac.warn := by
    rw [sample_eq (s := s.begin) h3, hwarns, show s.begin.pac.warn = s.pac.warn from rfl]
    simp
  rw [does_run (f := fun u => u.sample tj) (exec_pacThermalSample tj s), hsample]
  have hpac : (s.begin.warmed tj s.pac.warn).settle.pac = s.pac.sampled tj s.pac.warn := (settled_settle _).pac
  exact ⟨(congrArg Pac.tj hpac).trans rfl, (congrArg Pac.warn hpac).trans rfl, (within_warmed s.begin tj s.pac.warn).settled⟩

theorem sample_unready {s : State} (h3 : s.ready 3 = false) (tj : Int) : Does (.pacThermalSample tj) s fun t =>
    t.husk.tj = tj ∧ Only [.husk] s t := by
  have hsample : s.begin.sample tj = s.begin.setHusk { s.husk with tj := tj } := if_neg (ne_true_of_eq_false h3)
  rw [does_run (f := fun u => u.sample tj) (exec_pacThermalSample tj s), hsample]
  exact ⟨settle_husk_tj _, only_setHusk_settled s _⟩

/-! ### The clamp and the budgets (03 R168, R170, R180, R193) -/

/-- A command whose effect is a change of the PAC. -/
theorem setPac_settled (s : State) (p : Pac) :
    (s.begin.setPac p).settle.pac = p ∧ Only [.pac] s (s.begin.setPac p).settle :=
  ⟨(settled_settle _).pac, (within_setPac s.begin p).settled⟩

theorem clampSet_ready {s : State} (h3 : s.ready 3 = true) (hq : s.pac.queue = []) : Does .clampSet s fun t =>
    t.pac = { s.pac with clamped := true } ∧ Only [.pac] s t := by
  have hclamp : s.begin.clamp = s.begin.setPac { s.pac with clamped := true } :=
    (if_pos h3).trans (retest_of_empty (s := s.begin.setPac { s.pac with clamped := true }) hq)
  rw [does_run (f := State.clamp) (exec_clampSet s), hclamp]
  exact setPac_settled s _

theorem clampSet_unready {s : State} (h3 : s.ready 3 = false) (hup : s.huskUp = true) : Does .clampSet s fun t =>
    t.pac = { s.pac with clampHeld := true } ∧ Only [.pac] s t := by
  have hclamp : s.begin.clamp = s.begin.setPac { s.pac with clampHeld := true } :=
    (if_neg (ne_true_of_eq_false h3)).trans (if_pos hup)
  rw [does_run (f := State.clamp) (exec_clampSet s), hclamp]
  exact setPac_settled s _

theorem Amps.of_set (a : Amps) (r x : BudgetRail) (v : Nat) : (a.set r v).of x = if x = r then v else a.of x := by
  cases r <;> cases x <;> rfl

/-- A budget register has been written. -/
def Pac.budgeted (p : Pac) (r : BudgetRail) (v : Nat) : Pac :=
  { p with budget := p.budget.set r (budgetField (budgetLimit r) (v % 65536) (p.budget.of r))
           step := p.step.set r (budgetField (budgetLimit r) (v / 65536) (p.step.of r)) }

theorem pacBudgetWrite_does {s : State} (r : BudgetRail) (v : Word32) (h3 : s.ready 3 = true) (hq : s.pac.queue = []) :
    Does (.pacBudgetWrite r v) s fun t =>
      t.pac.budget.of r = (if v.toNat % 65536 = 0 ∨ v.toNat % 65536 > budgetLimit r then s.pac.budget.of r else v.toNat % 65536) ∧
      t.pac.step.of r = (if v.toNat / 65536 = 0 ∨ v.toNat / 65536 > budgetLimit r then s.pac.step.of r else v.toNat / 65536) ∧
      (∀ x, x ≠ r → t.pac.budget.of x = s.pac.budget.of x ∧ t.pac.step.of x = s.pac.step.of x) ∧ Only [.pac] s t := by
  have hwrite : s.begin.budgetWrite r v.toNat = s.begin.setPac (s.pac.budgeted r v.toNat) :=
    (if_pos h3).trans (retest_of_empty (s := s.begin.setPac (s.pac.budgeted r v.toNat)) hq)
  rw [does_run (f := fun u => u.budgetWrite r v.toNat) (exec_pacBudgetWrite r v s), hwrite]
  obtain ⟨hpac, honly⟩ := setPac_settled s (s.pac.budgeted r v.toNat)
  rw [hpac]
  exact ⟨(Amps.of_set _ _ _ _).trans (if_pos rfl), (Amps.of_set _ _ _ _).trans (if_pos rfl),
    fun x hx => ⟨(Amps.of_set _ _ _ _).trans (if_neg hx), (Amps.of_set _ _ _ _).trans (if_neg hx)⟩, honly⟩

/-- Settles O18: the load keeps its settings through the requests it makes; a sample, a clamp and a budget write change the
PAC's settings alone. -/
theorem budgetsFollowTheLoadTheClampAndHeat : Obligations.BudgetsFollowTheLoadTheClampAndHeat := by
  unfold Obligations.BudgetsFollowTheLoadTheClampAndHeat
  refine fun s => ⟨pacLoad_does, fun tj h3 => ⟨fun hge => ?_, fun hle => ?_, sample_between h3⟩, fun tj h3 => sample_unready h3 tj,
    clampSet_ready, clampSet_unready, fun r v => pacBudgetWrite_does r v⟩
  · have hwarns : s.pac.warns tj = true := if_pos hge
    obtain ⟨t, hexec, htj, hpac, honly⟩ := sample_does h3 tj
    exact ⟨t, hexec, htj, congrArg Pac.tj hpac, (congrArg Pac.warn hpac).trans hwarns, honly⟩
  · have hwarns : s.pac.warns tj = false := (if_neg (by omega)).trans (if_pos hle)
    obtain ⟨t, hexec, htj, hpac, honly⟩ := sample_does h3 tj
    exact ⟨t, hexec, htj, congrArg Pac.tj hpac, (congrArg Pac.warn hpac).trans hwarns, honly⟩

end Sys2Proof.Machine
end


section
/-! PROOFS of 02_husk_clocks_waking.md. The boot ROM of Pip (R104, R105), the start of Hazel (R107 to R111) and the removal
record (04 R244). -/

namespace Sys2Proof.Machine

/-! ### Which slot runs (02 R104, R109) -/

theorem chooseSlot_first {img : Bool → ImageHeader} {first : Bool} (h : (img first).passes = true) :
    chooseSlot img first = some first :=
  if_pos h

theorem chooseSlot_other {img : Bool → ImageHeader} {first : Bool} (h : (img first).passes = false)
    (ho : (img !first).passes = true) : chooseSlot img first = some (!first) :=
  (if_neg (ne_true_of_eq_false h)).trans (if_pos ho)

theorem chooseSlot_none {img : Bool → ImageHeader} {first : Bool} (h : (img first).passes = false)
    (ho : (img !first).passes = false) : chooseSlot img first = none :=
  (if_neg (ne_true_of_eq_false h)).trans (if_neg (ne_true_of_eq_false ho))

theorem pipSlotsBad_first {s : State} {first : Bool} (h : (s.bankM.pipSlot first).passes = true) : s.pipSlotsBad first = s := by
  simp [State.pipSlotsBad, h]

theorem pipSlotsBad_other {s : State} {first : Bool} (h : (s.bankM.pipSlot first).passes = false)
    (ho : (s.bankM.pipSlot !first).passes = true) : s.pipSlotsBad first = s.reportHusk 45 (b2n first) := by
  simp [State.pipSlotsBad, h, ho]

theorem pipSlotsBad_both {s : State} {first : Bool} (h : (s.bankM.pipSlot first).passes = false)
    (ho : (s.bankM.pipSlot !first).passes = false) :
    s.pipSlotsBad first = (s.reportHusk 45 (b2n first)).reportHusk 45 (b2n !first) := by
  simp [State.pipSlotsBad, h, ho]

/-! ### Pip (02 R104, R105; 03 R169) -/

/-- Pip runs the image of slot `b`. -/
def Husk.pipImage (h : Husk) (i : ImageHeader) (b : Bool) : Husk :=
  { h with pipMode := .firmware, pipVersion := i.version, pipIf := i.pipIf, pipSlotB := b }

/-- Pip's boot ROM serves. -/
def Husk.pipRom (h : Husk) : Husk := { h with pipMode := .rom, pipVersion := 0, pipIf := 0x0100 }

/-- The Husk's state has nothing for Pip to act on. -/
def Husk.quiet (h : Husk) : Prop := h.ctrl = 0 ∧ h.keptOn = false ∧ h.wakeCause &&& ~~~h.causeSeen = 0

theorem pipActs_of_quietHusk {s : State} (h : s.husk.quiet) : s.pipActs = s := by
  obtain ⟨hctrl, hkept, hcause⟩ := h
  exact pipActs_of_nothing hctrl hkept hcause

theorem pipBoots_eq {s : State} (hup : s.huskUp = true) (hrun : s.husk.pipRun = true) (hmode : s.husk.pipMode = .boot) :
    s.pipBoots =
      (let t := s.pipSlotsBad s.bankM.pipB
       match chooseSlot t.bankM.pipSlot t.bankM.pipB with
       | some b => ((t.setHusk (t.husk.pipImage (t.bankM.pipSlot b) b)).setReady 1).pipActs
       | none => ((t.setHusk t.husk.pipRom).clamp).pipActs) := by
  have hguard : (s.huskUp && s.husk.pipRun && s.husk.pipMode == .boot) = true := by simp [hup, hrun, hmode]
  exact if_pos hguard

theorem pipBoots_image {s t : State} {b : Bool} (hup : s.huskUp = true) (hrun : s.husk.pipRun = true)
    (hmode : s.husk.pipMode = .boot) (ht : s.pipSlotsBad s.bankM.pipB = t)
    (hb : chooseSlot t.bankM.pipSlot t.bankM.pipB = some b) :
    s.pipBoots = ((t.setHusk (t.husk.pipImage (t.bankM.pipSlot b) b)).setReady 1).pipActs := by
  rw [pipBoots_eq hup hrun hmode, ht]
  dsimp only
  rw [hb]

theorem pipBoots_service {s t : State} (hup : s.huskUp = true) (hrun : s.husk.pipRun = true) (hmode : s.husk.pipMode = .boot)
    (ht : s.pipSlotsBad s.bankM.pipB = t) (hb : chooseSlot t.bankM.pipSlot t.bankM.pipB = none) :
    s.pipBoots = (t.setHusk t.husk.pipRom).clamp.pipActs := by
  rw [pipBoots_eq hup hrun hmode, ht]
  dsimp only
  rw [hb]

theorem pipBoots_first {s : State} (hup : s.huskUp = true) (hrun : s.husk.pipRun = true) (hmode : s.husk.pipMode = .boot)
    (hq : s.husk.quiet) (hpass : (s.bankM.pipSlot s.bankM.pipB).passes = true) :
    s.pipBoots = (s.setHusk (s.husk.pipImage (s.bankM.pipSlot s.bankM.pipB) s.bankM.pipB)).setReady 1 :=
  (pipBoots_image hup hrun hmode (pipSlotsBad_first hpass) (chooseSlot_first hpass)).trans (pipActs_of_quietHusk hq)

/-- What a boot ROM leaves that has started the image `i` of slot `b` in state `u`. -/
theorem pipImage_settled (u : State) (i : ImageHeader) (b : Bool) :
    let t := ((u.setHusk (u.husk.pipImage i b)).setReady 1).settle
    t.husk.pipMode = .firmware ∧ t.husk.pipSlotB = b ∧ t.ready 1 = true ∧ t.husk.pipVersion = i.version ∧ t.husk.pipIf = i.pipIf :=
  ⟨settle_husk_pipMode _, settle_husk_pipSlotB _, (settle_ready _ 1).trans ((setReady_ready _ 1 1).trans (Bool.or_true _)),
    settle_husk_pipVersion _, settle_husk_pipIf _⟩

theorem within_pipImage (u : State) (i : ImageHeader) (b : Bool) :
    Within [.husk, .ready] u ((u.setHusk (u.husk.pipImage i b)).setReady 1) :=
  (within_setHusk u _).seq (within_setReady _ 1)

theorem pipBoot_first {s : State} (hup : s.huskUp = true) (hrun : s.husk.pipRun = true) (hmode : s.husk.pipMode = .boot)
    (hq : s.husk.quiet) (hpass : (s.bankM.pipSlot s.bankM.pipB).passes = true) : Does .pipBoot s fun t =>
      t.husk.pipMode = .firmware ∧ t.husk.pipSlotB = s.bankM.pipB ∧ t.ready 1 = true ∧
      t.husk.pipVersion = (s.bankM.pipSlot s.bankM.pipB).version ∧ t.husk.pipIf = (s.bankM.pipSlot s.bankM.pipB).pipIf ∧
      Only [.husk, .ready] s t := by
  rw [does_run (f := State.pipBoots) (exec_pipBoot s), pipBoots_first (s := s.begin) hup hrun hmode hq hpass]
  obtain ⟨hrunning, hslot, hready, hversion, hif⟩ := pipImage_settled s.begin (s.bankM.pipSlot s.bankM.pipB) s.bankM.pipB
  exact ⟨hrunning, hslot, hready, hversion, hif, (within_pipImage s.begin _ _).settled⟩

/-- A report of FW_SLOT_BAD to the Husk section leaves its record open. -/
theorem reportHusk_slotBad {s : State} (hup : s.huskUp = true) (hm : s.mildly 45) (detail : Nat) :
    ∃ f r, s.reportHusk 45 detail = (s.setFlt f).setHusk { s.husk with resetDue := r } ∧ (Table.get {} f.src 45).open_ = true := by
  obtain ⟨hheld, -⟩ := huskUp_iff.1 hup
  have hcan : s.canRecord 45 true = true := by simp [State.canRecord, fltReserved, hheld]
  obtain ⟨f, r, heq, hopen, -⟩ := record_mild hm (detail % 2 ^ 32) (fltCondition 45)
  exact ⟨f, r, (if_pos hcan).trans heq, hopen⟩

/-- The active slot fails, and its report goes before the start of the other one. -/
theorem pipBoots_other {s : State} (hup : s.huskUp = true) (hrun : s.husk.pipRun = true) (hmode : s.husk.pipMode = .boot)
    (hq : s.husk.quiet) (hm : s.mildly 45) (hfail : (s.bankM.pipSlot s.bankM.pipB).passes = false)
    (hpass : (s.bankM.pipSlot !s.bankM.pipB).passes = true) : ∃ u, Within [.flt, .husk] s u ∧ (u.fltSrc 45).open_ = true ∧
      s.pipBoots = (u.setHusk (u.husk.pipImage (s.bankM.pipSlot !s.bankM.pipB) !s.bankM.pipB)).setReady 1 := by
  obtain ⟨f, r, hrep, hopen⟩ := reportHusk_slotBad hup hm (b2n s.bankM.pipB)
  refine ⟨(s.setFlt f).setHusk { s.husk with resetDue := r }, within_of_shape ⟨f, r, rfl⟩, hopen, ?_⟩
  exact (pipBoots_image hup hrun hmode ((pipSlotsBad_other hfail hpass).trans hrep) (chooseSlot_other hfail hpass)).trans
    (pipActs_of_quietHusk hq)

theorem pipBoot_other {s : State} (hup : s.huskUp = true) (hrun : s.husk.pipRun = true) (hmode : s.husk.pipMode = .boot)
    (hq : s.husk.quiet) (hm : s.mildly 45) (hfail : (s.bankM.pipSlot s.bankM.pipB).passes = false)
    (hpass : (s.bankM.pipSlot !s.bankM.pipB).passes = true) : Does .pipBoot s fun t =>
      t.husk.pipMode = .firmware ∧ t.husk.pipSlotB = (!s.bankM.pipB) ∧ t.ready 1 = true ∧
      t.husk.pipVersion = (s.bankM.pipSlot !s.bankM.pipB).version ∧ (t.fltSrc 45).open_ = true ∧ Only [.husk, .ready, .flt] s t := by
  obtain ⟨u, hframe, hopen, hboots⟩ := pipBoots_other (s := s.begin) hup hrun hmode hq hm hfail hpass
  obtain ⟨hrunning, hslot, hready, hversion, -⟩ := pipImage_settled u (s.bankM.pipSlot !s.bankM.pipB) (!s.bankM.pipB)
  rw [does_run (f := State.pipBoots) (exec_pipBoot s), hboots]
  exact ⟨hrunning, hslot, hready, hversion, (congrArg FltSrc.open_ (settle_fltSrc _ 45)).trans hopen,
    ((hframe.seq (within_pipImage u _ _)).widen (by decide)).settled⟩

/-- The clamp with no request that waits: the PAC's flag, or the Husk's until the PAC loads. -/
theorem clamp_of_empty {s : State} (hq : s.pac.queue = []) (hup : s.huskUp = true) :
    ∃ p, s.clamp = s.setPac p ∧ (if s.ready 3 then p.clamped else p.clampHeld) = true := by
  unfold State.clamp
  cases h3 : s.ready 3 with
  | true => exact ⟨{ s.pac with clamped := true }, retest_of_empty (s := s.setPac { s.pac with clamped := true }) hq, rfl⟩
  | false => exact ⟨{ s.pac with clampHeld := true }, if_pos hup, rfl⟩

/-- Both slots fail: two reports, the boot ROM's service, and the clamp. -/
theorem pipBoots_rom {s : State} (hup : s.huskUp = true) (hrun : s.husk.pipRun = true) (hmode : s.husk.pipMode = .boot)
    (hq : s.husk.quiet) (hfail : (s.bankM.pipSlot s.bankM.pipB).passes = false)
    (hother : (s.bankM.pipSlot !s.bankM.pipB).passes = false) (hqueue : s.pac.queue = []) :
    ∃ f r p, s.pipBoots = ((s.setFlt f).setHusk (Husk.pipRom { s.husk with resetDue := r })).setPac p ∧
      (if s.ready 3 then p.clamped else p.clampHeld) = true := by
  obtain ⟨f, r, hfirst⟩ := reportHusk_shape s 45 (b2n s.bankM.pipB) rfl rfl
  obtain ⟨g, d, hsecond⟩ := reportHusk_shape (s.reportHusk 45 (b2n s.bankM.pipB)) 45 (b2n !s.bankM.pipB) rfl rfl
  have hbad : s.pipSlotsBad s.bankM.pipB = (s.setFlt g).setHusk { s.husk with resetDue := d } := by
    rw [pipSlotsBad_both hfail hother, hsecond, hfirst]
    rfl
  obtain ⟨p, hclamp, hset⟩ := clamp_of_empty (s := (s.setFlt g).setHusk (Husk.pipRom { s.husk with resetDue := d })) hqueue hup
  refine ⟨g, d, p, ?_, hset⟩
  exact (pipBoots_service hup hrun hmode hbad (chooseSlot_none hfail hother)).trans
    ((congrArg State.pipActs hclamp).trans (pipActs_of_quietHusk hq))

theorem pipBoot_rom {s : State} (hup : s.huskUp = true) (hrun : s.husk.pipRun = true) (hmode : s.husk.pipMode = .boot)
    (hq : s.husk.quiet) (hfail : (s.bankM.pipSlot s.bankM.pipB).passes = false)
    (hother : (s.bankM.pipSlot !s.bankM.pipB).passes = false) (hqueue : s.pac.queue = []) : Does .pipBoot s fun t =>
      t.husk.pipMode = .rom ∧ t.husk.pipVersion = 0 ∧ t.husk.pipIf = 0x0100 ∧ t.ready 1 = s.ready 1 ∧
      (if s.ready 3 then t.pac.clamped else t.pac.clampHeld) = true ∧ Only [.husk, .flt, .pac] s t := by
  obtain ⟨f, r, p, hboots, hset⟩ := pipBoots_rom (s := s.begin) hup hrun hmode hq hfail hother hqueue
  have hframe := ((within_setFlt s.begin f).seq (within_setHusk _ (Husk.pipRom { s.husk with resetDue := r }))).seq
    (within_setPac _ p)
  rw [does_run (f := State.pipBoots) (exec_pipBoot s), hboots]
  refine ⟨settle_husk_pipMode _, settle_husk_pipVersion _, settle_husk_pipIf _, settle_ready _ 1, ?_,
    (hframe.widen (by decide)).settled⟩
  rw [(settled_settle _).pac]
  exact hset

end Sys2Proof.Machine
end


section
/-! PROOFS of 02_husk_clocks_waking.md. The start of Hazel (R107 to R111, R920) and the removal record (04 R244). -/

namespace Sys2Proof.Machine

/-! ### Pip hands the boot word over (02 R107, R108; 01 R43) -/

/-- The state with its bank M replaced. -/
def State.setBankM (s : State) (b : BankM) : State := { s with bankM := b }

/-- The state with its MRAM replaced. -/
def State.setMram (s : State) (m : Mram) : State := { s with mram := m }

/-- The state with Hazel replaced. -/
def State.setHazel (s : State) (h : Hazel) : State := { s with hazel := h }

theorem within_setBankM (s : State) (b : BankM) : Within [.bankM] s (s.setBankM b) := ⟨only_bankM s b, by decide⟩
theorem within_setMram (s : State) (m : Mram) : Within [.mram] s (s.setMram m) := ⟨only_mram s m, by decide⟩
theorem within_setHazel (s : State) (h : Hazel) : Within [.hazel] s (s.setHazel h) := ⟨only_hazel s h, by decide⟩

theorem nextEpoch_range {e : Nat} (h : e < 65536) : nextEpoch e ≠ 0 ∧ nextEpoch e < 65536 := by
  unfold nextEpoch
  split <;> omega

theorem handover_lt {s : State} {e : Nat} (he : e < 65536) : s.handover e < 2 ^ 64 := by
  have hb2n : ∀ b, b2n b ≤ 1 := by decide
  have hversion : (if (s.husk.pipMode == .rom) then 0 else s.husk.pipVersion % 2 ^ 24) < 2 ^ 24 := by split <;> omega
  have hif : (if (s.husk.pipMode == .rom) then 0x10 else s.husk.pipIf / 256 % 16 * 16 + s.husk.pipIf % 16) < 2 ^ 8 := by
    split <;> omega
  have hrom := hb2n (s.husk.pipMode == .rom)
  have hslot := hb2n s.bankM.hazelB
  simp only [State.handover]
  omega

/-- Words written into bank M: its wear, and a report of MRAM_WEAR at the threshold (12 R630, R634). -/
theorem within_wearBy (s : State) (r n : Nat) : Within [.mram, .flt, .husk] s (s.wearBy r n) := by
  have hworn : ∀ m : Mram, Within [.mram] s { s with mram := m } := within_setMram s
  have hraised : ∀ m : Mram, Within [.mram, .flt, .husk] s (State.report { s with mram := m } 27 r) := fun m =>
    (hworn m).seq (within_report _ rfl rfl)
  unfold State.wearBy
  dsimp only
  split
  · exact hraised _
  · exact (hworn _).widen (by decide)

theorem within_wearM (s : State) (r n : Nat) : Within [.mram, .flt, .husk] s (s.wearM r n) :=
  ((within_wearBy s r _).seq (within_wearBy _ 4 _)).widen (by decide)

/-- Both halves of a mailbox are written while it is open and empty. -/
theorem sendHi_stores {s : State} {m : Nat} (hc : s.boxClosed m = false) (hf : (s.box m).full = false) (hi lo : Nat) :
    s.sendHi m hi (some lo) = s.setBox m { s.box m with hi := hi % 2 ^ 32, lo := lo % 2 ^ 32, full := true, half := false } := by
  unfold State.sendHi
  rw [if_neg (ne_true_of_eq_false hc), if_neg (ne_true_of_eq_false hf)]
  rfl

/-- A mailbox that holds a 64-bit value. -/
def Mbx.holding (b : Mbx) (v : Nat) : Mbx :=
  { b with hi := v / 2 ^ 32 % 2 ^ 32, lo := v % 2 ^ 32 % 2 ^ 32, full := true, half := false }

theorem Mbx.value_holding (b : Mbx) {v : Nat} (h : v < 2 ^ 64) : (b.holding v).value = v := by
  simp only [Mbx.holding, Mbx.value]
  omega

theorem hazelStarts_eq {s : State} (hon : s.mainOn = true) (hserves : s.pipServes = true) (hpll : s.pll 1 = .locked)
    (hmode : s.hazel.mode = .stopped) (hfull : (s.box 33).full = false) (hgate : s.husk.gateClosed = false) :
    s.hazelStarts = (let e := nextEpoch s.bankM.epoch
                     let t := (s.setBankM { s.bankM with epoch := e }).wearM 2 2
                     let u := t.sendHi 33 (s.handover e / 2 ^ 32) (some (s.handover e % 2 ^ 32))
                     u.setHazel { u.hazel with mode := .boot }) := by
  have hguard : (s.mainOn && s.pipServes && s.pll 1 == .locked && s.hazel.mode == .stopped && !(s.box 33).full &&
      !s.husk.gateClosed) = true := by simp [hon, hserves, hpll, hmode, hfull, hgate]
  exact if_pos hguard

theorem hazelStart_starts {s : State} (hon : s.mainOn = true) (hserves : s.pipServes = true) (hpll : s.pll 1 = .locked)
    (hmode : s.hazel.mode = .stopped) (hfull : (s.box 33).full = false) (hgate : s.husk.gateClosed = false)
    (he : s.bankM.epoch < 65536) : Does .hazelStart s fun t =>
      t.hazel.mode = .boot ∧ t.bankM.epoch = nextEpoch s.bankM.epoch ∧ t.bankM.epoch ≠ 0 ∧
      (t.box 33).full = true ∧ (t.box 33).value = s.handover (nextEpoch s.bankM.epoch) ∧
      Only [.bankM, .mram, .mbx, .hazel, .flt, .husk] s t := by
  obtain ⟨hne, hlt⟩ := nextEpoch_range he
  have hv := handover_lt (s := s) hlt
  have hworn := (within_setBankM s.begin { s.bankM with epoch := nextEpoch s.bankM.epoch }).seq (within_wearM _ 2 2)
  have hstart := hazelStarts_eq (s := s.begin) hon hserves hpll hmode hfull hgate
  have hbankM := (within_wearM (s.begin.setBankM { s.bankM with epoch := nextEpoch s.bankM.epoch }) 2 2).only.2 .bankM (by decide)
  rw [does_run (f := State.hazelStarts) (exec_hazelStart s), hstart]
  dsimp only
  rw [show s.begin.handover (nextEpoch s.begin.bankM.epoch) = s.handover (nextEpoch s.bankM.epoch) from rfl]
  generalize s.handover (nextEpoch s.bankM.epoch) = v at hv ⊢
  generalize hu : (s.begin.setBankM { s.bankM with epoch := nextEpoch s.bankM.epoch }).wearM 2 2 = u at hworn hbankM
  rw [show (s.begin.setBankM { s.begin.bankM with epoch := nextEpoch s.begin.bankM.epoch }).wearM 2 2 = u from hu]
  obtain ⟨hmbx, -⟩ := hworn.only.2 .mbx (by decide)
  have hempty : (u.box 33).full = false := by
    rw [State.box, hmbx]
    exact hfull
  rw [sendHi_stores (by simp [State.boxClosed]) hempty]
  have hepoch : ∀ x : Hazel, ((u.setBox 33 ((u.box 33).holding v)).setHazel x).settle.bankM.epoch = nextEpoch s.bankM.epoch :=
    fun x => (congrArg BankM.epoch (settled_settle _).bankM).trans (congrArg BankM.epoch hbankM)
  have hbox : ∀ x : Hazel, ((u.setBox 33 ((u.box 33).holding v)).setHazel x).settle.box 33 = (u.box 33).holding v := fun x =>
    (settle_box _ 33).trans (setBox_same u 33 _)
  have hframe := (hworn.seq (within_setBox u 33 ((u.box 33).holding v))).seq (within_setHazel _ { u.hazel with mode := .boot })
  refine ⟨congrArg Hazel.mode (settled_settle _).hazel, hepoch _, ?_, ?_, ?_, (hframe.widen (by decide)).settled⟩
  · exact fun h0 => hne ((hepoch _).symm.trans h0)
  · exact congrArg Mbx.full (hbox _)
  · exact (congrArg Mbx.value (hbox _)).trans (Mbx.value_holding _ hv)

/-! ### The removal record (04 R244; 15 R808) -/

theorem pipRemovalRecord_records {s : State} (hdue : s.husk.removalDue = true) (hen : s.husk.hpEn = false)
    (hup : s.huskUp = true) : Does .pipRemovalRecord s fun t =>
      t.husk.removalDue = false ∧ s.husk.hpFellAt + 10000000 ≤ t.now ∧
      t.flt.plogDue.length = s.flt.plogDue.length + 1 ∧ Only [.husk, .flt, .time, .ptp] s t := by
  have hguard : (s.begin.husk.removalDue && !s.begin.husk.hpEn && s.begin.huskUp) = true := by
    rw [show s.begin.husk.removalDue = true from hdue, show s.begin.husk.hpEn = false from hen,
      show s.begin.huskUp = true from hup]
    rfl
  have hwait := within_until s.begin (s.begin.husk.hpFellAt + 10000000)
  have hnow := le_until_now s.begin (s.begin.husk.hpFellAt + 10000000)
  rw [does_run (exec_pipRemovalRecord s), if_pos hguard]
  dsimp only
  generalize s.begin.until (s.begin.husk.hpFellAt + 10000000) = u at hwait hnow ⊢
  have hframe := (hwait.seq (within_setHusk u { u.husk with removalDue := false })).seq
    (within_setFlt _ { u.flt with plogDue := u.flt.plogDue ++ [(u.setHusk { u.husk with removalDue := false }).pentry 7 0] })
  have hflt : u.flt = s.flt := hwait.only.2 .flt (by decide)
  refine ⟨settle_husk_removalDue _, ?_, ?_, (hframe.widen (by decide)).settled⟩
  · rw [(settled_settle _).now]
    exact hnow
  · rw [(settled_settle _).flt, ← hflt]
    exact List.length_append

end Sys2Proof.Machine
end


section
/-! PROOFS of 02_husk_clocks_waking.md. Hazel runs an image, or RECOVERY (R109 to R112; 06 R385). -/

namespace Sys2Proof.Machine

/-! ### What Hazel's start leaves open: nothing, without commands and sessions (06 R385) -/

/-- Hazel without its commands and sessions: what it took from the boot word and the slot. -/
def Hazel.started (h : Hazel) : Hazel := { h with jobs := [], sessions := [] }

theorem endPort_of_no_jobs {s : State} (h : s.hazel.jobs = []) (n status : Nat) (detail : Nat → Nat) :
    s.endPort n status detail = s := by
  unfold State.endPort
  rw [h]
  rfl

theorem cutPorts_of_no_jobs {s : State} (h : s.hazel.jobs = []) : s.cutPorts = s := by
  have hall : ∀ n, foldRange (fun n t => t.endPort n 0x0301 fun _ => 2) n s = s := fun n => by
    induction n with
    | zero => rfl
    | succ n ih => exact (congrArg (fun t : State => t.endPort n 0x0301 fun _ => 2) ih).trans (endPort_of_no_jobs h n _ _)
  exact hall 16

theorem endRuns_of_no_sessions {s : State} (h : s.hazel.sessions = []) (status n : Nat) : s.endRuns status n = s := by
  have hnone : ∀ k, ¬ (s.session k).run.isSome = true := fun k => by
    unfold State.session
    rw [h]
    exact Bool.false_ne_true
  induction n with
  | zero => rfl
  | succ n ih =>
    unfold State.endRuns
    rw [ih]
    exact if_neg (hnone n)

/-- A session that was closing is open again. -/
def Session.reopened (x : Session) : Session := if x.mode = .closing then { x with mode := .opened } else x

/-- What settles the job table once the ports and runs that were cut have ended. -/
def State.settleJobs (s : State) : State :=
  let t := ((s.endJobs (fun _ => true) 0x0301 2).withdraw ⟨.mramBurst, 0⟩).releaseIdlePipes 4
  let u := t.setHazel { t.hazel with sessions := Table.mapVals {} Session.reopened t.hazel.sessions }
  foldRange (fun n u => u.setPipe n { u.pipe n with bistCmd := none }) 4 u

theorem settleHazel_eq (s : State) : s.settleHazel = (s.cutPorts.endRuns 0x0301 64).settleJobs := rfl

theorem settleHazel_of_none {s : State} (hj : s.hazel.jobs = []) (hs : s.hazel.sessions = []) : s.settleHazel = s.settleJobs := by
  rw [settleHazel_eq, cutPorts_of_no_jobs hj, endRuns_of_no_sessions hs]

/-- Hazel's start settles nothing, and keeps what Hazel took. -/
theorem settleHazel_idle {s : State} (hj : s.hazel.jobs = []) (hs : s.hazel.sessions = []) :
    Within [.hazel, .pac, .pipes] s s.settleHazel ∧ s.settleHazel.hazel.started = s.hazel.started ∧
      GivesBack s s.settleHazel := by
  rw [settleHazel_of_none hj hs]
  unfold State.settleJobs
  dsimp only
  have hended := within_endJobs s (fun _ => true) 0x0301 2
  have hkept : (s.endJobs (fun _ => true) 0x0301 2).hazel.started = s.hazel.started := rfl
  generalize s.endJobs (fun _ => true) 0x0301 2 = t at hended hkept
  have hgone := (within_withdraw t ⟨.mramBurst, 0⟩).seq (within_releaseIdlePipes _ 4)
  have hback := (givesBack_withdraw t ⟨.mramBurst, 0⟩).trans (givesBack_releaseIdlePipes _ 4)
  generalize (t.withdraw ⟨.mramBurst, 0⟩).releaseIdlePipes 4 = u at hgone hback
  have hopen := within_setHazel u { u.hazel with sessions := Table.mapVals {} Session.reopened u.hazel.sessions }
  have hopened : (u.setHazel { u.hazel with sessions := Table.mapVals {} Session.reopened u.hazel.sessions }).hazel.started =
    u.hazel.started := rfl
  generalize u.setHazel { u.hazel with sessions := Table.mapVals {} Session.reopened u.hazel.sessions } = v at hopen hopened
  have hpipes := within_foldRange (fun n w => within_setPipe w n { w.pipe n with bistCmd := none }) 4 v
  refine ⟨(((hended.seq hgone).seq hopen).seq hpipes).widen (by decide), ?_, ?_⟩
  · have hhazel := hpipes.only.2 .hazel (by decide)
    have hmid := hgone.only.2 .hazel (by decide)
    exact (congrArg Hazel.started hhazel).trans (hopened.trans ((congrArg Hazel.started hmid).trans hkept))
  · exact (((GivesBack.of_within hended (by decide)).trans hback).trans (.of_within hopen (by decide))).trans
      (.of_within hpipes (by decide))

/-- Hazel runs with `h`: its two bits, and no request that was not there. -/
theorem hazelOn_idle (s : State) {h : Hazel} (hj : h.jobs = []) (hs : h.sessions = []) :
    Within [.hazel, .pac, .pipes, .ready] s (s.hazelOn h) ∧ (s.hazelOn h).hazel.started = h.started ∧ GivesBack s (s.hazelOn h) ∧
      (s.hazelOn h).ready 9 = true ∧ (s.hazelOn h).ready 10 = true ∧
      ∀ i, i ≠ 9 → i ≠ 10 → (s.hazelOn h).ready i = s.ready i := by
  obtain ⟨hwithin, hkept, hback⟩ := settleHazel_idle (s := ((s.setHazel h).setReady 9).setReady 10) hj hs
  have hput := ((within_setHazel s h).seq (within_setReady _ 9)).seq (within_setReady _ 10)
  have hready : ∀ i, (s.hazelOn h).ready i = (((s.setHazel h).setReady 9).setReady 10).ready i := fun i =>
    hwithin.ready_eq i (by decide)
  have hbits : ∀ i, (((s.setHazel h).setReady 9).setReady 10).ready i =
      ((s.ready i || (decide (i < 40) && decide (9 = i))) || (decide (i < 40) && decide (10 = i))) := fun i => by
    rw [setReady_ready, setReady_ready]
    rfl
  refine ⟨(hput.seq hwithin).widen (by decide), hkept, (GivesBack.of_within hput (by decide)).trans hback, ?_, ?_, fun i h9 h10 => ?_⟩
  · rw [hready, hbits]
    simp
  · rw [hready, hbits]
    simp
  · rw [hready, hbits]
    simp [Ne.symm h9, Ne.symm h10]

/-! ### What Hazel-B starts (02 R112) -/

theorem settleWork_vtc (s : State) {r : Requester} (h : r.kind = .vtcPll) (status : Nat) (detail : Nat → Nat) :
    s.settleWork r status detail =
      (s.endWaiting r status (detail 20)).setPll 8 (if s.vtc.configured then .retrying else .stopped) := by
  unfold State.settleWork
  rw [h]

theorem settleWork_vtc_started (s : State) {r : Requester} (h : r.kind = .vtcPll) (status : Nat) (detail : Nat → Nat) :
    (s.settleWork r status detail).hazel.started = s.hazel.started := by
  rw [settleWork_vtc s h]
  rfl

theorem refuse_vtc_started (s : State) {q : PacReq} (hq : q.who.kind = .vtcPll) (code : Nat) :
    (s.refuse q code).hazel.started = s.hazel.started := by
  have hedge : ∀ p : Pac, (State.edge { s with pac := p } 95).hazel = s.hazel := fun p =>
    (within_edge { s with pac := p } 95).only.2 .hazel (by decide)
  unfold State.refuse State.onRefuse
  exact (settleWork_vtc_started _ hq _ _).trans (congrArg Hazel.started (hedge _))

theorem request_vtc_started (s : State) (cls : Nat) : (s.request Pll.vtc.who cls).hazel.started = s.hazel.started := by
  unfold State.request
  split
  · rfl
  · split
    · rfl
    · dsimp only
      split
      · exact refuse_vtc_started s (q := ⟨Pll.vtc.who, cls, s.now, s.pac.timeout, s.now⟩) rfl _
      · rfl

theorem startPll_vtc_started (s : State) (cls : Nat) : (s.startPll .vtc cls).hazel.started = s.hazel.started := by
  unfold State.startPll
  split
  · exact request_vtc_started (s.setPll Pll.vtc.idx .requested) cls
  · exact request_vtc_started (s.setPll Pll.vtc.idx .requested) cls
  · exact request_vtc_started s cls
  · rfl

/-- The PTP time counter runs, the scheduler is ready, and the VTC is configured. -/
def State.hazelBReady (s : State) : State :=
  let t := ({ s with ptp := { s.ptp with run := true } }.setReady 21).setReady 22
  { t with vtc := { t.vtc with configured := true } }

theorem hazelBStarts_eq (s : State) : s.hazelBStarts = s.hazelBReady.startPll .vtc 1 := rfl

theorem hazelBReady_ready (s : State) (i : Nat) : s.hazelBReady.ready i =
    ((s.ready i || (decide (i < 40) && decide (21 = i))) || (decide (i < 40) && decide (22 = i))) :=
  (setReady_ready _ 22 i).trans (congrArg (· || (decide (i < 40) && decide (22 = i))) (setReady_ready _ 21 i))

/-- What the start of Hazel-B leaves: its blocks run, the bits of other blocks and Hazel's own state stand. -/
theorem hazelBStarts_does (s : State) : s.hazelBStarts.ready 21 = true ∧ s.hazelBStarts.ready 22 = true ∧
    s.hazelBStarts.ptp.run = true ∧ s.hazelBStarts.vtc.configured = true ∧ s.hazelBStarts.hazel.started = s.hazel.started ∧
    (∀ i, s.ready i = true → s.hazelBStarts.ready i = true) ∧ s.hazelBStarts.mbx = s.mbx := by
  have hframe := within_startPll s.hazelBReady .vtc 1
  have hready : ∀ i, s.hazelBStarts.ready i =
      ((s.ready i || (decide (i < 40) && decide (21 = i))) || (decide (i < 40) && decide (22 = i))) := fun i => by
    rw [hazelBStarts_eq, hframe.ready_eq i (by decide), hazelBReady_ready]
  obtain ⟨hmbx, -⟩ := hframe.only.2 .mbx (by decide)
  refine ⟨?_, ?_, congrArg Ptp.run (hframe.only.2 .ptp (by decide)), congrArg Vtc.configured (hframe.only.2 .vtc (by decide)),
    startPll_vtc_started _ 1, fun i hi => ?_, hmbx⟩
  · rw [hready]
    simp
  · rw [hready]
    simp
  · rw [hready, hi]
    simp

/-! ### The image runs (02 R109 to R111) -/

/-- What Hazel takes from the boot word. -/
def Hazel.booted (h : Hazel) (v : Nat) : Hazel :=
  { h with epoch := v % 65536, pipVersion := v / 2 ^ 40, pipIf := bitsOf v 36 4 * 256 + bitsOf v 32 4, pipRom := bitAt v 17
           closed := false }

/-- Hazel with an image of a slot. -/
def Hazel.withImage (h : Hazel) (m : HazelMode) (i : ImageHeader) (b : Bool) : Hazel := { h with mode := m, image := i, slotB := b }

/-- The mode in which image `i` starts with boot word `v` (02 R111). -/
def bootMode (i : ImageHeader) (v : Nat) : HazelMode := imageMode i (bitAt v 17) (bitsOf v 36 4 * 256 + bitsOf v 32 4) (v / 2 ^ 40)

/-- Hazel as it starts with boot word `v` and the image `i` of slot `b`. -/
def Hazel.imaged (h : Hazel) (v : Nat) (i : ImageHeader) (b : Bool) : Hazel := (h.booted v).withImage (bootMode i v) i b

theorem hazelLoads_image {s : State} {v : Nat} {b : Bool} (hb : chooseSlot s.bankM.hazelSlot (bitAt v 16) = some b) :
    s.hazelLoads v =
      (let t := s.hazelOn (s.hazel.imaged v (s.bankM.hazelSlot b) b)
       if bootMode (s.bankM.hazelSlot b) v = .compat then (t.clamp.report 46 1).hazelBStarts else t.hazelBStarts) := by
  unfold State.hazelLoads
  dsimp only
  rw [hb]
  rfl

theorem hazelLoads_recovery {s : State} {v : Nat} (hb : chooseSlot s.bankM.hazelSlot (bitAt v 16) = none) :
    s.hazelLoads v = (s.hazelOn ((s.hazel.booted v).withImage .recovery {} (bitAt v 16))).report 46 2 := by
  unfold State.hazelLoads
  dsimp only
  rw [hb]
  rfl

/-- Hazel has taken the boot word. -/
def State.wordTaken (s : State) : State := s.setBox 33 { s.box 33 with full := false }

theorem wordTaken_box (s : State) : (s.wordTaken.box 33).full = false := congrArg Mbx.full (setBox_same s 33 _)

theorem within_wordTaken (s : State) : Within [.mbx] s s.wordTaken := within_setBox s 33 _

theorem hazelRuns_eq {s : State} (hmode : s.hazel.mode = .boot) (h8 : s.ready 8 = true) (hfull : (s.box 33).full = true)
    (hpll : s.pll 1 = .locked) : s.hazelRuns =
      (s.wordTaken.hazelSlotsBad (bitAt (s.box 33).value 16)).hazelLoads (s.box 33).value := by
  have hguard : (s.hazel.mode == .boot && s.ready 8 && (s.box 33).full && s.pll 1 == .locked) = true := by
    simp [hmode, h8, hfull, hpll]
  have htake : s.takeHi 33 = s.wordTaken := if_pos hfull
  unfold State.hazelRuns
  rw [if_pos hguard, htake]

theorem hazelSlotsBad_first {s : State} {first : Bool} (h : (s.bankM.hazelSlot first).passes = true) :
    s.hazelSlotsBad first = s := by
  simp [State.hazelSlotsBad, h]

theorem within_hazelSlotsBad (s : State) (first : Bool) : Within [.flt, .husk] s (s.hazelSlotsBad first) := by
  have hfirst : Within [.flt, .husk] s (if (s.bankM.hazelSlot first).passes then s else s.report 45 (2 + b2n first)) :=
    ((Within.refl s).ite (within_report s rfl rfl)).widen (by decide)
  exact (hfirst.ite (hfirst.seq (within_report _ rfl rfl))).widen (by decide)

theorem clamp_setPac {s : State} (hq : s.pac.queue = []) : ∃ p, s.clamp = s.setPac p := by
  unfold State.clamp
  split
  · exact ⟨{ s.pac with clamped := true }, retest_of_empty (s := s.setPac { s.pac with clamped := true }) hq⟩
  · split
    · exact ⟨{ s.pac with clampHeld := true }, rfl⟩
    · exact ⟨s.pac, rfl⟩

/-- An image starts, compatible or not: Hazel's bits, its own state, and Hazel-B's blocks. -/
theorem hazelOn_starts (s : State) {h : Hazel} (hj : h.jobs = []) (hs : h.sessions = []) (hq : s.pac.queue = []) (compat : Prop)
    [Decidable compat] (t : State)
    (ht : t = if compat then ((s.hazelOn h).clamp.report 46 1).hazelBStarts else (s.hazelOn h).hazelBStarts) :
    t.ready 9 = true ∧ t.ready 10 = true ∧ t.ready 21 = true ∧ t.ready 22 = true ∧ t.ptp.run = true ∧ t.vtc.configured = true ∧
      t.hazel.started = h.started ∧ t.mbx = s.mbx := by
  obtain ⟨hwithin, hstarted, hback, h9, h10, -⟩ := hazelOn_idle s hj hs
  obtain ⟨hmbx, -⟩ := hwithin.only.2 .mbx (by decide)
  have hempty : (s.hazelOn h).pac.queue = [] := List.eq_nil_iff_forall_not_mem.2 fun q hm => by
    simpa [hq] using hback.queue q hm
  obtain ⟨u, hu, hframe⟩ : ∃ u, t = u.hazelBStarts ∧ Within [.pac, .flt, .husk] (s.hazelOn h) u := by
    rw [ht]
    split
    · obtain ⟨p, hp⟩ := clamp_setPac hempty
      rw [hp]
      exact ⟨_, rfl, (within_setPac _ p).seq (within_report _ rfl rfl)⟩
    · exact ⟨_, rfl, (Within.refl _).widen (by decide)⟩
  obtain ⟨h21, h22, hptp, hvtc, hkept, hmono, hmbx'⟩ := hazelBStarts_does u
  have hhazel := hframe.only.2 .hazel (by decide)
  obtain ⟨humbx, -⟩ := hframe.only.2 .mbx (by decide)
  rw [hu]
  exact ⟨hmono 9 ((hframe.ready_eq 9 (by decide)).trans h9), hmono 10 ((hframe.ready_eq 10 (by decide)).trans h10), h21, h22, hptp,
    hvtc, hkept.trans ((congrArg Hazel.started hhazel).trans hstarted), hmbx'.trans (humbx.trans hmbx)⟩

/-- Hazel runs the slot that the boot word names. -/
theorem hazelRuns_image {s : State} (hmode : s.hazel.mode = .boot) (h8 : s.ready 8 = true) (hfull : (s.box 33).full = true)
    (hpll : s.pll 1 = .locked) (hj : s.hazel.jobs = []) (hs : s.hazel.sessions = []) (hq : s.pac.queue = []) {v : Nat}
    (hv : (s.box 33).value = v) (hpass : (s.bankM.hazelSlot (bitAt v 16)).passes = true) :
    s.hazelRuns.ready 9 = true ∧ s.hazelRuns.ready 10 = true ∧ s.hazelRuns.ready 21 = true ∧ s.hazelRuns.ready 22 = true ∧
      s.hazelRuns.ptp.run = true ∧ s.hazelRuns.vtc.configured = true ∧
      s.hazelRuns.hazel.started = (s.hazel.imaged v (s.bankM.hazelSlot (bitAt v 16)) (bitAt v 16)).started ∧
      (s.hazelRuns.box 33).full = false := by
  have htaken := within_wordTaken s
  have hbox := wordTaken_box s
  have hruns := hazelRuns_eq hmode h8 hfull hpll
  rw [hv] at hruns
  generalize s.wordTaken = u at htaken hbox hruns
  have hhazel : u.hazel = s.hazel := htaken.only.2 .hazel (by decide)
  have hbankM : u.bankM = s.bankM := htaken.only.2 .bankM (by decide)
  have hqueue : u.pac.queue = [] := (congrArg Pac.queue (htaken.only.2 .pac (by decide))).trans hq
  rw [← hbankM] at hpass
  rw [hazelSlotsBad_first hpass, hazelLoads_image (chooseSlot_first hpass), hhazel, hbankM] at hruns
  generalize s.bankM.hazelSlot (bitAt v 16) = i at hruns ⊢
  obtain ⟨h9, h10, h21, h22, hptp, hvtc, hstarted, hmbx⟩ :=
    hazelOn_starts u (h := s.hazel.imaged v i (bitAt v 16)) hj hs hqueue _ _ hruns
  refine ⟨h9, h10, h21, h22, hptp, hvtc, hstarted, ?_⟩
  rw [State.box, hmbx]
  exact hbox

/-- Both slots fail: Hazel's boot ROM enters RECOVERY. -/
theorem hazelRuns_recovery {s : State} (hmode : s.hazel.mode = .boot) (h8 : s.ready 8 = true)
    (hfull : (s.box 33).full = true) (hpll : s.pll 1 = .locked) (hj : s.hazel.jobs = []) (hs : s.hazel.sessions = []) {v : Nat}
    (hv : (s.box 33).value = v) (hfail : ∀ b, (s.bankM.hazelSlot b).passes = false) :
    s.hazelRuns.hazel.started = ((s.hazel.booted v).withImage .recovery {} (bitAt v 16)).started ∧
      s.hazelRuns.ready 9 = true ∧ s.hazelRuns.ready 10 = true ∧
      (∀ i, i ≠ 9 → i ≠ 10 → s.hazelRuns.ready i = s.ready i) ∧ (s.hazelRuns.box 33).full = false := by
  have htaken := within_wordTaken s
  have hbox := wordTaken_box s
  have hruns := hazelRuns_eq hmode h8 hfull hpll
  rw [hv] at hruns
  generalize s.wordTaken = u at htaken hbox hruns
  have hbad := within_hazelSlotsBad u (bitAt v 16)
  generalize u.hazelSlotsBad (bitAt v 16) = w at hbad hruns
  have hall := htaken.seq hbad
  have hhazel : w.hazel = s.hazel := hall.only.2 .hazel (by decide)
  have hbankM : w.bankM = s.bankM := hall.only.2 .bankM (by decide)
  have hnone : chooseSlot w.bankM.hazelSlot (bitAt v 16) = none := chooseSlot_none (hbankM ▸ hfail _) (hbankM ▸ hfail _)
  rw [hazelLoads_recovery hnone, hhazel] at hruns
  obtain ⟨hwithin, hstarted, -, h9, h10, hother⟩ :=
    hazelOn_idle w (h := (s.hazel.booted v).withImage .recovery {} (bitAt v 16)) hj hs
  generalize w.hazelOn ((s.hazel.booted v).withImage .recovery {} (bitAt v 16)) = x at hwithin hstarted h9 h10 hother hruns
  have hrep := within_report x (src := 46) (detail := 2) rfl rfl
  obtain ⟨hmbx, -⟩ := ((hbad.seq hwithin).seq hrep).only.2 .mbx (by decide)
  have hready : ∀ i, (x.report 46 2).ready i = x.ready i := fun i => hrep.ready_eq i (by decide)
  rw [hruns]
  refine ⟨(congrArg Hazel.started (hrep.only.2 .hazel (by decide))).trans hstarted, (hready 9).trans h9, (hready 10).trans h10,
    fun i hi9 hi10 => (hready i).trans ((hother i hi9 hi10).trans (hall.ready_eq i (by decide))), ?_⟩
  rw [State.box, hmbx]
  exact hbox

/-- A field of Hazel beside its commands and sessions, after a command that leaves `h` of it. -/
theorem settled_started {t : State} {h : Hazel} (ht : t.hazel.started = h.started) {α : Type} (f : Hazel → α)
    (hf : ∀ x : Hazel, f x.started = f x) : f t.settle.hazel = f h := by
  rw [(settled_settle t).hazel, ← hf, ht, hf]

theorem hazelImageStart_runs {s : State} (hmode : s.hazel.mode = .boot) (h8 : s.ready 8 = true) (hfull : (s.box 33).full = true)
    (hpll : s.pll 1 = .locked) (hj : s.hazel.jobs = []) (hs : s.hazel.sessions = []) (hq : s.pac.queue = []) {v : Nat}
    (hv : (s.box 33).value = v) (hpass : (s.bankM.hazelSlot (bitAt v 16)).passes = true) : Does .hazelImageStart s fun t =>
      t.ready 9 = true ∧ t.ready 10 = true ∧ t.ready 21 = true ∧ t.ready 22 = true ∧
        t.ptp.run = true ∧ t.vtc.configured = true ∧ (t.box 33).full = false ∧ t.hazel.epoch = v % 65536 ∧
        t.hazel.image = s.bankM.hazelSlot (bitAt v 16) ∧ t.hazel.slotB = bitAt v 16 ∧
        t.hazel.mode = bootMode (s.bankM.hazelSlot (bitAt v 16)) v := by
  obtain ⟨h9, h10, h21, h22, hptp, hvtc, hstarted, hbox⟩ := hazelRuns_image (s := s.begin) hmode h8 hfull hpll hj hs hq hv hpass
  rw [does_run (f := State.hazelRuns) (exec_hazelImageStart s)]
  generalize s.begin.hazelRuns = t at h9 h10 h21 h22 hptp hvtc hstarted hbox ⊢
  have hsettled := settled_settle t
  exact ⟨(settle_ready t 9).trans h9, (settle_ready t 10).trans h10, (settle_ready t 21).trans h21, (settle_ready t 22).trans h22,
    (congrArg Ptp.run hsettled.ptp).trans hptp, (congrArg Vtc.configured hsettled.vtc).trans hvtc,
    (congrArg Mbx.full (settle_box t 33)).trans hbox, settled_started hstarted Hazel.epoch fun _ => rfl,
    settled_started hstarted Hazel.image fun _ => rfl, settled_started hstarted Hazel.slotB fun _ => rfl,
    settled_started hstarted Hazel.mode fun _ => rfl⟩

theorem hazelImageStart_recovers {s : State} (hmode : s.hazel.mode = .boot) (h8 : s.ready 8 = true)
    (hfull : (s.box 33).full = true) (hpll : s.pll 1 = .locked) (hj : s.hazel.jobs = []) (hs : s.hazel.sessions = []) {v : Nat}
    (hv : (s.box 33).value = v) (hfail : ∀ b, (s.bankM.hazelSlot b).passes = false) :
    Does .hazelImageStart s fun t => t.hazel.mode = .recovery ∧ t.ready 9 = true ∧ t.ready 10 = true ∧ t.ready 21 = s.ready 21 ∧
        t.ready 22 = s.ready 22 ∧ (t.box 33).full = false ∧ t.hazel.epoch = v % 65536 := by
  obtain ⟨hstarted, h9, h10, hother, hbox⟩ := hazelRuns_recovery (s := s.begin) hmode h8 hfull hpll hj hs hv hfail
  rw [does_run (f := State.hazelRuns) (exec_hazelImageStart s)]
  generalize s.begin.hazelRuns = t at h9 h10 hother hstarted hbox ⊢
  exact ⟨settled_started hstarted Hazel.mode fun _ => rfl, (settle_ready t 9).trans h9, (settle_ready t 10).trans h10,
    (settle_ready t 21).trans (hother 21 (by decide) (by decide)), (settle_ready t 22).trans (hother 22 (by decide) (by decide)),
    (congrArg Mbx.full (settle_box t 33)).trans hbox, settled_started hstarted Hazel.epoch fun _ => rfl⟩

/-- Settles O13: Pip's boot by the slots that pass, the handover, Hazel's image or RECOVERY, and the record that HP_EN's fall
leaves due. -/
theorem pipAndHazelStart : Obligations.PipAndHazelStart := by
  unfold Obligations.PipAndHazelStart
  refine ⟨fun s first hup hrun hmode hfirst hctrl hkept hcause => ?_, fun s => ⟨hazelStart_starts,
    fun v hmode h8 hfull hpll hv hj hs hq _ _ => ?_, pipRemovalRecord_records⟩⟩
  · have hq : s.husk.quiet := ⟨hctrl, hkept, hcause⟩
    subst hfirst
    exact ⟨pipBoot_first hup hrun hmode hq, pipBoot_other hup hrun hmode hq, fun _ => pipBoot_rom hup hrun hmode hq⟩
  · exact ⟨hazelImageStart_runs hmode h8 hfull hpll hj hs hq hv, fun hA hB =>
      hazelImageStart_recovers hmode h8 hfull hpll hj hs hv fun b => by cases b <;> assumption⟩

end Sys2Proof.Machine
end


section
/-! PROOFS of 02_husk_clocks_waking.md. PLLs lock, fail to lock, lose lock with their request made again, and stop unused
(R90 to R97, R923, R924). -/

namespace Sys2Proof.Machine

/-! ### Commands after which firmware carries on -/

theorem leads_run {c : Instr} {f : State → State} {s u : State} {P : State → Prop} (h : exec c s = run f s)
    (hf : f s.begin = u.progress) (hP : P u) : Leads c s P :=
  ⟨u, by rw [h, run_eq, hf], hP⟩

/-- The frame of an effect, seen from the state before the command. -/
theorem Within.begun {l : List Part} {s u : State} (h : Within l s.begin u) : Only l s u :=
  (only_begin l s).trans h.only fun hb => absurd hb h.board

theorem pll_setPll (s : State) (j i : Nat) (x : PllState) : (s.setPll j x).pll i = if i = j then x else s.pll i :=
  Table.get_set _ _ _ _ _

/-- PLLs stand outside a frame that leaves them out. -/
theorem Within.pll_eq {l : List Part} {s t : State} (h : Within l s t) (i : Nat) (hl : .plls ∉ l) : t.pll i = s.pll i :=
  congrArg (fun x => Table.get PllState.stopped x i) (h.only.2 .plls hl)

/-! ### A PLL locks (02 R91, R95, R112) -/

theorem within_wakeStack (s : State) (n cls : Nat) : Within [.dram, .pac, .icu, .hazel, .dma] s (s.wakeStack n cls) := by
  have hrequest : ∀ u : State, Within ([.pac, .icu] ++ workParts .dramWake) u (u.request ⟨.dramWake, n⟩ cls) := fun u =>
    within_request_kind u ⟨.dramWake, n⟩ cls
  have hask := (within_setStack s n { s.stack n with retrying := false }).seq (hrequest _)
  unfold State.wakeStack
  dsimp only
  split
  · exact hask.widen (by decide)
  · exact hask.widen (by decide)
  · exact hask.widen (by decide)
  · exact (Within.refl s).widen (by decide)

theorem within_wakeStacks (s : State) : Within [.dram, .pac, .icu, .hazel, .dma] s s.wakeStacks :=
  within_foldRange (fun n t => ((within_wakeStack t n 1).ite (Within.refl t)).widen (by decide)) 2 s

theorem pllLock_eq {s : State} {p : Pll} (h : s.pll p.idx = .starting) :
    (if s.begin.pll p.idx == .starting then (s.begin.setPll p.idx .locked).locked p else s.begin) =
      (s.begin.setPll p.idx .locked).locked p :=
  if_pos (beq_iff_eq.2 h)

theorem pllLock_fabric {s : State} (h : s.pll 0 = .starting) : Leads (.pllLock .fabric) s fun u =>
    u.pll 0 = .locked ∧ u.ready 4 = true ∧ u.ready 13 = true ∧ Only [.plls, .ready, .dram, .pac, .icu, .hazel, .dma] s u := by
  have hset := ((within_setPll s.begin 0 .locked).seq (within_setReady _ 4)).seq (within_setReady _ 13)
  have hwake := within_wakeStacks (((s.begin.setPll 0 .locked).setReady 4).setReady 13)
  have hready : ∀ i, (((s.begin.setPll 0 .locked).setReady 4).setReady 13).wakeStacks.ready i =
      ((s.ready i || (decide (i < 40) && decide (4 = i))) || (decide (i < 40) && decide (13 = i))) := fun i => by
    rw [hwake.ready_eq i (by decide), setReady_ready, setReady_ready]
    rfl
  refine leads_run (exec_pllLock .fabric s) (pllLock_eq h) ⟨?_, ?_, ?_, ((hset.seq hwake).widen (by decide)).begun⟩
  · exact (hwake.pll_eq 0 (by decide)).trans (setPll_same s.begin 0 .locked)
  · exact (hready 4).trans (by simp)
  · exact (hready 13).trans (by simp)

theorem pllLock_vtc {s : State} (h : s.pll 8 = .starting) : Leads (.pllLock .vtc) s fun u =>
    u.pll 8 = .locked ∧ u.ready 20 = true ∧ u.vtc.activeSrc = s.vtc.srcSel ∧
      u.vtc.mode = (if s.vtc.srcSel = 17 then .locked else .acquiring) ∧ Only [.plls, .ready, .vtc, .icu] s u := by
  have hvtc := within_setVtc (s.begin.setPll 8 .locked) s.vtc.lock
  have hlock := setVtc_vtc (s.begin.setPll 8 .locked) s.vtc.lock
  have hlocked : (s.begin.setPll 8 .locked).locked .vtc = (((s.begin.setPll 8 .locked).setVtc s.vtc.lock).setReady 20).progress := rfl
  have hpll := (hvtc.pll_eq 8 (by decide)).trans (setPll_same s.begin 8 .locked)
  have hframe := (within_setPll s.begin 8 .locked).seq hvtc
  generalize (s.begin.setPll 8 .locked).setVtc s.vtc.lock = u at hvtc hlock hlocked hpll hframe
  refine leads_run (exec_pllLock .vtc s) ((pllLock_eq (p := .vtc) h).trans hlocked)
    ⟨hpll, (setReady_ready u 20 20).trans (Bool.or_true _), congrArg Vtc.activeSrc hlock, congrArg Vtc.mode hlock,
      ((hframe.seq (within_setReady u 20)).widen (by decide)).begun⟩

theorem pllLock_other {s : State} {p : Pll} (hf : p ≠ .fabric) (hv : p ≠ .vtc) (h : s.pll p.idx = .starting) :
    Leads (.pllLock p) s fun u => u.pll p.idx = .locked ∧ Only [.plls] s u := by
  have hlocked : (s.begin.setPll p.idx .locked).locked p = (s.begin.setPll p.idx .locked).progress := by
    cases p with
    | fabric => exact absurd rfl hf
    | vtc => exact absurd rfl hv
    | hazel | core | quad | phy => rfl
  exact leads_run (exec_pllLock p s) ((pllLock_eq h).trans hlocked) ⟨setPll_same _ _ _, (within_setPll s.begin _ _).begun⟩

/-! ### A PLL does not lock in time (02 R92, R93) -/

/-- The PLL stops, its grant goes, and PLL_UNLOCK is reported. -/
def State.pllFailed (s : State) (p : Pll) : State := ((s.setPll p.idx .stopped).withdraw p.who).unlock p

theorem within_unlock (s : State) (p : Pll) : Within [.flt, .husk] s (s.unlock p) := within_report s rfl rfl

theorem within_pllFailed (s : State) (p : Pll) : Within [.plls, .pac, .flt, .husk] s (s.pllFailed p) :=
  ((within_setPll s p.idx .stopped).seq (within_withdraw _ p.who)).seq (within_unlock _ p)

/-- The failed PLL's grant is gone, whatever becomes of the work that waits on it. -/
theorem not_mem_held_pllFailed (s : State) (p : Pll) (status : Nat) (detail : Nat → Nat) :
    p.who ∉ ((s.pllFailed p).settleWork p.who status detail).pac.held := by
  have hpac : (s.pllFailed p).pac = ((s.setPll p.idx .stopped).withdraw p.who).pac :=
    (within_unlock _ p).only.2 .pac (by decide)
  intro hmem
  have hheld := (givesBack_settleWork (s.pllFailed p) p.who status detail).held _ hmem
  rw [hpac] at hheld
  exact not_mem_held_withdraw _ _ hheld

/-- What a lock timeout makes true: it settles the PLL's work with TIMEOUT. -/
theorem leads_pllLockTimeout {s : State} {p : Pll} {P : State → Prop} (h : s.pll p.idx = .starting)
    (hP : P ((s.begin.pllFailed p).settleWork p.who 0x0201 id)) : Leads (.pllLockTimeout p) s P :=
  leads_run (exec_pllLockTimeout p s) (if_pos (beq_iff_eq.2 h)) hP

theorem pllLockTimeout_retries {s : State} {p : Pll} (h : s.pll p.idx = .starting) (hp : p = .hazel ∨ p = .fabric ∨ p = .phy) :
    Leads (.pllLockTimeout p) s fun u =>
      u.pll p.idx = .retrying ∧ p.who ∉ u.pac.held ∧ Only [.plls, .pac, .flt, .husk] s u := by
  have hframe := (within_pllFailed s.begin p).seq (within_settleWork_kind (s.begin.pllFailed p) p.who 0x0201 id)
  refine leads_pllLockTimeout h ⟨?_, not_mem_held_pllFailed _ _ _ _, ?_⟩
  · obtain rfl | rfl | rfl := hp <;> exact setPll_same _ _ _
  · obtain rfl | rfl | rfl := hp <;> exact (hframe.widen (by decide)).begun

theorem pllLockTimeout_vtc {s : State} (h : s.pll 8 = .starting) : Leads (.pllLockTimeout .vtc) s fun u =>
    u.pll 8 = (if s.vtc.configured then .retrying else .stopped) ∧ Pll.vtc.who ∉ u.pac.held ∧
      (∀ (i : Nat) (c : Cmd), s.hazel.jobs[i]? = some c → c.wait = some Pll.vtc.who → c.live = true →
        u.hazel.jobs[i]? = some (c.finish 0x0201 20 0)) ∧ Only [.plls, .pac, .flt, .husk, .hazel] s u := by
  have hfailed := within_pllFailed s.begin .vtc
  have hframe := hfailed.seq (within_settleWork_kind (s.begin.pllFailed .vtc) Pll.vtc.who 0x0201 id)
  have hheld := not_mem_held_pllFailed s.begin .vtc 0x0201 id
  have hwork := settleWork_vtc (s.begin.pllFailed .vtc) (r := Pll.vtc.who) rfl 0x0201 id
  refine leads_pllLockTimeout (p := .vtc) h ⟨?_, hheld, fun i c hc hwait hlive => ?_, (hframe.widen (by decide)).begun⟩
  · have hvtc : (s.begin.pllFailed .vtc).vtc = s.vtc := hfailed.only.2 .vtc (by decide)
    rw [hwork, setPll_same, hvtc]
  · have hhazel : (s.begin.pllFailed .vtc).hazel = s.hazel := hfailed.only.2 .hazel (by decide)
    have hjobs : (s.begin.pllFailed .vtc).hazel.jobs[i]? = some c := by rw [hhazel, hc]
    rw [hwork]
    refine List.getElem?_map.trans ?_
    rw [hjobs, Option.map_some]
    exact congrArg some (if_pos (by simp [hwait]))

theorem pllLockTimeout_quad {s : State} (q : Fin 4) (h : s.pll (Pll.quad q).idx = .starting) :
    Leads (.pllLockTimeout (.quad q)) s fun u => u.pll (Pll.quad q).idx = .stopped ∧ (Pll.quad q).who ∉ u.pac.held ∧
      Only [.plls, .pac, .flt, .husk, .hazel, .lanes] s u := by
  have hwork : Within (workParts .quadPll) (s.begin.pllFailed (.quad q))
      ((s.begin.pllFailed (.quad q)).settleWork (Pll.quad q).who 0x0201 id) :=
    within_settleWork_kind (s.begin.pllFailed (.quad q)) (Pll.quad q).who 0x0201 id
  have hframe := (within_pllFailed s.begin (.quad q)).seq hwork
  refine leads_pllLockTimeout h ⟨?_, not_mem_held_pllFailed _ _ _ _, (hframe.widen (by decide)).begun⟩
  have hidx : (Pll.quad q).idx = 3 + q.val % 4 := congrArg (3 + ·) (Nat.mod_eq_of_lt q.isLt).symm
  rw [hidx]
  exact setPll_same _ _ _

theorem pllLockTimeout_core {s : State} (h : s.pll Pll.core.idx = .starting) : Leads (.pllLockTimeout .core) s fun u =>
    Pll.core.who ∉ u.pac.held ∧ Only [.plls, .pac, .flt, .husk, .hazel, .pipes] s u := by
  have hframe := (within_pllFailed s.begin .core).seq (within_settleWork_kind (s.begin.pllFailed .core) Pll.core.who 0x0201 id)
  exact leads_pllLockTimeout h ⟨not_mem_held_pllFailed _ _ _ _, (hframe.widen (by decide)).begun⟩

/-! ### A start that is asked for (02 R91, R923, R924) -/

/-- The requester holds nothing, waits for nothing, and would not be barred. -/
structure MayAsk (s : State) (r : Requester) : Prop where
  held : r ∉ s.pac.held
  queue : ∀ q ∈ s.pac.queue, q.who ≠ r
  fits : s.pacBars r = none

/-- The PAC with the request of `r` in its queue. -/
def Pac.asked (p : Pac) (r : Requester) (cls now : Nat) : Pac := { p with queue := pacInsert ⟨r, cls, now, p.timeout, now⟩ p.queue }

theorem mem_queue_asked (p : Pac) (r : Requester) (cls now : Nat) : ∃ q ∈ (p.asked r cls now).queue, q.who = r ∧ q.at_ = now :=
  ⟨_, mem_pacInsert.2 (.inl rfl), rfl, rfl⟩

theorem MayAsk.request {s : State} {r : Requester} (h : MayAsk s r) (cls : Nat) :
    s.request r cls = s.setPac (s.pac.asked r cls s.now) :=
  request_queued h.held h.queue h.fits cls

theorem MayAsk.startPll {s : State} {p : Pll} (h : MayAsk s p.who) (hp : s.pll p.idx = .stopped ∨ s.pll p.idx = .retrying)
    (cls : Nat) : s.startPll p cls = (s.setPll p.idx .requested).setPac (s.pac.asked p.who cls s.now) :=
  (startPll_asks hp cls).trans (MayAsk.request (s := s.setPll p.idx .requested) ⟨h.held, h.queue, h.fits⟩ cls)

/-! ### A locked PLL loses lock (02 R92, R923) -/

/-- The PLL has lost lock: its grant has gone. -/
def State.unlocked (s : State) (p : Pll) : State := ((s.unlock p).setPll p.idx .stopped).withdraw p.who

theorem within_unlocked (s : State) (p : Pll) : Within [.flt, .husk, .plls, .pac] s (s.unlocked p) :=
  ((within_unlock s p).seq (within_setPll _ p.idx .stopped)).seq (within_withdraw _ p.who)

theorem unlocked_mayAsk {s : State} {p : Pll} (hb : s.pacBars p.who = none) (hq : ∀ q ∈ s.pac.queue, q.who ≠ p.who) :
    MayAsk (s.unlocked p) p.who := by
  have hunlock : GivesBack s ((s.unlock p).setPll p.idx .stopped) :=
    .of_within ((within_unlock s p).seq (within_setPll _ p.idx .stopped)) (by decide)
  have hback := hunlock.trans (givesBack_withdraw _ p.who)
  have hbankM : (s.unlocked p).bankM = s.bankM := (within_unlocked s p).only.2 .bankM (by decide)
  exact ⟨not_mem_held_withdraw _ _, fun q hm => hq q (hback.queue q hm), (pacBars_congr hbankM hback.settings p.who).trans hb⟩

/-- The readiness bit that a PLL's loss of lock clears. -/
def readyBit : Pll → BitVec 40
  | .fabric => rdyBit 4
  | .vtc => rdyBit 20
  | _ => 0

theorem lockLost_eq {s : State} {p : Pll} (hp : p = .hazel ∨ p = .core ∨ p = .vtc ∨ p = .fabric) :
    ∃ u cls, s.lockLost p = u.startPll p cls ∧ (u = s.unlocked p ∨ u = (s.unlocked p).dropReady (readyBit p)) ∧
      (p = .fabric ∨ p = .vtc → u = (s.unlocked p).dropReady (readyBit p)) := by
  obtain rfl | rfl | rfl | rfl := hp
  · exact ⟨_, _, rfl, .inl rfl, fun h => by simp at h⟩
  · exact ⟨_, _, rfl, .inl rfl, fun h => by simp at h⟩
  · exact ⟨_, _, rfl, .inr rfl, fun _ => rfl⟩
  · exact ⟨_, _, rfl, .inr rfl, fun _ => rfl⟩

theorem pllLossOfLock_asks {s : State} {p : Pll} (hlock : s.pll p.idx = .locked) (hon : s.mainOn = true)
    (hb : s.pacBars p.who = none) (hq : ∀ q ∈ s.pac.queue, q.who ≠ p.who) (hp : p = .hazel ∨ p = .core ∨ p = .vtc ∨ p = .fabric) :
    Does (.pllLossOfLock p) s fun t => t.pll p.idx = .requested ∧ p.who ∉ t.pac.held ∧
      (∃ q ∈ t.pac.queue, q.who = p.who ∧ q.at_ = s.now) ∧ (p = .fabric → t.ready 4 = false) ∧ (p = .vtc → t.ready 20 = false) ∧
      Only [.plls, .pac, .flt, .husk, .ready] s t := by
  have hguard : (s.begin.pll p.idx == .locked && s.begin.mainOn) = true := by simp [hlock, hon]
  obtain ⟨u, cls, hlost, hu, hbits⟩ := lockLost_eq (s := s.begin) hp
  have hmay := unlocked_mayAsk (s := s.begin) hb hq
  have hpll : (s.begin.unlocked p).pll p.idx = .stopped := setPll_same (s.begin.unlock p) p.idx .stopped
  have hframe := within_unlocked s.begin p
  have hnow : (s.begin.unlocked p).now = s.now := hframe.only.2 .time (by decide)
  have hfabric : p = .fabric → u.ready 4 = false := fun h => by
    rw [hbits (.inl h), h]
    exact dropReady_ready_same _ 4
  have hvtc : p = .vtc → u.ready 20 = false := fun h => by
    rw [hbits (.inr h), h]
    exact dropReady_ready_same _ 20
  have hu' : Within [.flt, .husk, .plls, .pac, .ready] s.begin u ∧ MayAsk u p.who ∧ u.pll p.idx = .stopped ∧ u.now = s.now := by
    obtain rfl | rfl := hu
    · exact ⟨hframe.widen (by decide), hmay, hpll, hnow⟩
    · exact ⟨hframe.seq (within_dropReady _ (readyBit p)), ⟨hmay.held, hmay.queue, hmay.fits⟩, hpll, hnow⟩
  obtain ⟨hwithin, hmayU, hpllU, hnowU⟩ := hu'
  rw [does_run (exec_pllLossOfLock p s), if_pos hguard, hlost, hmayU.startPll (.inl hpllU), hnowU]
  have hall := (hwithin.seq (within_setPll u p.idx .requested)).seq (within_setPac _ (u.pac.asked p.who cls s.now))
  have hpac := (settled_settle ((u.setPll p.idx .requested).setPac (u.pac.asked p.who cls s.now))).pac
  refine ⟨(settle_pll _ _).trans (setPll_same u p.idx .requested), ?_, ?_, fun h => (settle_ready _ 4).trans (hfabric h),
    fun h => (settle_ready _ 20).trans (hvtc h), (hall.widen (by decide)).settled⟩
  · rw [hpac]
    exact hmayU.held
  · rw [hpac]
    exact mem_queue_asked _ _ _ _

/-! ### A PLL stops unused; requests are made again (02 R94, R96, R97, R924) -/

theorem pllIdleStop_stops {s : State} {p : Pll} (hlock : s.pll p.idx = .locked) (hun : s.pllUnused p = true) :
    Does (.pllIdleStop p) s fun t => t.pll p.idx = .stopped ∧ p.who ∉ t.pac.held ∧ t.rdy = s.rdy ∧ Only [.plls, .pac] s t := by
  have hguard : (s.begin.pll p.idx == .locked && s.begin.pllUnused p) = true := by simp [hlock, hun]
  have hsettled := settled_settle ((s.begin.setPll p.idx .stopped).withdraw p.who)
  rw [does_run (exec_pllIdleStop p s), if_pos hguard]
  refine ⟨(settle_pll _ _).trans (setPll_same s.begin p.idx .stopped), ?_, hsettled.rdy,
    ((within_setPll s.begin p.idx .stopped).seq (within_withdraw _ p.who)).settled⟩
  rw [hsettled.pac]
  exact not_mem_held_withdraw _ _

theorem retry_pll {s : State} {p : Pll} (hc : p ≠ .core) (hp : p ≠ .phy) (h : s.pll p.idx = .retrying) :
    s.retry (.pll p) = s.startPll p (s.pllClass p) := by
  cases p with
  | core => exact absurd rfl hc
  | phy => exact absurd rfl hp
  | fabric | hazel | quad | vtc => exact if_pos (beq_iff_eq.2 h)

theorem pllRetry_asks {s : State} {p : Pll} (hc : p ≠ .core) (hp : p ≠ .phy) (h : s.pll p.idx = .retrying)
    (hmay : MayAsk s p.who) : Does (.pllRetry (.pll p)) s fun t =>
      t.pll p.idx = .requested ∧ (∃ q ∈ t.pac.queue, q.who = p.who ∧ q.at_ = s.now) ∧ Only [.plls, .pac] s t := by
  have hmay' : MayAsk s.begin p.who := ⟨hmay.held, hmay.queue, hmay.fits⟩
  rw [does_run (f := fun u => u.retry (.pll p)) (exec_pllRetry (.pll p) s), retry_pll (s := s.begin) hc hp h,
    hmay'.startPll (.inr h)]
  refine ⟨(settle_pll _ _).trans (setPll_same s.begin p.idx .requested), ?_,
    ((within_setPll s.begin p.idx .requested).seq (within_setPac _ _)).settled⟩
  rw [(settled_settle _).pac]
  exact mem_queue_asked _ _ _ _

theorem wakeStack_off {s : State} {n : Nat} (h : (s.stack n).mode = .off) (cls : Nat) :
    s.wakeStack n cls = (s.setStack n { s.stack n with retrying := false }).request ⟨.dramWake, n⟩ cls := by
  unfold State.wakeStack
  dsimp only
  split
  · rfl
  · rfl
  · rfl
  · next hne _ _ => exact absurd h hne

theorem pllRetry_stack {s : State} (n : Fin 2) (hr : (s.stack n).retrying = true) (hm : (s.stack n).mode = .off)
    (hmay : MayAsk s ⟨.dramWake, n.val⟩) : Does (.pllRetry (.stack n)) s fun t =>
      (t.stack n).retrying = false ∧ (∃ q ∈ t.pac.queue, q.who = ⟨.dramWake, n⟩) ∧ Only [.dram, .pac] s t := by
  have hmayBegin : MayAsk (s.begin.setStack n.val { s.stack n with retrying := false }) ⟨.dramWake, n.val⟩ :=
    ⟨hmay.held, hmay.queue, hmay.fits⟩
  have hwakes : ∀ cls, s.begin.wakeStack n.val cls =
      (s.begin.setStack n.val { s.stack n with retrying := false }).setPac (s.pac.asked ⟨.dramWake, n.val⟩ cls s.now) := fun cls =>
    (wakeStack_off (s := s.begin) hm cls).trans (hmayBegin.request cls)
  obtain ⟨cls, hretry⟩ : ∃ cls, s.begin.retry (.stack n) = s.begin.wakeStack n.val cls := ⟨_, if_pos hr⟩
  rw [does_run (f := fun u => u.retry (.stack n)) (exec_pllRetry (.stack n) s), hretry, hwakes]
  refine ⟨?_, ?_, ((within_setStack s.begin n.val { s.stack n with retrying := false }).seq (within_setPac _ _)).settled⟩
  · rw [settle_stack]
    exact congrArg Stack.retrying (setStack_same s.begin n.val _)
  · rw [(settled_settle _).pac]
    obtain ⟨q, hq, hwho, -⟩ := mem_queue_asked s.pac ⟨.dramWake, n.val⟩ cls s.now
    exact ⟨q, hq, hwho⟩

theorem clockGate_nothing (s : State) (b : Clocked) : Does (.clockGate b) s fun t => Only [] s t := by
  rw [does_run (f := fun u => u) (exec_clockGate b s)]
  exact (Within.refl s.begin).settled

end Sys2Proof.Machine
end


section
/-! PROOFS of 02_husk_clocks_waking.md. What no reset, report, refusal or access of memory does: lock a PLL, bring the link up,
or make a lane ready. -/

namespace Sys2Proof.Machine

/-- From `s` to `t` no PLL has locked, the link has not come up, and no lane has become ready. -/
structure Lowers (s t : State) : Prop where
  plls : ∀ i, t.pll i = .locked → s.pll i = .locked
  link : t.pcie.linkUp = true → s.pcie.linkUp = true
  lanes : ∀ i, 24 ≤ i → t.ready i = true → s.ready i = true

theorem Lowers.refl (s : State) : Lowers s s := ⟨fun _ h => h, fun h => h, fun _ _ h => h⟩

theorem Lowers.trans {s t u : State} (h : Lowers s t) (k : Lowers t u) : Lowers s u :=
  ⟨fun i hi => h.plls i (k.plls i hi), fun hl => h.link (k.link hl), fun i hi hr => h.lanes i hi (k.lanes i hi hr)⟩

/-- A frame without the PLLs, the endpoint and the readiness bits lowers. -/
theorem Lowers.of_within {l : List Part} {s t : State} (h : Within l s t) (hl : .plls ∉ l ∧ .pcie ∉ l ∧ .ready ∉ l) : Lowers s t := by
  obtain ⟨hplls, hpcie, hready⟩ := hl
  have hlink : t.pcie.linkUp = s.pcie.linkUp := keptPcie Pcie.linkUp (h.only.2 .pcie hpcie) fun _ => rfl
  exact ⟨fun i hi => (h.pll_eq i hplls).symm.trans hi, fun hu => hlink.symm.trans hu,
    fun i _ hi => (h.ready_eq i hready).symm.trans hi⟩

theorem Lowers.ite {s t u : State} {c : Prop} [Decidable c] (ht : Lowers s t) (hu : Lowers s u) : Lowers s (if c then t else u) := by
  split
  · exact ht
  · exact hu

theorem Lowers.foldl {α : Type} {f : State → α → State} (hf : ∀ u x, Lowers u (f u x)) (xs : List α) (s : State) :
    Lowers s (xs.foldl f s) := by
  induction xs generalizing s with
  | nil => exact .refl s
  | cons x xs ih => exact (hf s x).trans (ih _)

theorem Lowers.foldRange {f : Nat → State → State} (hf : ∀ i u, Lowers u (f i u)) (n : Nat) (s : State) :
    Lowers s (foldRange f n s) := by
  induction n with
  | zero => exact .refl s
  | succ n ih => exact ih.trans (hf n _)

/-! ### Updates of one part -/

theorem lowers_setPll (s : State) (p : Nat) {x : PllState} (hx : x ≠ .locked) : Lowers s (s.setPll p x) := by
  refine ⟨fun i hi => ?_, fun h => h, fun _ _ h => h⟩
  rw [pll_setPll] at hi
  split at hi
  · exact absurd hi hx
  · exact hi

theorem lowers_dropReady (s : State) (m : BitVec 40) : Lowers s (s.dropReady m) := by
  refine ⟨fun _ h => h, fun h => h, fun i _ h => ?_⟩
  rw [dropReady_ready, Bool.and_eq_true] at h
  exact h.1

theorem lowers_setReady (s : State) {i : Nat} (hi : i < 24) : Lowers s (s.setReady i) := by
  refine ⟨fun _ h => h, fun h => h, fun j hj h => ?_⟩
  rw [setReady_ready] at h
  simpa [show i ≠ j by omega] using h

theorem lowers_setHusk (s : State) (h : Husk) : Lowers s (s.setHusk h) := .of_within (within_setHusk s h) (by decide)
theorem lowers_setFlt (s : State) (f : Flt) : Lowers s { s with flt := f } := .of_within (within_setFlt s f) (by decide)
theorem lowers_setHazel (s : State) (h : Hazel) : Lowers s { s with hazel := h } := .of_within (within_setHazel s h) (by decide)
theorem lowers_setMram (s : State) (m : Mram) : Lowers s { s with mram := m } := .of_within (within_setMram s m) (by decide)
theorem lowers_setLfs (s : State) (l : Lfs) : Lowers s { s with lfs := l } :=
  .of_within ((only_lfs s l).within (by decide)) (by decide)
theorem lowers_setStack (s : State) (n : Nat) (k : Stack) : Lowers s (s.setStack n k) := .of_within (within_setStack s n k) (by decide)
theorem lowers_setPipe (s : State) (n : Nat) (k : Pipe) : Lowers s (s.setPipe n k) := .of_within (within_setPipe s n k) (by decide)
theorem lowers_setSession (s : State) (n : Nat) (x : Session) : Lowers s (s.setSession n x) :=
  .of_within (within_setSession s n x) (by decide)
theorem lowers_setChan (s : State) (n : Nat) (d : Dma) : Lowers s (s.setChan n d) := .of_within (within_setChan s n d) (by decide)
theorem lowers_setBox (s : State) (n : Nat) (m : Mbx) : Lowers s (s.setBox n m) := .of_within (within_setBox s n m) (by decide)
theorem lowers_edge (s : State) (i : Nat) : Lowers s (s.edge i) := .of_within (within_edge s i) (by decide)
theorem lowers_memory (s : State) (m : List Host.Cell) (k : List (Nat × Mark)) : Lowers s { s with mem := m, marks := k } :=
  .of_within ((only_memory s m k).within (by decide)) (by decide)
theorem lowers_setMark (s : State) (w : Nat) (m : Mark) : Lowers s (s.setMark w m) := lowers_memory s s.mem _
theorem lowers_free (s : State) (n : Nat) : Lowers s { s with free := n } := ⟨fun _ h => h, fun h => h, fun _ _ h => h⟩
theorem lowers_endJobs (s : State) (p : Cmd → Bool) (a b : Nat) : Lowers s (s.endJobs p a b) :=
  .of_within (within_endJobs s p a b) (by decide)
theorem lowers_reclaim (s : State) (p : Requester → Bool) : Lowers s (s.reclaim p) := .of_within (within_reclaim s p) (by decide)

/-! ### Requests and refusals (03 R155, R162) -/

theorem lowers_bistsLater (s : State) : Lowers s s.bistsLater := by
  have hdrop : ∀ c : State → Nat → Bool, ∀ u : State, Lowers u (foldRange (fun n v => if c v n then v.dropBist n else v) 4 u) :=
    fun c u => .foldRange (fun n v => .ite (lowers_setPipe v n _) (.refl v)) 4 u
  have hfirst := hdrop (fun v n => (v.pipe n).bistCmd.isSome && (v.pipe n).bist == .requested) s
  have hall := hfirst.trans (hdrop (fun v n => (v.pipe n).bist == .requested) _)
  have hstop : ∀ {u : State}, Lowers s u → ∀ {x : PllState}, x ≠ .locked → Lowers s (u.setPll 2 x) := fun h _ hx =>
    h.trans (lowers_setPll _ 2 hx)
  unfold State.bistsLater
  exact .ite (.ite (hstop hfirst (by decide)) (hstop hall (by decide))) (hstop hfirst (by decide))

theorem lowers_settleWork (s : State) (r : Requester) (status : Nat) (detail : Nat → Nat) :
    Lowers s (s.settleWork r status detail) := by
  have hkind := within_settleWork_kind s r status detail
  cases hr : r.kind with
  | pipeJob | laneEnable | dramWake | pipeSelftest | memSelftest | mramBurst =>
    rw [hr] at hkind
    exact .of_within hkind (by decide)
  | corePll =>
    have hjobs : ∀ h : Hazel, Lowers s { s with hazel := h } := lowers_setHazel s
    have hidle : ∀ u : State, Lowers u (u.releaseIdlePipes 4) := fun u => .of_within (within_releaseIdlePipes u 4) (by decide)
    unfold State.settleWork
    rw [hr]
    dsimp only
    exact ((hjobs _).trans (hidle _)).trans (lowers_bistsLater _)
  | quadPll =>
    have hports : ∀ a b c, Lowers s (foldRange (fun l t => t.endPort (a + l) b c) 4 s) := fun a b c =>
      .foldRange (fun l t => .of_within (within_endPort t (a + l) b c) (by decide)) 4 s
    unfold State.settleWork
    rw [hr]
    exact (hports _ _ _).trans (lowers_setPll _ _ (by decide))
  | vtcPll =>
    rw [settleWork_vtc s hr]
    exact (lowers_endJobs s _ _ _).trans (lowers_setPll _ 8 (by split <;> decide))
  | fabricPll | hazelPll | phyPll =>
    unfold State.settleWork
    rw [hr]
    exact lowers_setPll s _ (by decide)

theorem lowers_refuse (s : State) (q : PacReq) (code : Nat) : Lowers s (s.refuse q code) := by
  have hrecorded : ∀ p : Pac, Lowers s (State.edge { s with pac := p } 95) := fun p =>
    .of_within ((within_setPac s p).seq (within_edge _ 95)) (by decide)
  unfold State.refuse State.onRefuse
  exact (hrecorded _).trans (lowers_settleWork _ _ _ _)

theorem lowers_request (s : State) (r : Requester) (cls : Nat) : Lowers s (s.request r cls) := by
  have hput : ∀ p : Pac, Lowers s { s with pac := p } := fun p => .of_within (within_setPac s p) (by decide)
  unfold State.request
  split
  · exact .refl s
  · split
    · exact hput _
    · dsimp only
      split
      · exact lowers_refuse s _ _
      · exact hput _

theorem lowers_startPll (s : State) (p : Pll) (cls : Nat) : Lowers s (s.startPll p cls) := by
  have hask := (lowers_setPll s p.idx (x := .requested) (by decide)).trans (lowers_request _ p.who cls)
  unfold State.startPll
  split
  · exact hask
  · exact hask
  · exact lowers_request s _ _
  · exact .refl s

theorem lowers_wantPhy (s : State) : Lowers s s.wantPhy := .ite (lowers_startPll s .phy 1) (.refl s)

theorem lowers_wakeStack (s : State) (n cls : Nat) : Lowers s (s.wakeStack n cls) := .of_within (within_wakeStack s n cls) (by decide)

/-! ### Resets of blocks and of Hazel (01 R57) -/

theorem lowers_resetPipe (s : State) {n : Nat} (hn : n < 4) : Lowers s (s.resetPipe n) := by
  have hjobs : ∀ p q, Within [.hazel, .pipes] s
      (((s.haltRuns (fun x => bitAt x.mask n) 64).endJobs p 0x0301 1).endJobs q 0x0301 1) := fun p q =>
    (((within_haltRuns s _ 64).seq (within_endJobs _ p _ _)).seq (within_endJobs _ q _ _)).widen (by decide)
  have hpipe := fun p q x => ((hjobs p q).seq (within_reclaim _ (Block.pipeReq n))).seq (within_setPipe _ n x)
  have hall := fun p q x => ((Lowers.of_within (hpipe p q x) (by decide)).trans (lowers_dropReady _ (rdyBit (16 + n)))).trans
    (.of_within (within_releaseIdlePipes _ 4) (by decide))
  exact .ite ((hall _ _ _).trans (lowers_setReady _ (by omega))) (hall _ _ _)

theorem lowers_resetLane (s : State) (n : Nat) : Lowers s (s.resetLane n) := by
  have hlane := ((within_endPort s n 0x0301 fun _ => 1).seq (within_setLane _ n {})).seq
    (within_reclaim _ fun r => r.kind == .laneEnable && r.inst == n)
  exact (Lowers.of_within hlane (by decide)).trans (lowers_dropReady _ (rdyBit (24 + n)))

theorem lowers_resetStack (s : State) (n : Nat) : Lowers s (s.resetStack n) := by
  have hstack := fun k p =>
    (((within_wipe s (inStack n)).seq (within_setStack _ n k)).seq (within_endWaiting _ ⟨.memSelftest, n + 1⟩ 0x0301 1)).seq
      (within_endJobs _ p 0x0301 1)
  have hgone := fun k p r => (hstack k p).seq (within_reclaim _ r)
  have hdropped := fun k p r => (Lowers.of_within (hgone k p r) (by decide)).trans (lowers_dropReady _ (rdyBit (6 + n)))
  have hscrub : ∀ k p r (c : Prop) [Decidable c], Lowers s (if c then _ else _) := fun k p r c _ =>
    Lowers.ite (hdropped k p r) ((hdropped k p r).trans (lowers_dropReady _ (rdyBit 23)))
  exact .ite ((hscrub _ _ _ _).trans (lowers_wakeStack _ n 1)) (hscrub _ _ _ _)

theorem lowers_resetVtc (s : State) : Lowers s s.resetVtc := by
  have hgone := (within_endWaiting s ⟨.vtcPll, 0⟩ 0x0301 1).seq (within_reclaim _ fun r => r.kind == .vtcPll)
  have hedge := hgone.ite (c := ((s.endWaiting ⟨.vtcPll, 0⟩ 0x0301 1).reclaim fun r => r.kind == .vtcPll).vtc.mode == .freeRun)
    (hgone.seq (within_edge _ 88))
  have hvtc : ∀ u : State, ∀ v : Vtc, Lowers u { u with vtc := v } := fun u v =>
    .of_within ((only_vtc u v).within (by decide)) (by decide)
  exact (((Lowers.of_within hedge (by decide)).trans (hvtc _ {})).trans (lowers_setPll _ 8 (by decide))).trans
    (lowers_dropReady _ (rdyBit 20))

theorem lowers_blockReset (s : State) (b : Block) : Lowers s (s.blockReset b) := by
  cases b with
  | pipe n => exact lowers_resetPipe s n.isLt
  | lane n => exact lowers_resetLane s n
  | stack n => exact lowers_resetStack s n
  | channel n => exact (lowers_endJobs s _ _ _).trans (lowers_setChan _ _ _)
  | vtc => exact lowers_resetVtc s
  | ptp => exact (Lowers.of_within ((only_ptp s {}).within (by decide)) (by decide)).trans (lowers_dropReady _ (rdyBit 21))
  | scheduler =>
    have hgone := (Lowers.of_within (Only.within (only_sched s []) (by decide)) (by decide)).trans (lowers_dropReady _ (rdyBit 22))
    exact .ite (hgone.trans (lowers_setReady _ (by decide))) hgone
  | scrubber =>
    have hgone := fun x : Scrub =>
      (Lowers.of_within ((only_scrub s x).within (by decide)) (by decide)).trans (lowers_dropReady _ (rdyBit 23))
    exact .ite ((hgone _).trans (lowers_setReady _ (by decide))) (hgone _)
  | lfs =>
    have hgone := fun h : Hazel => ((lowers_setLfs s {}).trans (lowers_setHazel _ h)).trans
      (.of_within (within_wipe _ inLfs) (by decide))
    exact (hgone _).trans (lowers_dropReady _ (rdyBit 5))
  | bankD => exact (lowers_reclaim s _).trans (lowers_dropReady _ (rdyBit 8))
  | dmaEngine =>
    have hgone := fun p => ((lowers_endJobs s p 0x0301 1).trans
      (.of_within ((only_dma _ []).within (by decide)) (by decide))).trans (lowers_dropReady _ (rdyBit 13))
    exact .ite ((hgone _).trans (lowers_setReady _ (by decide))) (hgone _)

theorem lowers_hazelReset (s : State) : Lowers s s.hazelReset := by
  have hchans := Lowers.foldRange (fun i u => Lowers.ite (c := 8 ≤ i) (lowers_setChan u i (u.chan i).reset) (.refl u)) 16 s
  have hrest : ∀ (u : State) (i : Icu) (f : Flt) (h : Hazel), Lowers u { u with icu := i, flt := f, hazel := h } := fun u i f h =>
    .of_within ((((only_icu u i).within (by decide)).seq (within_setFlt _ f)).seq (within_setHazel _ h)) (by decide)
  exact ((hchans.trans (lowers_setBox _ 33 _)).trans (hrest _ _ _ _)).trans
    (lowers_dropReady _ (rdyBit 9 ||| rdyBit 10 ||| rdyBit 11))

/-! ### Reports (15 R780 to R791) -/

theorem lowers_logEvent (s : State) (kind src : Nat) : Lowers s (s.logEvent kind src) := by
  obtain ⟨f, hf⟩ := logEvent_shape s kind src
  rw [hf]
  exact lowers_setFlt s f

theorem lowers_dropReaction (s : State) (src : Nat) : Lowers s (s.dropReaction src) :=
  (lowers_setFlt s _).trans (lowers_logEvent _ 4 src)

theorem lowers_reactBlock (s : State) (src detail : Nat) : Lowers s (s.reactBlock src detail) := by
  unfold State.reactBlock
  split
  · exact .ite (lowers_hazelReset s) (lowers_dropReaction s src)
  · split
    · exact .refl s
    · exact .ite (lowers_blockReset s _) (lowers_dropReaction s src)

theorem lowers_react (s : State) (src mask detail : Nat) : Lowers s (s.react src mask detail) := by
  have hnmi : Lowers s (if bitAt mask 1 then s.reactNmi src else s) :=
    .ite (.ite (lowers_setFlt s _) (lowers_dropReaction s src)) (.refl s)
  exact .ite (hnmi.trans (lowers_setHusk _ _)) (.ite (hnmi.trans (lowers_reactBlock _ src detail)) hnmi)

theorem lowers_record (s : State) (src detail : Nat) (stands : Bool) : Lowers s (s.record src detail stands) := by
  have hput : ∀ (u : State) (x : FltSrc), Lowers u (u.setFltSrc src x) := fun u _ => lowers_setFlt u _
  unfold State.record
  dsimp only
  split
  · exact hput s _
  · have hlogged := fun x => (hput s x).trans (lowers_logEvent _ 1 src)
    exact (Lowers.ite ((hlogged _).trans (lowers_setFlt _ _)) (hlogged _)).trans (lowers_react _ _ _ _)

theorem lowers_report (s : State) (src detail : Nat) : Lowers s (s.report src detail) :=
  .ite (lowers_record s src _ _) (.refl s)

end Sys2Proof.Machine
end


section
/-! PROOFS of 02_husk_clocks_waking.md. Accesses of memory, the end of runs, a host-side reset and the loss of a lane's lock
lower what is locked, up and ready; the PLLs that lose lock. -/

namespace Sys2Proof.Machine

/-! ### Accesses of memory (12 R619 to R623) -/

theorem lowers_poisonDram (s : State) (n w : Nat) : Lowers s (s.poisonDram n w) :=
  ((lowers_setStack s n _).trans (lowers_setMark _ w .poison)).trans (lowers_report _ 22 n)

theorem lowers_poisonLfs (s : State) (w : Nat) : Lowers s (s.poisonLfs w) :=
  ((lowers_setLfs s _).trans (lowers_setMark _ w .poison)).trans (lowers_report _ 24 0)

theorem lowers_poisonMram (s : State) (w : Nat) : Lowers s (s.poisonMram w) :=
  ((lowers_setMram s _).trans (lowers_setMark _ w .poison)).trans (lowers_report _ 25 1)

theorem lowers_touchWord (s : State) (w : Nat) : Lowers s (s.touchWord w) := by
  unfold State.touchWord
  split
  · dsimp only
    split
    · exact .refl s
    · exact (lowers_setStack s _ _).trans (lowers_report _ _ _)
    · exact (lowers_setStack s _ _).trans (lowers_report _ _ _)
    · exact (lowers_setStack s _ _).trans (lowers_setMark _ _ _)
    · exact lowers_poisonDram s _ w
    · exact lowers_setStack s _ _
  · split
    · exact .refl s
    · exact .refl s
    · exact (lowers_setLfs s _).trans (lowers_report _ _ _)
    · exact (lowers_setLfs s _).trans (lowers_report _ _ _)
    · exact lowers_poisonLfs s w
    · exact lowers_setLfs s _
  · split
    · exact .refl s
    · exact .refl s
    · exact .refl s
    · exact (lowers_setMram s _).trans (lowers_report _ _ _)
    · exact lowers_poisonMram s w
  · exact .refl s

theorem lowers_touchWords (s : State) (w n : Nat) : Lowers s (s.touchWords w n) := by
  induction n generalizing s w with
  | zero => exact .refl s
  | succ n ih => exact (lowers_touchWord s w).trans (ih _ _)

theorem lowers_account (s : State) (port a n : Nat) : Lowers s (s.account port a n) := by
  have hport : ∀ x : FabPort, Lowers s (s.setPort16 port x) := fun x =>
    .of_within ((only_fab s _).within (by decide)) (by decide)
  unfold State.account
  dsimp only
  split
  · exact (hport _).trans (lowers_setStack _ _ _)
  · exact hport _

theorem lowers_readMem (s : State) (port a n : Nat) : Lowers s (s.readMem port a n).state :=
  ((lowers_account s port a n).trans (lowers_touchWords _ _ _)).trans (lowers_free _ _)

theorem lowers_fillUnspecified (s : State) (w : Nat) : Lowers s (s.fillUnspecified w) := by
  have hfill : ∀ m n, Lowers s { s with mem := m, free := n } := fun m n => (lowers_memory s m s.marks).trans (lowers_free _ n)
  exact .ite (hfill _ _) (.refl s)

theorem lowers_countDiscard (s : State) (a : Nat) : Lowers s (s.countDiscard a) := by
  unfold State.countDiscard
  split
  · exact lowers_setStack s _ _
  · exact lowers_setLfs s _
  · exact .refl s

theorem lowers_writeWord (s : State) (a : Nat) (bs : List (Option Byte)) : Lowers s (s.writeWord a bs) := by
  have hread := (lowers_touchWord s (a / 8)).trans (lowers_fillUnspecified _ (a / 8))
  exact .ite (lowers_memory s _ _)
    (.ite (.refl s) (.ite (hread.trans (lowers_countDiscard _ a)) (hread.trans (lowers_memory _ _ _))))

theorem lowers_writeWords (s : State) (a : Nat) (bs : List (Option Byte)) (fuel : Nat) : Lowers s (s.writeWords a bs fuel) := by
  induction fuel generalizing s a bs with
  | zero => exact .refl s
  | succ fuel ih => exact .ite (.refl s) ((lowers_writeWord s a _).trans (ih _ _ _))

theorem lowers_writeMem (s : State) (port a : Nat) (bs : List Byte) : Lowers s (s.writeMem port a bs) :=
  (lowers_account s port a _).trans (lowers_writeWords _ a _ _)

/-! ### A quad loses lock (13 R687) -/

theorem lowers_rtWrite (s : State) (port a : Nat) (bs : List Byte) : Lowers s (s.rtWrite port a bs) :=
  .ite ((Lowers.ite (lowers_wakeStack s _ 2) (.refl s)).trans (lowers_writeMem _ port a bs)) (.refl s)

theorem lowers_rxCut (s : State) (n : Nat) : Lowers s (s.rxCut n) :=
  .ite (.foldl (fun t _ => lowers_rtWrite t _ _ _) _ s) (.refl s)

theorem lowers_laneLost (s : State) (n : Nat) : Lowers s (s.laneLost n) := by
  have hlane : ∀ l : Lane, Lowers (s.rxCut n) ((s.rxCut n).setLane n l) := fun l => .of_within (within_setLane _ n l) (by decide)
  exact ((lowers_rxCut s n).trans (hlane _)).trans (lowers_dropReady _ (rdyBit (24 + n)))

/-- One lane of a quad that loses lock. -/
def State.laneOff (s : State) (n : Nat) : State := if s.ready (24 + n) then s.laneLost n else s

theorem laneOff_ready (s : State) (n : Nat) : (s.laneOff n).ready (24 + n) = false := by
  unfold State.laneOff
  split
  · exact dropReady_ready_same _ _
  · simpa using ‹¬ s.ready (24 + n) = true›

theorem lowers_laneOff (s : State) (n : Nat) : Lowers s (s.laneOff n) := .ite (lowers_laneLost s n) (.refl s)

/-- A readiness bit of a lane that is clear stays clear. -/
theorem Lowers.lane_clear {s t : State} (h : Lowers s t) {n : Nat} (hs : s.ready (24 + n) = false) : t.ready (24 + n) = false := by
  rw [← Bool.not_eq_true] at hs ⊢
  exact fun ht => hs (h.lanes _ (by omega) ht)

theorem quadLost_eq (s : State) (q : Nat) : s.quadLost q = foldRange (fun l t => t.laneOff (4 * q + l)) 4 s := by
  unfold State.quadLost State.laneOff
  simp only [Nat.add_assoc]

theorem lanesOff_lowers (s : State) (q n : Nat) : Lowers s (foldRange (fun l t => t.laneOff (4 * q + l)) n s) ∧
    ∀ i, i < n → (foldRange (fun l t => t.laneOff (4 * q + l)) n s).ready (24 + (4 * q + i)) = false := by
  refine ⟨.foldRange (fun l t => lowers_laneOff t _) n s, ?_⟩
  induction n with
  | zero => exact fun i hi => absurd hi (Nat.not_lt_zero i)
  | succ n ih =>
    intro i hi
    have hlast : foldRange (fun l t => t.laneOff (4 * q + l)) (n + 1) s =
      (foldRange (fun l t => t.laneOff (4 * q + l)) n s).laneOff (4 * q + n) := rfl
    rw [hlast]
    obtain hlt | rfl := Nat.lt_succ_iff_lt_or_eq.1 hi
    · exact (lowers_laneOff _ _).lane_clear (ih i hlt)
    · exact laneOff_ready _ _

/-- PLL `p`, that has stopped, does not lock in what follows. -/
theorem Lowers.not_locked {s t : State} (h : Lowers s t) {p : Nat} (hs : s.pll p = .stopped) : t.pll p ≠ .locked := fun hl => by
  have := hs.symm.trans (h.plls p hl)
  cases this

theorem unlocked_stopped (s : State) (p : Pll) : (s.unlocked p).pll p.idx = .stopped := setPll_same (s.unlock p) p.idx .stopped

theorem pllLossOfLock_quad {s : State} (q : Fin 4) (hlock : s.pll (3 + q) = .locked) (hon : s.mainOn = true) :
    Does (.pllLossOfLock (.quad q)) s fun t => t.pll (3 + q) ≠ .locked ∧ ∀ i, i < 4 → t.ready (24 + 4 * q + i) = false := by
  have hguard : (s.begin.pll (Pll.quad q).idx == .locked && s.begin.mainOn) = true := by simp [Pll.idx, hlock, hon]
  have hstop := unlocked_stopped s.begin (.quad q)
  have hlost : ∃ cls, s.begin.lockLost (.quad q) = ((s.begin.unlocked (.quad q)).quadLost q).startPll (.quad q) cls := ⟨_, rfl⟩
  obtain ⟨cls, hlost⟩ := hlost
  rw [does_run (exec_pllLossOfLock (.quad q) s), if_pos hguard, hlost, quadLost_eq]
  generalize s.begin.unlocked (.quad q) = u at hstop ⊢
  obtain ⟨hlanes, hclear⟩ := lanesOff_lowers u q 4
  have hstart := lowers_startPll (foldRange (fun l t => t.laneOff (4 * q + l)) 4 u) (.quad q) cls
  refine ⟨fun hl => (hlanes.trans hstart).not_locked hstop ((settle_pll _ _).symm.trans hl), fun i hi => ?_⟩
  rw [settle_ready, Nat.add_assoc]
  exact hstart.lane_clear (hclear i hi)

/-! ### Runs end (11 R590 to R598) -/

theorem lowers_ringPut (s : State) (n : Nat) (g : Ring) (b : List Byte) : Lowers s (s.ringPut n g b).1 := lowers_writeMem s n _ b

theorem lowers_ringReread (s : State) (n : Nat) (g : Ring) : Lowers s (s.ringReread n g).1 := lowers_readMem s n _ 8

theorem lowers_ringGap (s : State) (n sess : Nat) (g : Ring) : Lowers s (s.ringGap n sess g).1 := by
  unfold State.ringGap
  split
  · exact .refl s
  · exact lowers_ringPut s n g (gapRecord sess g.gap 2 g.gapSeq)

theorem lowers_ringRecord (s : State) (n sess seq : Nat) (g : Ring) (b : List Byte) : Lowers s (s.ringRecord n sess seq g b).1 := by
  have hread : Lowers s (if g.room then (s, g) else s.ringReread n g).1 := by
    split
    · exact .refl s
    · exact lowers_ringReread s n g
  unfold State.ringRecord
  generalize (if g.room then (s, g) else s.ringReread n g) = x at hread ⊢
  dsimp only
  split
  · have hgap := lowers_ringGap x.1 n sess x.2
    generalize x.1.ringGap n sess x.2 = y at hgap ⊢
    split
    · exact (hread.trans hgap).trans (lowers_ringPut y.1 n y.2 b)
    · exact hread.trans hgap
  · exact hread

theorem lowers_aruFlush (s : State) (n : Nat) : Lowers s (s.aruFlush n) := by
  have hone : ∀ (u : State) (e : Nat × Nat × Bool × List Byte), Lowers u (u.aruOne n e) := fun u e =>
    (lowers_ringRecord u n e.1 e.2.1 _ e.2.2.2).trans (lowers_setSession _ _ _)
  have hindex : ∀ (u : State) (k : Nat), Lowers u (u.aruIndex n k) := fun u k =>
    .ite (.refl u) ((lowers_writeMem u n _ _).trans (lowers_writeMem _ n _ _))
  unfold State.aruFlush
  dsimp only
  split
  · exact lowers_wakeStack s _ 1
  · have hindexed : ∀ (xs : List (Nat × Nat × Bool × List Byte)) (u : State),
        Lowers u (xs.foldl (fun v e => v.aruIndex n e.1) u) := .foldl fun u e => hindex u e.1
    exact (((lowers_setPipe s n _).trans (.foldl hone _ _)).trans (hindexed _ _)).trans (lowers_setPipe _ n _)

theorem lowers_batch (s : State) (sess status : Nat) : Lowers s (s.batch sess status) := by
  unfold State.batch
  dsimp only
  split
  · exact .refl s
  · have hstaged := fun x k => (lowers_setSession s sess x).trans (lowers_setPipe _ (s.session sess).firstPipe k)
    exact .ite (hstaged _ _) ((hstaged _ _).trans (lowers_aruFlush _ _))

theorem lowers_endRun (s : State) (sess status : Nat) : Lowers s (s.endRun sess status) := by
  have hsaved : ∀ u : State, Lowers u (u.saveScalars sess) := fun u => lowers_setSession u sess _
  have hhalted : ∀ u : State, Lowers u (u.haltRun sess) := fun u => .of_within (within_haltRun u sess) (by decide)
  have hbusy : ∀ (n : Nat) (u : State), Lowers u (u.countBusy n) := fun n u => .ite (.refl u) (lowers_setPipe u n _)
  exact ((((lowers_batch s sess status).trans (hsaved _)).trans (hhalted _)).trans (.foldRange hbusy 4 _)).trans (lowers_edge _ _)

theorem lowers_endRuns (s : State) (status n : Nat) : Lowers s (s.endRuns status n) := by
  induction n with
  | zero => exact .refl s
  | succ n ih => exact .ite (ih.trans (lowers_endRun _ n status)) ih

/-! ### The link drops (04 R232 to R236) -/

theorem lowers_scramble (s : State) (a n : Nat) : Lowers s (s.scramble a n) := by
  induction n with
  | zero => exact .refl s
  | succ n ih => exact (ih.trans (lowers_memory _ _ (s.scramble a n).marks)).trans (lowers_free _ _)

theorem lowers_resetHostChannels (s : State) : Lowers s s.resetHostChannels :=
  .foldRange (fun i t => (Lowers.ite (lowers_scramble t _ _) (.refl t)).trans (lowers_setChan _ i _)) 8 s

theorem lowers_mailDiscard (s : State) : Lowers s s.mailDiscard := by
  have hboxes := Lowers.foldRange (fun i u => lowers_setBox u i (u.box i).discard) 32 s
  have hcount : ∀ (u : State) (n : Nat), Lowers u { u with rstCnt := n, mbxClosed := true } := fun u n =>
    ⟨fun _ h => h, fun h => h, fun _ _ h => h⟩
  exact (hboxes.trans (hcount _ _)).trans (lowers_edge _ 94)

theorem lowers_settleHost (s : State) : Lowers s s.settleHost := by
  have hclosed : ∀ (u : State) (h : Hazel) (f : List (Nat × Flow)), Lowers u { u with hazel := h, flows := f } := fun u h f =>
    (lowers_setHazel u h).trans (.of_within ((only_flows _ f).within (by decide)) (by decide))
  have hended := fun p => (lowers_endRuns s 0x0301 64).trans (lowers_endJobs _ p 0x0301 3)
  unfold State.settleHost
  exact ((hended _).trans (hclosed _ _ _)).trans (.of_within (within_releaseIdlePipes _ 4) (by decide))

theorem lowers_hostReset (s : State) (sticky : Bool) : Lowers s (s.hostReset sticky) := by
  have hfunction : ∀ (u : State) (i : Icu), Lowers u { u with pcie := u.pcie.resetFunction sticky, icu := i } := fun u i =>
    ⟨fun _ h => h, fun h => h, fun _ _ h => h⟩
  unfold State.hostReset
  exact (((lowers_resetHostChannels s).trans (hfunction _ _)).trans (lowers_mailDiscard _)).trans (lowers_settleHost _)

theorem linkLost_down (s : State) : s.linkLost.pcie.linkUp = false := by
  unfold State.linkLost
  split
  · rfl
  · simpa using ‹¬ s.pcie.linkUp = true›

theorem Lowers.link_down {s t : State} (h : Lowers s t) (hs : s.pcie.linkUp = false) : t.pcie.linkUp = false :=
  Bool.eq_false_iff.2 fun hup => absurd (hs.symm.trans (h.link hup)) Bool.false_ne_true

theorem lowers_linkLost (s : State) : Lowers s s.linkLost := by
  unfold State.linkLost
  split
  · exact ⟨fun _ h => h, fun h => absurd h Bool.false_ne_true, fun _ _ h => h⟩
  · exact .refl s

/-- A link that drops is down, and stays so. -/
theorem dropLink_lowers (s : State) (surprise : Bool) :
    Lowers s (s.dropLink surprise) ∧ (s.dropLink surprise).pcie.linkUp = false := by
  unfold State.dropLink
  split
  · have hpcie : ∀ (u : State) (n : Nat), Lowers u { u with pcie := { u.pcie with surprise := n } } := fun u n =>
      ⟨fun _ h => h, fun h => h, fun _ _ h => h⟩
    have hdown := lowers_dropReady s.linkLost (rdyBit 12)
    dsimp only
    have hrest := fun n => (Lowers.ite (c := surprise = true) ((hdown.trans (hpcie _ n)).trans (lowers_report _ 42 0)) hdown).trans
      (lowers_hostReset _ true)
    have hdropped : ∀ {t : State}, Lowers s.linkLost t → Lowers s t ∧ t.pcie.linkUp = false := fun h =>
      ⟨(lowers_linkLost s).trans h, h.link_down (linkLost_down s)⟩
    exact hdropped (hrest _)
  · exact ⟨.refl s, Bool.eq_false_iff.2 ‹_›⟩

theorem pllLossOfLock_phy {s : State} (hlock : s.pll 7 = .locked) (hon : s.mainOn = true) :
    Does (.pllLossOfLock .phy) s fun t => t.pll 7 ≠ .locked ∧ t.pcie.linkUp = false := by
  have hguard : (s.begin.pll Pll.phy.idx == .locked && s.begin.mainOn) = true := by simp [Pll.idx, hlock, hon]
  have hstop := unlocked_stopped s.begin .phy
  have hlost : ∃ b, s.begin.lockLost .phy = ((s.begin.unlocked .phy).dropLink b).wantPhy := ⟨_, rfl⟩
  obtain ⟨b, hlost⟩ := hlost
  rw [does_run (exec_pllLossOfLock .phy s), if_pos hguard, hlost]
  generalize s.begin.unlocked .phy = u at hstop ⊢
  obtain ⟨hdrop, hdown⟩ := dropLink_lowers u b
  have hwant := lowers_wantPhy (u.dropLink b)
  refine ⟨fun hl => (hdrop.trans hwant).not_locked hstop ((settle_pll _ _).symm.trans hl), ?_⟩
  rw [settle_pcie_linkUp]
  exact hwant.link_down hdown

/-- Settles O14: lock, timeout and loss of lock PLL by PLL; what a quad's and the PHY's loss reaches only lowers. -/
theorem pllsLockFailAndStop : Obligations.PllsLockFailAndStop := by
  unfold Obligations.PllsLockFailAndStop
  refine ⟨fun s => ⟨pllLock_fabric, pllLock_vtc, fun p => pllLock_other, fun p hp _ => ⟨pllLockTimeout_retries hp, ?_, ?_, ?_⟩⟩,
    fun s => ⟨fun p hlock hon _ _ hb hq => pllLossOfLock_asks hlock hon hb hq, pllLossOfLock_quad, pllLossOfLock_phy,
      fun p => pllIdleStop_stops, fun p hc hphy hretry _ hb hheld hq => pllRetry_asks hc hphy hretry ⟨hheld, hq, hb⟩,
      fun n hr hm _ hb hheld hq => pllRetry_stack n hr hm ⟨hheld, hq, hb⟩, clockGate_nothing s⟩⟩
  · rintro rfl
    exact pllLockTimeout_vtc hp
  · rintro q rfl
    exact pllLockTimeout_quad q hp
  · rintro rfl
    exact pllLockTimeout_core hp

end Sys2Proof.Machine
end


section
/-! PROOFS of 03_power_admission.md. Requests queue, rise in class or are refused (R145, R155, R158, R162); the head is granted,
grants and requests are given back, and a request times out (R153 to R162, R188 to R192). -/

namespace Sys2Proof.Machine

/-! ### What the settling of refused work leaves of the PAC (03 R164) -/

/-- The PAC without its grants and its requests. -/
def Pac.books (p : Pac) : Pac := { p with held := [], queue := [] }

/-- From `s` to `t` the PAC has changed in its grants and its requests at most. -/
def KeepsBooks (s t : State) : Prop := t.pac.books = s.pac.books

theorem KeepsBooks.of_within {l : List Part} {s t : State} (h : Within l s t) (hl : .pac ∉ l) : KeepsBooks s t :=
  congrArg Pac.books (h.only.2 .pac hl)

theorem KeepsBooks.trans {s t u : State} (h : KeepsBooks s t) (k : KeepsBooks t u) : KeepsBooks s u := Eq.trans k h

theorem KeepsBooks.foldl {α : Type} {f : State → α → State} (hf : ∀ u x, KeepsBooks u (f u x)) (xs : List α) (s : State) :
    KeepsBooks s (xs.foldl f s) := by
  induction xs generalizing s with
  | nil => rfl
  | cons x xs ih => exact (hf s x).trans (ih _)

theorem KeepsBooks.foldRange {f : Nat → State → State} (hf : ∀ i u, KeepsBooks u (f i u)) (n : Nat) (s : State) :
    KeepsBooks s (foldRange f n s) := by
  induction n with
  | zero => rfl
  | succ n ih => exact ih.trans (hf n _)

theorem keepsBooks_releaseIdlePipes (s : State) (n : Nat) : KeepsBooks s (s.releaseIdlePipes n) := by
  induction n with
  | zero => rfl
  | succ n ih =>
    unfold State.releaseIdlePipes
    dsimp only
    split
    · exact ih
    · split <;> exact ih

theorem keepsBooks_endPort (s : State) (n status : Nat) (detail : Nat → Nat) : KeepsBooks s (s.endPort n status detail) := by
  have hended : ∀ p a b, KeepsBooks s (s.endJobs p a b) := fun _ _ _ => rfl
  have hlane : ∀ u l x, KeepsBooks u ((u.withdraw ⟨.laneEnable, l⟩).setLane l x) := fun _ _ _ => rfl
  unfold State.endPort
  split
  · rfl
  · exact (hended _ _ _).trans (.foldl (fun u l => hlane u l _) _ _)

theorem keepsBooks_settleWork (s : State) (r : Requester) (status : Nat) (detail : Nat → Nat) :
    KeepsBooks s (s.settleWork r status detail) := by
  have hended : ∀ p a b, KeepsBooks s (s.endJobs p a b) := fun _ _ _ => rfl
  have hjobs : ∀ h, KeepsBooks s (s.setHazel h) := fun _ => rfl
  by_cases hpac : .pac ∈ workParts r.kind
  swap
  · exact .of_within (within_settleWork_kind s r status detail) hpac
  unfold State.settleWork
  cases hkind : r.kind with
  | corePll =>
    dsimp only
    exact ((hjobs _).trans (keepsBooks_releaseIdlePipes _ 4)).trans (.of_within (within_bistsLater _) (by decide))
  | pipeJob =>
    dsimp only
    exact (hended _ _ _).trans (keepsBooks_releaseIdlePipes _ 4)
  | quadPll =>
    dsimp only
    exact (KeepsBooks.foldRange (fun _ u => keepsBooks_endPort u _ _ _) 4 s).trans (.of_within (within_setPll _ _ _) (by decide))
  | laneEnable => exact keepsBooks_endPort s _ _ _
  | vtcPll | pipeSelftest | memSelftest | mramBurst | fabricPll | hazelPll | phyPll | dramWake =>
    rw [hkind] at hpac
    exact absurd hpac (by decide)

/-! ### A refusal (03 R162, R163, R186) -/

/-- The PAC once it has refused `q` with `code`. -/
def Pac.refused (p : Pac) (q : PacReq) (code now : Nat) : Pac :=
  let late := code == 1 || code == 4
  { p with queue := p.queue.filter (·.who != q.who)
           lastDeny := q.who.kind.code + q.who.inst % 16 * 2 ^ 8 + code * 2 ^ 12 + q.cls * 2 ^ 16
           denyTimeout := if late then satAdd 16 p.denyTimeout 1 else p.denyTimeout
           denyFit := if late then p.denyFit else satAdd 16 p.denyFit 1
           waitMax := max p.waitMax (min ((now - q.at_) / 1000) (satMax 32)) }

theorem refuse_eq (s : State) (q : PacReq) (code : Nat) :
    s.refuse q code = ((s.setPac (s.pac.refused q code s.now)).edge 95).onRefuse q.who := rfl

/-- What a refusal records stands once the requester has learned of it. -/
theorem refuse_books (s : State) (q : PacReq) (code : Nat) :
    (s.refuse q code).pac.books = (s.pac.refused q code s.now).books := by
  have hedge : KeepsBooks (s.setPac (s.pac.refused q code s.now)) ((s.setPac (s.pac.refused q code s.now)).edge 95) :=
    .of_within (within_edge _ 95) (by decide)
  rw [refuse_eq, State.onRefuse]
  exact hedge.trans (keepsBooks_settleWork _ _ _ _)

/-- The refused request waits no more, and none comes in its place. -/
theorem mem_queue_refuse {s : State} {q x : PacReq} {code : Nat} (h : x ∈ (s.refuse q code).pac.queue) :
    x ∈ s.pac.queue ∧ x.who ≠ q.who := by
  rw [refuse_eq, State.onRefuse] at h
  have hleft := (givesBack_settleWork _ _ _ _).queue x h
  rw [edge_pac] at hleft
  have hfilter : x ∈ s.pac.queue.filter (·.who != q.who) := hleft
  simpa using hfilter

theorem refuse_empties {s : State} {q : PacReq} (h : s.pac.queue = [q]) (code : Nat) : (s.refuse q code).pac.queue = [] := by
  refine List.eq_nil_iff_forall_not_mem.2 fun x hx => ?_
  obtain ⟨hmem, hwho⟩ := mem_queue_refuse hx
  rw [h, List.mem_singleton] at hmem
  exact hwho (congrArg PacReq.who hmem)

/-! ### A request (03 R145, R146, R155, R158) -/

theorem request_held {s : State} {r : Requester} (h : r ∈ s.pac.held) (cls : Nat) : s.request r cls = s :=
  if_pos (List.contains_iff_mem.2 h)

/-- The PAC with the class of the request of `r` raised to `cls`. -/
def Pac.raised (p : Pac) (r : Requester) (cls : Nat) : Pac :=
  { p with queue := p.queue.map fun q => if q.who = r then { q with cls := max q.cls cls } else q }

theorem request_raised {s : State} {r : Requester} (hheld : r ∉ s.pac.held) (hq : ∃ q ∈ s.pac.queue, q.who = r) (cls : Nat) :
    s.request r cls = s.setPac (s.pac.raised r cls) :=
  (if_neg (by simpa using hheld)).trans (if_pos (by simpa using hq))

/-- A request that is new meets the test of its arrival only once the PAC is ready. -/
theorem request_new {s : State} {r : Requester} (hheld : r ∉ s.pac.held) (hq : ∀ q ∈ s.pac.queue, q.who ≠ r) (cls : Nat) :
    s.request r cls =
      match s.ready 3, s.pacBars r with
      | true, some c => s.refuse ⟨r, cls, s.now, s.pac.timeout, s.now⟩ c
      | _, _ => s.setPac (s.pac.asked r cls s.now) := by
  refine ((if_neg (by simpa using hheld)).trans (if_neg (by simpa using hq))).trans ?_
  cases s.ready 3 <;> cases s.pacBars r <;> rfl

theorem request_waits {s : State} {r : Requester} (hheld : r ∉ s.pac.held) (hq : ∀ q ∈ s.pac.queue, q.who ≠ r)
    (hpass : s.ready 3 = false ∨ s.pacBars r = none) (cls : Nat) : s.request r cls = s.setPac (s.pac.asked r cls s.now) := by
  rw [request_new hheld hq]
  obtain h | h := hpass <;> rw [h]
  cases s.ready 3 <;> rfl

theorem request_refused {s : State} {r : Requester} {code : Nat} (hheld : r ∉ s.pac.held)
    (hq : ∀ q ∈ s.pac.queue, q.who ≠ r) (h3 : s.ready 3 = true) (hbars : s.pacBars r = some code) (cls : Nat) :
    s.request r cls = s.refuse ⟨r, cls, s.now, s.pac.timeout, s.now⟩ code := by
  rw [request_new hheld hq, h3, hbars]

/-- A refusal on arrival is STEP or NEVER_FITS. -/
theorem pacBars_code {s : State} {r : Requester} {code : Nat} (h : s.pacBars r = some code) : code = 2 ∨ code = 3 := by
  unfold State.pacBars at h
  split at h
  · exact .inl (Option.some.inj h).symm
  · split at h
    · exact .inr (Option.some.inj h).symm
    · cases h

theorem does_pacRequest {s : State} {P : State → Prop} (hon : s.mainOn = true) (r : Requester) (cls : Fin 3) :
    Does (.pacRequest r cls) s P ↔ P (s.begin.request r cls).settle := by
  rw [does_run (exec_pacRequest r cls s), if_pos (show s.begin.mainOn = true by simp [hon])]

theorem pacRequest_held {s : State} {r : Requester} {cls : Fin 3} (hon : s.mainOn = true) (h : r ∈ s.pac.held) :
    Does (.pacRequest r cls) s fun t => Only [] s t := by
  rw [does_pacRequest hon, request_held (s := s.begin) h]
  exact (Within.refl s.begin).settled

theorem pacRequest_waits {s : State} {r : Requester} {cls : Fin 3} (hon : s.mainOn = true) (hheld : r ∉ s.pac.held)
    (hq : ∀ q ∈ s.pac.queue, q.who ≠ r) (hpass : s.ready 3 = false ∨ s.pacBars r = none) :
    Does (.pacRequest r cls) s fun t => t.pac = s.pac.asked r cls s.now ∧ Only [.pac] s t := by
  rw [does_pacRequest hon, request_waits (s := s.begin) hheld hq (by simpa using hpass)]
  exact setPac_settled s _

theorem pacRequest_refused {s : State} {r : Requester} {cls : Fin 3} {code : Nat} (hon : s.mainOn = true)
    (hheld : r ∉ s.pac.held) (hq : ∀ q ∈ s.pac.queue, q.who ≠ r) (h3 : s.ready 3 = true) (hbars : s.pacBars r = some code) :
    Does (.pacRequest r cls) s fun t =>
      t.pac.lastDeny = r.kind.code + r.inst % 16 * 2 ^ 8 + code * 2 ^ 12 + cls * 2 ^ 16 ∧
        t.pac.denyFit = satAdd 16 s.pac.denyFit 1 ∧ t.pac.denyTimeout = s.pac.denyTimeout ∧
        Only [.pac, .icu, .hazel, .pipes, .plls, .lanes, .dram, .dma] s t := by
  have hrefused := request_refused (s := s.begin) hheld hq (by simpa using h3) (by simpa using hbars) cls
  have hbooks := refuse_books s.begin ⟨r, cls, s.now, s.pac.timeout, s.now⟩ code
  have hlate : (code == 1 || code == 4) = false := by
    obtain rfl | rfl := pacBars_code hbars <;> rfl
  rw [does_pacRequest hon, hrefused]
  refine ⟨?_, ?_, ?_, ((within_refuse s.begin _ code).widen (by decide)).settled⟩
  · rw [(settled_settle _).pac]
    exact congrArg Pac.lastDeny hbooks
  · rw [(settled_settle _).pac]
    exact (congrArg Pac.denyFit hbooks).trans (if_neg (ne_true_of_eq_false hlate))
  · rw [(settled_settle _).pac]
    exact (congrArg Pac.denyTimeout hbooks).trans (if_neg (ne_true_of_eq_false hlate))

theorem pacRequest_raised {s : State} {r : Requester} {cls : Fin 3} (hon : s.mainOn = true) (hheld : r ∉ s.pac.held)
    (hq : ∃ q ∈ s.pac.queue, q.who = r) :
    Does (.pacRequest r cls) s fun t => t.pac = s.pac.raised r cls ∧ Only [.pac] s t := by
  rw [does_pacRequest hon, request_raised (s := s.begin) hheld hq]
  exact setPac_settled s _

/-- Settles O16: a request of a requester that holds its grant does nothing, a new one joins the queue or is refused by the test
of its arrival, and a repeated one raises the class of the first. -/
theorem requestsQueueOrAreRefused : Obligations.RequestsQueueOrAreRefused := by
  unfold Obligations.RequestsQueueOrAreRefused
  refine fun s r cls hon => ⟨pacRequest_held hon, fun hheld hq => ⟨pacRequest_waits hon hheld hq, fun code h3 hbars => ?_⟩,
    fun hheld hq => ?_⟩
  · exact pacRequest_refused hon hheld hq h3 hbars
  · obtain ⟨t, hexec, hpac, honly⟩ := pacRequest_raised hon hheld hq
    exact ⟨t, hexec, congrArg Pac.queue hpac, honly⟩

end Sys2Proof.Machine
end


section
/-! PROOFS of 03_power_admission.md. The head of the queue is granted (R153, R156, R188, R189), grants and requests are given
back (R155, R157, R191), and a request times out (R158, R161, R192). -/

namespace Sys2Proof.Machine

/-! ### What a grant starts (02 R91; 12 R615, R617, R629, R631) -/

theorem within_raiseDram (s : State) : Within [.husk, .dram] s s.raiseDram := by
  have hraised := within_setHusk s { s.husk with enDram := true }
  exact ((hraised.seq (within_dramRisen _)).ite hraised |>.ite (Within.refl s)).widen (by decide)

theorem within_wakeGranted (s : State) (n : Nat) : Within [.husk, .dram] s (s.wakeGranted n) := by
  unfold State.wakeGranted
  dsimp only
  split
  · exact ((within_setStack s n _).ite (within_raiseDram s)).widen (by decide)
  · exact (within_setStack s n _).widen (by decide)
  · exact (Within.refl s).widen (by decide)

theorem within_memTestStarts (s : State) (i : Nat) : Within [.dram, .ready] s (s.memTestStarts i) := by
  have hleft := (within_setStack s (i - 1) { s.stack (i - 1) with mode := .selfTest }).seq
    (within_dropReady _ (rdyBit (6 + (i - 1))))
  exact ((Within.refl s).ite (hleft.ite (hleft.seq (within_dropReady _ (rdyBit 23))))).widen (by decide)

theorem within_startBurst (s : State) : Within [.mram] s s.startBurst := by
  unfold State.startBurst
  split
  · exact within_setMram s _
  · exact (Within.refl s).widen (by decide)

theorem onGrant_pll {s : State} {r : Requester} {p : Nat} (h : r.pll? = some p) : s.onGrant r = s.setPll p .starting := by
  unfold State.onGrant
  rw [h]

/-- A job and a lane start by what firmware carries on, not by the grant itself. -/
theorem onGrant_job_or_lane {r : Requester} (h : r.kind = .pipeJob ∨ r.kind = .laneEnable) (s : State) : s.onGrant r = s := by
  unfold State.onGrant Requester.pll?
  obtain h | h := h <;> simp [h]

theorem within_onGrant (s : State) (r : Requester) :
    Within [.plls, .pipes, .ready, .husk, .dram, .mram] s (s.onGrant r) := by
  unfold State.onGrant
  split
  · exact (within_setPll s _ _).widen (by decide)
  · split
    · exact ((within_setPipe s _ _).seq (within_dropReady _ _)).widen (by decide)
    · exact (within_wakeGranted s _).widen (by decide)
    · exact (within_memTestStarts s _).widen (by decide)
    · exact (within_startBurst s).widen (by decide)
    · exact (Within.refl s).widen (by decide)

/-! ### A grant (03 R153, R156, R188, R189) -/

/-- The PAC once it has granted `q`. -/
def Pac.granted (p : Pac) (q : PacReq) (now : Nat) : Pac :=
  { p with queue := p.queue.filter (·.who != q.who), held := p.held ++ [q.who], grants := satAdd 32 p.grants 1
           slotEnd := now + 1000 * p.slot
           waitMax := max p.waitMax (min ((now - q.at_) / 1000) (satMax 32)) }

/-- The grant of `q`, at the end of the spacing after the last one. -/
def State.admitted (s : State) (q : PacReq) : State :=
  (s.until s.pac.slotEnd).setPac (s.pac.granted q (s.until s.pac.slotEnd).now)

theorem grant_eq {s : State} {q : PacReq} (hhead : pacHead s.pac.queue = some q) :
    s.grant = if s.pacGrantable q then ((s.admitted q).onGrant q.who).progress else s := by
  unfold State.grant
  rw [hhead]
  rfl

theorem within_admitted (s : State) (q : PacReq) : Within [.time, .ptp, .pac] s (s.admitted q) :=
  (within_until s s.pac.slotEnd).seq (within_setPac _ _)

theorem not_mem_queue_granted {p : Pac} {q x : PacReq} {now : Nat} (h : x ∈ (p.granted q now).queue) : x.who ≠ q.who := by
  have hfilter : x ∈ p.queue.filter (·.who != q.who) := h
  simpa using (List.mem_filter.1 hfilter).2

/-- A grant reaches its requester at the end of the spacing, and the next spacing runs from then, whatever it starts. -/
theorem onGrant_admitted (s : State) (q : PacReq) :
    ((s.admitted q).onGrant q.who).pac = s.pac.granted q ((s.admitted q).onGrant q.who).now ∧
      s.pac.slotEnd ≤ ((s.admitted q).onGrant q.who).now := by
  have hstarts := within_onGrant (s.admitted q) q.who
  have hnow : ((s.admitted q).onGrant q.who).now = (s.until s.pac.slotEnd).now := hstarts.only.2 .time (by decide)
  rw [hnow]
  exact ⟨hstarts.only.2 .pac (by decide), le_until_now s s.pac.slotEnd⟩

theorem pacGrant_grants {s : State} {q : PacReq} (hhead : pacHead s.pac.queue = some q) (hgrant : s.pacGrantable q = true) :
    Leads .pacGrant s fun u => q.who ∈ u.pac.held ∧ (∀ x ∈ u.pac.queue, x.who ≠ q.who) ∧ s.pac.slotEnd ≤ u.now ∧
      (∀ p, q.who.pll? = some p → u.pac.slotEnd = u.now + 1000 * s.pac.slot ∧ u.pac.grants = satAdd 32 s.pac.grants 1 ∧
        u.pll p = .starting ∧ Only [.pac, .plls, .time, .ptp] s u) ∧
      (q.who.kind = .pipeJob ∨ q.who.kind = .laneEnable →
        u.pac.slotEnd = u.now + 1000 * s.pac.slot ∧ u.pac.grants = satAdd 32 s.pac.grants 1 ∧ Only [.pac, .time, .ptp] s u) := by
  have hleads := (grant_eq (s := s.begin) hhead).trans (if_pos (by simpa using hgrant))
  have hadmitted := within_admitted s.begin q
  obtain ⟨hpac, hspaced⟩ := onGrant_admitted s.begin q
  have hslot := congrArg Pac.slotEnd hpac
  have hgrants := congrArg Pac.grants hpac
  refine leads_run (exec_pacGrant s) hleads ⟨?_, fun x hx => ?_, hspaced, fun p hp => ⟨hslot, hgrants, ?_⟩,
    fun hkind => ⟨hslot, hgrants, ?_⟩⟩
  · rw [hpac]
    exact List.mem_append_right _ (List.mem_singleton_self _)
  · rw [hpac] at hx
    exact not_mem_queue_granted hx
  · rw [onGrant_pll hp]
    exact ⟨setPll_same _ p .starting, ((hadmitted.seq (within_setPll _ p .starting)).widen (by decide)).begun⟩
  · rw [onGrant_job_or_lane hkind]
    exact (hadmitted.widen (by decide)).begun

theorem pacGrant_waits {s : State} {q : PacReq} (hhead : pacHead s.pac.queue = some q) (hgrant : s.pacGrantable q = false) :
    Does .pacGrant s fun t => Only [] s t := by
  have hwaits := (grant_eq (s := s.begin) hhead).trans (if_neg (by simp [hgrant]))
  rw [does_run (f := State.grant) (exec_pacGrant s), hwaits]
  exact (Within.refl s.begin).settled

/-! ### Grants and requests given back (03 R155, R157, R191) -/

/-- The PAC without the grant of `r`. -/
def Pac.released (p : Pac) (r : Requester) : Pac := { p with held := p.held.filter (· != r) }

/-- The release of a grant that is not held does nothing. -/
theorem releaseGrant_eq (s : State) (r : Requester) : s.releaseGrant r = s.setPac (s.pac.released r) := by
  unfold State.releaseGrant
  split
  · rfl
  · next h =>
    have hnone : s.pac.held.filter (· != r) = s.pac.held := by
      refine List.filter_eq_self.2 fun x hx => bne_iff_ne.2 ?_
      rintro rfl
      exact h (List.contains_iff_mem.2 hx)
    rw [Pac.released, hnone]
    rfl

theorem mem_held_released {p : Pac} {r x : Requester} : x ∈ (p.released r).held ↔ x ∈ p.held ∧ x ≠ r := by
  simp [Pac.released]

theorem pacRelease_releases (s : State) (r : Requester) :
    Does (.pacRelease r) s fun t => t.pac = s.pac.released r ∧ Only [.pac] s t := by
  rw [does_run (f := fun u => u.releaseGrant r) (exec_pacRelease r s), releaseGrant_eq]
  exact setPac_settled s _

/-- The PAC without the request of `r`. -/
def Pac.withdrawn (p : Pac) (r : Requester) : Pac := { p with queue := p.queue.filter (·.who != r) }

theorem mem_queue_withdrawn {p : Pac} {r : Requester} {q : PacReq} : q ∈ (p.withdrawn r).queue ↔ q ∈ p.queue ∧ q.who ≠ r := by
  simp [Pac.withdrawn]

theorem pacWithdraw_withdraws (s : State) (r : Requester) :
    Does (.pacWithdraw r) s fun t => t.pac = s.pac.withdrawn r ∧ Only [.pac] s t := by
  rw [does_run (f := fun u => u.setPac (u.pac.withdrawn r)) (exec_pacWithdraw r s)]
  exact setPac_settled s _

/-! ### A timeout (03 R158, R161, R162, R192) -/

/-- TIMEOUT, or HOT for a request of class 0 under the thermal warning. -/
def Pac.lateCode (p : Pac) (q : PacReq) : Nat := if q.cls = 0 && p.warn then 4 else 1

theorem lateCode_eq (p : Pac) (q : PacReq) : p.lateCode q = if q.cls = 0 ∧ p.warn then 4 else 1 := by
  simp [Pac.lateCode]

theorem lateCode_late (p : Pac) (q : PacReq) : (p.lateCode q == 1 || p.lateCode q == 4) = true := by
  unfold Pac.lateCode
  split <;> rfl

theorem not_grantable_of_not_fits {s : State} {q : PacReq} (h : s.pacFits q.who = false) : s.pacGrantable q = false := by
  simp [State.pacGrantable, h]

/-- A single request that does not fit is refused once its timeout has passed. -/
theorem pacLate_refuses {s : State} {q : PacReq} (hq : s.pac.queue = [q]) (h3 : s.ready 3 = true) (h2 : s.ready 2 = true)
    (hfits : s.pacFits q.who = false) : s.pacLate q.who =
      ((s.until (q.from_ + 1000000 * q.timeoutMs)).refuse q (s.pac.lateCode q)).progress := by
  have hfind : s.pac.queue.find? (·.who == q.who) = some q := by simp [hq]
  have hbarred : (s.until (q.from_ + 1000000 * q.timeoutMs)).pacGrantable q = false := not_grantable_of_not_fits hfits
  unfold State.pacLate
  rw [hfind]
  dsimp only
  rw [if_pos (by simp [h3, h2]), if_neg (by simp [hbarred])]
  rfl

theorem pacTimeout_refuses {s : State} {q : PacReq} (hq : s.pac.queue = [q]) (h3 : s.ready 3 = true) (h2 : s.ready 2 = true)
    (hfits : s.pacFits q.who = false) : Leads (.pacTimeout q.who) s fun u =>
      u.pac.queue = [] ∧ q.from_ + 1000000 * q.timeoutMs ≤ u.now ∧ u.pac.denyTimeout = satAdd 16 s.pac.denyTimeout 1 ∧
      u.pac.lastDeny = q.who.kind.code + q.who.inst % 16 * 2 ^ 8 + s.pac.lateCode q * 2 ^ 12 + q.cls * 2 ^ 16 := by
  have hlate := pacLate_refuses (s := s.begin) hq (by simpa using h3) (by simpa using h2) (by simpa using hfits)
  have hdue := le_until_now s.begin (q.from_ + 1000000 * q.timeoutMs)
  have hpac : (s.begin.until (q.from_ + 1000000 * q.timeoutMs)).pac = s.pac := rfl
  generalize s.begin.until (q.from_ + 1000000 * q.timeoutMs) = t at hlate hdue hpac
  have hbooks := refuse_books t q (s.pac.lateCode q)
  have hnow : (t.refuse q (s.pac.lateCode q)).now = t.now := (within_refuse t q _).only.2 .time (by decide)
  refine leads_run (exec_pacTimeout q.who s) hlate ⟨refuse_empties (by rw [hpac, hq]) _, hdue.trans_eq hnow.symm, ?_,
    congrArg Pac.lastDeny hbooks⟩
  rw [← hpac]
  exact (congrArg Pac.denyTimeout hbooks).trans (if_pos (lateCode_late _ q))

/-- Settles O17: a grant waits for its spacing and what it starts leaves the PAC alone; a release and a withdrawal reach one
requester; the refusal of a late request leaves its record and no request. -/
theorem grantsReleasesAndTimeouts : Obligations.GrantsReleasesAndTimeouts := by
  unfold Obligations.GrantsReleasesAndTimeouts
  refine fun s => ⟨fun q => pacGrant_grants, fun q => pacGrant_waits, fun r => ?_, fun r => ?_, fun q hq h3 h2 hfits _ => ?_⟩
  · obtain ⟨t, hexec, hpac, honly⟩ := pacRelease_releases s r
    refine ⟨t, hexec, fun h => ?_, fun x hx => ?_, (congrArg Pac.queue hpac).trans rfl, honly⟩
    · rw [hpac] at h
      exact (mem_held_released.1 h).2 rfl
    · rw [hpac]
      exact mem_held_released.trans (and_iff_left hx)
  · obtain ⟨t, hexec, hpac, honly⟩ := pacWithdraw_withdraws s r
    refine ⟨t, hexec, fun q => ?_, (congrArg Pac.held hpac).trans rfl, honly⟩
    rw [hpac]
    exact mem_queue_withdrawn
  · rw [← lateCode_eq]
    exact pacTimeout_refuses hq h3 h2 hfits

end Sys2Proof.Machine
end

section
/-! PROOFS of 04_host_link_live_insertion.md. What the host reads and writes of the function: configuration space and its power
state (R207 to R211, R235, R236), MSI-X (R229 to R231) and replays. -/

namespace Sys2Proof.Machine

/-! ### The endpoint put, and what it logs (04 R229, R230) -/

/-- The state with its endpoint replaced. -/
def State.setPcie (s : State) (p : Pcie) : State := { s with pcie := p }

theorem within_setPcie (s : State) (p : Pcie) : Within [.pcie] s (s.setPcie p) := ⟨only_pcie s p, by decide⟩

/-- The mailboxes' side of a host-side reset: the count, and whether they are closed. -/
theorem within_mailSide (s : State) (n : Nat) (closed : Bool) : Within [.mbx] s { s with rstCnt := n, mbxClosed := closed } := by
  refine ⟨⟨rfl, fun p hp => ?_⟩, by decide⟩
  cases p
  case mbx => exact absurd (by decide) hp
  case ready => exact ⟨rfl, rfl, rfl⟩
  case memory => exact ⟨rfl, rfl⟩
  case board | mram => exact fun _ => rfl
  all_goals rfl

/-- The state after a report: the collector and the reset that is due are all that it can change. -/
def State.noted (s : State) (f : Flt) (r : Option (Cause × Option Nat)) : State :=
  { s with flt := f, husk := { s.husk with resetDue := r } }

theorem within_noted (s : State) (f : Flt) (r : Option (Cause × Option Nat)) : Within [.flt, .husk] s (s.noted f r) :=
  (within_setFlt s f).seq (within_setHusk _ { s.husk with resetDue := r })

/-- The sources from 42 on, the endpoint's among them, have no reset target (15 R782). -/
theorem fltBlock_of_le {src : Nat} (h : 42 ≤ src) (detail : Nat) : fltBlock src detail = none := by
  unfold fltBlock
  split
  case h_11 => rfl
  all_goals omega

theorem fltHazelReset_of_le {src : Nat} (h : 42 ≤ src) : fltHazelReset src = false := by
  simp only [fltHazelReset, Bool.or_eq_false_iff, beq_eq_false_iff_ne]
  omega

theorem report_noted (s : State) {src : Nat} (h : 42 ≤ src) (detail : Nat) : ∃ f r, s.report src detail = s.noted f r :=
  report_shape s src detail (fltHazelReset_of_le h) (fltBlock_of_le h _)

/-- An uncorrectable error is logged in the endpoint and reported. -/
def Pcie.uncLogged (p : Pcie) (bit : Nat) : Pcie := { p with uncStatus := p.uncStatus ||| 2 ^ bit }

theorem aerUnc_eq (s : State) {src : Nat} (h : 42 ≤ src) (bit : Nat) :
    ∃ f r, s.aerUnc bit src = (s.setPcie (s.pcie.uncLogged bit)).noted f r :=
  report_noted _ h 0

/-- A correctable error is logged in the endpoint. -/
def Pcie.corLogged (p : Pcie) (bit : Nat) : Pcie := { p with corStatus := p.corStatus ||| 2 ^ bit }

theorem aerCor_eq (s : State) (bit : Nat) : ∃ f r, s.aerCor bit = (s.setPcie (s.pcie.corLogged bit)).noted f r :=
  report_noted _ (by decide) 0

/-- A command whose effect is on the endpoint alone. -/
theorem setPcie_settled (s : State) (p : Pcie) : Only [.pcie] s (s.begin.setPcie p).settle := (within_setPcie s.begin p).settled

/-- A command whose effect is on the endpoint, with a report. -/
theorem setPcie_noted_settled (s : State) (p : Pcie) (f : Flt) (r : Option (Cause × Option Nat)) :
    Only [.pcie, .flt, .husk] s ((s.begin.setPcie p).noted f r).settle :=
  ((within_setPcie s.begin p).seq (within_noted _ f r)).settled

/-- A command that answers, and has no effect. -/
theorem setAnswer_settled (s : State) (x : Answer) :
    (s.begin.setAnswer x).settle.answer = x ∧ Only [] s (s.begin.setAnswer x).settle :=
  ⟨(settled_settle _).answer, (within_setAnswer s.begin x).settled⟩

/-- A command that finds nothing to do. -/
theorem begin_settled (s : State) : s.begin.settle.answer = .none ∧ Only [] s s.begin.settle :=
  ⟨(settled_settle _).answer, (Within.refl s.begin).settled⟩

/-! ### Pending messages (04 R225, R226, R231) -/

theorem message_kept (s : State) (v : Nat) : (s.message v).pcie.kept = s.pcie.kept := by
  obtain ⟨-, -, -, -, hkept⟩ := message_husk s v
  exact hkept

/-- Which messages may go does not hang on which are pending. -/
theorem canSend_congr {p q : Pcie} (h : p.kept = q.kept) (v : Nat) : p.canSend v = q.canSend v :=
  keptPcie (fun x => x.canSend v) h fun _ => rfl

theorem vectorBit_getLsbD (v w : Nat) : (BitVec.ofNat 64 (2 ^ v)).getLsbD w = (decide (w < 64) && decide (v = w)) := by
  rw [BitVec.getLsbD_ofNat, Nat.testBit_two_pow]

/-- A message that may go leaves no pending bit behind, one that may not leaves its own, and no other bit changes. -/
theorem message_pba (s : State) {v w : Nat} (hw : w < 64) :
    (s.message v).pcie.pba.getLsbD w = if v = w then !s.pcie.canSend v else s.pcie.pba.getLsbD w := by
  unfold State.message
  split
  · next hsend =>
    dsimp only
    rw [BitVec.getLsbD_and, BitVec.getLsbD_not, vectorBit_getLsbD]
    obtain rfl | h := eq_or_ne v w
    · simp [hw, hsend]
    · simp [hw, h]
  · next hsend =>
    dsimp only
    rw [BitVec.getLsbD_or, vectorBit_getLsbD]
    obtain rfl | h := eq_or_ne v w
    · simp [hw, hsend]
    · simp [hw, h]

/-- No message below `n` that may go is pending. -/
def Pcie.DrainedBelow (p : Pcie) (n : Nat) : Prop := ∀ v, v < n → p.canSend v = true → p.pba.getLsbD v = false

theorem drained_message {s : State} {n : Nat} (hn : n ≤ 64) (h : s.pcie.DrainedBelow n) (v : Nat) :
    (s.message v).pcie.DrainedBelow n := by
  intro w hw hsend
  rw [canSend_congr (message_kept s v)] at hsend
  rw [message_pba s (by omega)]
  split
  · next hvw => simpa [hvw] using hsend
  · exact h w hw hsend

theorem drained_messages {s : State} {n : Nat} (hn : n ≤ 64) (h : s.pcie.DrainedBelow n) (m : BitVec 64) (k : Nat) :
    (s.messages m k).pcie.DrainedBelow n := by
  induction k with
  | zero => exact h
  | succ k ih =>
    simp only [State.messages]
    split
    · exact drained_message hn ih k
    · exact ih

theorem drained_sent {t : State} (c : Prop) [Decidable c] (m : BitVec 64) (k : Nat) (h : t.pcie.DrainedBelow 64) :
    (if c then t else t.messages m k).pcie.DrainedBelow 64 := by
  split
  · exact h
  · exact drained_messages (Nat.le_refl 64) h m k

/-- What follows a command may send messages, and leaves none pending that could go. -/
theorem drained_settle {s : State} (h : s.pcie.DrainedBelow 64) : s.settle.pcie.DrainedBelow 64 := by
  have hicu : s.settleIcu.pcie.DrainedBelow 64 := drained_sent _ _ _ h
  obtain ⟨-, -, -, -, hwake⟩ := wakePip_rest s.settleIcu
  obtain ⟨-, -, hpump, -⟩ := cfgPump_rest s.settleIcu.wakePip
  have hsettle : s.settle.pcie = s.settleIcu.pcie := hpump.trans hwake
  rw [hsettle]
  exact hicu

/-- One step of the flush of pending messages. -/
def State.flushOne (v : Nat) (t : State) : State := if t.pcie.pba.getLsbD v && t.pcie.canSend v then t.message v else t

theorem flushMsix_eq (s : State) : s.flushMsix = foldRange State.flushOne 64 s := rfl

theorem within_message (s : State) (v : Nat) : Within [.pcie] s (s.message v) := by
  unfold State.message
  split
  · exact ⟨(only_pcie s _).answered _ _, by decide⟩
  · exact within_setPcie s _

theorem within_flushMsix (s : State) : Within [.pcie] s s.flushMsix :=
  within_foldRange (fun v t => ((within_message t v).ite (Within.refl t)).widen (by decide)) 64 s

theorem flushOne_kept (v : Nat) (t : State) : (State.flushOne v t).pcie.kept = t.pcie.kept := by
  unfold State.flushOne
  split
  · exact message_kept t v
  · rfl

theorem flushMsix_kept (s : State) : s.flushMsix.pcie.kept = s.pcie.kept :=
  foldRange_keeps (fun t => t.pcie.kept = s.pcie.kept) _ (fun v t h => (flushOne_kept v t).trans h) 64 s rfl

/-- Each step of the flush leaves its own message sent, and the earlier ones as they are. -/
theorem drained_flushOne {t : State} {v : Nat} (hv : v < 64) (h : t.pcie.DrainedBelow v) :
    (State.flushOne v t).pcie.DrainedBelow (v + 1) := by
  intro w hw hsend
  rw [canSend_congr (flushOne_kept v t)] at hsend
  obtain hlt | rfl := Nat.lt_succ_iff_lt_or_eq.1 hw
  · have hw' := h w hlt hsend
    unfold State.flushOne
    split
    · rw [message_pba t (by omega), if_neg (by omega)]
      exact hw'
    · exact hw'
  · unfold State.flushOne
    split
    · rw [message_pba t hv, if_pos rfl, hsend]
      rfl
    · next hnone => simpa [hsend] using hnone

theorem flushMsix_drained (s : State) : s.flushMsix.pcie.DrainedBelow 64 := by
  have hall : ∀ n, n ≤ 64 → (foldRange State.flushOne n s).pcie.DrainedBelow n := by
    intro n hn
    induction n with
    | zero => exact fun v hv => absurd hv (Nat.not_lt_zero v)
    | succ n ih => exact drained_flushOne hn (ih (Nat.le_of_succ_le hn))
  rw [flushMsix_eq]
  exact hall 64 (Nat.le_refl 64)

/-- The endpoint put and flushed, as the command that did so leaves it. -/
theorem setPcie_flush_settled (s : State) (p : Pcie) :
    let t := (s.begin.setPcie p).flushMsix.settle
    t.pcie.kept = p.kept ∧ (∀ v : Fin 64, t.pcie.canSend v = true → t.pcie.pba.getLsbD v = false) ∧ Only [.pcie] s t := by
  obtain ⟨-, -, hkept, -⟩ := settle_rest (s.begin.setPcie p).flushMsix
  have hframe := (within_setPcie s.begin p).seq (within_flushMsix _)
  exact ⟨hkept.trans (flushMsix_kept _), fun v => drained_settle (flushMsix_drained _) v v.isLt,
    (hframe.widen (by decide)).settled⟩

/-! ### Function-level reset ends, and the power state (04 R207, R229, R235) -/

theorem flrComplete_ends {s : State} (h : s.pcie.flr = true) : Does .flrComplete s fun t =>
    t.pcie.flr = false ∧ t.mbxClosed = false ∧ Only [.pcie, .mbx] s t := by
  have hframe := (within_setPcie s.begin { s.pcie with flr := false }).seq (within_mailSide _ s.rstCnt false)
  rw [does_run (exec_flrComplete s), if_pos (show s.begin.pcie.flr = true from h)]
  exact ⟨settle_pcie_flr _, (settled_settle _).mbxClosed, hframe.settled⟩

/-- The endpoint in D3hot, or back in D0. -/
def Pcie.inD3 (p : Pcie) (d : Bool) : Pcie := { p with d3 := d }

theorem enterD3_eq {s : State} (h : s.pcie.linkUp = true) : s.enterD3 = s.setPcie (s.pcie.inD3 true) := if_pos h

theorem leaveD3_eq (s : State) : s.leaveD3 = (s.setPcie (s.pcie.inD3 false)).flushMsix := rfl

theorem d3hotEntry_enters {s : State} (h : s.pcie.linkUp = true) : Does .d3hotEntry s fun t =>
    t.pcie.d3 = true ∧ Only [.pcie] s t := by
  rw [does_run (f := State.enterD3) (exec_d3hotEntry s), enterD3_eq (s := s.begin) h]
  exact ⟨settle_pcie_d3 _, setPcie_settled s _⟩

theorem d0Return_flushes {s : State} (h : s.pcie.linkUp = true) (hd3 : s.pcie.d3 = true) : Does .d0Return s fun t =>
    t.pcie.d3 = false ∧ (∀ v : Fin 64, t.pcie.canSend v = true → t.pcie.pba.getLsbD v = false) ∧ Only [.pcie] s t := by
  have hguard : (s.begin.pcie.linkUp && s.begin.pcie.d3) = true := by simp [h, hd3]
  obtain ⟨hkept, hdrained, honly⟩ := setPcie_flush_settled s (s.pcie.inD3 false)
  rw [does_run (exec_d0Return s), if_pos hguard, leaveD3_eq]
  exact ⟨keptPcie Pcie.d3 hkept fun _ => rfl, hdrained, honly⟩

/-! ### Configuration space (04 R209 to R211) -/

/-- A configuration request that finds the link up and no function-level reset is served. -/
theorem exec_configRequest_served {s : State} (hup : s.pcie.linkUp = true) (hflr : s.pcie.flr = false) (a : ConfigAccess) :
    exec (.configRequest a) s = run (fun u => match a.write with
      | none => u.setAnswer (.data (BitVec.ofNat 64 (u.cfgSpace a.offset)))
      | some v => u.cfgSpaceWrite a.offset v.toNat) s := by
  rw [exec_configRequest, execConfigRequest, run_eq, if_neg (by simp [hup]), if_neg (by simp [hflr])]
  rfl

theorem configRequest_reads {s : State} (hup : s.pcie.linkUp = true) (hflr : s.pcie.flr = false) (o : Nat) :
    Does (.configRequest ⟨o, none⟩) s fun t => t.answer = .data (BitVec.ofNat 64 (s.cfgSpace o)) ∧ Only [] s t :=
  (does_run (exec_configRequest_served hup hflr ⟨o, none⟩)).2 (setAnswer_settled s _)

theorem does_configWrite {s : State} {o : Nat} {v : Word32} {P : State → Prop} (hup : s.pcie.linkUp = true)
    (hflr : s.pcie.flr = false) : Does (.configRequest ⟨o, some v⟩) s P ↔ P (s.begin.cfgSpaceWrite o v.toNat).settle :=
  does_run (f := fun u => u.cfgSpaceWrite o v.toNat) (exec_configRequest_served hup hflr ⟨o, some v⟩)

/-- The command register has been written. -/
def Pcie.commanded (p : Pcie) (v : Nat) : Pcie := { p with cmdRest := v &&& 0x0540, mse := bitAt v 1, bme := bitAt v 2 }

theorem configRequest_command {s : State} (hup : s.pcie.linkUp = true) (hflr : s.pcie.flr = false) (v : Word32) :
    Does (.configRequest ⟨0x004, some v⟩) s fun t =>
      t.pcie.mse = bitAt v.toNat 1 ∧ t.pcie.bme = bitAt v.toNat 2 ∧ Only [.pcie] s t := by
  have hwrite : s.begin.cfgSpaceWrite 0x004 v.toNat = (s.begin.setPcie (s.pcie.commanded v.toNat)).flushMsix := rfl
  obtain ⟨hkept, -, honly⟩ := setPcie_flush_settled s (s.pcie.commanded v.toNat)
  rw [does_configWrite hup hflr, hwrite]
  exact ⟨keptPcie Pcie.mse hkept fun _ => rfl, keptPcie Pcie.bme hkept fun _ => rfl, honly⟩

theorem configRequest_power {s : State} (hup : s.pcie.linkUp = true) (hflr : s.pcie.flr = false) (v : Word32) :
    Does (.configRequest ⟨0x044, some v⟩) s fun t =>
      t.pcie.d3 = (if v.toNat % 4 = 3 then true else if v.toNat % 4 = 0 then false else s.pcie.d3) ∧ Only [.pcie] s t := by
  have hwrite : s.begin.cfgSpaceWrite 0x044 v.toNat = if v.toNat % 4 = 3 then s.begin.enterD3
      else if v.toNat % 4 = 0 ∧ s.pcie.d3 then s.begin.leaveD3 else s.begin := rfl
  rw [does_configWrite hup hflr, hwrite]
  split
  · rw [enterD3_eq (s := s.begin) hup]
    exact ⟨settle_pcie_d3 _, setPcie_settled s _⟩
  · split
    · next h =>
      obtain ⟨hkept, -, honly⟩ := setPcie_flush_settled s (s.pcie.inD3 false)
      rw [if_pos h.1, leaveD3_eq]
      exact ⟨keptPcie Pcie.d3 hkept fun _ => rfl, honly⟩
    · next h =>
      have hd3 : (if v.toNat % 4 = 0 then false else s.pcie.d3) = s.pcie.d3 := by
        split
        · next h0 => exact (Bool.eq_false_iff.2 fun hd => h ⟨h0, hd⟩).symm
        · rfl
      rw [hd3]
      exact ⟨settle_pcie_d3 _, (Within.refl s.begin |>.widen (by decide)).settled⟩

theorem configRequest_uncStatus {s : State} (hup : s.pcie.linkUp = true) (hflr : s.pcie.flr = false) (v : Word32) :
    Does (.configRequest ⟨0x104, some v⟩) s fun t =>
      t.pcie.uncStatus = s.pcie.uncStatus - (s.pcie.uncStatus &&& v.toNat) ∧ Only [.pcie] s t :=
  (does_configWrite hup hflr).2 ⟨settle_pcie_uncStatus _, setPcie_settled s _⟩

theorem configRequest_in_flr {s : State} (hup : s.pcie.linkUp = true) (hflr : s.pcie.flr = true) (a : ConfigAccess) :
    Does (.configRequest a) s fun t => t.answer = .unsupported ∧ Only [] s t := by
  rw [does_run (exec_configRequest a s), if_neg (by simp [hup]), if_pos (by simp [hflr])]
  exact setAnswer_settled s _

theorem configRequest_without_link {s : State} (h : s.pcie.linkUp = false) (a : ConfigAccess) :
    Does (.configRequest a) s fun t => t.answer = .none ∧ Only [] s t := by
  rw [does_run (exec_configRequest a s), if_pos (by simp [h])]
  exact begin_settled s

/-! ### MSI-X and replays (04 R230, R231) -/

/-- The mask bit of vector `v` is 0. -/
def Pcie.unmasked (p : Pcie) (v : Nat) : Pcie := { p with msix := Table.modify {} p.msix v fun e => { e with masked := false } }

theorem msixUnmask_flushes {s : State} (h : s.hostUp = true) (v : Fin 64) : Does (.msixUnmask v) s fun t =>
    (Table.get {} t.pcie.msix v).masked = false ∧
      (∀ w : Fin 64, t.pcie.canSend w = true → t.pcie.pba.getLsbD w = false) ∧ Only [.pcie] s t := by
  have hunmask : s.begin.unmask v = (s.begin.setPcie (s.pcie.unmasked v)).flushMsix := rfl
  obtain ⟨hkept, hdrained, honly⟩ := setPcie_flush_settled s (s.pcie.unmasked v)
  have hmsix := keptPcie Pcie.msix hkept fun _ => rfl
  rw [does_run (exec_msixUnmask v s), if_pos (by simp [h]), hunmask]
  refine ⟨?_, hdrained, honly⟩
  rw [hmsix, Pcie.unmasked, Table.modify, Table.get_set_same]

/-- A replay has been counted. -/
def Pcie.replayed (p : Pcie) : Pcie := { p with replays := satAdd 32 p.replays 1 }

theorem does_tlpReplay {s : State} {rollover : Bool} {P : State → Prop} (h : s.pcie.linkUp = true) :
    Does (.tlpReplay rollover) s P ↔
      P (State.settle (if rollover then (s.begin.setPcie s.pcie.replayed).aerCor 8 else s.begin.setPcie s.pcie.replayed)) := by
  rw [does_run (exec_tlpReplay rollover s), if_pos (show s.begin.pcie.linkUp = true from h)]
  rfl

theorem tlpReplay_counts {s : State} (h : s.pcie.linkUp = true) : Does (.tlpReplay false) s fun t =>
    t.pcie.replays = satAdd 32 s.pcie.replays 1 ∧ Only [.pcie] s t :=
  (does_tlpReplay h).2 ⟨settle_pcie_replays _, setPcie_settled s _⟩

theorem tlpReplay_rollover {s : State} (h : s.pcie.linkUp = true) : Does (.tlpReplay true) s fun t =>
    t.pcie.replays = satAdd 32 s.pcie.replays 1 ∧ t.pcie.corStatus = s.pcie.corStatus ||| 2 ^ 8 ∧
      Only [.pcie, .flt, .husk] s t := by
  obtain ⟨f, r, hcor⟩ := aerCor_eq (s.begin.setPcie s.pcie.replayed) 8
  rw [does_tlpReplay h, if_pos rfl, hcor]
  exact ⟨settle_pcie_replays _, settle_pcie_corStatus _, setPcie_noted_settled s _ f r⟩

/-- Settles O20: every clause is a change of the endpoint; where a message may go from then on, the flush of the pending ones
has sent it, and settling leaves none pending. -/
theorem thePcieFunctionAnswersItsHost : Obligations.ThePcieFunctionAnswersItsHost := by
  unfold Obligations.ThePcieFunctionAnswersItsHost
  exact fun s => ⟨flrComplete_ends, d3hotEntry_enters, d0Return_flushes,
    fun hup hflr => ⟨configRequest_reads hup hflr, configRequest_command hup hflr, configRequest_power hup hflr,
      configRequest_uncStatus hup hflr⟩,
    configRequest_in_flr, configRequest_without_link, fun v hup => msixUnmask_flushes hup v,
    fun hup => ⟨tlpReplay_counts hup, tlpReplay_rollover hup⟩⟩

end Sys2Proof.Machine
end

section
/-! PROOFS of 04_host_link_live_insertion.md. Memory as a master finds it where its words are clean and specified (12 R612,
R615, R619 to R623), and BAR2 (04 R217 to R222, R242, R250, R251, R261). -/

namespace Sys2Proof.Machine

/-! ### Words of memory (12 R612, R615) -/

/-- Every range of the memory map begins and ends with a word. -/
theorem regionOf_word (a : Nat) : regionOf (8 * (a / 8)) = regionOf a := by
  have hlt : 8 * (a / 8) < 2 ^ 34 ↔ a < 2 ^ 34 := by omega
  have hstack : 8 * (a / 8) / 2 ^ 33 = a / 2 ^ 33 := by omega
  have hlfs : inLfs (8 * (a / 8)) = inLfs a := by
    rw [Bool.eq_iff_iff]
    simp only [inLfs, Bool.and_eq_true, decide_eq_true_eq]
    omega
  have hbankD : inBankD (8 * (a / 8)) = inBankD a := by
    rw [Bool.eq_iff_iff]
    simp only [inBankD, Bool.and_eq_true, decide_eq_true_eq]
    omega
  simp only [regionOf, hlt, hstack, hlfs, hbankD]

theorem unspecified_word (s : State) (a : Nat) : s.unspecified (8 * (a / 8)) = s.unspecified a := by
  unfold State.unspecified
  rw [regionOf_word, Nat.mul_div_cancel_left _ (by decide)]

/-- A word of a range holds one of its bytes. -/
theorem exists_byte_of_word {a n i : Nat} (h : i < wordsOf a n) : ∃ j, j < n ∧ (a + j) / 8 = a / 8 + i := by
  unfold wordsOf at h
  split at h
  · exact absurd h (Nat.not_lt_zero i)
  · exact ⟨8 * (a / 8 + i) - a, by omega, by omega⟩

/-- A byte of a range lies in one of its words. -/
theorem exists_word_of_byte {a n j : Nat} (h : j < n) : ∃ i, i < wordsOf a n ∧ (a + j) / 8 = a / 8 + i := by
  unfold wordsOf
  rw [if_neg (by omega)]
  exact ⟨(a + j) / 8 - a / 8, by omega, by omega⟩

/-- What the check bits of every word say, and which stacks are initialised, is the same in both states. -/
structure SameWords (s t : State) : Prop where
  mark : ∀ w, t.mark w = s.mark w
  init : ∀ n, (t.stack n).initDone = (s.stack n).initDone

theorem SameWords.unspecified {s t : State} (h : SameWords s t) (a : Nat) : t.unspecified a = s.unspecified a := by
  unfold State.unspecified
  simp only [h.mark, h.init]

theorem SameWords.plain {s t : State} {a n : Nat} (h : SameWords s t) (hp : s.Plain a n) : t.Plain a n := fun i hi => by
  rw [h.mark, h.unspecified]
  exact hp i hi

section

variable {s : State} {a n : Nat}

theorem plain_words (h : s.Plain a n) {i : Nat} (hi : i < wordsOf a n) : s.mark (a / 8 + i) = .clean := by
  obtain ⟨j, hj, hword⟩ := exists_byte_of_word hi
  rw [← hword]
  exact (h j hj).1

theorem plain_part (h : s.Plain a n) {k m : Nat} (hkm : k + m ≤ n) : s.Plain (a + k) m := fun i hi => by
  rw [Nat.add_assoc]
  exact h (k + i) (by omega)

theorem plain_start (h : s.Plain a n) {m : Nat} (hm : m ≤ n) : s.Plain a m := fun i hi => h i (by omega)

theorem plain_first (h : s.Plain a n) (hn : 0 < n) : s.mark (a / 8) = .clean ∧ s.unspecified a = false := h 0 hn

end

/-! ### Counters of the fabric and the stacks (12 R636, R668) -/

/-- The state with the fabric ports and the stacks replaced. -/
def State.counted (s : State) (f : List (Nat × FabPort)) (d : List (Nat × Stack)) : State := { s with fab := f, dram := d }

theorem within_counted (s : State) (f : List (Nat × FabPort)) (d : List (Nat × Stack)) : Within [.fab, .dram] s (s.counted f d) :=
  ((only_fab s f).within (by decide)).seq ((only_dram { s with fab := f } d).within (by decide))

/-- A count of a stack's bytes says nothing of its words. -/
theorem sameWords_bytes (s : State) (f : List (Nat × FabPort)) (k v : Nat) :
    SameWords s (s.counted f (Table.set {} s.dram k { s.stack k with bytes := v })) where
  mark _ := rfl
  init n := by
    have hstack := stack_setStack s k n { s.stack k with bytes := v }
    refine (congrArg Stack.initDone hstack).trans ?_
    split
    · next h => rw [h]
    · rfl

theorem account_counted (s : State) (port a n : Nat) : ∃ f d, s.account port a n = s.counted f d ∧ SameWords s (s.counted f d) := by
  unfold State.account
  dsimp only
  split
  · exact ⟨_, _, rfl, sameWords_bytes s _ _ _⟩
  · exact ⟨_, s.dram, rfl, ⟨fun _ => rfl, fun _ => rfl⟩⟩

/-! ### Reads of clean, specified words (12 R619) -/

theorem touchWord_clean {s : State} {w : Nat} (h : s.mark w = .clean) : s.touchWord w = s := by
  unfold State.touchWord
  simp only [h, Mark.outcome]
  split <;> rfl

theorem touchWords_clean {s : State} {w n : Nat} (h : ∀ i, i < n → s.mark (w + i) = .clean) : s.touchWords w n = s := by
  induction n generalizing w with
  | zero => rfl
  | succ n ih =>
    have hrest : ∀ i, i < n → s.mark (w + 1 + i) = .clean := fun i hi => by
      rw [Nat.add_assoc]
      exact h (1 + i) (by omega)
    have hfirst : s.mark w = .clean := h 0 (Nat.succ_pos n)
    rw [State.touchWords, touchWord_clean hfirst, ih hrest]

theorem firstPoison_clean {s : State} {w n : Nat} (h : ∀ i, i < n → s.mark (w + i) = .clean) : s.firstPoison w n = none := by
  induction n generalizing w with
  | zero => rfl
  | succ n ih =>
    have hfirst : s.mark w = .clean := h 0 (Nat.succ_pos n)
    have hrest : ∀ i, i < n → s.mark (w + 1 + i) = .clean := fun i hi => by
      rw [Nat.add_assoc]
      exact h (1 + i) (by omega)
    rw [State.firstPoison, if_neg (by simp [hfirst]), ih hrest]

theorem bytesAt_plain {s : State} {a n : Nat} (h : s.Plain a n) :
    s.bytesAt a n = (List.range n).map fun i => Table.get 0 s.mem (a + i) := by
  refine List.map_congr_left fun i hi => ?_
  obtain ⟨hmark, hspec⟩ := h i (List.mem_range.1 hi)
  simp [State.byteAt, hmark, hspec]

/-- A read of clean, specified words answers the bytes of memory, and changes counters alone. -/
theorem readMem_plain {s : State} {a n : Nat} (h : s.Plain a n) (hn : 0 < n) (port : Nat) : ∃ f d,
    s.readMem port a n = ⟨(List.range n).map fun i => Table.get 0 s.mem (a + i), none, s.counted f d⟩ := by
  obtain ⟨f, d, haccount, hsame⟩ := account_counted s port a n
  have hplain := hsame.plain h
  refine ⟨f, d, ?_⟩
  unfold State.readMem
  rw [haccount, touchWords_clean fun _ => plain_words hplain]
  dsimp only
  rw [firstPoison_clean fun _ => plain_words hplain, bytesAt_plain hplain, (plain_first h hn).2]
  rfl

/-! ### Writes of clean, specified words (12 R615, R622) -/

theorem pokeSome_some (m : List Host.Cell) (a : Nat) (bs : List Byte) : pokeSome m a (bs.map some) = pokes m a bs := by
  induction bs generalizing m a with
  | nil => rfl
  | cons b bs ih => exact ih _ _

theorem pokes_append (m : List Host.Cell) (a : Nat) (l r : List Byte) :
    pokes m a (l ++ r) = pokes (pokes m a l) (a + l.length) r := by
  induction l generalizing m a with
  | nil => rfl
  | cons b l ih =>
    have hlen : a + 1 + l.length = a + (b :: l).length := by simp only [List.length_cons]; omega
    exact (ih _ _).trans (by rw [hlen]; rfl)

theorem get_pokes_outside (m : List Host.Cell) (a : Nat) (bs : List Byte) {x : Nat} (h : x < a ∨ a + bs.length ≤ x) :
    Table.get 0 (pokes m a bs) x = Table.get 0 m x := by
  induction bs generalizing m a with
  | nil => rfl
  | cons b bs ih =>
    simp only [List.length_cons] at h
    exact (ih (Table.set 0 m a b) (a + 1) (by omega)).trans (Table.get_set_other _ _ _ _ _ (by omega))

theorem get_pokes_inside (m : List Host.Cell) (a : Nat) (bs : List Byte) {i : Nat} (h : i < bs.length) :
    Table.get 0 (pokes m a bs) (a + i) = bs.getD i 0 := by
  induction bs generalizing m a i with
  | nil => exact absurd h (Nat.not_lt_zero i)
  | cons b bs ih =>
    cases i with
    | zero => exact (get_pokes_outside (Table.set 0 m a b) (a + 1) bs (by omega)).trans (Table.get_set_same _ _ _ _)
    | succ i =>
      have hnext := ih (Table.set 0 m a b) (a + 1) (Nat.lt_of_succ_lt_succ h)
      rw [Nat.add_right_comm] at hnext
      exact hnext

theorem storedAt_pokes {s t : State} {a : Nat} {bs : List Byte} (h : t.mem = pokes s.mem a bs) : StoredAt a bs s t := by
  unfold StoredAt
  rw [h]
  exact ⟨fun _ hi => get_pokes_inside _ _ _ hi, fun _ hx => get_pokes_outside _ _ _ hx⟩

/-- The state with its memory replaced. -/
def State.stored (s : State) (m : List Host.Cell) (k : List (Nat × Mark)) : State := { s with mem := m, marks := k }

theorem within_stored (s : State) (m : List Host.Cell) (k : List (Nat × Mark)) : Within [.memory] s (s.stored m k) :=
  ⟨only_memory s m k, by decide⟩

/-- A clean, specified word of a stack lies in a stack that is initialised, so a write leaves it clean. -/
theorem writtenMark_clean {s : State} {a : Nat} (hmark : s.mark (a / 8) = .clean) (hspec : s.unspecified a = false) :
    s.writtenMark a = .clean := by
  unfold State.unspecified at hspec
  unfold State.writtenMark
  cases h : regionOf a with
  | dram n =>
    rw [h, hmark] at hspec
    have hinit : (s.stack n).initDone = true := by simpa using hspec
    exact if_pos hinit
  | lfs | bankD | outside => rfl

theorem writeWord_plain {s : State} {a : Nat} {bs : List Byte} (h : s.Plain a bs.length) (hne : bs ≠ []) :
    s.writeWord a (bs.map some) = s.stored (pokes s.mem a bs) (Table.set .clean s.marks (a / 8) .clean) := by
  obtain ⟨hmark, hspec⟩ := plain_first h (List.length_pos_iff.2 hne)
  have hnone : ¬ (bs.map some).all Option.isNone = true := by
    cases bs with
    | nil => exact absurd rfl hne
    | cons b bs => exact Bool.false_ne_true
  have hfill : s.fillUnspecified (a / 8) = s := if_neg (by simp [unspecified_word, hspec])
  by_cases hwhole : (bs.map some).length = 8 ∧ (bs.map some).all Option.isSome
  · rw [State.writeWord, if_pos hwhole, pokeSome_some, writtenMark_clean hmark hspec]
    rfl
  · rw [State.writeWord, if_neg hwhole, if_neg hnone]
    dsimp only
    rw [touchWord_clean hmark, hfill, if_neg (by simp [hmark]), pokeSome_some, writtenMark_clean hmark hspec]
    rfl

theorem sameWords_stored {s : State} (m : List Host.Cell) {w : Nat} (h : s.mark w = .clean) :
    SameWords s (s.stored m (Table.set .clean s.marks w .clean)) where
  mark v := by
    refine (Table.get_set _ _ _ _ _).trans ?_
    split
    · next hv => rw [hv, h]
    · rfl
  init _ := rfl

/-- A write of clean, specified words puts its bytes in memory, and its words stay clean. -/
theorem writeWords_plain {s : State} {a : Nat} {bs : List Byte} (h : s.Plain a bs.length) {fuel : Nat} (hf : bs.length ≤ fuel) :
    ∃ k, s.writeWords a (bs.map some) fuel = s.stored (pokes s.mem a bs) k := by
  induction fuel generalizing s a bs with
  | zero =>
    obtain rfl : bs = [] := List.length_eq_zero_iff.1 (Nat.le_zero.1 hf)
    exact ⟨s.marks, rfl⟩
  | succ fuel ih =>
    by_cases hne : bs = []
    · subst hne
      exact ⟨s.marks, rfl⟩
    have hpos := List.length_pos_iff.2 hne
    have hlen : (bs.take (8 - a % 8)).length + (bs.drop (8 - a % 8)).length = bs.length := by
      simp only [List.length_take, List.length_drop]
      omega
    have hhead : bs.take (8 - a % 8) ≠ [] := List.length_pos_iff.1 (by rw [List.length_take]; omega)
    have hstep : s.writeWords a (bs.map some) (fuel + 1) =
        (s.writeWord a ((bs.take (8 - a % 8)).map some)).writeWords (a + (bs.take (8 - a % 8)).length)
          ((bs.drop (8 - a % 8)).map some) fuel := by
      rw [State.writeWords, if_neg (by simpa using hne)]
      simp only [List.map_take, List.map_drop, List.length_take, List.length_map]
    have hword := writeWord_plain (plain_start h (by omega)) hhead
    have hclean := (plain_first h hpos).1
    have htail := (sameWords_stored (pokes s.mem a (bs.take (8 - a % 8))) hclean).plain (plain_part h hlen.le)
    obtain ⟨k, hk⟩ := ih htail (by rw [List.length_drop]; omega)
    refine ⟨k, ?_⟩
    rw [hstep, hword, hk]
    have hall : pokes (pokes s.mem a (bs.take (8 - a % 8))) (a + (bs.take (8 - a % 8)).length) (bs.drop (8 - a % 8)) =
        pokes s.mem a bs := by
      rw [← pokes_append, List.take_append_drop]
    exact congrArg (s.stored · k) hall

/-- A write through the fabric of clean, specified words. -/
theorem writeSome_plain {s : State} {a : Nat} {bs : List Byte} (h : s.Plain a bs.length) (port : Nat) :
    ∃ f d k, s.writeSome port a (bs.map some) = (s.counted f d).stored (pokes s.mem a bs) k := by
  obtain ⟨f, d, haccount, hsame⟩ := account_counted s port a (bs.map some).length
  obtain ⟨k, hk⟩ := writeWords_plain (hsame.plain h) (fuel := (bs.map some).length + 1) (by rw [List.length_map]; omega)
  refine ⟨f, d, k, ?_⟩
  rw [State.writeSome, haccount, hk]
  rfl

/-- A write with EP set leaves memory as it is, and each of its words poisoned (04 R222). -/
theorem poisonRange_poisons (s : State) (a n : Nat) :
    ∃ k, s.poisonRange a n = s.stored s.mem k ∧ ∀ i, i < n → Table.get .clean k ((a + i) / 8) = .poison := by
  have hall : ∀ m, ∃ k, foldRange (fun i (t : State) => t.setMark (a / 8 + i) .poison) m s = s.stored s.mem k ∧
      ∀ i, i < m → Table.get .clean k (a / 8 + i) = .poison := by
    intro m
    induction m with
    | zero => exact ⟨s.marks, rfl, fun i hi => absurd hi (Nat.not_lt_zero i)⟩
    | succ m ih =>
      obtain ⟨k, hk, hpoison⟩ := ih
      refine ⟨Table.set .clean k (a / 8 + m) .poison, ?_, fun i hi => ?_⟩
      · exact (congrArg (fun t : State => t.setMark (a / 8 + m) .poison) hk).trans rfl
      · rw [Table.get_set]
        split
        · rfl
        · exact hpoison i (by omega)
  obtain ⟨k, hk, hpoison⟩ := hall (wordsOf a n)
  refine ⟨k, hk, fun i hi => ?_⟩
  obtain ⟨j, hj, hword⟩ := exists_word_of_byte (a := a) hi
  rw [hword]
  exact hpoison j hj

/-! ### A BAR2 request (04 R217 to R222, R242, R250, R251) -/

/-- A read of BAR2. -/
def bar2ReadReq (o len : Nat) : HeldReq := ⟨bar2Stack o, o, len, [], false, false⟩

/-- A write of BAR2. -/
def bar2WriteReq (o : Nat) (data : List (Option Byte)) (ep : Bool) : HeldReq := ⟨bar2Stack o, o, data.length, data, true, ep⟩

theorem does_bar2Read {s : State} {o len : Nat} {P : State → Prop} (hup : s.hostUp = true) :
    Does (.bar2Read o len) s P ↔ P (s.begin.bar2 (bar2ReadReq o len)).settle := by
  rw [does_run (exec_bar2Read o len s), if_pos (show s.begin.hostUp = true by simp [hup])]
  rfl

theorem does_bar2Write {s : State} {o : Nat} {data : List (Option Byte)} {ep : Bool} {P : State → Prop} (hup : s.hostUp = true) :
    Does (.bar2Write o data ep) s P ↔
      P (State.settle ((if ep then s.begin.aerUnc 12 49 else s.begin).bar2 (bar2WriteReq o data ep))) := by
  rw [does_run (exec_bar2Write o data ep s), if_pos (show s.begin.hostUp = true by simp [hup])]
  rfl

theorem asleep_of_awake {s : State} {n : Nat} (h : s.awake n = true) : s.asleep n = false := by
  simp only [State.awake, Bool.and_eq_true, beq_iff_eq] at h
  obtain ⟨-, hmode⟩ := h
  simp [State.asleep, hmode]

theorem bar2_served {s : State} {r : HeldReq} (hopen : s.pcie.bar2Closed = false) (hready : s.dramReady r.offset r.len = true)
    (hawake : s.awake r.stack = true) : s.bar2 r = s.bar2Do r := by
  unfold State.bar2
  rw [if_neg (by simp [hopen, hready]), if_neg (by simp [asleep_of_awake hawake]), if_pos hawake]

theorem bar2_refused {s : State} {r : HeldReq} (h : s.pcie.bar2Closed = true ∨ s.dramReady r.offset r.len = false) :
    s.bar2 r = s.bar2Fail r :=
  if_pos (by simpa using h)

/-- The endpoint has answered a read with Completer Abort. -/
def Pcie.aborted (p : Pcie) : Pcie := Pcie.uncLogged { p with abortOther := satAdd 16 p.abortOther 1 } 15

theorem completerAbort_eq (s : State) : ∃ f r, s.completerAbort = ((s.setPcie s.pcie.aborted).noted f r).setAnswer .abort := by
  obtain ⟨f, r, h⟩ := aerUnc_eq (s.setPcie { s.pcie with abortOther := satAdd 16 s.pcie.abortOther 1 }) (src := 51) (by decide) 15
  exact ⟨f, r, congrArg (State.setAnswer · .abort) h⟩

/-- The endpoint has discarded a write of BAR2. -/
def Pcie.discarded (p : Pcie) : Pcie := { p with discardBar2 := satAdd 16 p.discardBar2 1 }

theorem discardBar2_eq (s : State) : s.discardBar2 = s.setPcie s.pcie.discarded := rfl

theorem bar2Fail_read (s : State) {r : HeldReq} (h : r.write = false) : s.bar2Fail r = s.completerAbort :=
  if_neg (ne_true_of_eq_false h)

theorem bar2Fail_write (s : State) {r : HeldReq} (h : r.write = true) : s.bar2Fail r = s.setPcie s.pcie.discarded :=
  if_pos h

theorem within_completerAbort (s : State) : Within [.pcie, .flt, .husk] s s.completerAbort := by
  obtain ⟨f, r, h⟩ := completerAbort_eq s
  rw [h]
  exact ((within_setPcie s _).seq (within_noted _ f r)).seq (within_setAnswer _ .abort)

theorem within_bar2Fail (s : State) (r : HeldReq) : Within [.pcie, .flt, .husk] s (s.bar2Fail r) :=
  ((within_setPcie s s.pcie.discarded).ite (within_completerAbort s)).widen (by decide)

theorem bar2Fail_heldReqs (s : State) (r : HeldReq) : (s.bar2Fail r).pcie.heldReqs = s.pcie.heldReqs := by
  cases hw : r.write with
  | true => rw [bar2Fail_write s hw]; rfl
  | false =>
    obtain ⟨f, d, h⟩ := completerAbort_eq s
    rw [bar2Fail_read s hw, h]
    rfl

theorem foldl_bar2Fail_heldReqs (s : State) (l : List HeldReq) : (l.foldl State.bar2Fail s).pcie.heldReqs = s.pcie.heldReqs :=
  foldl_keeps (fun u : State => u.pcie.heldReqs = s.pcie.heldReqs) _ (fun u r h => (bar2Fail_heldReqs u r).trans h) l s rfl

/-- A read that is not served is answered with Completer Abort, which is counted and logged. -/
theorem completerAbort_settled (u : State) : u.completerAbort.settle.answer = .abort ∧
    u.completerAbort.settle.pcie.abortOther = satAdd 16 u.pcie.abortOther 1 ∧
    u.completerAbort.settle.pcie.uncStatus = u.pcie.uncStatus ||| 2 ^ 15 := by
  obtain ⟨f, r, h⟩ := completerAbort_eq u
  rw [h]
  exact ⟨(settled_settle _).answer, settle_pcie_abortOther _, settle_pcie_uncStatus _⟩

/-! ### Reads and writes of BAR2 -/

section

variable {s : State} {o : Nat} (hup : s.hostUp = true)
include hup

theorem bar2Read_serves {len : Nat} (hopen : s.pcie.bar2Closed = false) (hready : s.dramReady o len = true)
    (hawake : s.awake (bar2Stack o) = true) (hlen : 0 < len) (hplain : s.Plain o len) : Does (.bar2Read o len) s fun t =>
      t.answer = .bytes ((List.range len).map fun i => Table.get 0 s.mem (o + i)) ∧ t.mem = s.mem ∧ t.marks = s.marks ∧
        Only [.fab, .dram] s t := by
  have hserved := bar2_served (s := s.begin) (r := bar2ReadReq o len) hopen hready hawake
  obtain ⟨f, d, hread⟩ := readMem_plain (s := s.begin) hplain hlen 5
  have hdo : s.begin.bar2Do (bar2ReadReq o len) =
      (s.begin.counted f d).setAnswer (.bytes ((List.range len).map fun i => Table.get 0 s.mem (o + i))) := by
    simp only [State.bar2Do, bar2ReadReq, hread, Bool.false_eq_true, if_false]
    rfl
  rw [does_bar2Read hup, hserved, hdo]
  have hsettled := settled_settle ((s.begin.counted f d).setAnswer (.bytes ((List.range len).map fun i => Table.get 0 s.mem (o + i))))
  exact ⟨hsettled.answer, hsettled.mem, hsettled.marks, ((within_counted s.begin f d).seq (within_setAnswer _ _)).settled⟩

theorem bar2Read_aborts {len : Nat} (h : s.pcie.bar2Closed = true ∨ s.dramReady o len = false) : Does (.bar2Read o len) s fun t =>
    t.answer = .abort ∧ t.pcie.abortOther = satAdd 16 s.pcie.abortOther 1 ∧
      t.pcie.uncStatus = s.pcie.uncStatus ||| 2 ^ 15 ∧ Only [.pcie, .flt, .husk] s t := by
  have hrefused := bar2_refused (s := s.begin) (r := bar2ReadReq o len) h
  obtain ⟨hanswer, hcount, hstatus⟩ := completerAbort_settled s.begin
  rw [does_bar2Read hup, hrefused, bar2Fail_read _ rfl]
  exact ⟨hanswer, hcount, hstatus, (within_completerAbort s.begin).settled⟩

theorem bar2Write_stores {bs : List Byte} (hopen : s.pcie.bar2Closed = false) (hready : s.dramReady o bs.length = true)
    (hawake : s.awake (bar2Stack o) = true) (hplain : s.Plain o bs.length) : Does (.bar2Write o (bs.map some) false) s fun t =>
      StoredAt o bs s t ∧ Only [.memory, .fab, .dram] s t := by
  have hserved := bar2_served (s := s.begin) (r := bar2WriteReq o (bs.map some) false) hopen
    (by simpa [bar2WriteReq] using hready) hawake
  obtain ⟨f, d, k, hwrite⟩ := writeSome_plain (s := s.begin) hplain 5
  have hdo : s.begin.bar2Do (bar2WriteReq o (bs.map some) false) = (s.begin.counted f d).stored (pokes s.mem o bs) k := hwrite
  rw [does_bar2Write hup, if_neg Bool.false_ne_true, hserved, hdo]
  exact ⟨storedAt_pokes (settled_settle _).mem, (((within_counted s.begin f d).seq (within_stored _ _ k)).widen (by decide)).settled⟩

theorem bar2Write_poisons {bs : List (Option Byte)} (hopen : s.pcie.bar2Closed = false) (hready : s.dramReady o bs.length = true)
    (hawake : s.awake (bar2Stack o) = true) : Does (.bar2Write o bs true) s fun t =>
      t.mem = s.mem ∧ (∀ i, i < bs.length → t.mark ((o + i) / 8) = .poison) ∧
        t.pcie.uncStatus = s.pcie.uncStatus ||| 2 ^ 12 ∧ Only [.memory, .pcie, .flt, .husk] s t := by
  obtain ⟨f, r, hlogged⟩ : ∃ f r, s.begin.aerUnc 12 49 = (s.begin.setPcie (s.pcie.uncLogged 12)).noted f r :=
    aerUnc_eq s.begin (by decide) 12
  have hframe := (within_setPcie s.begin (s.pcie.uncLogged 12)).seq (within_noted _ f r)
  have hserved := bar2_served (s := (s.begin.setPcie (s.pcie.uncLogged 12)).noted f r) (r := bar2WriteReq o bs true) hopen hready hawake
  obtain ⟨k, hpoison, hmarks⟩ := poisonRange_poisons ((s.begin.setPcie (s.pcie.uncLogged 12)).noted f r) o bs.length
  have hdo : ((s.begin.setPcie (s.pcie.uncLogged 12)).noted f r).bar2Do (bar2WriteReq o bs true) =
      ((s.begin.setPcie (s.pcie.uncLogged 12)).noted f r).stored s.mem k := hpoison
  rw [does_bar2Write hup, if_pos rfl, hlogged]
  rw [hserved, hdo]
  exact ⟨(settled_settle _).mem, fun i hi => (settle_mark _ _).trans (hmarks i hi), settle_pcie_uncStatus _,
    ((hframe.seq (within_stored _ _ k)).widen (by decide)).settled⟩

theorem bar2Write_discards {bs : List (Option Byte)} (h : s.pcie.bar2Closed = true ∨ s.dramReady o bs.length = false) :
    Does (.bar2Write o bs false) s fun t =>
      t.pcie.discardBar2 = satAdd 16 s.pcie.discardBar2 1 ∧ Only [.pcie] s t := by
  have hrefused := bar2_refused (s := s.begin) (r := bar2WriteReq o bs false) (by simpa [bar2WriteReq] using h)
  rw [does_bar2Write hup, if_neg Bool.false_ne_true, hrefused, bar2Fail_write _ rfl]
  exact ⟨settle_pcie_discardBar2 _, setPcie_settled s _⟩

end

theorem bar2Read_in_flr {s : State} (hlink : s.pcie.linkUp = true) (hflr : s.pcie.flr = true) (o len : Nat) :
    Does (.bar2Read o len) s fun t => t.answer = .unsupported ∧ Only [] s t := by
  have hreject : s.begin.rejectRead = s.begin.setAnswer .unsupported :=
    (if_neg (by simp [hlink])).trans (if_pos (show s.begin.pcie.flr = true from hflr))
  rw [does_run (exec_bar2Read o len s), if_neg (by simp [State.hostUp, hflr]), hreject]
  exact setAnswer_settled s _

/-! ### The wake of a stack that held requests times out (04 R219, R220) -/

/-- The endpoint without the requests that stack `n` held. -/
def Pcie.heldTaken (p : Pcie) (n : Nat) : Pcie := { p with heldReqs := p.heldReqs.filter (·.stack != n) }

theorem does_bar2WakeTimeout {s : State} {n : Fin 2} {P : State → Prop} : Does (.bar2WakeTimeout n) s P ↔
    P ((s.pcie.heldReqs.filter (·.stack == n.val)).foldl State.bar2Fail (s.begin.setPcie (s.pcie.heldTaken n))).settle :=
  does_run (f := fun u => (u.takeHeld n.val).1.foldl State.bar2Fail (u.takeHeld n.val).2) (exec_bar2WakeTimeout n s)

theorem bar2WakeTimeout_fails (s : State) (n : Fin 2) : Does (.bar2WakeTimeout n) s fun t =>
    t.pcie.heldReqs = s.pcie.heldReqs.filter (fun r => r.stack != n.val) ∧
    (∀ r, s.pcie.heldReqs.filter (fun r => r.stack == n.val) = [r] →
      if r.write then t.pcie.discardBar2 = satAdd 16 s.pcie.discardBar2 1
      else t.answer = .abort ∧ t.pcie.abortOther = satAdd 16 s.pcie.abortOther 1) ∧ Only [.pcie, .flt, .husk] s t := by
  rw [does_bar2WakeTimeout]
  refine ⟨?_, fun r hr => ?_, ?_⟩
  · exact (settle_pcie_heldReqs _).trans (foldl_bar2Fail_heldReqs _ _)
  · rw [hr, List.foldl_cons, List.foldl_nil]
    cases hw : r.write with
    | true =>
      rw [if_pos rfl, bar2Fail_write _ hw]
      exact settle_pcie_discardBar2 _
    | false =>
      obtain ⟨hanswer, hcount, -⟩ := completerAbort_settled (s.begin.setPcie (s.pcie.heldTaken n))
      rw [if_neg Bool.false_ne_true, bar2Fail_read _ hw]
      exact ⟨hanswer, hcount⟩
  · have hfails := within_foldl within_bar2Fail (by decide) (s.pcie.heldReqs.filter (·.stack == n.val))
      (s.begin.setPcie (s.pcie.heldTaken n))
    exact (((within_setPcie s.begin _).seq hfails).widen (by decide)).settled

/-- Settles O21: a stack that serves reads and writes clean words as memory holds them, and a request that finds BAR2 closed, its
stack not ready, or its wake too late is aborted or discarded. -/
theorem bar2ReachesDram : Obligations.Bar2ReachesDram := by
  unfold Obligations.Bar2ReachesDram
  exact fun s => ⟨fun o len hup => bar2Read_serves hup, fun o len hup => bar2Read_aborts hup,
    fun o len hlink hflr => bar2Read_in_flr hlink hflr o len, fun o bs hup => bar2Write_stores hup,
    fun o bs hup => bar2Write_poisons hup, fun o bs hup => bar2Write_discards hup, bar2WakeTimeout_fails s⟩

end Sys2Proof.Machine
end

section
/-! PROOFS of 04_host_link_live_insertion.md. Completions of upstream reads, and reads whose completion never comes (R224 to R228,
R255; 12 R651). -/

namespace Sys2Proof.Machine

/-! ### An outstanding read found and dropped -/

/-- The endpoint without the outstanding reads of a tag. -/
def Pcie.withoutTag (p : Pcie) (tag : Nat) : Pcie := { p with up := p.up.filter (·.tag != tag) }

theorem dropUp_eq (s : State) (tag : Nat) : s.dropUp tag = s.setPcie (s.pcie.withoutTag tag) := rfl

theorem withoutTag_up (p : Pcie) (tag : Nat) : ∀ x ∈ (p.withoutTag tag).up, x.tag ≠ tag := fun x hx => by
  simpa using (List.mem_filter.1 hx).2

theorem does_completion {s : State} {tag : Nat} {r : UpReq} (hup : s.pcie.linkUp = true)
    (hfind : s.pcie.up.find? (fun x => x.tag == tag) = some r) (st : CplStatus) (bs : List Byte) {P : State → Prop} :
    Does (.upstreamCompletion tag st bs) s P ↔ P (s.begin.completion r st bs).settle := by
  have hmatch : s.begin.pcie.up.find? (fun x => x.tag == tag) = some r := hfind
  rw [does_run (exec_upstreamCompletion tag st bs s), if_pos (show s.begin.pcie.linkUp = true from hup), hmatch]

theorem tag_of_find {l : List UpReq} {tag : Nat} {r : UpReq} (h : l.find? (fun x => x.tag == tag) = some r) : r.tag = tag := by
  simpa using List.find?_some h

theorem completion_unexpected {s : State} {tag : Nat} (hup : s.pcie.linkUp = true) (hnone : ∀ x ∈ s.pcie.up, x.tag ≠ tag)
    (st : CplStatus) (bs : List Byte) : Does (.upstreamCompletion tag st bs) s fun t =>
      t.pcie.uncStatus = s.pcie.uncStatus ||| 2 ^ 16 ∧ Only [.pcie, .flt, .husk] s t := by
  have hmatch : s.begin.pcie.up.find? (fun x => x.tag == tag) = none :=
    List.find?_eq_none.2 fun x hx => by simpa using hnone x hx
  obtain ⟨f, r, hlogged⟩ : ∃ f r, s.begin.aerUnc 16 52 = (s.begin.setPcie (s.pcie.uncLogged 16)).noted f r :=
    aerUnc_eq s.begin (by decide) 16
  rw [does_run (exec_upstreamCompletion tag st bs s), if_pos (show s.begin.pcie.linkUp = true from hup), hmatch]
  dsimp only
  rw [hlogged]
  exact ⟨settle_pcie_uncStatus _, setPcie_noted_settled s _ f r⟩

/-! ### A channel fails, or takes bytes (12 R651, R668) -/

theorem fail_running {d : Dma} (hmode : d.mode = .running) (hfailing : d.failing = none) (code addr : Nat) :
    d.fail code addr = { d with failing := some (code, addr) } :=
  if_pos (by simp [hmode, hfailing])

/-- The channel has met an error at the next byte of its source. -/
def Dma.met (d : Dma) (code : Nat) : Dma := { d with failing := some (code, d.src + d.moved) }

theorem dmaFail_running {s : State} {n : Nat} (hmode : (s.chan n).mode = .running) (hfailing : (s.chan n).failing = none)
    (code : Nat) : s.dmaFail n code = s.setChan n ((s.chan n).met code) :=
  congrArg (s.setChan n) (fail_running hmode hfailing _ _)

theorem dmaCount_counted (s : State) (a n tx : Nat) : ∃ f d, s.dmaCount a n tx = s.counted f d ∧ SameWords s (s.counted f d) := by
  unfold State.dmaCount
  dsimp only
  split
  · exact ⟨_, _, rfl, sameWords_bytes s _ _ _⟩
  · exact ⟨_, s.dram, rfl, ⟨fun _ => rfl, fun _ => rfl⟩⟩

/-- A channel with a plain destination of clean, specified words writes its bytes there. -/
theorem dmaWrite_plain {s : State} {d : Dma} {off : Nat} {bs : List Byte} (hhost : d.dstHost = false) (hfix : d.dstFix = false)
    (hpos : 0 < bs.length) (h : s.Plain (d.dst + off) bs.length) :
    ∃ f g k, s.dmaWrite d off bs = (s.counted f g).stored (pokes s.mem (d.dst + off) bs) k := by
  obtain ⟨f, g, hcount, hsame⟩ := dmaCount_counted s (d.dst + off) bs.length (d.txns d.dstWidth bs.length)
  obtain ⟨k, hk⟩ := writeWords_plain (hsame.plain h) (Nat.le_succ bs.length)
  have hbytes : ¬ bs.isEmpty = true := by simpa using List.length_pos_iff.1 hpos
  refine ⟨f, g, k, ?_⟩
  rw [State.dmaWrite, if_neg hbytes, if_neg (by simp [hhost]), if_neg (by simp [hfix]), hcount, hk]
  rfl

/-- The channel has taken `n` bytes more. -/
def Dma.took (d : Dma) (n : Nat) : Dma := { d with moved := d.moved + n }

theorem dmaDeliver_plain {s : State} {n off : Nat} {bs : List Byte} (hhost : (s.chan n).dstHost = false)
    (hfix : (s.chan n).dstFix = false) (hpos : 0 < bs.length) (h : s.Plain ((s.chan n).dst + off) bs.length) : ∃ f g k,
    s.dmaDeliver n off bs =
      ((s.counted f g).stored (pokes s.mem ((s.chan n).dst + off) bs) k).setChan n ((s.chan n).took bs.length) := by
  obtain ⟨f, g, k, hwrite⟩ := dmaWrite_plain hhost hfix hpos h
  exact ⟨f, g, k, congrArg (State.setChan · n ((s.chan n).took bs.length)) hwrite⟩

theorem setPcie_chan (s : State) (p : Pcie) (n : Nat) : (s.setPcie p).chan n = s.chan n := rfl

/-! ### Completions (04 R225 to R228) -/

section

variable {s : State} {tag : Nat} {r : UpReq} (hup : s.pcie.linkUp = true)
  (hfind : s.pcie.up.find? (fun x => x.tag == tag) = some r)
include hup hfind

/-- The endpoint has dropped a read whose completion came after its timeout. -/
def Pcie.cameLate (p : Pcie) : Pcie := { p with lateTimeout := satAdd 16 p.lateTimeout 1 }

theorem completion_late (hlate : r.late = true) (st : CplStatus) (bs : List Byte) : Does (.upstreamCompletion tag st bs) s fun t =>
    t.pcie.lateTimeout = satAdd 16 s.pcie.lateTimeout 1 ∧ (∀ x ∈ t.pcie.up, x.tag ≠ tag) ∧ Only [.pcie, .flt, .husk] s t := by
  obtain rfl := tag_of_find hfind
  obtain ⟨f, d, hreport⟩ := report_noted (s.begin.setPcie (s.pcie.withoutTag r.tag).cameLate) (src := 43) (by decide) 0x100
  have hcompletion : s.begin.completion r st bs = (s.begin.setPcie (s.pcie.withoutTag r.tag).cameLate).noted f d :=
    (if_pos hlate).trans hreport
  rw [does_completion hup hfind, hcompletion]
  refine ⟨settle_pcie_lateTimeout _, ?_, setPcie_noted_settled s _ f d⟩
  rw [settle_pcie_up]
  exact withoutTag_up s.pcie r.tag

/-- The endpoint has dropped a read whose completion came after a host-side reset. -/
def Pcie.cameAfterReset (p : Pcie) : Pcie := { p with lateReset := satAdd 16 p.lateReset 1 }

theorem completion_dropped (hlate : r.late = false) (hdropped : r.dropped = true) (st : CplStatus) (bs : List Byte) :
    Does (.upstreamCompletion tag st bs) s fun t =>
      t.pcie.lateReset = satAdd 16 s.pcie.lateReset 1 ∧ (∀ x ∈ t.pcie.up, x.tag ≠ tag) ∧ Only [.pcie] s t := by
  obtain rfl := tag_of_find hfind
  have hcompletion : s.begin.completion r st bs = s.begin.setPcie (s.pcie.withoutTag r.tag).cameAfterReset :=
    (if_neg (ne_true_of_eq_false hlate)).trans (if_pos hdropped)
  rw [does_completion hup hfind, hcompletion]
  refine ⟨settle_pcie_lateReset _, ?_, setPcie_settled s _⟩
  rw [settle_pcie_up]
  exact withoutTag_up s.pcie r.tag

variable (hlate : r.late = false) (hdropped : r.dropped = false)
include hlate hdropped

theorem completion_abort (hmode : (s.chan r.chan).mode = .running) (hfailing : (s.chan r.chan).failing = none) (bs : List Byte) :
    Does (.upstreamCompletion tag .abort bs) s fun t =>
      t.chan r.chan = { s.chan r.chan with failing := some (5, (s.chan r.chan).src + (s.chan r.chan).moved) } ∧
        (∀ x ∈ t.pcie.up, x.tag ≠ tag) ∧ Only [.pcie, .dma] s t := by
  obtain rfl := tag_of_find hfind
  have hcompletion : s.begin.completion r .abort bs = (s.begin.setPcie (s.pcie.withoutTag r.tag)).dmaFail r.chan 5 :=
    (if_neg (ne_true_of_eq_false hlate)).trans (if_neg (ne_true_of_eq_false hdropped))
  have hfail := dmaFail_running (s := s.begin.setPcie (s.pcie.withoutTag r.tag)) hmode hfailing 5
  rw [does_completion hup hfind, hcompletion, hfail]
  refine ⟨(settle_chan _ _).trans (setChan_same _ _ _), ?_, ((within_setPcie s.begin _).seq (within_setChan _ _ _)).settled⟩
  rw [settle_pcie_up]
  exact withoutTag_up s.pcie r.tag

theorem completion_poisoned (hmode : (s.chan r.chan).mode = .running) (hfailing : (s.chan r.chan).failing = none)
    (bs : List Byte) : Does (.upstreamCompletion tag .poisoned bs) s fun t =>
      t.chan r.chan = { s.chan r.chan with failing := some (1, (s.chan r.chan).src + (s.chan r.chan).moved) } ∧
        (∀ x ∈ t.pcie.up, x.tag ≠ tag) ∧ Only [.pcie, .dma, .flt, .husk] s t := by
  obtain rfl := tag_of_find hfind
  obtain ⟨f, d, hlogged⟩ := aerUnc_eq (s.begin.setPcie (s.pcie.withoutTag r.tag)) (src := 49) (by decide) 12
  have hcompletion : s.begin.completion r .poisoned bs =
      ((s.begin.setPcie (s.pcie.withoutTag r.tag)).aerUnc 12 49).dmaFail r.chan 1 :=
    (if_neg (ne_true_of_eq_false hlate)).trans (if_neg (ne_true_of_eq_false hdropped))
  have hfail := dmaFail_running (s := (s.begin.setPcie ((s.pcie.withoutTag r.tag).uncLogged 12)).noted f d) hmode hfailing 1
  have hframe := ((within_setPcie s.begin ((s.pcie.withoutTag r.tag).uncLogged 12)).seq (within_noted _ f d)).seq
    (within_setChan _ r.chan ((s.chan r.chan).met 1))
  rw [does_completion hup hfind, hcompletion, hlogged]
  refine hfail ▸ ⟨(settle_chan _ _).trans (setChan_same _ _ _), ?_, (hframe.widen (by decide)).settled⟩
  rw [settle_pcie_up]
  exact withoutTag_up s.pcie r.tag

/-- What remains of a read after `n` of its bytes. -/
def UpReq.rest (r : UpReq) (n : Nat) : UpReq := { r with len := r.len - n, dst := r.dst + n }

/-- The endpoint awaits the read `r` still. -/
def Pcie.awaiting (p : Pcie) (r : UpReq) : Pcie := { p with up := p.up ++ [r] }

theorem completion_part {bs : List Byte} (hpos : 0 < bs.length) (hpart : bs.length < r.len)
    (hhost : (s.chan r.chan).dstHost = false) (hfix : (s.chan r.chan).dstFix = false)
    (hplain : s.Plain ((s.chan r.chan).dst + r.dst) bs.length) : Does (.upstreamCompletion tag .success bs) s fun t =>
      StoredAt ((s.chan r.chan).dst + r.dst) bs s t ∧ (t.chan r.chan).moved = (s.chan r.chan).moved + bs.length ∧
        { r with len := r.len - bs.length, dst := r.dst + bs.length } ∈ t.pcie.up ∧ Only [.pcie, .dma, .memory, .fab, .dram] s t := by
  have hall : bs.take r.len = bs := List.take_of_length_le hpart.le
  obtain ⟨f, g, k, hdeliver⟩ := dmaDeliver_plain (s := s.begin.setPcie (s.pcie.withoutTag r.tag)) hhost hfix hpos hplain
  have hcompletion : s.begin.completion r .success bs =
      State.setPcie ((s.begin.setPcie (s.pcie.withoutTag r.tag)).dmaDeliver r.chan r.dst bs)
        (((s.begin.setPcie (s.pcie.withoutTag r.tag)).dmaDeliver r.chan r.dst bs).pcie.awaiting (r.rest bs.length)) := by
    unfold State.completion
    dsimp only
    rw [if_neg (ne_true_of_eq_false hlate), if_neg (ne_true_of_eq_false hdropped), hall, if_pos hpart]
    rfl
  have hframe := (((within_setPcie s.begin (s.pcie.withoutTag r.tag)).seq (within_counted _ f g)).seq
    (within_stored _ (pokes s.mem ((s.chan r.chan).dst + r.dst) bs) k)).seq
    ((within_setChan _ r.chan ((s.chan r.chan).took bs.length)).seq
      (within_setPcie _ ((s.pcie.withoutTag r.tag).awaiting (r.rest bs.length))))
  rw [does_completion hup hfind, hcompletion, hdeliver]
  refine ⟨storedAt_pokes (settled_settle _).mem, ?_, ?_, (hframe.widen (by decide)).settled⟩
  · rw [settle_chan, setPcie_chan, setChan_same]
    rfl
  · rw [settle_pcie_up]
    exact List.mem_append_right _ (List.mem_singleton_self _)

end

/-! ### A read whose completion never comes (04 R255) -/

/-- The outstanding read `r` has timed out. -/
def Pcie.timedOut (p : Pcie) (r : UpReq) : Pcie := { p with up := p.up.map fun x => if x = r then { x with late := true } else x }

theorem timedOut_up {p : Pcie} {r : UpReq} (h : p.up = [r]) : (p.timedOut r).up = [{ r with late := true }] := by
  simp [Pcie.timedOut, h]

theorem does_completionTimeout {s : State} {r : UpReq} {P : State → Prop}
    (hfind : s.pcie.up.find? (fun x => x.tag == r.tag && !x.late && !x.dropped) = some r) : Does (.completionTimeout r.tag) s P ↔
      P (State.settle (((s.begin.setPcie (s.pcie.timedOut r)).aerUnc 14 50).dmaFail r.chan 6)) := by
  have hmatch : s.begin.pcie.up.find? (fun x => x.tag == r.tag && !x.late && !x.dropped) = some r := hfind
  rw [does_run (exec_completionTimeout r.tag s), hmatch]
  rfl

theorem completionTimeout_only {s : State} {r : UpReq} (hup : s.pcie.up = [r]) (hlate : r.late = false) (hdropped : r.dropped = false)
    (hmode : (s.chan r.chan).mode = .running) (hfailing : (s.chan r.chan).failing = none) : Does (.completionTimeout r.tag) s fun t =>
      t.pcie.up = [{ r with late := true }] ∧ t.pcie.uncStatus = s.pcie.uncStatus ||| 2 ^ 14 ∧
        t.chan r.chan = { s.chan r.chan with failing := some (6, (s.chan r.chan).src + (s.chan r.chan).moved) } ∧
        Only [.pcie, .dma, .flt, .husk] s t := by
  have hfind : s.pcie.up.find? (fun x => x.tag == r.tag && !x.late && !x.dropped) = some r := by simp [hup, hlate, hdropped]
  obtain ⟨f, d, hlogged⟩ := aerUnc_eq (s.begin.setPcie (s.pcie.timedOut r)) (src := 50) (by decide) 14
  have hfail := dmaFail_running (s := (s.begin.setPcie ((s.pcie.timedOut r).uncLogged 14)).noted f d) hmode hfailing 6
  have hframe := ((within_setPcie s.begin ((s.pcie.timedOut r).uncLogged 14)).seq (within_noted _ f d)).seq
    (within_setChan _ r.chan ((s.chan r.chan).met 6))
  rw [does_completionTimeout hfind, hlogged]
  refine hfail ▸ ⟨?_, settle_pcie_uncStatus _, (settle_chan _ _).trans (setChan_same _ _ _), (hframe.widen (by decide)).settled⟩
  exact (settle_pcie_up _).trans (timedOut_up hup)

/-- Settles O22: a completion finds its read by the tag, and what it means hangs on what became of the read meanwhile; a read that
completes in part writes its bytes and awaits the rest. -/
theorem upstreamReadsCompleteOrTimeOut : Obligations.UpstreamReadsCompleteOrTimeOut := by
  unfold Obligations.UpstreamReadsCompleteOrTimeOut
  exact fun s tag r => ⟨fun hup hfind => ⟨completion_late hup hfind, completion_dropped hup hfind,
      fun hlate hdropped hmode hfailing bs => ⟨completion_abort hup hfind hlate hdropped hmode hfailing bs,
        completion_poisoned hup hfind hlate hdropped hmode hfailing bs⟩,
      fun hlate hdropped bs => completion_part hup hfind hlate hdropped⟩,
    completion_unexpected, completionTimeout_only⟩

end Sys2Proof.Machine
end

section
/-! PROOFS of 04_host_link_live_insertion.md. A host-side reset (R232 to R236, R255; 05 R276 to R278; 06 R384; 12 R654). -/

namespace Sys2Proof.Machine

/-! ### The host's channels (12 R654; 04 R255) -/

theorem within_tookFree (s : State) : Within [.free] s s.tookFree := by
  refine ⟨⟨rfl, fun p hp => ?_⟩, by decide⟩
  cases p
  case free => exact absurd (by decide) hp
  case ready | mbx => exact ⟨rfl, rfl, rfl⟩
  case memory => exact ⟨rfl, rfl⟩
  case board | mram => exact fun _ => rfl
  all_goals rfl

theorem within_scramble (s : State) (a n : Nat) : Within [.memory, .free] s (s.scramble a n) := by
  induction n with
  | zero => exact (Within.refl s).widen (by decide)
  | succ n ih => exact ((ih.seq (within_stored _ _ (s.scramble a n).marks)).seq (within_tookFree _)).widen (by decide)

/-- One of the host's channels is reset. -/
def State.resetHostChan (i : Nat) (t : State) : State :=
  State.setChan (if (t.chan i).mode == .running && !bitAt (t.chan i).cfg 9 then t.scramble (t.chan i).dst (t.chan i).count else t)
    i (t.chan i).reset

theorem resetHostChannels_eq (s : State) : s.resetHostChannels = foldRange State.resetHostChan 8 s := rfl

theorem within_resetHostChan (i : Nat) (t : State) : Within [.memory, .free, .dma] t (t.resetHostChan i) :=
  (((within_scramble t _ _).ite (Within.refl t)).seq (within_setChan _ i _)).widen (by decide)

theorem within_resetHostChannels (s : State) : Within [.memory, .free, .dma] s s.resetHostChannels :=
  within_foldRange within_resetHostChan 8 s

/-- Channels stand outside a frame that leaves them out. -/
theorem Within.chan_eq {l : List Part} {s t : State} (h : Within l s t) (i : Nat) (hl : .dma ∉ l) : t.chan i = s.chan i :=
  congrArg (fun d => Table.get ({} : Dma) d i) (h.only.2 .dma hl)

theorem resetHostChan_chan (j : Nat) (t : State) (i : Nat) :
    (t.resetHostChan j).chan i = if i = j then (t.chan j).reset else t.chan i := by
  have hscrambled := (within_scramble t (t.chan j).dst (t.chan j).count).ite (c := (t.chan j).mode == .running && !bitAt (t.chan j).cfg 9)
    (Within.refl t)
  rw [State.resetHostChan, chan_setChan]
  exact if_congr Iff.rfl rfl (hscrambled.chan_eq i (by decide))

theorem resetHostChannels_chan (s : State) (i : Nat) :
    s.resetHostChannels.chan i = if i < 8 then (s.chan i).reset else s.chan i := by
  have hall : ∀ n, (foldRange State.resetHostChan n s).chan i = if i < n then (s.chan i).reset else s.chan i := fun n => by
    induction n with
    | zero => rfl
    | succ n ih =>
      rw [foldRange, resetHostChan_chan]
      split
      · next h =>
        subst h
        rw [ih, if_neg (Nat.lt_irrefl i), if_pos (Nat.lt_succ_self i)]
      · rw [ih]
        exact if_congr (by omega) rfl rfl
  exact hall 8

/-! ### The host's mailboxes (05 R276 to R278) -/

/-- One of the host's mailboxes is discarded. -/
def State.discardBox (i : Nat) (u : State) : State := u.setBox i (u.box i).discard

def State.discardBoxes (s : State) : State := foldRange State.discardBox 32 s

/-- The mailbox block counts the reset, and is closed. -/
def State.closeMail (s : State) : State := { s with rstCnt := satAdd 16 s.rstCnt 1, mbxClosed := true }

theorem closeMail_mbx (s : State) : s.closeMail.mbx = s.mbx ∧ s.closeMail.rstCnt = satAdd 16 s.rstCnt 1 ∧
    s.closeMail.mbxClosed = true := ⟨rfl, rfl, rfl⟩

theorem mailDiscard_eq (s : State) : s.mailDiscard = s.discardBoxes.closeMail.edge 94 := rfl

theorem within_discardBoxes (s : State) : Within [.mbx] s s.discardBoxes := within_foldRange (fun i u => within_setBox u i _) 32 s

theorem within_mailDiscard (s : State) : Within [.mbx, .icu] s s.mailDiscard :=
  (((within_discardBoxes s).seq (within_mailSide _ _ true)).seq (within_edge _ 94)).widen (by decide)

theorem discard_full (m : Mbx) : m.discard.full = false := by
  unfold Mbx.discard
  split
  · rfl
  · next hfull =>
    split
    · exact Bool.eq_false_iff.2 hfull
    · exact Bool.eq_false_iff.2 hfull

theorem box_setBox (s : State) (j i : Nat) (x : Mbx) : (s.setBox j x).box i = if i = j then x else s.box i := Table.get_set _ _ _ _ _

theorem box_congr {s t : State} (h : t.mbx = s.mbx) (k : Nat) : t.box k = s.box k := congrArg (Table.get ({} : Mbx) · k) h

theorem discardBoxes_full (s : State) {k : Nat} (hk : k < 32) : (s.discardBoxes.box k).full = false := by
  have hall : ∀ n, k < n → ((foldRange State.discardBox n s).box k).full = false := fun n hn => by
    induction n with
    | zero => exact absurd hn (Nat.not_lt_zero k)
    | succ n ih =>
      rw [foldRange, State.discardBox, box_setBox]
      split
      · exact discard_full _
      · exact ih (by omega)
  exact hall 32 hk

theorem discardBoxes_rstCnt (s : State) : s.discardBoxes.rstCnt = s.rstCnt :=
  foldRange_keeps (fun u : State => u.rstCnt = s.rstCnt) State.discardBox (fun _ _ h => h) 32 s rfl

theorem mailDiscard_mbx (s : State) : s.mailDiscard.mbx = s.discardBoxes.mbx ∧
    s.mailDiscard.rstCnt = satAdd 16 s.rstCnt 1 ∧ s.mailDiscard.mbxClosed = true := by
  obtain ⟨hmbx, hcount, hclosed⟩ := (within_edge s.discardBoxes.closeMail 94).only.2 .mbx (by decide)
  obtain ⟨hmbx', hcount', hclosed'⟩ := closeMail_mbx s.discardBoxes
  rw [discardBoxes_rstCnt] at hcount'
  rw [mailDiscard_eq]
  exact ⟨hmbx.trans hmbx', hcount.trans hcount', hclosed.trans hclosed'⟩

/-- What is set within `b` is gone outside `b`. -/
theorem or_and_not {w : Nat} (x b c d : BitVec w) : (x ||| b &&& c &&& d) &&& ~~~b = x &&& ~~~b := by
  ext j hj
  cases hb : b[j] <;> simp [hb]

/-- An edge sets no enable, and no pending bit but its own. -/
theorem edge_host (s : State) (i : Nat) : (s.edge i).icu.host.en = s.icu.host.en ∧
    (s.edge i).icu.host.pend &&& ~~~icuBit i = s.icu.host.pend &&& ~~~icuBit i := by
  unfold State.edge State.edges
  split
  · exact ⟨rfl, or_and_not _ _ _ _⟩
  · exact ⟨rfl, rfl⟩

theorem mailDiscard_host (s : State) (hen : s.icu.host.en = 0) (hpend : s.icu.host.pend = 0) :
    s.mailDiscard.icu.host.en = 0 ∧ s.mailDiscard.icu.host.pend &&& ~~~icuBit 94 = 0 := by
  obtain ⟨hedgeEn, hedgePend⟩ := edge_host s.discardBoxes.closeMail 94
  have hicu : s.discardBoxes.icu.kept = s.icu.kept := (within_discardBoxes s).only.2 .icu (by decide)
  have hen' : s.discardBoxes.icu.host.en = 0 := (keptIcu (fun u : Icu => u.host.en) hicu fun _ => rfl).trans hen
  have hpend' : s.discardBoxes.icu.host.pend = 0 := (keptIcu (fun u : Icu => u.host.pend) hicu fun _ => rfl).trans hpend
  rw [mailDiscard_eq]
  exact ⟨hedgeEn.trans hen', hedgePend.trans ((congrArg (· &&& ~~~icuBit 94) hpend').trans BitVec.zero_and)⟩

/-! ### Firmware's side of the reset (06 R384) -/

theorem NoRun.congr {s t : State} (h : s.NoRun) (hs : t.hazel = s.hazel) : t.NoRun := fun k => by
  unfold State.session
  rw [hs]
  exact h k

theorem endRuns_of_noRun {s : State} (h : s.NoRun) (status n : Nat) : s.endRuns status n = s := by
  induction n with
  | zero => rfl
  | succ n ih =>
    unfold State.endRuns
    rw [ih]
    exact if_neg (by simp [h n])

/-- Sessions close, flows are unbound, queues return to their defaults, and the commands that were taken end without a notice. -/
def State.closeHost (s : State) : State :=
  let js := (s.hazel.jobs.filter fun c => c.phase != .written && c.phase != .noticed).map fun c => { c with silent := true }
  let qs := Table.mapVals ({} : Queue) (fun x => { x with depth := 64, doorbell := 0, seq := none }) s.hazel.queues
  { s with hazel := { s.hazel with jobs := js, queues := qs, sessions := [] }
           flows := Table.mapVals ({} : Flow) (fun x => { x with session := none }) s.flows }

theorem settleHost_of_noRun {s : State} (h : s.NoRun) :
    s.settleHost = ((s.endJobs (fun c => isJob c.opcode) 0x0301 3).closeHost).releaseIdlePipes 4 := by
  unfold State.settleHost
  rw [endRuns_of_noRun h]
  rfl

theorem within_closeHost (s : State) : Within [.hazel, .flows] s s.closeHost :=
  (within_setHazel s s.closeHost.hazel).seq ((only_flows _ s.closeHost.flows).within (by decide))

theorem within_settleHost {s : State} (h : s.NoRun) : Within [.hazel, .flows, .pac, .pipes] s s.settleHost := by
  rw [settleHost_of_noRun h]
  exact (((within_endJobs s _ _ _).seq (within_closeHost _)).seq (within_releaseIdlePipes _ 4)).widen (by decide)

theorem settleHost_sessions {s : State} (h : s.NoRun) : s.settleHost.hazel.sessions = [] := by
  have hhazel := (within_releaseIdlePipes (s.endJobs (fun c => isJob c.opcode) 0x0301 3).closeHost 4).only.2 .hazel (by decide)
  rw [settleHost_of_noRun h]
  exact congrArg Hazel.sessions hhazel

/-! ### A host-side reset (04 R232 to R236) -/

/-- The endpoint's function state and the host's view of the interrupt controller, reset. -/
def State.resetHostViews (s : State) (sticky : Bool) : State :=
  { s with pcie := s.pcie.resetFunction sticky, icu := { s.icu with host := {}, vlines := 0, vnotified := 0, vmap := [] } }

theorem hostReset_eq (s : State) (sticky : Bool) :
    s.hostReset sticky = ((s.resetHostChannels.resetHostViews sticky).mailDiscard).settleHost := rfl

theorem within_resetHostViews (s : State) (sticky : Bool) : Within [.pcie, .icu] s (s.resetHostViews sticky) :=
  (within_setPcie s (s.pcie.resetFunction sticky)).seq ((only_icu _ (s.resetHostViews sticky).icu).within (by decide))

/-- What a host-side reset of `s` leaves in `t`, while no session runs a job. -/
structure HostReset (s t : State) (sticky : Bool) : Prop where
  frame : Within [.memory, .free, .dma, .pcie, .icu, .mbx, .hazel, .flows, .pac, .pipes] s t
  pcie : t.pcie.kept = (s.pcie.resetFunction sticky).kept
  enables : t.icu.host.en = 0
  pending : t.icu.host.pend &&& ~~~icuBit 94 = 0
  closed : t.mbxClosed = true
  count : t.rstCnt = satAdd 16 s.rstCnt 1
  sessions : t.hazel.sessions = []
  boxes : ∀ k, k < 32 → (t.box k).full = false
  chan : ∀ i, t.chan i = if i < 8 then (s.chan i).reset else s.chan i

theorem hostReset_resets {s : State} (h : s.NoRun) (sticky : Bool) : HostReset s (s.hostReset sticky) sticky := by
  have hchans := within_resetHostChannels s
  have hviews := within_resetHostViews s.resetHostChannels sticky
  have hmail := within_mailDiscard (s.resetHostChannels.resetHostViews sticky)
  have hbefore := (hchans.seq hviews).seq hmail
  have hrun := NoRun.congr h (hbefore.only.2 .hazel (by decide))
  have hhost := within_settleHost hrun
  have hafter := hviews.seq (hmail.seq hhost)
  have hicu := hhost.only.2 .icu (by decide)
  obtain ⟨hboxes, hcount, hclosed⟩ := hhost.only.2 .mbx (by decide)
  obtain ⟨hboxes', hcount', hclosed'⟩ := mailDiscard_mbx (s.resetHostChannels.resetHostViews sticky)
  obtain ⟨-, hcount'', -⟩ := (hchans.seq hviews).only.2 .mbx (by decide)
  obtain ⟨hen, hpend⟩ := mailDiscard_host (s.resetHostChannels.resetHostViews sticky) rfl rfl
  have hkept := keptIcu (fun u : Icu => u.host.pend) hicu fun _ => rfl
  rw [hostReset_eq]
  exact {
    frame := (hbefore.seq hhost).widen (by decide)
    pcie := ((hmail.seq hhost).only.2 .pcie (by decide)).trans
      (congrArg Pcie.kept (keptPcie (Pcie.resetFunction · sticky) (hchans.only.2 .pcie (by decide)) fun _ => rfl))
    enables := (keptIcu (fun u : Icu => u.host.en) hicu fun _ => rfl).trans hen
    pending := by rw [hkept, hpend]
    closed := hclosed.trans hclosed'
    count := by rw [hcount, hcount', hcount'']
    sessions := settleHost_sessions hrun
    boxes := fun k hk => by rw [box_congr (hboxes.trans hboxes'), discardBoxes_full _ hk]
    chan := fun i => by rw [hafter.chan_eq i (by decide), resetHostChannels_chan] }

end Sys2Proof.Machine
end

section
/-! PROOFS of 04_host_link_live_insertion.md. The link trains, is lost, is reset, and sleeps (R203 to R207, R232 to R236, R253,
R259). -/

namespace Sys2Proof.Machine

/-! ### The link trains (04 R203 to R207) -/

/-- The link is in L0. -/
def State.linkUpNow (s : State) : State :=
  State.setReady { s.setPcie { s.pcie with linkUp := true } with rstCnt := s.rstCnt, mbxClosed := false } 12

theorem linkTrainingL0_trains {s : State} (hperst : s.pcie.perstN = true) (hen : s.husk.enSrd = true) (hpg : s.husk.pgSrd = true)
    (hphy : s.pll 7 = .locked) (hdown : s.pcie.linkUp = false) : Does .linkTrainingL0 s fun t =>
      t.pcie.linkUp = true ∧ t.ready 12 = true ∧ t.mbxClosed = false ∧ Only [.pcie, .mbx, .ready] s t := by
  have hguard : (s.begin.pcie.perstN && s.begin.husk.enSrd && s.begin.husk.pgSrd && s.begin.pll 7 == .locked &&
      !s.begin.pcie.linkUp) = true := by simp [hperst, hen, hpg, hphy, hdown]
  have hframe := ((within_setPcie s.begin { s.pcie with linkUp := true }).seq (within_mailSide _ s.rstCnt false)).seq
    (within_setReady _ 12)
  have hready : s.begin.linkUpNow.ready 12 = true := by simp [State.linkUpNow, setReady_ready]
  rw [does_run (exec_linkTrainingL0 s), if_pos hguard]
  exact ⟨settle_pcie_linkUp _, (settle_ready _ 12).trans hready, (settled_settle _).mbxClosed, hframe.settled⟩

/-! ### The link drops (04 R234, R253) -/

/-- The endpoint once its link has left L0. -/
def Pcie.linkGone (p : Pcie) : Pcie := { p with linkUp := false, flr := false, exits := satAdd 16 p.exits 1 }

theorem linkLost_eq {s : State} (h : s.pcie.linkUp = true) : s.linkLost = s.setPcie s.pcie.linkGone := if_pos h

theorem within_linkLost (s : State) : Within [.pcie] s s.linkLost :=
  ((within_setPcie s s.pcie.linkGone).ite (Within.refl s)).widen (by decide)

/-- The endpoint once its link has dropped, by surprise if `b`. -/
def Pcie.linkDropped (p : Pcie) (b : Bool) : Pcie :=
  { p.linkGone with surprise := if b then satAdd 16 p.surprise 1 else p.surprise }

/-- A link that drops leaves its readiness and its endpoint down, and then resets the host's side. -/
theorem dropLink_reset {s : State} (h : s.pcie.linkUp = true) (b : Bool) : ∃ u, s.dropLink b = u.hostReset true ∧
    Within [.pcie, .ready, .flt, .husk] s u ∧ u.pcie = s.pcie.linkDropped b ∧ u.ready 12 = false := by
  have hunready := dropReady_ready_same (s.setPcie s.pcie.linkGone) 12
  have hdown := (within_setPcie s s.pcie.linkGone).seq (within_dropReady _ (rdyBit 12))
  cases b with
  | false =>
    refine ⟨(s.setPcie s.pcie.linkGone).dropReady (rdyBit 12), ?_, hdown.widen (by decide), rfl, hunready⟩
    rw [State.dropLink, if_pos h, linkLost_eq h]
    rfl
  | true =>
    obtain ⟨f, r, hreport⟩ := report_noted (((s.setPcie s.pcie.linkGone).dropReady (rdyBit 12)).setPcie (s.pcie.linkDropped true))
      (src := 42) (by decide) 0
    refine ⟨_, ?_, ((hdown.seq (within_setPcie _ (s.pcie.linkDropped true))).seq (within_noted _ f r)).widen (by decide), rfl, hunready⟩
    rw [State.dropLink, if_pos h, linkLost_eq h]
    exact congrArg (State.hostReset · true) hreport

/-- What a link that drops leaves, while no session runs a job. -/
structure LinkDrop (s t : State) (b : Bool) : Prop where
  pcie : t.pcie.kept = ((s.pcie.linkDropped b).resetFunction true).kept
  ready : t.ready 12 = false
  enables : t.icu.host.en = 0
  pending : t.icu.host.pend &&& ~~~icuBit 94 = 0
  closed : t.mbxClosed = true
  count : t.rstCnt = satAdd 16 s.rstCnt 1
  sessions : t.hazel.sessions = []
  boxes : ∀ k, k < 32 → (t.box k).full = false
  chan : ∀ i, t.chan i = if i < 8 then (s.chan i).reset else s.chan i

theorem dropLink_drops {s : State} (h : s.pcie.linkUp = true) (hrun : s.NoRun) (b : Bool) :
    LinkDrop s (s.begin.dropLink b).settle b := by
  obtain ⟨u, hdrop, hframe, hpcie, hready⟩ := dropLink_reset (s := s.begin) h b
  have hreset := hostReset_resets (NoRun.congr (s := s) hrun (hframe.only.2 .hazel (by decide))) true
  obtain ⟨-, hcount, -⟩ := hframe.only.2 .mbx (by decide)
  have hkept := (settle_rest (u.hostReset true)).2.2.1
  have hsettled := settled_settle (u.hostReset true)
  rw [hdrop]
  exact {
    pcie := by rw [hkept, hreset.pcie, hpcie]; rfl
    ready := by rw [settle_ready, hreset.frame.ready_eq 12 (by decide), hready]
    enables := by rw [settle_host_en, hreset.enables]
    pending := by rw [settle_host_pend, hreset.pending]
    closed := by rw [hsettled.mbxClosed, hreset.closed]
    count := by rw [hsettled.rstCnt, hreset.count, hcount]; rfl
    sessions := by rw [hsettled.hazel, hreset.sessions]
    boxes := fun k hk => by rw [settle_box, hreset.boxes k hk]
    chan := fun i => by rw [settle_chan, hreset.chan, hframe.chan_eq i (by decide)]; rfl }

theorem does_hotReset {s : State} {P : State → Prop} : Does .hotReset s P ↔ P (s.begin.dropLink false).settle :=
  does_run (f := fun u => u.dropLink false) (exec_hotReset s)

theorem does_linkDown {s : State} {P : State → Prop} : Does .linkDown s P ↔ P (s.begin.dropLink (!s.offInProgress)).settle :=
  does_run (f := fun u => u.dropLink (!u.offInProgress)) (exec_linkDown s)

theorem hotReset_drops {s : State} (h : s.pcie.linkUp = true) (hrun : s.NoRun) : Does .hotReset s fun t =>
    t.pcie.linkUp = false ∧ t.ready 12 = false ∧ t.pcie.exits = satAdd 16 s.pcie.exits 1 ∧ t.pcie.surprise = s.pcie.surprise ∧
      t.pcie.mse = false ∧ t.pcie.bme = false ∧ t.icu.host.en = 0 ∧ t.icu.host.pend &&& ~~~icuBit 94 = 0 ∧ t.mbxClosed = true ∧
      t.rstCnt = satAdd 16 s.rstCnt 1 ∧ t.hazel.sessions = [] ∧ (∀ k, k < 32 → (t.box k).full = false) ∧
      (∀ i, i < 8 → t.chan i = (s.chan i).reset) ∧ ∀ i, 8 ≤ i → t.chan i = s.chan i := by
  have hdrop := dropLink_drops h hrun false
  rw [does_hotReset]
  exact ⟨keptPcie Pcie.linkUp hdrop.pcie fun _ => rfl, hdrop.ready, keptPcie Pcie.exits hdrop.pcie fun _ => rfl,
    (keptPcie Pcie.surprise hdrop.pcie fun _ => rfl).trans rfl, keptPcie Pcie.mse hdrop.pcie fun _ => rfl,
    keptPcie Pcie.bme hdrop.pcie fun _ => rfl, hdrop.enables, hdrop.pending, hdrop.closed, hdrop.count, hdrop.sessions, hdrop.boxes,
    fun i hi => (hdrop.chan i).trans (if_pos hi), fun i hi => (hdrop.chan i).trans (if_neg (Nat.not_lt.2 hi))⟩

theorem linkDown_drops {s : State} (h : s.pcie.linkUp = true) (hrun : s.NoRun) : Does .linkDown s fun t =>
    t.pcie.linkUp = false ∧ t.ready 12 = false ∧ t.pcie.exits = satAdd 16 s.pcie.exits 1 ∧
      t.pcie.surprise = (if s.offInProgress then s.pcie.surprise else satAdd 16 s.pcie.surprise 1) ∧ t.mbxClosed = true ∧
      t.hazel.sessions = [] := by
  have hdrop := dropLink_drops h hrun (!s.offInProgress)
  have hsurprise : (s.pcie.linkDropped (!s.offInProgress)).surprise =
      if s.offInProgress then s.pcie.surprise else satAdd 16 s.pcie.surprise 1 := by
    simp only [Pcie.linkDropped]
    cases s.offInProgress <;> rfl
  rw [does_linkDown]
  exact ⟨keptPcie Pcie.linkUp hdrop.pcie fun _ => rfl, hdrop.ready, keptPcie Pcie.exits hdrop.pcie fun _ => rfl,
    (keptPcie Pcie.surprise hdrop.pcie fun _ => rfl).trans hsurprise, hdrop.closed, hdrop.sessions⟩

theorem dropLink_settled_of_down {s : State} (h : s.pcie.linkUp = false) (b : Bool) : Only [] s (s.begin.dropLink b).settle := by
  rw [dropLink_of_down (s := s.begin) h]
  exact (Within.refl s.begin).settled

/-! ### A function-level reset (04 R235, R236) -/

theorem flrInitiate_resets {s : State} (h : s.pcie.linkUp = true) (hrun : s.NoRun) (hflr : s.pcie.flr = false) :
    Does .flrInitiate s fun t => t.pcie.flr = true ∧ t.pcie.linkUp = true ∧ t.fell = 0 ∧ t.pcie.uncStatus = s.pcie.uncStatus ∧
      t.icu.host.en = 0 ∧ t.mbxClosed = true ∧ t.hazel.sessions = [] ∧ ∀ i, i < 8 → t.chan i = (s.chan i).reset := by
  have hreset := hostReset_resets (s := s.begin) hrun true
  have hguard : (s.begin.pcie.linkUp && !s.begin.pcie.flr) = true := by simp [h, hflr]
  have hup : (s.begin.hostReset true).pcie.linkUp = true := (keptPcie Pcie.linkUp hreset.pcie fun _ => rfl).trans h
  have hunc : (s.begin.hostReset true).pcie.uncStatus = s.pcie.uncStatus :=
    (keptPcie Pcie.uncStatus hreset.pcie fun _ => rfl).trans rfl
  rw [does_run (f := State.flrStart) (exec_flrInitiate s), State.flrStart, if_pos hguard]
  generalize s.begin.hostReset true = u at hreset hup hunc ⊢
  have hsettled := settled_settle { u with fell := 0, pcie := { u.pcie with flr := true } }
  exact ⟨settle_pcie_flr _, (settle_pcie_linkUp _).trans hup, hsettled.fell, (settle_pcie_uncStatus _).trans hunc,
    (settle_host_en _).trans hreset.enables, hsettled.mbxClosed.trans hreset.closed,
    (congrArg Hazel.sessions hsettled.hazel).trans hreset.sessions,
    fun i hi => (settle_chan _ i).trans ((hreset.chan i).trans (if_pos hi))⟩

/-! ### PERST_N is asserted (04 R203, R232, R259) -/

/-- The endpoint with PERST_N at a level, and the clock mode that it finds. -/
def Pcie.perst (p : Pcie) (high sris : Bool) : Pcie := { p with perstN := high, sris := sris }

theorem within_clearReady (s : State) (m : BitVec 40) : Within [.ready] s (s.clearReady m) := ⟨only_ready s _ _ _, by decide⟩

theorem clearReady_ready_same (s : State) (i : Nat) : (s.clearReady (rdyBit i)).ready i = false := dropReady_ready_same s i

/-- PERST_N is low, and the link is down. -/
def State.perstLow (s : State) : State := (s.setPcie (s.pcie.perst false s.pcie.sris)).linkLost.clearReady (rdyBit 12)

theorem within_perstLow (s : State) : Within [.pcie, .ready] s s.perstLow :=
  (((within_setPcie s _).seq (within_linkLost _)).seq (within_clearReady _ (rdyBit 12))).widen (by decide)

theorem perstLow_perstN (s : State) : s.perstLow.pcie.perstN = false := by
  unfold State.perstLow State.linkLost
  split <;> rfl

theorem perstLow_down (s : State) : s.perstLow.pcie.linkUp = false := linkLost_down _

/-- The PHY is powered down, and no bit of RDY_FELL stands. -/
def State.phyDown (s : State) : State := (({ s with fell := 0 }).setPll 7 .stopped).withdraw ⟨.phyPll, 0⟩

theorem perstAssert_eq {s : State} (h : s.pcie.perstN = true) (hon : s.mainOn = true) :
    s.perstAssert = (s.perstLow.hostReset false).phyDown := if_pos (by simp [h, hon])

theorem perstNAssert_resets {s : State} (h : s.pcie.perstN = true) (hon : s.mainOn = true) (hrun : s.NoRun) :
    Does .perstNAssert s fun t => t.pcie.perstN = false ∧ t.pcie.linkUp = false ∧ t.ready 12 = false ∧ t.fell = 0 ∧
      t.pll 7 = .stopped ∧ ⟨.phyPll, 0⟩ ∉ t.pac.held ∧ t.pcie.uncStatus = 0 ∧ t.icu.host.en = 0 ∧ t.hazel.sessions = [] := by
  have hlow := within_perstLow s.begin
  have hreset := hostReset_resets (NoRun.congr (s := s) hrun (hlow.only.2 .hazel (by decide))) false
  have hready : (s.begin.perstLow.hostReset false).ready 12 = false :=
    (hreset.frame.ready_eq 12 (by decide)).trans (clearReady_ready_same _ 12)
  have hperst : (s.begin.perstLow.hostReset false).pcie.perstN = false :=
    (keptPcie Pcie.perstN hreset.pcie fun _ => rfl).trans (perstLow_perstN _)
  have hdown : (s.begin.perstLow.hostReset false).pcie.linkUp = false :=
    (keptPcie Pcie.linkUp hreset.pcie fun _ => rfl).trans (perstLow_down _)
  have hunc : (s.begin.perstLow.hostReset false).pcie.uncStatus = 0 := (keptPcie Pcie.uncStatus hreset.pcie fun _ => rfl).trans rfl
  rw [does_run (f := State.perstAssert) (exec_perstNAssert s), perstAssert_eq (s := s.begin) h (by simp [hon])]
  generalize s.begin.perstLow.hostReset false = u at hreset hready hperst hdown hunc ⊢
  have hsettled := settled_settle u.phyDown
  refine ⟨(settle_pcie_perstN _).trans hperst, (settle_pcie_linkUp _).trans hdown, (settle_ready _ 12).trans hready, hsettled.fell,
    (settle_pll _ 7).trans (setPll_same { u with fell := 0 } 7 .stopped), ?_, (settle_pcie_uncStatus _).trans hunc,
    (settle_host_en _).trans hreset.enables, (congrArg Hazel.sessions hsettled.hazel).trans hreset.sessions⟩
  rw [hsettled.pac]
  exact not_mem_held_withdraw _ _

theorem perstNAssert_again {s : State} (h : s.pcie.perstN = false ∨ s.mainOn = false) :
    Does .perstNAssert s fun t => t.pcie.perstN = false ∧ Only [.pcie] s t := by
  have hassert : s.begin.perstAssert = s.begin.setPcie (s.pcie.perst false s.pcie.sris) :=
    if_neg (by obtain h | h := h <;> simp [h])
  rw [does_run (f := State.perstAssert) (exec_perstNAssert s), hassert]
  exact ⟨settle_pcie_perstN _, setPcie_settled s _⟩

/-! ### PERST_N is deasserted (04 R203) -/

theorem does_perstNDeassert {s : State} {sris : Bool} {P : State → Prop} (h : s.pcie.perstN = false) :
    Does (.perstNDeassert sris) s P ↔ P (s.begin.setPcie (s.pcie.perst true sris)).wantPhy.settle := by
  rw [does_run (exec_perstNDeassert sris s), if_neg (by simp [h])]
  rfl

theorem wantPhy_waits {u : State} (h : u.husk.enSrd = false ∨ u.husk.pgSrd = false ∨ u.ready 3 = false) : u.wantPhy = u :=
  if_neg (by obtain h | h | h := h <;> simp [h])

theorem wantPhy_asks {u : State} (hperst : u.pcie.perstN = true) (hen : u.husk.enSrd = true) (hpg : u.husk.pgSrd = true)
    (hpac : u.ready 3 = true) : u.wantPhy = u.startPll .phy 1 :=
  if_pos (by simp [hperst, hen, hpg, hpac])

theorem perstNDeassert_waits {s : State} (sris : Bool) (h : s.pcie.perstN = false)
    (hlacks : s.husk.enSrd = false ∨ s.husk.pgSrd = false ∨ s.ready 3 = false) : Does (.perstNDeassert sris) s fun t =>
      t.pcie.perstN = true ∧ t.pcie.sris = sris ∧ Only [.pcie] s t := by
  rw [does_perstNDeassert h, wantPhy_waits (u := s.begin.setPcie (s.pcie.perst true sris)) hlacks]
  exact ⟨settle_pcie_perstN _, settle_pcie_sris _, setPcie_settled s _⟩

theorem perstNDeassert_asks {s : State} (sris : Bool) (h : s.pcie.perstN = false) (hen : s.husk.enSrd = true)
    (hpg : s.husk.pgSrd = true) (hpac : s.ready 3 = true) (hphy : s.pll 7 = .stopped) (hmay : MayAsk s ⟨.phyPll, 0⟩) :
    Does (.perstNDeassert sris) s fun t => t.pcie.perstN = true ∧ t.pcie.sris = sris ∧ t.pll 7 = .requested ∧
      (∃ q ∈ t.pac.queue, q.who = ⟨.phyPll, 0⟩) ∧ Only [.pcie, .plls, .pac] s t := by
  have hmay' : MayAsk (s.begin.setPcie (s.pcie.perst true sris)) Pll.phy.who := ⟨hmay.held, hmay.queue, hmay.fits⟩
  have hwant : (s.begin.setPcie (s.pcie.perst true sris)).wantPhy =
      ((s.begin.setPcie (s.pcie.perst true sris)).setPll 7 .requested).setPac (s.pac.asked ⟨.phyPll, 0⟩ 1 s.now) :=
    (wantPhy_asks (u := s.begin.setPcie (s.pcie.perst true sris)) rfl hen hpg hpac).trans (hmay'.startPll (.inl hphy) 1)
  have hframe := ((within_setPcie s.begin (s.pcie.perst true sris)).seq (within_setPll _ 7 .requested)).seq
    (within_setPac _ (s.pac.asked ⟨.phyPll, 0⟩ 1 s.now))
  obtain ⟨q, hq, hwho, -⟩ := mem_queue_asked s.pac ⟨.phyPll, 0⟩ 1 s.now
  rw [does_perstNDeassert h, hwant]
  exact ⟨settle_pcie_perstN _, settle_pcie_sris _, (settle_pll _ 7).trans (setPll_same _ 7 .requested),
    ⟨q, by rw [(settled_settle _).pac]; exact hq, hwho⟩, hframe.settled⟩

/-- Settles O19: a link that drops and an FLR reset the host's side, which no running job delays, and PERST_N does so from the
other side of the link; a link that is down has nothing to drop. -/
theorem theLinkTrainsAndResets : Obligations.TheLinkTrainsAndResets := by
  unfold Obligations.TheLinkTrainsAndResets
  exact fun s => ⟨linkTrainingL0_trains,
    fun hup hrun => ⟨hotReset_drops hup hrun, linkDown_drops hup hrun, flrInitiate_resets hup hrun⟩,
    fun hdown => ⟨does_hotReset.2 (dropLink_settled_of_down hdown _), does_linkDown.2 (dropLink_settled_of_down hdown _)⟩,
    perstNAssert_resets, perstNAssert_again, perstNDeassert_waits,
    fun sris h hen hpg hpac hphy hfits hheld hqueue => perstNDeassert_asks sris h hen hpg hpac hphy ⟨hheld, hqueue, hfits⟩⟩

end Sys2Proof.Machine
end

section
/-! PROOFS of 05_mailboxes_interrupts.md. Mailboxes: what a sender's write and a receiver's read do (R267 to R269, R278). -/

namespace Sys2Proof.Machine

/-! ### What a write does to a mailbox (05 R267, R268, R278) -/

/-- A mailbox that has been filled with two halves. -/
def Mbx.written (b : Mbx) (hi lo : Nat) : Mbx := { b with hi := hi, lo := lo, full := true, half := false }

theorem Mbx.value_written (b : Mbx) (hi lo : Nat) : (b.written hi lo).value = hi * 2 ^ 32 + lo := rfl

/-- A mailbox whose sender has overrun it. -/
def Mbx.overran (b : Mbx) : Mbx := { b with overrun := true, overruns := satAdd 16 b.overruns 1 }

/-- A mailbox that has discarded a write. -/
def Mbx.discarding (b : Mbx) : Mbx := { b with discards := satAdd 16 b.discards 1 }

section
variable {s : State} {m : Nat}

theorem sendLo_stores (hc : s.boxClosed m = false) (hf : (s.box m).full = false) (v : Nat) :
    s.sendLo m v = s.setBox m { s.box m with lo := v % 2 ^ 32, half := true } :=
  (if_neg (ne_true_of_eq_false hc)).trans (if_neg (ne_true_of_eq_false hf))

/-- A write of DATA_HI alone goes with the low half that stands. -/
theorem sendHi_alone (hc : s.boxClosed m = false) (hf : (s.box m).full = false) (hi : Nat) :
    s.sendHi m hi none = s.setBox m ((s.box m).written (hi % 2 ^ 32) ((s.box m).lo % 2 ^ 32)) :=
  (if_neg (ne_true_of_eq_false hc)).trans (if_neg (ne_true_of_eq_false hf))

theorem sendLo_overruns (hc : s.boxClosed m = false) (hf : (s.box m).full = true) (v : Nat) : s.sendLo m v = s.overrun m :=
  (if_neg (ne_true_of_eq_false hc)).trans (if_pos hf)

theorem sendHi_overruns (hc : s.boxClosed m = false) (hf : (s.box m).full = true) (hi : Nat) (lo : Option Nat) :
    s.sendHi m hi lo = s.overrun m :=
  (if_neg (ne_true_of_eq_false hc)).trans (if_pos hf)

theorem sendLo_discards (hc : s.boxClosed m = true) (v : Nat) : s.sendLo m v = s.setBox m (s.box m).discarding := if_pos hc

theorem sendHi_discards (hc : s.boxClosed m = true) (hi : Nat) (lo : Option Nat) :
    s.sendHi m hi lo = s.setBox m (s.box m).discarding := if_pos hc

end

/-- An overrun is noted in the mailbox and reported, which resets no block (15 R782). -/
theorem within_overrun (s : State) (m : Nat) : Within [.mbx, .flt, .husk] s (s.overrun m) :=
  (within_setBox s m _).seq (within_report _ rfl rfl)

theorem overrun_box (s : State) (m : Nat) : (s.overrun m).box m = (s.box m).overran := by
  obtain ⟨hmbx, -⟩ := (within_report (s.setBox m (s.box m).overran) (src := 32) (detail := m) rfl rfl).only.2 .mbx (by decide)
  exact (box_congr hmbx m).trans (setBox_same s m _)

/-! ### What a read of DATA_HI does (05 R269) -/

theorem takeHi_empty {s : State} {m : Nat} (hf : (s.box m).full = false) : s.takeHi m = s := if_neg (ne_true_of_eq_false hf)

theorem takeHi_full {s : State} {m : Nat} (hf : (s.box m).full = true) (hm : ¬(16 ≤ m ∧ m < 32)) :
    s.takeHi m = s.setBox m { s.box m with full := false } :=
  (if_pos hf).trans (if_neg hm)

/-- The host's read of a notice also takes its command out of flight (06 R330). -/
theorem takeHi_notice {s : State} {k : Fin 16} (hf : (s.box (16 + k)).full = true) :
    s.takeHi (16 + k) = (s.setBox (16 + k) { s.box (16 + k) with full := false }).noticeTaken k := by
  have hnotice : s.takeHi (16 + k) = (s.setBox (16 + k) { s.box (16 + k) with full := false }).noticeTaken (16 + k - 16) :=
    (if_pos hf).trans (if_pos ⟨Nat.le_add_right 16 k, by omega⟩)
  rwa [Nat.add_sub_cancel_left] at hnotice

theorem within_noticeTaken (s : State) (k : Nat) : Within [.hazel] s (s.noticeTaken k) := within_setHazel s _

/-- The mailboxes between 16 and 31 are those that carry notices to the host. -/
theorem mbxIndex_of_not_d2h {m : Mailbox} (h : ∀ k, m ≠ .d2h k) : ¬(16 ≤ mbxIndex m ∧ mbxIndex m < 32) := by
  cases m with
  | h2d k => exact fun hk => absurd hk.1 (Nat.not_le.2 k.isLt)
  | d2h k => exact absurd rfl (h k)
  | hz2pip => decide
  | pip2hz => decide

/-! ### The commands, by what they do to the mailbox -/

section
variable {s : State} {m : Mailbox} {P : State → Prop}

theorem does_mbxDataLoWrite (h : s.senderUp (mbxIndex m) = true) (v : Word32) :
    Does (.mbxDataLoWrite m v) s P ↔ P (s.begin.sendLo (mbxIndex m) v.toNat).settle := by
  rw [does_run (exec_mbxDataLoWrite m v s), if_pos ((begin_senderUp s _).trans h)]

theorem does_mbxDataHiWrite (h : s.senderUp (mbxIndex m) = true) (hi : Word32) (lo : Option Word32) :
    Does (.mbxDataHiWrite m hi lo) s P ↔ P (s.begin.sendHi (mbxIndex m) hi.toNat (lo.map BitVec.toNat)).settle := by
  rw [does_run (exec_mbxDataHiWrite m hi lo s), if_pos ((begin_senderUp s _).trans h)]

theorem does_mbxDataHiRead (h : s.receiverUp (mbxIndex m) = true) :
    Does (.mbxDataHiRead m) s P ↔
      P ((s.begin.takeHi (mbxIndex m)).setAnswer (.data (BitVec.ofNat 64 (s.box (mbxIndex m)).value))).settle := by
  rw [does_run (exec_mbxDataHiRead m s), if_pos ((begin_receiverUp s _).trans h)]
  rfl

end

/-- A command whose effect is on one mailbox. -/
theorem setBox_settled (s : State) (m : Nat) (x : Mbx) : (s.begin.setBox m x).settle.box m = x ∧
    (∀ k, k ≠ m → (s.begin.setBox m x).settle.box k = s.box k) ∧ Only [.mbx] s (s.begin.setBox m x).settle := by
  refine ⟨(settle_box _ m).trans (setBox_same s.begin m x), fun k hk => ?_, (within_setBox s.begin m x).settled⟩
  rw [settle_box, box_setBox, if_neg hk, begin_box]

theorem overrun_settled (s : State) (m : Nat) : (s.begin.overrun m).settle.box m = (s.box m).overran ∧
    Only [.mbx, .flt, .husk] s (s.begin.overrun m).settle :=
  ⟨(settle_box _ m).trans (overrun_box s.begin m), (within_overrun s.begin m).settled⟩

theorem word32_mod (v : Word32) : v.toNat % 2 ^ 32 = v.toNat := Nat.mod_eq_of_lt v.isLt

/-! ### The clauses on mailboxes -/

section
variable {s : State} {m : Mailbox}

theorem mbxDataLoWrite_stores (hup : s.senderUp (mbxIndex m) = true) (hc : s.boxClosed (mbxIndex m) = false)
    (hf : (s.box (mbxIndex m)).full = false) (v : Word32) : Does (.mbxDataLoWrite m v) s fun t =>
      t.box (mbxIndex m) = { s.box (mbxIndex m) with lo := v.toNat, half := true } ∧
        (∀ k, k ≠ mbxIndex m → t.box k = s.box k) ∧ Only [.mbx] s t := by
  rw [does_mbxDataLoWrite hup, sendLo_stores (s := s.begin) hc hf, word32_mod]
  exact setBox_settled s _ _

theorem mbxDataHiWrite_fills (hup : s.senderUp (mbxIndex m) = true) (hc : s.boxClosed (mbxIndex m) = false)
    (hf : (s.box (mbxIndex m)).full = false) (hi lo : Word32) : Does (.mbxDataHiWrite m hi (some lo)) s fun t =>
      (t.box (mbxIndex m)).value = hi.toNat * 2 ^ 32 + lo.toNat ∧ (t.box (mbxIndex m)).full = true ∧
        (∀ k, k ≠ mbxIndex m → t.box k = s.box k) ∧ Only [.mbx] s t := by
  rw [does_mbxDataHiWrite hup, Option.map_some, sendHi_stores (s := s.begin) hc hf, word32_mod, word32_mod]
  obtain ⟨hbox, hother, hframe⟩ := setBox_settled s (mbxIndex m) ((s.box (mbxIndex m)).written hi.toNat lo.toNat)
  exact ⟨(congrArg Mbx.value hbox).trans (Mbx.value_written _ _ _), congrArg Mbx.full hbox, hother, hframe⟩

theorem mbxDataHiWrite_alone (hup : s.senderUp (mbxIndex m) = true) (hc : s.boxClosed (mbxIndex m) = false)
    (hf : (s.box (mbxIndex m)).full = false) (hi : Word32) : Does (.mbxDataHiWrite m hi none) s fun t =>
      (t.box (mbxIndex m)).hi = hi.toNat ∧ (t.box (mbxIndex m)).lo = (s.box (mbxIndex m)).lo % 2 ^ 32 ∧
        (t.box (mbxIndex m)).full = true ∧ (t.box (mbxIndex m)).half = false ∧ Only [.mbx] s t := by
  rw [does_mbxDataHiWrite hup, Option.map_none, sendHi_alone (s := s.begin) hc hf, word32_mod]
  obtain ⟨hbox, -, hframe⟩ := setBox_settled s (mbxIndex m)
    ((s.box (mbxIndex m)).written hi.toNat ((s.box (mbxIndex m)).lo % 2 ^ 32))
  exact ⟨congrArg Mbx.hi hbox, congrArg Mbx.lo hbox, congrArg Mbx.full hbox, congrArg Mbx.half hbox, hframe⟩

theorem mbxWrite_overruns (hup : s.senderUp (mbxIndex m) = true) (hc : s.boxClosed (mbxIndex m) = false)
    (hf : (s.box (mbxIndex m)).full = true) (v : Word32) (lo : Option Word32) :
    Does (.mbxDataHiWrite m v lo) s (fun t =>
      t.box (mbxIndex m) = (s.box (mbxIndex m)).overran ∧ Only [.mbx, .flt, .husk] s t) ∧
    Does (.mbxDataLoWrite m v) s fun t =>
      t.box (mbxIndex m) = (s.box (mbxIndex m)).overran ∧ Only [.mbx, .flt, .husk] s t := by
  rw [does_mbxDataHiWrite hup, does_mbxDataLoWrite hup, sendHi_overruns (s := s.begin) hc hf, sendLo_overruns (s := s.begin) hc hf]
  exact ⟨overrun_settled s _, overrun_settled s _⟩

theorem mbxWrite_discarded (hup : s.senderUp (mbxIndex m) = true) (hc : s.boxClosed (mbxIndex m) = true) (v : Word32)
    (lo : Option Word32) :
    Does (.mbxDataHiWrite m v lo) s (fun t => t.box (mbxIndex m) = (s.box (mbxIndex m)).discarding ∧ Only [.mbx] s t) ∧
    Does (.mbxDataLoWrite m v) s fun t => t.box (mbxIndex m) = (s.box (mbxIndex m)).discarding ∧ Only [.mbx] s t := by
  rw [does_mbxDataHiWrite hup, does_mbxDataLoWrite hup, sendHi_discards (s := s.begin) hc, sendLo_discards (s := s.begin) hc]
  obtain ⟨hbox, -, hframe⟩ := setBox_settled s (mbxIndex m) (s.box (mbxIndex m)).discarding
  exact ⟨⟨hbox, hframe⟩, hbox, hframe⟩

/-- A mailbox that carries no notice: a read of an empty one answers what stands, and changes nothing. -/
theorem mbxDataHiRead_takes (hup : s.receiverUp (mbxIndex m) = true) (hm : ∀ k, m ≠ .d2h k) : Does (.mbxDataHiRead m) s fun t =>
    t.answer = .data (BitVec.ofNat 64 (s.box (mbxIndex m)).value) ∧ t.box (mbxIndex m) = { s.box (mbxIndex m) with full := false } ∧
      (∀ k, k ≠ mbxIndex m → t.box k = s.box k) ∧ Only [.mbx] s t := by
  rw [does_mbxDataHiRead hup]
  refine ⟨(settled_settle _).answer, ?_⟩
  cases hf : (s.box (mbxIndex m)).full
  · rw [takeHi_empty (s := s.begin) hf, ← hf]
    exact ⟨settle_box _ _, fun k _ => settle_box _ k, ((within_setAnswer s.begin _).widen (by decide)).settled⟩
  · rw [takeHi_full (s := s.begin) hf (mbxIndex_of_not_d2h hm)]
    have hframe := (within_setBox s.begin (mbxIndex m) { s.box (mbxIndex m) with full := false }).seq (within_setAnswer _
      (.data (BitVec.ofNat 64 (s.box (mbxIndex m)).value)))
    exact ⟨(settle_box _ _).trans (setBox_same s.begin _ _),
      fun k hk => (settle_box _ k).trans ((box_setBox s.begin _ k _).trans (if_neg hk)), hframe.settled⟩

end

/-- The host reads a notice: the command it tells of is no longer in flight (06 R330). -/
theorem mbxDataHiRead_notice {s : State} {k : Fin 16} (hup : s.receiverUp (16 + k) = true) :
    Does (.mbxDataHiRead (.d2h k)) s fun t =>
      t.answer = .data (BitVec.ofNat 64 (s.box (16 + k)).value) ∧ (t.box (16 + k)).full = false ∧
        ((s.box (16 + k)).full = true →
          t.hazel.jobs = s.hazel.jobs.filter fun c => !(c.queue == k.val && c.phase == .noticed)) ∧ Only [.mbx, .hazel] s t := by
  rw [does_mbxDataHiRead (m := .d2h k) hup, mbxIndex]
  refine ⟨(settled_settle _).answer, ?_⟩
  cases hf : (s.box (16 + k)).full
  · rw [takeHi_empty (s := s.begin) hf]
    exact ⟨(congrArg Mbx.full (settle_box _ _)).trans hf, nofun, ((within_setAnswer s.begin _).widen (by decide)).settled⟩
  · have hframe := (((within_setBox s.begin (16 + k) { s.box (16 + k) with full := false }).seq (within_noticeTaken _ k)).seq
      (within_setAnswer _ (.data (BitVec.ofNat 64 (s.box (16 + k)).value)))).settled
    rw [takeHi_notice (s := s.begin) hf]
    exact ⟨(congrArg Mbx.full (settle_box _ _)).trans (congrArg Mbx.full (setBox_same s.begin (16 + k) _)),
      fun _ => congrArg Hazel.jobs (settled_settle _).hazel, hframe⟩

/-- Settles O23: an open empty mailbox stores what is written, a full one is overrun, a closed one counts, and a read of DATA_HI
takes the value, with its command where it was a notice. -/
theorem mailboxesCarryOneValue : Obligations.MailboxesCarryOneValue := by
  unfold Obligations.MailboxesCarryOneValue
  intro s m
  refine ⟨fun hup hc hf => ⟨mbxDataLoWrite_stores hup hc hf, mbxDataHiWrite_fills hup hc hf, mbxDataHiWrite_alone hup hc hf⟩,
    mbxWrite_overruns, mbxWrite_discarded, mbxDataHiRead_takes, ?_⟩
  rintro k rfl hup
  exact mbxDataHiRead_notice hup

end Sys2Proof.Machine
end

section
/-! PROOFS of 05_mailboxes_interrupts.md. The interrupt controller: edges, levels and writes of ICU_PEND (R286 to R289, R303, R312),
claims and completions (R294, R295), and cores that wait (R299, R300, R323). -/

namespace Sys2Proof.Machine

/-! ### Targets of the interrupt controller (05 R287) -/

theorem tgt_setTgt (s : State) (x y : Target) (v : IcuTgt) : (s.setTgt x v).tgt y = if y = x then v else s.tgt y := by
  cases x <;> cases y <;> rfl

theorem within_setTgt (s : State) (x : Target) (v : IcuTgt) : Within [.icu] s (s.setTgt x v) := ⟨only_icu s _, by decide⟩

/-- What the interrupt controller keeps at every step, each of its targets keeps. -/
theorem tgt_kept {s t : State} (h : t.icu.kept = s.icu.kept) (x : Target) : (t.tgt x).kept = (s.tgt x).kept := by
  cases x
  case hazelA => exact congrArg Icu.hazelA h
  case hazelB => exact congrArg Icu.hazelB h
  case pip => exact congrArg Icu.pip h
  case host => exact congrArg Icu.host h

theorem settle_tgt_kept (s : State) (x : Target) : (s.settle.tgt x).kept = (s.tgt x).kept := by
  obtain ⟨-, hicu, -⟩ := settle_rest s
  exact tgt_kept hicu x

theorem keptTgt {α : Type} (f : IcuTgt → α) {a b : IcuTgt} (e : a.kept = b.kept) (hf : ∀ x : IcuTgt, f x.kept = f x) :
    f a = f b := by rw [← hf a, ← hf b, e]

@[simp] theorem settle_tgt_pend (s : State) (x : Target) : (s.settle.tgt x).pend = (s.tgt x).pend :=
  keptTgt IcuTgt.pend (settle_tgt_kept s x) fun _ => rfl
@[simp] theorem settle_tgt_svc (s : State) (x : Target) : (s.settle.tgt x).svc = (s.tgt x).svc :=
  keptTgt IcuTgt.svc (settle_tgt_kept s x) fun _ => rfl
@[simp] theorem settle_tgt_asleep (s : State) (x : Target) : (s.settle.tgt x).asleep = (s.tgt x).asleep :=
  keptTgt IcuTgt.asleep (settle_tgt_kept s x) fun _ => rfl
@[simp] theorem settle_tgt_sleepAborted (s : State) (x : Target) : (s.settle.tgt x).sleepAborted = (s.tgt x).sleepAborted :=
  keptTgt IcuTgt.sleepAborted (settle_tgt_kept s x) fun _ => rfl

/-- A command has left `v` at target `x`, but for its line and its NOTIFIED state, and the other targets and parts as they were. -/
structure TgtPut (s t : State) (x : Target) (v : IcuTgt) : Prop where
  kept : (t.tgt x).kept = v.kept
  other : ∀ y, y ≠ x → (t.tgt y).kept = (s.tgt y).kept
  frame : Only [.icu] s t

section
variable {s t : State} {x : Target} {v : IcuTgt}

theorem TgtPut.pend (h : TgtPut s t x v) : (t.tgt x).pend = v.pend := keptTgt IcuTgt.pend h.kept fun _ => rfl
theorem TgtPut.svc (h : TgtPut s t x v) : (t.tgt x).svc = v.svc := keptTgt IcuTgt.svc h.kept fun _ => rfl
theorem TgtPut.asleep (h : TgtPut s t x v) : (t.tgt x).asleep = v.asleep := keptTgt IcuTgt.asleep h.kept fun _ => rfl
theorem TgtPut.spurious (h : TgtPut s t x v) : (t.tgt x).spurious = v.spurious := keptTgt IcuTgt.spurious h.kept fun _ => rfl
theorem TgtPut.badComplete (h : TgtPut s t x v) : (t.tgt x).badComplete = v.badComplete :=
  keptTgt IcuTgt.badComplete h.kept fun _ => rfl

theorem TgtPut.pend_other (h : TgtPut s t x v) (y : Target) (hy : y ≠ x) : (t.tgt y).pend = (s.tgt y).pend :=
  keptTgt IcuTgt.pend (h.other y hy) fun _ => rfl
theorem TgtPut.asleep_other (h : TgtPut s t x v) (y : Target) (hy : y ≠ x) : (t.tgt y).asleep = (s.tgt y).asleep :=
  keptTgt IcuTgt.asleep (h.other y hy) fun _ => rfl

end

/-- An effect that puts a target, and moves NOTIFIED states at most, settles to that. -/
theorem TgtPut.settle {s u : State} {x : Target} {v : IcuTgt} (h : u.icu.kept = (s.begin.setTgt x v).icu.kept)
    (hu : Within [.icu] s.begin u) : TgtPut s u.settle x v where
  kept := by rw [settle_tgt_kept, tgt_kept h, setTgt_same]
  other y hy := by rw [settle_tgt_kept, tgt_kept h, tgt_setTgt, if_neg hy, begin_tgt]
  frame := hu.settled

theorem setTgt_settled (s : State) (x : Target) (v : IcuTgt) : TgtPut s (s.begin.setTgt x v).settle x v :=
  .settle rfl (within_setTgt s.begin x v)

/-! ### Edges (05 R288, R326) -/

theorem icuBit_getLsbD (i j : Nat) : (icuBit i).getLsbD j = (decide (j < 256) && decide (i = j)) := by
  rw [icuBit, BitVec.getLsbD_ofNat, Nat.testBit_two_pow]

theorem icuBit_and (i : Nat) (m : BitVec 256) : icuBit i &&& m = if m.getLsbD i = true then icuBit i else 0 := by
  have hbit : icuBit i = BitVec.twoPow 256 i := BitVec.eq_of_getLsbD_eq fun j hj => by
    rw [icuBit_getLsbD, BitVec.getLsbD_twoPow]
    by_cases hij : i = j <;> simp [hij, hj]
  rw [hbit]
  exact BitVec.twoPow_and m i

theorem tgt_edges {s : State} (h : s.ready 14 = true) (m : BitVec 256) (x : Target) : (s.edges m).tgt x = (s.tgt x).edge m := by
  rw [State.edges, if_pos h]
  cases x <;> rfl

theorem within_edges (s : State) (m : BitVec 256) : Within [.icu] s (s.edges m) := by
  unfold State.edges
  exact (((only_icu s _).within (by decide)).ite (Within.refl s)).widen (by decide)

theorem edges_zero (s : State) : s.edges 0 = s := by
  have hedge : ∀ t : IcuTgt, t.edge 0 = t := fun t =>
    congrArg (fun p => { t with pend := p }) BitVec.or_zero
  unfold State.edges
  simp only [hedge, ite_self]

/-- An edge of an assigned edge source sets its bit. -/
theorem edge_eq (s : State) {i : Nat} (h : (icuAssigned &&& ~~~icuLevels).getLsbD i = true) : s.edge i = s.edges (icuBit i) := by
  rw [State.edge, BitVec.and_assoc, icuBit_and, if_pos h]

theorem edge_ignored {s : State} {i : Nat} (h : s.ready 14 = false ∨ (icuAssigned &&& ~~~icuLevels).getLsbD i = false) :
    s.edge i = s := by
  obtain h | h := h
  · exact if_neg (ne_true_of_eq_false h)
  · rw [State.edge, BitVec.and_assoc, icuBit_and, if_neg (ne_true_of_eq_false h), edges_zero]

/-- Edges that a command makes, at every target. -/
theorem edges_settled {s t : State} {m : BitVec 256} (h : s.ready 14 = true) (ht : t = (s.begin.edges m).settle) (x : Target) :
    (t.tgt x).pend = (s.tgt x).pend ||| m ∧ (t.tgt x).en = (s.tgt x).en ∧ (t.tgt x).svc = (s.tgt x).svc ∧ Only [.icu] s t := by
  have htgt : (s.begin.edges m).tgt x = (s.tgt x).edge m := by rw [tgt_edges ((begin_ready s 14).trans h), begin_tgt]
  rw [ht, settle_tgt_pend, settle_tgt_en, settle_tgt_svc, htgt]
  exact ⟨rfl, rfl, rfl, (within_edges s.begin m).settled⟩

theorem icuEdgeRequest_pends {s : State} (src : Fin 256) (h14 : s.ready 14 = true)
    (h : (icuAssigned &&& ~~~icuLevels).getLsbD src = true) : Does (.icuEdgeRequest src) s fun t => ∀ x : Target,
      (t.tgt x).pend = (s.tgt x).pend ||| icuBit src ∧ (t.tgt x).en = (s.tgt x).en ∧ (t.tgt x).svc = (s.tgt x).svc ∧
      Only [.icu] s t := by
  rw [does_run (exec_icuEdgeRequest src s), edge_eq s.begin h]
  exact edges_settled h14 rfl

theorem icuEdgeRequest_ignored {s : State} (src : Fin 256)
    (h : s.ready 14 = false ∨ (icuAssigned &&& ~~~icuLevels).getLsbD src = false) :
    Does (.icuEdgeRequest src) s fun t => Only [] s t := by
  rw [does_run (exec_icuEdgeRequest src s), edge_ignored (by rwa [begin_ready])]
  obtain ⟨-, hframe⟩ := begin_settled s
  exact hframe

theorem byte_mod (v : Byte) : v.toNat % 256 = v.toNat := Nat.mod_eq_of_lt v.isLt

theorem icuSwiSet_pends {s : State} (x : Target) (v : Byte) (hview : s.viewUp x = true) (hx : x ≠ .host) :
    Does (.icuSwiSet x v) s fun t => (∀ y : Target, (t.tgt y).pend = (s.tgt y).pend ||| BitVec.ofNat 256 (v.toNat * 2 ^ 96)) ∧
      Only [.icu] s t := by
  have hguard : (s.begin.viewUp x && x != .host) = true := by simp [hview, hx]
  have h14 : s.ready 14 = true := (Bool.and_eq_true_iff.1 hview).1
  rw [does_run (exec_icuSwiSet x v s), if_pos hguard, State.swiSet, byte_mod]
  exact ⟨fun y => (edges_settled h14 rfl y).1, (within_edges s.begin _).settled⟩

/-- The host's view has no ICU_SWI_SET. -/
theorem icuSwiSet_host (s : State) (v : Byte) : Does (.icuSwiSet .host v) s fun t => Only [] s t := by
  rw [does_run (exec_icuSwiSet .host v s), if_neg (by simp)]
  exact (begin_settled s).2

/-! ### Levels (05 R286, R289) -/

/-- The state with its interrupt controller replaced. -/
def State.setIcu (s : State) (u : Icu) : State := { s with icu := u }

theorem within_setIcu (s : State) (u : Icu) : Within [.icu] s (s.setIcu u) := ⟨only_icu s u, by decide⟩

/-- Messages that leave change nothing in the interrupt controller. -/
theorem sent_icu (c : Prop) [Decidable c] (t : State) (m : BitVec 64) (n : Nat) :
    (if c then t else t.messages m n).icu = t.icu := by
  split
  · rfl
  · obtain ⟨-, hicu, -⟩ := messages_husk t m n
    exact hicu

theorem settle_level (s : State) :
    s.settle.icu.level = if s.ready 14 then (s.levels ||| s.icu.ext) &&& icuLevels else 0 := by
  obtain ⟨-, hpump, -⟩ := cfgPump_rest s.settleIcu.wakePip
  obtain ⟨-, hwake, -⟩ := wakePip_rest s.settleIcu
  have hicu : s.settleIcu.icu.level = if s.ready 14 then (s.levels ||| s.icu.ext) &&& icuLevels else 0 :=
    congrArg Icu.level (sent_icu _ _ _ _)
  rw [State.settle, hpump, hwake, hicu]

/-- A level that is requested while the controller is ready stands. -/
theorem settle_level_getLsbD {s : State} {i : Nat} (h14 : s.ready 14 = true) (hl : icuLevels.getLsbD i = true)
    (he : s.icu.ext.getLsbD i = true) : s.settle.icu.level.getLsbD i = true := by
  rw [settle_level, if_pos h14, BitVec.getLsbD_and, BitVec.getLsbD_or, he, hl, Bool.or_true, Bool.and_true]

theorem does_icuLevelChange {s : State} {src : Fin 256} {P : State → Prop} (h : icuLevels.getLsbD src = true) (level : Bool) :
    Does (.icuLevelChange src level) s P ↔ P (s.begin.setIcu
      { s.icu with ext := if level then s.icu.ext ||| icuBit src else s.icu.ext &&& ~~~icuBit src }).settle := by
  rw [does_run (exec_icuLevelChange src level s), icuBit_and, if_pos h]
  rfl

theorem icuLevelChange_follows {s : State} (src : Fin 256) (h14 : s.ready 14 = true) (h : icuLevels.getLsbD src = true) :
    Does (.icuLevelChange src true) s (fun t => t.icu.ext = s.icu.ext ||| icuBit src ∧ t.icu.level.getLsbD src = true ∧
      Only [.icu] s t) ∧
    Does (.icuLevelChange src false) s fun t => t.icu.ext = s.icu.ext &&& ~~~icuBit src ∧ Only [.icu] s t := by
  have hbit : (s.icu.ext ||| icuBit src).getLsbD src = true := by simp [icuBit_getLsbD]
  rw [does_icuLevelChange h, does_icuLevelChange h]
  exact ⟨⟨settle_icu_ext _, settle_level_getLsbD h14 h hbit, (within_setIcu s.begin _).settled⟩,
    settle_icu_ext _, (within_setIcu s.begin _).settled⟩

/-! ### Writes of ICU_PEND (05 R303) -/

/-- The bits of word `i`. -/
theorem wordMask_getLsbD (i b : Nat) (hb : b < 256) :
    (BitVec.ofNat 256 ((2 ^ 32 - 1) * 2 ^ (32 * i))).getLsbD b = decide (b / 32 = i) := by
  rw [BitVec.getLsbD_ofNat, Nat.testBit_mul_two_pow, Nat.testBit_two_pow_sub_one, ← Bool.decide_and, ← Bool.decide_and]
  exact decide_eq_decide.2 (by omega)

/-- A word put at place `i`, read in that word. -/
theorem wordAt_getLsbD (v : Word32) {i b : Nat} (hb : b < 256) (hi : b / 32 = i) :
    (BitVec.ofNat 256 (v.toNat % 2 ^ 32 * 2 ^ (32 * i))).getLsbD b = v.getLsbD (b % 32) := by
  have hplace : b - 32 * i = b % 32 := by omega
  have hle : 32 * i ≤ b := by omega
  rw [word32_mod, BitVec.getLsbD_ofNat, Nat.testBit_mul_two_pow, hplace, BitVec.testBit_toNat, decide_eq_true hb, decide_eq_true hle,
    Bool.true_and, Bool.true_and]

/-- The bits of word `i` that a write of ICU_PEND reaches. -/
def pendField (i : Nat) : BitVec 256 := BitVec.ofNat 256 ((2 ^ 32 - 1) * 2 ^ (32 * i)) &&& icuAssigned &&& ~~~icuLevels

theorem pendField_getLsbD (i b : Nat) (hb : b < 256) :
    (pendField i).getLsbD b = (decide (b / 32 = i) && (icuAssigned &&& ~~~icuLevels).getLsbD b) := by
  rw [pendField, BitVec.and_assoc, BitVec.getLsbD_and, wordMask_getLsbD i b hb]

/-- The pending bits of a target after a write of word `i` of its ICU_PEND. -/
def IcuTgt.pendWritten (t : IcuTgt) (i v : Nat) : BitVec 256 :=
  (t.pend &&& ~~~pendField i) ||| (BitVec.ofNat 256 (v % 2 ^ 32 * 2 ^ (32 * i)) &&& pendField i)

theorem writePend_eq (s : State) (x : Target) (i v : Nat) :
    s.writePend x i v = s.setTgt x { s.tgt x with pend := (s.tgt x).pendWritten i v } := rfl

theorem pendWritten_getLsbD (t : IcuTgt) (i : Fin 8) (v : Word32) (b : Fin 256) : (t.pendWritten i v.toNat).getLsbD b =
    if b.val / 32 = i ∧ (icuAssigned &&& ~~~icuLevels).getLsbD b then v.getLsbD (b.val % 32) else t.pend.getLsbD b := by
  rw [IcuTgt.pendWritten, BitVec.getLsbD_or, BitVec.getLsbD_and, BitVec.getLsbD_and, BitVec.getLsbD_not,
    pendField_getLsbD _ _ b.isLt]
  generalize (icuAssigned &&& ~~~icuLevels).getLsbD b = edge
  by_cases hword : b.val / 32 = i
  · rw [wordAt_getLsbD v b.isLt hword]
    cases edge <;> simp [hword]
  · simp [hword]

theorem icuPendWrite_stores {s : State} (x : Target) (i : Fin 8) (v : Word32) (hview : s.viewUp x = true) :
    Does (.icuPendWrite x i v) s fun t =>
      (∀ b : Fin 256, (t.tgt x).pend.getLsbD b =
        if b.val / 32 = i ∧ (icuAssigned &&& ~~~icuLevels).getLsbD b then v.getLsbD (b.val % 32) else (s.tgt x).pend.getLsbD b) ∧
      (∀ y : Target, y ≠ x → (t.tgt y).pend = (s.tgt y).pend) ∧ Only [.icu] s t := by
  rw [does_run (exec_icuPendWrite x i v s), if_pos ((begin_viewUp s x).trans hview), writePend_eq, begin_tgt]
  have hput := setTgt_settled s x { s.tgt x with pend := (s.tgt x).pendWritten i v.toNat }
  refine ⟨fun b => ?_, hput.pend_other, hput.frame⟩
  rw [hput.pend, pendWritten_getLsbD]

/-! ### Claims (05 R290, R294) -/

/-- NOTIFIED states belong to what follows from the rest (05 R291). -/
theorem clearNotified_kept (s : State) (x : Target) (v : Nat) : (s.clearNotified x v).icu.kept = s.icu.kept := by
  cases x <;> rfl

theorem within_clearNotified (s : State) (x : Target) (v : Nat) : Within [.icu] s (s.clearNotified x v) := by
  cases x
  case host => exact within_setIcu s _
  case hazelA | hazelB | pip => exact within_setTgt s _ _

/-- A target with source `i` taken into service. -/
def IcuTgt.serving (t : IcuTgt) (i : Nat) : IcuTgt := { t with svc := t.svc ||| icuBit i, pend := t.pend &&& ~~~icuBit i }

/-- A target that counts a spurious claim. -/
def IcuTgt.missed (t : IcuTgt) : IcuTgt := { t with spurious := satAdd 16 t.spurious 1 }

theorem begin_best (s : State) (x : Target) (v : Nat) :
    s.begin.icu.best (s.begin.claimable x v) 256 = s.icu.best (s.claimable x v) 256 :=
  congrArg (s.icu.best · 256) (begin_claimable s x v)

section
variable {s : State} {x : Target} {v : Nat}

theorem claim_takes {i : Nat} (h : s.icu.best (s.claimable x v) 256 = some i) :
    s.claim x v = (i, (s.setTgt x ((s.tgt x).serving i)).clearNotified x v) := by
  unfold State.claim
  simp only [h]
  rfl

theorem claim_misses (h : s.icu.best (s.claimable x v) 256 = none) (hn : s.notifiedAt x v = true) :
    s.claim x v = (255, (s.clearNotified x v).setTgt x ((s.clearNotified x v).tgt x).missed) := by
  unfold State.claim
  simp only [h]
  exact if_pos hn

theorem claim_finds_nothing (h : s.icu.best (s.claimable x v) 256 = none) (hn : s.notifiedAt x v = false) :
    s.claim x v = (0, s) := by
  unfold State.claim
  simp only [h]
  exact if_neg (ne_true_of_eq_false hn)

end

section
variable {s : State} {x : Target} {v : Fin 64}

theorem does_icuClaim {P : State → Prop} (hview : s.viewUp x = true) : Does (.icuClaim x v) s P ↔
    P ((s.begin.claim x v).2.setAnswer (.data (BitVec.ofNat 64 (s.begin.claim x v).1))).settle := by
  rw [does_run (exec_icuClaim x v s), if_pos ((begin_viewUp s x).trans hview)]
  rfl

theorem icuClaim_takes (hview : s.viewUp x = true) (i : Nat) (h : s.icu.best (s.claimable x v) 256 = some i) :
    Does (.icuClaim x v) s fun t => t.answer = .data (BitVec.ofNat 64 i) ∧ (t.tgt x).svc = (s.tgt x).svc ||| icuBit i ∧
      (t.tgt x).pend = (s.tgt x).pend &&& ~~~icuBit i ∧ (∀ y : Target, y ≠ x → (t.tgt y).pend = (s.tgt y).pend) ∧
      Only [.icu] s t := by
  rw [does_icuClaim hview, claim_takes (s := s.begin) ((begin_best s x v).trans h), begin_tgt]
  have hput : TgtPut s (((s.begin.setTgt x ((s.tgt x).serving i)).clearNotified x v).setAnswer
      (.data (BitVec.ofNat 64 i))).settle x ((s.tgt x).serving i) :=
    .settle (clearNotified_kept _ x v) ((((within_setTgt s.begin x _).seq (within_clearNotified _ x v)).seq
      (within_setAnswer _ _)).widen (by decide))
  exact ⟨(settled_settle _).answer, hput.svc, hput.pend, hput.pend_other,
    hput.frame⟩

theorem setTgt_missed_kept (u : State) (x : Target) (v : Nat) :
    ((u.clearNotified x v).setTgt x ((u.clearNotified x v).tgt x).missed).icu.kept = (u.setTgt x (u.tgt x).missed).icu.kept := by
  cases x <;> rfl

theorem icuClaim_misses (hview : s.viewUp x = true) (h : s.icu.best (s.claimable x v) 256 = none)
    (hn : s.notifiedAt x v = true) : Does (.icuClaim x v) s fun t => t.answer = .data 255 ∧
      (t.tgt x).spurious = satAdd 16 (s.tgt x).spurious 1 ∧ (t.tgt x).svc = (s.tgt x).svc ∧ (t.tgt x).pend = (s.tgt x).pend ∧
      Only [.icu] s t := by
  rw [does_icuClaim hview, claim_misses (s := s.begin) ((begin_best s x v).trans h) ((begin_notifiedAt s x v).trans hn)]
  have hput : TgtPut s (((s.begin.clearNotified x v).setTgt x ((s.begin.clearNotified x v).tgt x).missed).setAnswer
      (.data 255)).settle x (s.begin.tgt x).missed :=
    .settle (setTgt_missed_kept s.begin x v) ((((within_clearNotified s.begin x v).seq (within_setTgt _ x _)).seq
      (within_setAnswer _ _)).widen (by decide))
  rw [begin_tgt] at hput
  exact ⟨(settled_settle _).answer, hput.spurious, hput.svc,
    hput.pend, hput.frame⟩

theorem icuClaim_finds_nothing (hview : s.viewUp x = true) (h : s.icu.best (s.claimable x v) 256 = none)
    (hn : s.notifiedAt x v = false) : Does (.icuClaim x v) s fun t => t.answer = .data 0 ∧ Only [] s t := by
  rw [does_icuClaim hview, claim_finds_nothing (s := s.begin) ((begin_best s x v).trans h) ((begin_notifiedAt s x v).trans hn)]
  exact setAnswer_settled s (.data 0)

end

/-! ### Completions (05 R295) -/

section
variable {s : State} {x : Target} {i : Fin 256}

theorem does_icuComplete {P : State → Prop} (hview : s.viewUp x = true) :
    Does (.icuComplete x i) s P ↔ P (s.begin.complete x i).settle := by
  rw [does_run (exec_icuComplete x i s), if_pos ((begin_viewUp s x).trans hview)]

theorem icuComplete_ends (hview : s.viewUp x = true) (h : (s.tgt x).svc.getLsbD i = true) :
    Does (.icuComplete x i) s fun t => (t.tgt x).svc = (s.tgt x).svc &&& ~~~icuBit i ∧
      (t.tgt x).badComplete = (s.tgt x).badComplete ∧ (t.tgt x).pend = (s.tgt x).pend ∧ Only [.icu] s t := by
  have hends : s.begin.complete x i = s.begin.setTgt x { s.tgt x with svc := (s.tgt x).svc &&& ~~~icuBit i } := by
    rw [State.complete, begin_tgt, if_pos h]
  rw [does_icuComplete hview, hends]
  have hput := setTgt_settled s x { s.tgt x with svc := (s.tgt x).svc &&& ~~~icuBit i }
  exact ⟨hput.svc, hput.badComplete, hput.pend,
    hput.frame⟩

theorem icuComplete_counts (hview : s.viewUp x = true) (h : (s.tgt x).svc.getLsbD i = false) :
    Does (.icuComplete x i) s fun t => (t.tgt x).svc = (s.tgt x).svc ∧
      (t.tgt x).badComplete = satAdd 16 (s.tgt x).badComplete 1 ∧ Only [.icu] s t := by
  have hcounts : s.begin.complete x i = s.begin.setTgt x { s.tgt x with badComplete := satAdd 16 (s.tgt x).badComplete 1 } := by
    rw [State.complete, begin_tgt, if_neg (ne_true_of_eq_false h)]
  rw [does_icuComplete hview, hcounts]
  have hput := setTgt_settled s x { s.tgt x with badComplete := satAdd 16 (s.tgt x).badComplete 1 }
  exact ⟨hput.svc, hput.badComplete, hput.frame⟩

end

/-! ### Cores that wait, and wake (05 R299, R300, R323) -/

/-- A source whose edge pends is eligible where it is enabled, above the threshold and not in service (05 R290). -/
theorem eligible_edges_ne_zero {s : State} {x : Target} {i : Nat} (h14 : s.ready 14 = true)
    (hedge : (icuAssigned &&& ~~~icuLevels).getLsbD i = true) (hen : (s.tgt x).en.getLsbD i = true)
    (habove : (s.icu.above (s.tgt x).thresh).getLsbD i = true) (hsvc : (s.tgt x).svc.getLsbD i = false) :
    (s.edges (icuBit i)).icu.eligible ((s.edges (icuBit i)).tgt x) ≠ 0 := by
  have hi : i < 256 := BitVec.lt_of_getLsbD hen
  have hlevel : icuLevels.getLsbD i = false := by
    rw [BitVec.getLsbD_and, BitVec.getLsbD_not, Bool.and_eq_true, Bool.and_eq_true, Bool.not_eq_true'] at hedge
    obtain ⟨-, -, hlevel⟩ := hedge
    exact hlevel
  have habove' : (s.edges (icuBit i)).icu.above (s.tgt x).thresh = s.icu.above (s.tgt x).thresh := by
    rw [State.edges, if_pos h14]
    rfl
  have hbit : ((s.edges (icuBit i)).icu.eligible ((s.tgt x).edge (icuBit i))).getLsbD i = true := by
    have hthresh : ((s.tgt x).edge (icuBit i)).thresh = (s.tgt x).thresh := rfl
    rw [Icu.eligible, hthresh, habove']
    simp only [Icu.pending, IcuTgt.edge, BitVec.getLsbD_and, BitVec.getLsbD_or, BitVec.getLsbD_not, icuBit_getLsbD, hi, hlevel, hen,
      habove, hsvc, decide_true, Bool.not_false, Bool.and_true, Bool.or_true, Bool.true_or]
  rw [tgt_edges h14]
  intro h0
  rw [h0] at hbit
  exact absurd hbit (by simp)

section
variable {s : State} {x : Target}

theorem does_waitForInterrupt {c : Option (Fin 256)} {P : State → Prop} (hview : s.viewUp x = true) (hx : x ≠ .host) :
    Does (.waitForInterrupt x c) s P ↔ P (s.begin.sleep x (c.map Fin.val)).settle := by
  have hguard : (s.begin.viewUp x && x != .host) = true := by simp [hview, hx]
  rw [does_run (exec_waitForInterrupt x c s), if_pos hguard]

theorem waitForInterrupt_sleeps (hview : s.viewUp x = true) (hx : x ≠ .host) (h : s.icu.eligible (s.tgt x) = 0) :
    Does (.waitForInterrupt x none) s fun t => (t.tgt x).asleep = true ∧
      (∀ y : Target, y ≠ x → (t.tgt y).asleep = (s.tgt y).asleep) ∧ Only [.icu] s t := by
  have hsleep : s.begin.sleep x none = s.begin.setTgt x { s.tgt x with asleep := true } := if_neg (by simp [h])
  rw [does_waitForInterrupt hview hx, Option.map_none, hsleep]
  have hput := setTgt_settled s x { s.tgt x with asleep := true }
  exact ⟨hput.asleep, hput.asleep_other, hput.frame⟩

theorem waitForInterrupt_aborts (hview : s.viewUp x = true) (hx : x ≠ .host) (h : s.icu.eligible (s.tgt x) = 0) (i : Fin 256)
    (h14 : s.ready 14 = true) (hedge : (icuAssigned &&& ~~~icuLevels).getLsbD i = true) (hen : (s.tgt x).en.getLsbD i = true)
    (habove : (s.icu.above (s.tgt x).thresh).getLsbD i = true) (hsvc : (s.tgt x).svc.getLsbD i = false) :
    Does (.waitForInterrupt x (some i)) s fun t => (t.tgt x).sleepAborted = true ∧ (t.tgt x).asleep = (s.tgt x).asleep ∧
      (t.tgt x).pend.getLsbD i = true ∧ Only [.icu] s t := by
  have hne := eligible_edges_ne_zero (s := s.begin) (x := x) h14 hedge (by rwa [begin_tgt]) (by rwa [begin_tgt]) (by rwa [begin_tgt])
  have htgt : (s.begin.edges (icuBit i)).tgt x = (s.tgt x).edge (icuBit i) := by
    rw [tgt_edges ((begin_ready s 14).trans h14), begin_tgt]
  have hsleep : s.begin.sleep x (some i.val) =
      (s.begin.edges (icuBit i)).setTgt x { (s.tgt x).edge (icuBit i) with sleepAborted := true } := by
    rw [State.sleep, begin_tgt, if_neg (by simp [h])]
    dsimp only
    rw [edge_eq s.begin hedge, if_pos (by simpa using hne), htgt]
  have hpend : ((s.tgt x).edge (icuBit i)).pend.getLsbD i = true := by simp [IcuTgt.edge, icuBit_getLsbD]
  rw [does_waitForInterrupt hview hx, Option.map_some, hsleep, settle_tgt_sleepAborted, settle_tgt_asleep, settle_tgt_pend, setTgt_same]
  exact ⟨rfl, rfl, hpend, (((within_edges s.begin _).seq (within_setTgt _ x _)).widen (by decide)).settled⟩

theorem waitForInterrupt_goes_on (h : s.icu.eligible (s.tgt x) ≠ 0) : Does (.waitForInterrupt x none) s fun t => Only [] s t := by
  have hsleep : s.begin.sleep x none = s.begin := if_pos (by simpa using h)
  rw [does_run (exec_waitForInterrupt x none s), Option.map_none, hsleep, ite_self]
  exact (begin_settled s).2

/-- A waiting core with its line asserted resumes, where its clock runs. -/
theorem wakeCore_resumes (hasleep : (s.tgt x).asleep = true) (hline : (s.tgt x).line = true) (hx : x ≠ .host)
    (hclock : x = .pip ∨ s.pll 1 = .locked) : s.wakeCore x = s.setTgt x { s.tgt x with asleep := false } := by
  cases x
  case host => exact absurd rfl hx
  case pip => exact if_pos (by simp [hasleep, hline])
  case hazelA | hazelB => exact (if_pos (by simp [hasleep, hline])).trans (if_pos (by simpa using hclock))

/-- A core of Hazel whose clock is stopped asks for its PLL first (15 R797). -/
theorem wakeCore_asks (hasleep : (s.tgt x).asleep = true) (hline : (s.tgt x).line = true) (hx : x = .hazelA ∨ x = .hazelB)
    (hpll : s.pll 1 ≠ .locked) : s.wakeCore x = s.startPll .hazel 1 := by
  obtain rfl | rfl := hx
  · exact (if_pos (by simp [hasleep, hline])).trans (if_neg (by simpa using hpll))
  · exact (if_pos (by simp [hasleep, hline])).trans (if_neg (by simpa using hpll))

theorem coreWake_resumes (hasleep : (s.tgt x).asleep = true) (hline : (s.tgt x).line = true) (hx : x ≠ .host)
    (hclock : x = .pip ∨ s.pll 1 = .locked) : Does (.coreWake x) s fun t => (t.tgt x).asleep = false ∧ Only [.icu] s t := by
  rw [does_run (exec_coreWake x s), wakeCore_resumes (by rwa [begin_tgt]) (by rwa [begin_tgt]) hx (by rwa [begin_pll]),
    settle_tgt_asleep, setTgt_same]
  exact ⟨rfl, (within_setTgt s.begin x _).settled⟩

theorem coreWake_asks (hasleep : (s.tgt x).asleep = true) (hline : (s.tgt x).line = true) (hx : x = .hazelA ∨ x = .hazelB)
    (hpll : s.pll 1 = .stopped) (hmay : MayAsk s ⟨.hazelPll, 0⟩) : Does (.coreWake x) s fun t =>
      (t.tgt x).asleep = true ∧ t.pll 1 = .requested ∧ (∃ q ∈ t.pac.queue, q.who = ⟨.hazelPll, 0⟩) ∧ Only [.plls, .pac] s t := by
  have hmay' : MayAsk s.begin Pll.hazel.who := ⟨hmay.held, hmay.queue, (begin_pacBars s _).trans hmay.fits⟩
  have hasks : s.begin.wakeCore x = (s.begin.setPll 1 .requested).setPac (s.pac.asked ⟨.hazelPll, 0⟩ 1 s.now) :=
    (wakeCore_asks (by rwa [begin_tgt]) (by rwa [begin_tgt]) hx (by simp [hpll])).trans (hmay'.startPll (.inl hpll) 1)
  have hframe := (within_setPll s.begin 1 .requested).seq (within_setPac _ (s.pac.asked ⟨.hazelPll, 0⟩ 1 s.now))
  obtain ⟨q, hq, hwho, -⟩ := mem_queue_asked s.pac ⟨.hazelPll, 0⟩ 1 s.now
  rw [does_run (exec_coreWake x s), hasks]
  exact ⟨(settle_tgt_asleep _ x).trans hasleep, (settle_pll _ 1).trans (setPll_same s.begin 1 .requested),
    ⟨q, by rw [(settled_settle _).pac]; exact hq, hwho⟩, hframe.settled⟩

end

/-- Settles O24: edges pend at every target and levels stand; a claim and a completion reach one target, as does the sleep of a
core; a core whose line is asserted resumes, or asks for its clock. -/
theorem interruptsPendAreClaimedAndEnd : Obligations.InterruptsPendAreClaimedAndEnd := by
  unfold Obligations.InterruptsPendAreClaimedAndEnd
  refine ⟨fun s => ⟨icuEdgeRequest_pends, icuEdgeRequest_ignored, icuLevelChange_follows, icuPendWrite_stores, icuSwiSet_pends,
    icuSwiSet_host s⟩, fun s x => ⟨?_, ?_, ?_, ?_, coreWake_resumes, ?_⟩⟩
  · exact fun v hview => ⟨icuClaim_takes hview, icuClaim_misses hview, icuClaim_finds_nothing hview⟩
  · exact fun i hview => ⟨icuComplete_ends hview, icuComplete_counts hview⟩
  · exact fun hview hx h => ⟨waitForInterrupt_sleeps hview hx h, waitForInterrupt_aborts hview hx h⟩
  · exact fun _ => waitForInterrupt_goes_on
  · exact fun hasleep hline hx hpll _ hfits hheld hqueue => coreWake_asks hasleep hline hx hpll ⟨hheld, hqueue, hfits⟩

end Sys2Proof.Machine
end

section
/-! PROOFS of 06_lomod_commands.md. What firmware answers for a command that starts and passes its checks (R335, R345, R346),
and the device commands (R350 to R354). -/

namespace Sys2Proof.Machine

/-! ### A command that firmware serves (06 R335, R345) -/

section

variable {s : State} {q op i : Nat} {c : Cmd} {h : Shape}

theorem State.Serves.badField_eq (hs : s.Serves q op i c h) : c.badField h = none := by
  obtain ⟨-, -, -, -, hfield, -⟩ := hs
  exact hfield

/-- The command that starts has the opcode asked for, and belongs to the queue asked for. -/
theorem starts_finds (h : s.starts q op = some i) : (s.hazel.jobs.getD i {}).opcode = op := by
  unfold State.starts at h
  split at h
  · exact absurd h nofun
  · next j _ =>
    dsimp only at h
    split at h
    · next hop =>
      rw [Bool.and_eq_true, beq_iff_eq] at hop
      rw [← Option.some.inj h]
      exact hop.1
    · exact absurd h nofun

theorem State.Serves.opcode_eq (hs : s.Serves q op i c h) : c.opcode = op := by
  obtain ⟨-, hstarts, rfl, -⟩ := hs
  exact starts_finds hstarts

/-- Nothing but its work is left of the service of a command that passes its checks. -/
theorem State.Serves.serve_eq (hs : s.Serves q op i c h) {shape : State → Cmd → Shape} (hshape : shape s.begin c = h)
    (f : State → Cmd → State × Cmd) :
    s.begin.serve q op shape f =
      ((f s.begin { c with wait := none }).1.setJob i (f s.begin { c with wait := none }).2).post := by
  obtain ⟨hup, hstarts, rfl, hpoison, hfield, haddr, hdead, hsleeping⟩ := hs
  unfold State.serve
  rw [begin_fwUp, if_pos hup, begin_starts, hstarts]
  have hjobs : s.begin.hazel.jobs.getD i {} = s.hazel.jobs.getD i {} := rfl
  simp only [hjobs, hshape, begin_deadStack, begin_sleeping, hpoison, hfield, haddr, hdead, hsleeping, ne_eq, not_true_eq_false,
    if_false]

variable {x : Instr} {shape : State → Cmd → Shape} {f : State → Cmd → State × Cmd} {u : State} {e : Cmd}

/-- The work of a command, after which firmware posts. -/
theorem State.Serves.posts (hs : s.Serves q op i c h) (hx : exec x s = run (fun s => s.serve q op shape f) s)
    (hshape : shape s.begin c = h) (hf : f s.begin { c with wait := none } = (u, e)) : Posts x s u i e := by
  unfold Posts
  rw [hx, run_eq, hs.serve_eq hshape, hf]

/-- The work of a command, after which firmware posts and carries on what else it can. -/
theorem State.Serves.postsOn (hs : s.Serves q op i c h) (hx : exec x s = run (fun s => (s.serve q op shape f).progress) s)
    (hshape : shape s.begin c = h) (hf : f s.begin { c with wait := none } = (u, e)) : PostsOn x s u i e := by
  unfold PostsOn
  rw [hx, run_eq, hs.serve_eq hshape, hf]

end

/-! ### The device commands (06 R350 to R354) -/

section

variable {s : State} {q : Fin 16} {i : Nat} {c : Cmd}

theorem queueConfig_posts (hs : s.Serves q 0x0004 i c { m0 := 0xF01FF, bad := queueBad c.a0 }) :
    (s.otherDepths q + c.a0 % 512 ≤ 1024 → Posts (.queueConfig q) s s.begin i (c.ends 0 0 0)) ∧
    (1024 < s.otherDepths q + c.a0 % 512 → Posts (.queueConfig q) s s.begin i (c.ends 0x0106 4 0)) := by
  refine ⟨fun hfits => hs.posts (exec_queueConfig q s) rfl ?_, fun hover => hs.posts (exec_queueConfig q s) rfl ?_⟩
  · rw [begin_otherDepths, if_neg (Nat.not_lt.2 hfits)]
    rfl
  · rw [begin_otherDepths, if_pos hover]
    rfl

theorem queueStatus_posts (hs : s.Serves q 0x0005 i c { m0 := 0x10F }) :
    (bitAt c.a0 8 = false → Posts (.queueStatus q) s s.begin i (c.ends 0 0 (s.queueWord (c.a0 % 16)))) ∧
    (bitAt c.a0 8 = true → Posts (.queueStatus q) s
      (s.begin.setQueue (c.a0 % 16) { s.queue (c.a0 % 16) with badNotices := 0, seqGaps := 0 }) i
      (c.ends 0 0 (s.queueWord (c.a0 % 16)))) := by
  refine ⟨fun hkeep => hs.posts (exec_queueStatus q s) rfl ?_, fun hclear => hs.posts (exec_queueStatus q s) rfl ?_⟩
  · simp only [hkeep, begin_queueWord]
    rfl
  · simp only [hclear, begin_queueWord]
    rfl

theorem powerState_posts (hs : s.Serves q 0x0006 i c { m0 := 3, bad := [(decide (c.a0 % 4 ≥ 2), 0x28)] }) :
    (s.jobsInFlight ≠ 0 → Posts (.powerState q) s s.begin i (c.ends 0x0107 s.jobsInFlight 0)) ∧
    (s.jobsInFlight = 0 → s.husk.mainOff = false → s.husk.removal = none →
      Posts (.powerState q) s { s.begin with
        hazel := { s.hazel with closed := true }
        husk := { s.husk with mainOff := true, mainOffAt := s.now, goDormant := s.husk.goDormant || c.a0 % 4 == 1 } } i
        (c.ends 0 0 0)) := by
  refine ⟨fun hjobs => hs.posts (exec_powerState q s) rfl ?_, fun hjobs hoff hremoval => hs.posts (exec_powerState q s) rfl ?_⟩
  · rw [begin_jobsInFlight, if_pos hjobs]
    rfl
  · have hhusk : s.begin.husk = s.husk := rfl
    rw [begin_jobsInFlight, if_neg (not_not.2 hjobs)]
    simp only [State.firmwareOff, hhusk, hoff, hremoval]
    rfl

theorem reset_posts (hs : s.Serves q 0x0007 i c { m0 := 0xFFFF03, bad := s.resetBad c.a0 }) :
    (∀ b, c.a0 % 4 = 0 → resetBlock (bitsOf c.a0 8 8) (bitsOf c.a0 16 8) = some b →
      Posts (.reset q) s (s.begin.blockReset b) i (c.ends 0 0 0)) ∧
    (c.a0 % 4 = 1 → Posts (.reset q) s
      { s.begin with hazel := { s.hazel with deferred := s.hazel.deferred ++ [(c.queue, c.seq, s.now, .hazel)] } } i (c.ends 0 0 0)) ∧
    (c.a0 % 4 = 2 → Posts (.reset q) s
      { s.begin with hazel := { s.hazel with deferred := s.hazel.deferred ++ [(c.queue, c.seq, s.now, .chip)] } } i
      (c.ends 0 0 0)) := by
  have hshape := begin_resetBad s c.a0
  refine ⟨fun b hkind hblock => hs.posts (exec_reset q s) ?_ ?_, fun hkind => hs.posts (exec_reset q s) ?_ ?_,
    fun hkind => hs.posts (exec_reset q s) ?_ ?_⟩
  · rw [hshape]
  · simp only [hkind, hblock]
    rfl
  · rw [hshape]
  · simp only [hkind]
    rfl
  · rw [hshape]
  · simp only [hkind]
    rfl

end

/-- Settles O27: IDENTIFY, GET_VERSIONS and NOP by their service; QUEUE_CONFIG, QUEUE_STATUS, POWER_STATE and RESET by the cases of
their work. -/
theorem deviceCommandsComplete : Obligations.DeviceCommandsComplete := by
  unfold Obligations.DeviceCommandsComplete
  refine fun s q i c => ⟨fun hs => hs.posts (exec_identify q s) rfl ?_, fun hs => hs.posts (exec_getVersions q s) rfl ?_,
    fun hs => hs.posts (exec_nop q s) rfl rfl, queueConfig_posts, queueStatus_posts, powerState_posts, reset_posts⟩
  · rw [begin_identity]
    rfl
  · rw [begin_versions]
    rfl

end Sys2Proof.Machine
end

section
/-! PROOFS of 06_lomod_commands.md. The session commands (R355 to R360; 07 R403; 08 R454, R455; 11 R593, R608) and the job
commands (R358, R359, R363, R371; 09 R498). -/

namespace Sys2Proof.Machine

/-! ### A choice of firmware (log 3) -/

theorem choose_singleton (s : State) (n : Nat) : s.choose [n] = (some n, s) := rfl

/-- Firmware's choice is one of the list, where the list holds one, and uses up a free value at most. -/
theorem choose_mem (s : State) {l : List Nat} (h : l ≠ []) :
    ∃ n ∈ l, ∃ m < 2, s.choose l = (some n, { s with free := s.free + m }) := by
  match l, h with
  | [n], _ => exact ⟨n, List.mem_singleton.2 rfl, 0, by decide, rfl⟩
  | a :: b :: l, _ =>
    have hlt : s.freeVal % (a :: b :: l).length < (a :: b :: l).length := Nat.mod_lt _ (Nat.succ_pos _)
    refine ⟨(a :: b :: l)[s.freeVal % (a :: b :: l).length], List.getElem_mem hlt, 1, by decide, ?_⟩
    exact Prod.ext (List.getElem?_eq_getElem hlt) rfl

/-- What firmware chose is one of the list. -/
theorem mem_of_choose {s : State} {l : List Nat} {n : Nat} (h : (s.choose l).1 = some n) : n ∈ l := by
  by_cases hl : l = []
  · subst hl
    exact absurd h nofun
  · obtain ⟨k, hk, m, -, hchoose⟩ := choose_mem s hl
    rw [hchoose] at h
    rwa [← Option.some.inj h]

/-! ### SESSION_OPEN (06 R355, R356) -/

section

variable {s : State} {q : Fin 16} {i : Nat} {c : Cmd}

/-- A session that nothing bars finds a number and a first pipe. -/
theorem choices_of_openBar {x : Session} (h : s.openBar x = none) : s.sessionChoices x ≠ [] ∧ s.pipeChoices x ≠ [] := by
  unfold State.openBar at h
  repeat (split at h; · exact absurd h nofun)
  next hnumber hpipe => exact ⟨by simpa using hnumber, by simpa using hpipe⟩

/-- The RESULT of SESSION_OPEN. -/
def openResult (x : Session) (n k : Nat) : Nat := n + k * 2 ^ 8 + maskOf (gangPipes k x.gang) * 2 ^ 12

theorem openSession_barred {e : Nat × Nat} (h : s.openBar (sessionAsked c) = some e) :
    s.openSession c = (s, c.ends e.1 e.2 0) := by
  simp only [State.openSession, h]

theorem openSession_opens {n k : Nat} {t u : State} (h : s.openBar (sessionAsked c) = none)
    (hn : s.choose (s.sessionChoices (sessionAsked c)) = (some n, t))
    (hk : t.choose (s.pipeChoices (sessionAsked c)) = (some k, u)) :
    s.openSession c = (u.openAt (sessionAsked c) n k, c.ends 0 0 (openResult (sessionAsked c) n k)) := by
  simp only [State.openSession, h, hn, hk]
  rfl

theorem sessionOpen_posts (hs : s.Serves q 0x0101 i c (openShape c)) :
    (∀ e, s.openBar (sessionAsked c) = some e → Posts (.sessionOpen q) s s.begin i (c.ends e.1 e.2 0)) ∧
    (∀ n k, s.openBar (sessionAsked c) = none → s.sessionChoices (sessionAsked c) = [n] → s.pipeChoices (sessionAsked c) = [k] →
      Posts (.sessionOpen q) s (s.begin.openAt (sessionAsked c) n k) i (c.ends 0 0 (openResult (sessionAsked c) n k))) ∧
    (s.openBar (sessionAsked c) = none → ∃ n ∈ s.sessionChoices (sessionAsked c), ∃ k ∈ s.pipeChoices (sessionAsked c), ∃ m < 3,
      Posts (.sessionOpen q) s (State.openAt { s.begin with free := s.free + m } (sessionAsked c) n k) i
        (c.ends 0 0 (openResult (sessionAsked c) n k))) := by
  have hbar := begin_openBar s (sessionAsked c)
  have hnums := begin_sessionChoices s (sessionAsked c)
  have hpipes := begin_pipeChoices s (sessionAsked c)
  refine ⟨fun e he => hs.posts (exec_sessionOpen q s) rfl (openSession_barred (c := { c with wait := none }) (hbar.trans he)),
    fun n k hnone hn hk => hs.posts (exec_sessionOpen q s) rfl
      (openSession_opens (c := { c with wait := none }) (t := s.begin) (hbar.trans hnone) ?_ ?_), fun hnone => ?_⟩
  · exact (congrArg s.begin.choose (hnums.trans hn)).trans (choose_singleton _ n)
  · exact (congrArg s.begin.choose (hpipes.trans hk)).trans (choose_singleton _ k)
  · obtain ⟨hn, hk⟩ := choices_of_openBar hnone
    obtain ⟨n, hmemn, a, ha, hchoosen⟩ := choose_mem s.begin hn
    obtain ⟨k, hmemk, b, hb, hchoosek⟩ := choose_mem { s.begin with free := s.free + a } hk
    refine ⟨n, hmemn, k, hmemk, a + b, by omega, hs.posts (exec_sessionOpen q s) rfl ?_⟩
    have hfree : s.free + a + b = s.free + (a + b) := Nat.add_assoc _ _ _
    rw [← hfree]
    exact openSession_opens (c := { c with wait := none }) (hbar.trans hnone)
      ((congrArg s.begin.choose hnums).trans hchoosen) ((congrArg _ hpipes).trans hchoosek)

/-! ### SESSION_SET, SESSION_CLOSE (06 R357 to R360) -/

theorem setSessionBlock_put {x : Session} (hx : x = s.session (c.a0 % 256)) (hmode : x.mode = .opened)
    (hk : (bitsOf c.a0 8 8 = 1 ∧ x.enc = true) ∨ (bitsOf c.a0 8 8 = 2 ∧ x.decodes = true)) :
    s.setSessionBlock c = (s.setSession (c.a0 % 256) (x.put (bitsOf c.a0 8 8) c.body), c.done) := by
  subst hx
  unfold State.setSessionBlock
  obtain ⟨hk, hdir⟩ | ⟨hk, hdir⟩ := hk
  · simp [hmode, hk, hdir]
  · simp [hmode, hk, hdir]

theorem setSessionBlock_ring {x : Session} (hx : x = s.session (c.a0 % 256)) (hmode : x.mode = .opened)
    (hk : bitsOf c.a0 8 8 = 3) : s.setSessionBlock c =
      (((s.setSession (c.a0 % 256) (x.put 3 c.body)).clearRing (ringOf c.body 0)).aruLevel x.firstPipe, c.done) := by
  subst hx
  simp [State.setSessionBlock, hmode, hk]

theorem setSessionBlock_shut (hmode : (s.session (c.a0 % 256)).mode ≠ .opened) :
    s.setSessionBlock c = (s, c.ends 0x0107 0x28 0) := by
  simp [State.setSessionBlock, hmode]

theorem sessionSet_posts (hs : s.Serves q 0x0104 i c (s.setShape c)) (x : Session) (hx : x = s.session (c.a0 % 256)) :
    (x.mode ≠ .opened → Posts (.sessionSet q) s s.begin i (c.ends 0x0107 0x28 0)) ∧
    (x.mode = .opened → (bitsOf c.a0 8 8 = 1 ∧ x.enc = true) ∨ (bitsOf c.a0 8 8 = 2 ∧ x.decodes = true) →
      Posts (.sessionSet q) s (s.begin.setSession (c.a0 % 256) (x.put (bitsOf c.a0 8 8) c.body)) i (c.ends 0 0 0)) ∧
    (x.mode = .opened → bitsOf c.a0 8 8 = 3 →
      Posts (.sessionSet q) s
        (((s.begin.setSession (c.a0 % 256) (x.put 3 c.body)).clearRing (ringOf c.body 0)).aruLevel x.firstPipe) i
        (c.ends 0 0 0)) := by
  have hbegin : x = s.begin.session (c.a0 % 256) := hx.trans (begin_session s _).symm
  have hshape := begin_setShape s c
  refine ⟨fun hmode => hs.posts (exec_sessionSet q s) hshape ?_, fun hmode hk => hs.posts (exec_sessionSet q s) hshape ?_,
    fun hmode hk => hs.posts (exec_sessionSet q s) hshape ?_⟩
  · exact setSessionBlock_shut (c := { c with wait := none }) (by rwa [hbegin] at hmode)
  · exact setSessionBlock_put (c := { c with wait := none }) hbegin hmode hk
  · exact setSessionBlock_ring (c := { c with wait := none }) hbegin hmode hk

theorem sessionClose_posts (hs : s.Serves q 0x0102 i c { m0 := 0x1FF, bad := [(decide (c.a0 % 256 > 63), 0x28)] }) :
    ((s.session (c.a0 % 256)).mode ≠ .opened → PostsOn (.sessionClose q) s s.begin i (c.ends 0x0107 0x28 0)) ∧
    ((s.session (c.a0 % 256)).mode = .opened → bitAt c.a0 8 = false →
      PostsOn (.sessionClose q) s (s.begin.setSession (c.a0 % 256) { s.session (c.a0 % 256) with mode := .closing }) i
        { c with phase := .running, wait := none }) := by
  refine ⟨fun hmode => hs.postsOn (exec_sessionClose q s) rfl ?_, fun hmode hkeep => hs.postsOn (exec_sessionClose q s) rfl ?_⟩
  · simp only [State.closing, begin_session, bne_iff_ne, ne_eq, hmode, not_false_eq_true, if_true]
    rfl
  · simp [State.closing, begin_session, hmode, hkeep]

end

/-- Settles O28: SESSION_OPEN and SESSION_SET by the cases of their work, SESSION_CLOSE by its session's mode, and the others by
their service. -/
theorem sessionCommandsComplete : Obligations.SessionCommandsComplete := by
  unfold Obligations.SessionCommandsComplete
  refine fun s q i c => ⟨sessionOpen_posts, fun hs => hs.posts (exec_sessionSize q s) rfl rfl, sessionSet_posts,
    fun hs => hs.posts (exec_sessionQuery q s) rfl ?_, sessionClose_posts⟩
  rw [begin_sessionBlock]
  rfl

/-! ### Jobs (06 R358, R363; 09 R498) -/

section

variable {s : State} {q : Fin 16} {i : Nat} {c : Cmd} {x : Session}

/-- The session does not take the job: it is not open, not of the job's queue, of another direction, or an AV1 session whose job
reads a flow (log 96). -/
def Session.refuses (x : Session) (c : Cmd) : Prop :=
  x.mode ≠ .opened ∨ x.queue ≠ c.queue ∨ (∃ d, jobDir c.opcode = some d ∧ x.dir ≠ d) ∨
    (c.opcode = 0x302 ∧ bitAt c.a0 16 = true ∧ x.codec = 4)

/-- A job that its session has taken. -/
def Cmd.submitted (c : Cmd) (x : Session) : Cmd :=
  { c with wait := none, phase := .running, pipes := if c.opcode = 0x304 then 2 ^ x.firstPipe else x.mask, params := x.body }

theorem submit_refused (hx : x = s.session (c.a0 % 256)) (h : x.refuses c) : s.submit c = (s, c.ends 0x0107 0x28 0) := by
  subst hx
  unfold State.submit
  dsimp only
  obtain hmode | hqueue | ⟨d, hd, hdir⟩ | hflow := h
  · rw [if_pos (by simp [hmode])]
  · rw [if_pos (by simp [hqueue])]
  · rw [hd, if_pos (bne_iff_ne.2 hdir), ite_self]
  · rw [if_pos hflow, ite_self, ite_self]

theorem submit_taken (hx : x = s.session (c.a0 % 256)) (hwait : c.wait = none) (h : ¬ x.refuses c) :
    s.submit c = (s, c.submitted x) := by
  subst hx
  simp only [Session.refuses, not_or, not_not] at h
  obtain ⟨hmode, hqueue, hdir, hflow⟩ := h
  have hnodir : (match jobDir c.opcode with | some d => (s.session (c.a0 % 256)).dir != d | none => false) = false := by
    cases hd : jobDir c.opcode with
    | none => rfl
    | some d => exact bne_eq_false_iff_eq.2 (not_not.1 fun hne => hdir ⟨d, hd, hne⟩)
  unfold State.submit
  dsimp only
  rw [if_neg (by simp [hmode, hqueue]), if_neg (by rw [Bool.not_eq_true]; exact hnodir), if_neg hflow]
  rw [Cmd.submitted, hwait]

variable {y : Instr} {h : Shape} {op : Nat} {shape : State → Cmd → Shape}

/-- A job is taken on, or ends BAD_STATE, by its session. -/
theorem State.Serves.submits (hs : s.Serves q op i c h)
    (hy : exec y s = run (fun s => (s.serve q op shape State.submit).progress) s) (hshape : shape s.begin c = h)
    (hx : x = s.session (c.a0 % 256)) :
    (¬ x.refuses c → PostsOn y s s.begin i (c.submitted x)) ∧ (x.refuses c → PostsOn y s s.begin i (c.ends 0x0107 0x28 0)) := by
  have hbegin : x = s.begin.session (c.a0 % 256) := hx.trans (begin_session s _).symm
  exact ⟨fun hno => hs.postsOn hy hshape (submit_taken (c := { c with wait := none }) hbegin rfl hno),
    fun hyes => hs.postsOn hy hshape (submit_refused (c := { c with wait := none }) hbegin hyes)⟩

theorem submitted_encode (hop : c.opcode = 0x301 ∨ c.opcode = 0x302 ∨ c.opcode = 0x303) :
    c.submitted x = { c with wait := none, phase := .running, pipes := x.mask, params := x.body } := by
  obtain hop | hop | hop := hop <;> rw [Cmd.submitted, hop, if_neg (by decide)]

theorem submitted_measure (hop : c.opcode = 0x304) :
    c.submitted x = { c with wait := none, phase := .running, pipes := 2 ^ x.firstPipe, params := x.body } := by
  rw [Cmd.submitted, hop, if_pos rfl]

theorem refuses_encode (hop : c.opcode = 0x301) : x.refuses c ↔ x.mode ≠ .opened ∨ x.queue ≠ c.queue ∨ x.dir ≠ 0 := by
  simp [Session.refuses, hop, jobDir]

theorem refuses_loopback (hop : c.opcode = 0x303) : x.refuses c ↔ x.mode ≠ .opened ∨ x.queue ≠ c.queue ∨ x.dir ≠ 2 := by
  simp [Session.refuses, hop, jobDir]

theorem refuses_decode (hop : c.opcode = 0x302) : x.refuses c ↔
    x.mode ≠ .opened ∨ x.queue ≠ c.queue ∨ x.dir ≠ 1 ∨ (bitAt c.a0 16 = true ∧ x.codec = 4) := by
  simp [Session.refuses, hop, jobDir]

theorem refuses_measure (hop : c.opcode = 0x304) : x.refuses c ↔ x.mode ≠ .opened ∨ x.queue ≠ c.queue := by
  simp [Session.refuses, hop, jobDir]

/-! ### JOB_CANCEL (06 R371) -/

/-- The entry that JOB_CANCEL names is a live one of the job table. -/
theorem cancelTarget_live {j : Nat} {d : Cmd} (h : s.cancelTarget c = some j) (hd : s.hazel.jobs[j]? = some d) : d.live = true := by
  obtain ⟨hj, hfound, -⟩ := List.findIdx?_eq_some_iff_getElem.1 h
  obtain rfl : s.hazel.jobs[j] = d := Option.some.inj ((List.getElem?_eq_getElem hj).symm.trans hd)
  simp only [Bool.and_eq_true] at hfound
  exact hfound.2

/-- A live job that is not on its pipe ends without a run. -/
theorem endJobAt_off_pipe {j : Nat} {d : Cmd} (hd : s.hazel.jobs[j]? = some d) (hlive : d.live = true) (hpipe : d.onPipe = false)
    (status detail result : Nat) : s.endJobAt j status detail result =
      (s.setJob j { d.ends status detail 0 with onPipe := false }).releaseIdlePipes 4 := by
  simp only [State.endJobAt, hd, hlive, hpipe, Bool.not_true, Bool.false_eq_true, if_false]

theorem jobCancel_posts (hs : s.Serves q 0x0305 i c { m0 := 2 ^ 32 - 1 }) :
    (s.cancelTarget c = none → PostsOn (.jobCancel q) s s.begin i (c.ends 0 0 0)) ∧
    (∀ j d, s.cancelTarget c = some j → s.hazel.jobs[j]? = some d → d.onPipe = false →
      PostsOn (.jobCancel q) s ((s.begin.setJob j { d.ends 0x0304 c.seq 0 with onPipe := false }).releaseIdlePipes 4) i
        (c.ends 0 1 0)) := by
  have htarget : s.begin.cancelTarget { c with wait := none } = s.cancelTarget c := begin_cancelTarget s c
  refine ⟨fun hnone => hs.postsOn (exec_jobCancel q s) rfl ?_, fun j d hj hd hpipe => hs.postsOn (exec_jobCancel q s) rfl ?_⟩
  · simp only [State.cancel, htarget.trans hnone]
    rfl
  · have hend := endJobAt_off_pipe (s := s.begin) hd (cancelTarget_live hj hd) hpipe 0x0304 c.seq 0
    simp only [State.cancel, htarget.trans hj, hend]
    rfl

end

/-- Settles O29: each job by whether its session refuses it, JOB_CANCEL by the job it names. -/
theorem jobCommandsAreTakenOn : Obligations.JobCommandsAreTakenOn := by
  unfold Obligations.JobCommandsAreTakenOn
  refine fun s q i c x hx => ⟨fun hs => ?_, fun hs => ?_, fun hs => ?_, fun hs => ?_, jobCancel_posts⟩
  · have h := hs.submits (exec_jobEncode q s) (begin_encodeShape s c false) hx
    rw [refuses_encode hs.opcode_eq, submitted_encode (.inl hs.opcode_eq)] at h
    exact ⟨fun hmode hqueue hdir => h.1 (by simp [hmode, hqueue, hdir]), h.2⟩
  · have h := hs.submits (exec_jobLoopback q s) (begin_encodeShape s c true) hx
    rw [refuses_loopback hs.opcode_eq, submitted_encode (.inr (.inr hs.opcode_eq))] at h
    exact ⟨fun hmode hqueue hdir => h.1 (by simp [hmode, hqueue, hdir]), h.2⟩
  · have h := hs.submits (exec_jobDecode q s) (begin_decodeShape s c) hx
    rw [refuses_decode hs.opcode_eq, submitted_encode (.inr (.inl hs.opcode_eq))] at h
    refine ⟨fun hmode hqueue hdir hflow => h.1 ?_, h.2⟩
    rintro (hno | hno | hno | hyes)
    exacts [hno hmode, hno hqueue, hno hdir, hflow hyes]
  · have h := hs.submits (exec_jobMeasure q s) rfl hx
    rw [refuses_measure hs.opcode_eq, submitted_measure hs.opcode_eq] at h
    exact ⟨fun hmode hqueue => h.1 (by simp [hmode, hqueue]), h.2⟩

end Sys2Proof.Machine
end

section
/-! PROOFS of 06_lomod_commands.md. The Pod commands (R361, R362; 08 R452, R453), and what a command that needs a function or a
burst of bank D does first (R335, check 11; 03 R148). -/

namespace Sys2Proof.Machine

/-! ### What a command needs (06 R335, check 11), and its request (03 R145, R155) -/

section

variable {s : State} {c : Cmd} {l : List Nat} {f : Unit → State × Cmd}

theorem needing_met (h : s.lacking l = none) : s.needing c l f = f () := by
  simp only [State.needing, h]

theorem needing_unmet {b : Nat} (h : s.lacking l = some b) : s.needing c l f = (s, c.ends 0x0201 b 0) := by
  simp only [State.needing, h]

/-- The one function that a command needs is the one that is named. -/
theorem lacking_one {b : Nat} (h : s.lacking [b] ≠ none) : s.lacking [b] = some b := by
  obtain ⟨n, hn⟩ := Option.ne_none_iff_exists'.1 h
  have hmem : n ∈ [b] := List.mem_of_find?_eq_some hn
  rw [hn, List.mem_singleton.1 hmem]

/-- A command that may ask queues its request, and waits for the grant. -/
theorem MayAsk.ask {r : Requester} (h : MayAsk s r) (c : Cmd) (cls : Nat) :
    s.ask c r cls = (s.setPac (s.pac.asked r cls s.now), c.awaits r) := by
  have hqueued : (s.setPac (s.pac.asked r cls s.now)).pac.queue.any (·.who == r) = true := by
    obtain ⟨x, hx, hwho, -⟩ := mem_queue_asked s.pac r cls s.now
    exact List.any_eq_true.2 ⟨x, hx, beq_iff_eq.2 hwho⟩
  rw [State.ask, if_neg (by simpa using h.held), h.request cls, if_pos hqueued]

theorem MayAsk.askBurst (h : MayAsk s ⟨.mramBurst, 0⟩) (c : Cmd) (cls : Nat) :
    s.askBurst c cls = (s.setPac (s.pac.asked ⟨.mramBurst, 0⟩ cls s.now), c.awaits ⟨.mramBurst, 0⟩) := by
  rw [State.askBurst, if_neg (by simpa using h.held), h.ask c cls]

/-- What a requester may ask, it may ask as its command begins. -/
theorem MayAsk.begin {r : Requester} (h : MayAsk s r) : MayAsk s.begin r := ⟨h.held, h.queue, h.fits⟩

end

/-! ### What firmware holds beside commands and sessions (06 R384, R385): an access may end commands, and reaches nothing more -/

section

variable {s t : State}

theorem Within.started_eq {l : List Part} (h : Within l s t) (hl : .hazel ∉ l) : t.hazel.started = s.hazel.started :=
  congrArg Hazel.started (h.only.2 .hazel hl)

theorem settleWork_wake_started (s : State) (n status : Nat) (detail : Nat → Nat) :
    (s.settleWork ⟨.dramWake, n⟩ status detail).hazel.started = s.hazel.started :=
  (within_wakeRefused (s.endWaiting ⟨.dramWake, n⟩ status (detail (6 + n))) n).started_eq (by decide)

theorem refuse_wake_started (s : State) {q : PacReq} {n : Nat} (hq : q.who = ⟨.dramWake, n⟩) (code : Nat) :
    (s.refuse q code).hazel.started = s.hazel.started := by
  unfold State.refuse State.onRefuse
  rw [hq]
  exact (settleWork_wake_started _ n _ _).trans ((within_edge _ 95).started_eq (by decide))

theorem request_wake_started (s : State) (n cls : Nat) : (s.request ⟨.dramWake, n⟩ cls).hazel.started = s.hazel.started := by
  unfold State.request
  split
  · rfl
  · split
    · rfl
    · dsimp only
      split
      · exact refuse_wake_started s rfl _
      · rfl

theorem wakeStack_started (s : State) (n cls : Nat) : (s.wakeStack n cls).hazel.started = s.hazel.started := by
  unfold State.wakeStack
  dsimp only
  split
  · exact request_wake_started _ n cls
  · exact request_wake_started _ n cls
  · exact request_wake_started _ n cls
  · rfl

theorem endJobs_started (s : State) (p : Cmd → Bool) (status detail : Nat) :
    (s.endJobs p status detail).hazel.started = s.hazel.started := rfl

theorem resetStack_started (s : State) (n : Nat) : (s.resetStack n).hazel.started = s.hazel.started := by
  have hstack := fun k => ((within_wipe s (inStack n)).seq (within_setStack _ n k)).started_eq (by decide)
  have hended := fun k p => (endJobs_started _ p 0x0301 1).trans
    ((endJobs_started _ (fun c => c.wait == some ⟨.memSelftest, n + 1⟩) 0x0301 1).trans (hstack k))
  have hdropped := fun k p r =>
    (((within_reclaim _ r).seq (within_dropReady _ (rdyBit (6 + n)))).started_eq (by decide)).trans (hended k p)
  have hscrub := fun k p r (c : Prop) [Decidable c] =>
    (((Within.refl _).ite (c := c) (within_dropReady _ (rdyBit 23))).started_eq (by decide)).trans (hdropped k p r)
  unfold State.resetStack
  dsimp only
  split
  · exact (wakeStack_started _ n 1).trans (hscrub _ _ _ _)
  · exact hscrub _ _ _ _

theorem logEvent_started (s : State) (kind src : Nat) : (s.logEvent kind src).hazel.started = s.hazel.started := by
  obtain ⟨f, hf⟩ := logEvent_shape s kind src
  rw [hf]

theorem dropReaction_started (s : State) (src : Nat) : (s.dropReaction src).hazel.started = s.hazel.started :=
  logEvent_started _ 4 src

/-- The block reset of DRAM_UE is that of a stack. -/
theorem reactBlock_stack_started (s : State) (detail : Nat) : (s.reactBlock 22 detail).hazel.started = s.hazel.started := by
  have hblock : s.reactBlock 22 detail =
      if s.mainOn then s.resetStack (Fin.ofNat 2 detail) else s.dropReaction 22 := rfl
  rw [hblock]
  split
  · exact resetStack_started s _
  · exact dropReaction_started s 22

theorem react_stack_started (s : State) (mask detail : Nat) : (s.react 22 mask detail).hazel.started = s.hazel.started := by
  have hnmi : (if bitAt mask 1 then s.reactNmi 22 else s).hazel.started = s.hazel.started := by
    unfold State.reactNmi
    split
    · split
      · rfl
      · exact dropReaction_started s 22
    · rfl
  unfold State.react
  dsimp only
  split
  · exact hnmi
  · split
    · exact (reactBlock_stack_started _ detail).trans hnmi
    · exact hnmi

theorem record_stack_started (s : State) (detail : Nat) (stands : Bool) :
    (s.record 22 detail stands).hazel.started = s.hazel.started := by
  have hlogged : ∀ x, ((s.setFltSrc 22 x).logEvent 1 22).hazel.started = s.hazel.started := fun x => logEvent_started _ 1 22
  unfold State.record
  dsimp only
  split
  · rfl
  · refine (react_stack_started _ _ _).trans ?_
    split
    · exact hlogged _
    · exact hlogged _

/-- A report of a source that resets nothing does not reach firmware. -/
theorem report_started (s : State) (src detail : Nat) (hhazel : fltHazelReset src = false)
    (hblock : fltBlock src (detail % 2 ^ 32) = none) : (s.report src detail).hazel.started = s.hazel.started := by
  obtain ⟨f, r, hshape⟩ := report_shape s src detail hhazel hblock
  rw [hshape]

theorem poisonDram_started (s : State) (n w : Nat) : (s.poisonDram n w).hazel.started = s.hazel.started := by
  unfold State.poisonDram State.report
  dsimp only
  split
  · exact record_stack_started _ _ _
  · rfl

theorem touchWord_started (s : State) (w : Nat) : (s.touchWord w).hazel.started = s.hazel.started := by
  unfold State.touchWord
  split
  · dsimp only
    split
    · rfl
    · exact report_started _ 28 _ rfl rfl
    · exact report_started _ 28 _ rfl rfl
    · rfl
    · exact poisonDram_started s _ w
    · rfl
  · split
    · rfl
    · rfl
    · exact report_started _ 29 _ rfl rfl
    · exact report_started _ 29 _ rfl rfl
    · exact report_started _ 24 _ rfl rfl
    · rfl
  · split
    · rfl
    · rfl
    · rfl
    · exact report_started _ 30 _ rfl rfl
    · exact report_started _ 25 _ rfl rfl
  · rfl

theorem touchWords_started (s : State) (w n : Nat) : (s.touchWords w n).hazel.started = s.hazel.started := by
  induction n generalizing s w with
  | zero => rfl
  | succ n ih => exact (ih (s.touchWord w) (w + 1)).trans (touchWord_started s w)

theorem account_started (s : State) (port a n : Nat) : (s.account port a n).hazel.started = s.hazel.started := by
  unfold State.account
  dsimp only
  split <;> rfl

theorem readMem_started (s : State) (port a n : Nat) : (s.readMem port a n).state.hazel.started = s.hazel.started :=
  (touchWords_started _ _ _).trans (account_started s port a n)

theorem readMem_image (s : State) (port a n : Nat) : (s.readMem port a n).state.hazel.image = s.hazel.image :=
  congrArg (·.image) (readMem_started s port a n)

theorem readMem_pods (s : State) (port a n : Nat) : (s.readMem port a n).state.hazel.pods = s.hazel.pods :=
  congrArg (·.pods) (readMem_started s port a n)

end

/-! ### POD_LOAD (06 R361; 08 R452, R453) -/

section

variable {s : State} {q : Fin 16} {i : Nat} {c : Cmd} {b : List Byte}

theorem freeHandles_of_pods {t : State} (h : t.hazel.pods = s.hazel.pods) : t.freeHandles = s.freeHandles := by
  unfold State.freeHandles State.pod
  rw [h]

theorem podBytes_of_pods {t : State} (h : t.hazel.pods = s.hazel.pods) : t.podBytes = s.podBytes := by
  unfold State.podBytes
  rw [h]

theorem loadImage_bad {e : Nat × Nat} (lib : Nat)
    (h : podCheck b (c.a1 % 2 ^ 32) s.hazel.image.podLo s.hazel.image.podHi = some e) :
    s.loadImage c b lib = (s, c.ends e.1 e.2 0) := by
  unfold State.loadImage
  rw [h]

theorem loadImage_full (lib : Nat) (h : podCheck b (c.a1 % 2 ^ 32) s.hazel.image.podLo s.hazel.image.podHi = none)
    (hfree : s.freeHandles = []) : s.loadImage c b lib = (s, c.ends 0x0106 2 0) := by
  unfold State.loadImage
  rw [h, hfree]
  rfl

theorem loadImage_loads {k : Nat} (lib : Nat)
    (h : podCheck b (c.a1 % 2 ^ 32) s.hazel.image.podLo s.hazel.image.podHi = none)
    (hk : (s.choose s.freeHandles).1 = some k) (hfits : s.podBytes + b.length ≤ 2 ^ 26) :
    s.loadImage c b lib =
      (((s.choose s.freeHandles).2.setPod k { image := b, lib := lib, version := s.hazel.image.version }).writeMem 6 (podAddr k)
        (relocated b k s.hazel.image.version), c.ends 0 0 (podResult k b)) := by
  unfold State.loadImage
  rw [h]
  dsimp only
  rw [hk]
  exact if_neg (Nat.not_lt.2 hfits)

theorem podLoad_not_ready (h : s.ready 7 = false) : s.podLoad c = (s, c.ends 0x0201 7 0) := by
  simp only [State.podLoad, h, Bool.not_false, if_true]

/-- An image that lies in memory without poison is checked and loaded. -/
theorem podLoad_from_memory {m : MemRead} (hready : s.ready 7 = true) (hawake : s.asleep 1 = false) (ha : c.a0 ≠ 0)
    (hm : m = s.readMem 6 c.a0 (c.a1 % 2 ^ 32)) (hclean : m.poison = none) :
    s.podLoad c = m.state.loadImage c m.data 0 := by
  subst hm
  simp only [State.podLoad, hready, hawake, Bool.not_true, Bool.false_eq_true, if_false, ha, ne_eq, not_false_eq_true, if_true,
    State.loadFrom, hclean]

theorem podLoad_posts (hs : s.Serves q 0x0201 i c
      { m0 := 2 ^ 64 - 1, m1 := 2 ^ 48 - 1
        bad := [(!(64 ≤ c.a1 % 2 ^ 32 && c.a1 % 2 ^ 32 ≤ 2 ^ 20), 0x30),
          (if c.a0 = 0 then decide (bitsOf c.a1 32 16 > 63) else bitsOf c.a1 32 16 != 0xFFFF, 0x34)]
        addrs := if c.a0 = 0 then [] else [(0x28, c.a0, c.a1 % 2 ^ 32, 64)] }) :
    (s.ready 7 = false → Posts (.podLoad q) s s.begin i (c.ends 0x0201 7 0)) ∧
    (s.ready 7 = true → s.asleep 1 = false → c.a0 ≠ 0 → ∀ m, m = s.begin.readMem 6 c.a0 (c.a1 % 2 ^ 32) → m.poison = none →
      (∀ e, podCheck m.data (c.a1 % 2 ^ 32) s.hazel.image.podLo s.hazel.image.podHi = some e →
        Posts (.podLoad q) s m.state i (c.ends e.1 e.2 0)) ∧
      (∀ u, u = (m.state.choose s.freeHandles).2 → ∀ h,
        podCheck m.data (c.a1 % 2 ^ 32) s.hazel.image.podLo s.hazel.image.podHi = none → (m.state.choose s.freeHandles).1 = some h →
        s.podBytes + m.data.length ≤ 2 ^ 26 → h ∈ s.freeHandles ∧
        Posts (.podLoad q) s
          ((u.setPod h { image := m.data, version := s.hazel.image.version }).writeMem 6 (podAddr h)
            (relocated m.data h s.hazel.image.version)) i (c.ends 0 0 (podResult h m.data))) ∧
      (podCheck m.data (c.a1 % 2 ^ 32) s.hazel.image.podLo s.hazel.image.podHi = none → s.freeHandles = [] →
        Posts (.podLoad q) s m.state i (c.ends 0x0106 2 0))) := by
  refine ⟨fun hready => hs.posts (exec_podLoad q s) rfl ?_, ?_⟩
  · rw [podLoad_not_ready ((begin_ready s 7).trans hready)]
    rfl
  intro hready hawake ha m hm hclean
  have hload : s.begin.podLoad { c with wait := none } = m.state.loadImage { c with wait := none } m.data 0 :=
    podLoad_from_memory ((begin_ready s 7).trans hready) ((begin_asleep s 1).trans hawake) ha hm hclean
  have himage : m.state.hazel.image = s.hazel.image := by subst hm; exact readMem_image s.begin _ _ _
  have hpods : m.state.hazel.pods = s.hazel.pods := by subst hm; exact readMem_pods s.begin _ _ _
  rw [← himage, ← freeHandles_of_pods hpods, ← podBytes_of_pods hpods]
  refine ⟨fun e hbad => hs.posts (exec_podLoad q s) rfl ?_, fun u hu h hgood hchoice hfits => ⟨mem_of_choose hchoice,
    hs.posts (exec_podLoad q s) rfl ?_⟩, fun hgood hfree => hs.posts (exec_podLoad q s) rfl ?_⟩
  · rw [hload, loadImage_bad (c := { c with wait := none }) 0 hbad]
    rfl
  · rw [hload, loadImage_loads (c := { c with wait := none }) 0 hgood hchoice hfits, hu]
    rfl
  · rw [hload, loadImage_full (c := { c with wait := none }) 0 hgood hfree]
    rfl

/-! ### POD_UNLOAD, POD_STORE, POD_DELETE (06 R361, R362) -/

theorem podUnload_posts (hs : s.Serves q 0x0202 i c { m0 := 0xFFFF, bad := [(!handleOk (c.a0 % 65536), 0x28)] }) :
    ((s.pod (c.a0 % 65536)).image = [] ∨ s.podUsed (c.a0 % 65536) = true →
      Posts (.podUnload q) s s.begin i (c.ends 0x0107 0x28 0)) ∧
    ((s.pod (c.a0 % 65536)).image ≠ [] → s.podUsed (c.a0 % 65536) = false →
      Posts (.podUnload q) s
        (foldRange (fun n u => u.setPipe n ((u.pipe n).dropPages (c.a0 % 65536))) 4 (s.begin.setPod (c.a0 % 65536) {})) i
        (c.ends 0 0 0)) := by
  have hpod : s.begin.pod (c.a0 % 65536) = s.pod (c.a0 % 65536) := rfl
  have hused : s.begin.podUsed (c.a0 % 65536) = s.podUsed (c.a0 % 65536) := rfl
  refine ⟨fun hno => hs.posts (exec_podUnload q s) rfl ?_, fun himage hunused => hs.posts (exec_podUnload q s) rfl ?_⟩
  · dsimp only
    rw [hpod, hused, if_pos (by simpa using hno)]
    rfl
  · dsimp only
    rw [hpod, hused, if_neg (by simp [himage, hunused])]
    rfl

/-- The command queues its request of a burst of bank D and waits for the grant (03 R148). -/
theorem needing_burst {cls : Nat} (hlacks : s.lacking [8] = none) (h : MayAsk s ⟨.mramBurst, 0⟩) (d : Cmd) :
    s.begin.needing c [8] (fun _ => s.begin.askBurst d cls) =
      (s.begin.setPac (s.pac.asked ⟨.mramBurst, 0⟩ cls s.now), d.awaits ⟨.mramBurst, 0⟩) := by
  rw [needing_met ((begin_lacking s [8]).trans hlacks), h.begin.askBurst]
  rfl

theorem podStore_posts (hs : s.Serves q 0x0203 i c
      { m0 := 0xFFFF, m1 := 0x3F, bad := [(!handleOk (c.a0 % 65536), 0x28), (decide (c.a1 % 64 < 16), 0x30)] }) :
    ((s.pod (c.a0 % 65536)).image = [] → Posts (.podStore q) s s.begin i (c.ends 0x0107 0x28 0)) ∧
    (∀ o, (s.pod (c.a0 % 65536)).image ≠ [] → s.libraryPlace (c.a1 % 64) (s.pod (c.a0 % 65536)).image.length = some o →
      s.lacking [8] = none → MayAsk s ⟨.mramBurst, 0⟩ →
      Posts (.podStore q) s (s.begin.setPac (s.pac.asked ⟨.mramBurst, 0⟩ 1 s.now)) i
        ({ c with rest := (s.pod (c.a0 % 65536)).image, dst := o
                  result := (s.pod (c.a0 % 65536)).image.length }.awaits ⟨.mramBurst, 0⟩)) := by
  have hpod : s.begin.pod (c.a0 % 65536) = s.pod (c.a0 % 65536) := rfl
  refine ⟨fun himage => hs.posts (exec_podStore q s) rfl ?_,
    fun o himage hplace hlacks hask => hs.posts (exec_podStore q s) rfl ?_⟩
  · dsimp only
    rw [hpod, himage]
    rfl
  · have hfound : s.begin.libraryPlace (c.a1 % 64) (s.pod (c.a0 % 65536)).image.length = some o :=
      (begin_libraryPlace s _ _).trans hplace
    dsimp only
    rw [hpod, if_neg (by simpa using himage), hfound]
    exact needing_burst hlacks hask _

theorem podDelete_posts (hs : s.Serves q 0x0204 i c { m0 := 0x3F, bad := [(decide (c.a0 % 64 < 16), 0x28)] }) :
    ((s.libEntry (c.a0 % 64)).2 = 0 → Posts (.podDelete q) s s.begin i (c.ends 0 0 0)) ∧
    ((s.libEntry (c.a0 % 64)).2 ≠ 0 → s.lacking [8] = none → MayAsk s ⟨.mramBurst, 0⟩ →
      Posts (.podDelete q) s (s.begin.setPac (s.pac.asked ⟨.mramBurst, 0⟩ 1 s.now)) i
        ({ c with rest := [], dst := (s.libEntry (c.a0 % 64)).1 }.awaits ⟨.mramBurst, 0⟩)) := by
  have hentry : s.begin.libEntry (c.a0 % 64) = s.libEntry (c.a0 % 64) := rfl
  refine ⟨fun hempty => hs.posts (exec_podDelete q s) rfl ?_, fun hfull hlacks hask => hs.posts (exec_podDelete q s) rfl ?_⟩
  · dsimp only
    rw [hentry, if_pos hempty]
    rfl
  · dsimp only
    rw [hentry, if_neg hfull]
    exact needing_burst hlacks hask _

end

/-- Settles O30: POD_LOAD by what its image's check finds, POD_UNLOAD by the use of its handle, POD_STORE and POD_DELETE by the
request of the burst that carries them out. -/
theorem podCommandsComplete : Obligations.PodCommandsComplete := by
  unfold Obligations.PodCommandsComplete
  refine fun s q i c => ⟨?_, ?_, fun hs => ?_, fun hs => ?_⟩
  · exact podLoad_posts
  · exact podUnload_posts
  · obtain ⟨hempty, hstores⟩ := podStore_posts hs
    exact ⟨hempty, fun o himage hplace hlacks hheld hqueue hfits => hstores o himage hplace hlacks ⟨hheld, hqueue, hfits⟩⟩
  · obtain ⟨hempty, hdeletes⟩ := podDelete_posts hs
    exact ⟨hempty, fun hfull hlacks hheld hqueue hfits => hdeletes hfull hlacks ⟨hheld, hqueue, hfits⟩⟩

end Sys2Proof.Machine
end

section
/-! PROOFS of 06_lomod_commands.md. The lowest bad field of a command (R335, check 8), and the port, clock and scheduler
commands (R372, R373; 13 R682 to R691, R711, R712, R718; 14 R765). -/

namespace Sys2Proof.Machine

/-! ### The lowest bad field (06 R335, check 8) -/

theorem firstBad_concat (l : List (Bool × Nat)) (e : Bool × Nat) :
    firstBad (l ++ [e]) = if e.1 then some ((firstBad l).elim e.2 (min · e.2)) else firstBad l := by
  have hstep : firstBad (l ++ [e]) =
      if e.1 then some (match firstBad l with | none => e.2 | some x => min x e.2) else firstBad l := List.foldl_append
  rw [hstep]
  cases firstBad l <;> rfl

/-- No field is bad where none is found. -/
theorem good_of_firstBad {l : List (Bool × Nat)} (h : firstBad l = none) : ∀ e ∈ l, e.1 = false := by
  induction l using List.reverseRecOn with
  | nil => exact fun _ he => absurd he List.not_mem_nil
  | append_singleton l e ih =>
    rw [firstBad_concat] at h
    split at h
    · exact absurd h nofun
    next hgood =>
      intro x hx
      obtain hx | hx := List.mem_append.1 hx
      · exact ih h x hx
      · rw [List.mem_singleton.1 hx]
        exact Bool.eq_false_iff.2 hgood

/-- Nothing lower is found than the least of the offsets of bad fields. -/
theorem le_of_firstBad {l : List (Bool × Nat)} {o m : Nat} (hleast : ∀ e ∈ l, e.1 = true → o ≤ e.2) (h : firstBad l = some m) :
    o ≤ m := by
  induction l using List.reverseRecOn generalizing m with
  | nil => exact absurd h nofun
  | append_singleton l e ih =>
    have hl : ∀ x ∈ l, x.1 = true → o ≤ x.2 := fun x hx => hleast x (List.mem_append_left _ hx)
    rw [firstBad_concat] at h
    split at h
    next hbad =>
      have he := hleast e (List.mem_append_right _ (List.mem_singleton.2 rfl)) hbad
      rw [← Option.some.inj h]
      cases hfirst : firstBad l with
      | none => exact he
      | some x => exact le_min (ih hl hfirst) he
    · exact ih hl h

/-- What is found is no higher than the offset of any bad field. -/
theorem firstBad_le {l : List (Bool × Nat)} {o : Nat} (hbad : (true, o) ∈ l) : ∃ m ≤ o, firstBad l = some m := by
  induction l using List.reverseRecOn with
  | nil => exact absurd hbad List.not_mem_nil
  | append_singleton l e ih =>
    rw [firstBad_concat]
    obtain hl | he := List.mem_append.1 hbad
    · obtain ⟨m, hm, hfirst⟩ := ih hl
      rw [hfirst]
      split
      · exact ⟨min m e.2, (min_le_left _ _).trans hm, rfl⟩
      · exact ⟨m, hm, rfl⟩
    · rw [← List.mem_singleton.1 he, if_pos rfl]
      refine ⟨_, ?_, rfl⟩
      cases firstBad l with
      | none => exact le_rfl
      | some x => exact min_le_right x o

/-- A bad field that no bad field precedes is the one found. -/
theorem firstBad_eq {l : List (Bool × Nat)} {o : Nat} (hbad : (true, o) ∈ l) (hleast : ∀ e ∈ l, e.1 = true → o ≤ e.2) :
    firstBad l = some o := by
  obtain ⟨m, hm, hfirst⟩ := firstBad_le hbad
  rw [hfirst, le_antisymm hm (le_of_firstBad hleast hfirst)]

/-- The fields that a command's own checks name are good, where it serves. -/
theorem State.Serves.good {s : State} {q op i : Nat} {c : Cmd} {h : Shape} (hs : s.Serves q op i c h) : ∀ e ∈ h.bad, e.1 = false :=
  fun e he => good_of_firstBad hs.badField_eq e (List.mem_append_right _ he)

/-! ### PORT_CONFIG (06 R373; 13 R682 to R691) -/

section

variable {s : State} {q : Fin 16} {i : Nat} {c : Cmd}

theorem portConfig_posts (hs : s.Serves q 0x0401 i c (portShape c)) (hnone : ∀ x ∈ s.hazel.jobs, x.portWaits (c.a0 % 16) = false) :
    (s.portBar c = true → PostsOn (.portConfig q) s s.begin i (c.ends 0x0107 0x28 0)) ∧
    (s.portBar c = false → bitsOf c.a0 8 4 = 0 → PostsOn (.portConfig q) s (s.begin.portOff (c.a0 % 16)) i (c.ends 0 0 0)) ∧
    (s.portBar c = false → bitsOf c.a0 8 4 ≠ 0 →
      PostsOn (.portConfig q) s (s.begin.portSet c) i { c with phase := .running, wait := none }) := by
  have hfree : (s.begin.hazel.jobs.any fun x => x.portWaits (c.a0 % 16)) = false := by
    rw [List.any_eq_false]
    exact fun x hx => Bool.eq_false_iff.1 (hnone x hx)
  have hbar : s.begin.portBar { c with wait := none } = s.portBar c := begin_portBar s c
  refine ⟨fun h => hs.postsOn (exec_portConfig q s) rfl ?_, fun h hoff => hs.postsOn (exec_portConfig q s) rfl ?_,
    fun h hon => hs.postsOn (exec_portConfig q s) rfl ?_⟩
  · simp only [State.portConfig, hfree, hbar, h, Bool.false_eq_true, if_false, if_true]
    rfl
  · simp only [State.portConfig, hfree, hbar, h, hoff, Bool.false_eq_true, if_false, if_true]
    rfl
  · simp only [State.portConfig, hfree, hbar, h, hon, Bool.false_eq_true, if_false]
    rfl

/-! ### VTC_CONFIG (02 R99, R125, R126) -/

/-- What VTC_CONFIG writes of the VTC. -/
def Vtc.written (v : Vtc) : Nat × Nat × Bool := (v.srcSel, v.holdLimit, v.configured)

/-- A move of the VTC keeps what was written. -/
theorem vtcMoves_written (s : State) (old : Vtc) : (s.vtcMoves old).vtc.written = s.vtc.written := by
  unfold State.vtcMoves
  split
  · split
    · rfl
    · split
      · exact (congrArg Vtc.written (setVtc_vtc s s.vtc.lock)).trans rfl
      · rfl
  · exact congrArg Vtc.written ((within_startPll s .vtc 1).only.2 .vtc (by decide))

/-- The two registers of VTC_CONFIG, written. -/
theorem vtcCfg_written (s : State) {v l : Nat} (hv : v % 32 < 18) (hl : l < 65536) :
    ((s.vtcWrite 4 l).vtcCfg v).vtc.written = (v % 32, l, true) := by
  refine (vtcMoves_written _ _).trans ?_
  unfold Vtc.written
  dsimp only [State.vtcWrite]
  rw [if_pos hv, Nat.mod_eq_of_lt hl]
  rfl

theorem vtcConfig_posts (hs : s.Serves q 0x0407 i c { m0 := 0xFFFF071F, bad := [(decide (c.a0 % 32 > 17), 0x28)] }) :
    (s.vtcBar (c.a0 % 32) = true → Posts (.vtcConfig q) s s.begin i (c.ends 0x0107 0x28 0)) ∧
    (s.vtcBar (c.a0 % 32) = false → ∀ u, u = (s.begin.vtcWrite 4 (bitsOf c.a0 16 16)).vtcCfg (c.a0 % 65536) →
      u.vtc.srcSel = c.a0 % 32 ∧ u.vtc.holdLimit = bitsOf c.a0 16 16 ∧ u.vtc.configured = true ∧
      (u.pll 8 = .locked → Posts (.vtcConfig q) s u i (c.ends 0 0 0)) ∧
      (u.pll 8 = .requested ∨ u.pll 8 = .starting →
        Posts (.vtcConfig q) s u i { c with phase := .running, wait := some ⟨.vtcPll, 0⟩ })) := by
  have hbar := begin_vtcBar s (c.a0 % 32)
  refine ⟨fun h => hs.posts (exec_vtcConfig q s) rfl ?_, fun h u hu => ?_⟩
  · simp only [State.vtcConfig, hbar, h, if_true]
    rfl
  · have hsource : c.a0 % 65536 % 32 = c.a0 % 32 := by omega
    have hlegal : c.a0 % 32 < 18 := by
      have hfield := hs.good _ (List.mem_singleton.2 rfl)
      rw [decide_eq_false_iff_not] at hfield
      omega
    have hlimit : bitsOf c.a0 16 16 < 65536 := Nat.mod_lt _ (by decide)
    have hwritten := vtcCfg_written s.begin (hsource.symm ▸ hlegal) hlimit
    rw [← hu, hsource, Vtc.written, Prod.mk.injEq, Prod.mk.injEq] at hwritten
    obtain ⟨hsel, hhold, hconfigured⟩ := hwritten
    refine ⟨hsel, hhold, hconfigured, fun hlocked => hs.posts (exec_vtcConfig q s) rfl ?_, fun hwaits => ?_⟩
    · simp only [State.vtcConfig, hbar, h, Bool.false_eq_true, if_false, ← hu, hlocked]
      rfl
    · refine hs.posts (exec_vtcConfig q s) rfl ?_
      obtain hwaits | hwaits := hwaits
      · simp only [State.vtcConfig, hbar, h, Bool.false_eq_true, if_false, ← hu, hwaits]
        rfl
      · simp only [State.vtcConfig, hbar, h, Bool.false_eq_true, if_false, ← hu, hwaits]
        rfl

/-! ### MCAST (06 R372) -/

theorem mcast_posts (hs : s.Serves q 0x0409 i c { bodyLen := 64, m0 := 0x10F }) (l : Lane) (hl : l = s.lane (c.a0 % 16)) :
    (ethMode (s.portMode (c.a0 % 16)) = false → Posts (.mcast q) s s.begin i (c.ends 0x0107 0x28 0)) ∧
    (ethMode (s.portMode (c.a0 % 16)) = true →
      Posts (.mcast q) s (s.begin.setLane (c.a0 % 16)
        { l with groups := l.groups.filter (fun g => g != c.body) ++ (if bitAt c.a0 8 then [] else [c.body])
                 control := l.control ++ [Config.groupReport l.block c.body (bitAt c.a0 8)] }) i (c.ends 0 0 0)) := by
  subst hl
  refine ⟨fun h => hs.posts (exec_mcast q s) rfl ?_, fun h => hs.posts (exec_mcast q s) rfl ?_⟩
  · simp only [State.multicast, begin_portMode, h, Bool.not_false, if_true]
    rfl
  · cases hleave : bitAt c.a0 8 with
    | false =>
      simp only [State.multicast, begin_portMode, begin_lane, h, hleave, Bool.not_true, Bool.false_eq_true, if_false]
      rfl
    | true =>
      simp only [State.multicast, begin_portMode, begin_lane, h, hleave, Bool.not_true, Bool.false_eq_true, if_false, if_true,
        List.append_nil]
      rfl

end

/-- Settles O31: PORT_CONFIG, VTC_CONFIG and MCAST by the cases of their work, and the others by their service. -/
theorem portCommandsComplete : Obligations.PortCommandsComplete := by
  unfold Obligations.PortCommandsComplete
  refine fun s q i c => ⟨portConfig_posts, fun hs => hs.posts (exec_portQuery q s) rfl ?_, fun hs k x y hk hx hy => ?_,
    vtcConfig_posts, fun hs => hs.posts (exec_ptpConfig q s) ?_ rfl, mcast_posts⟩
  · rw [begin_portBlock]
    rfl
  · subst hk hx hy
    refine hs.posts (exec_schedConfig q s) ?_ rfl
    rw [begin_schedBad]
  · rw [begin_ptpBad]

end Sys2Proof.Machine
end

section
/-! PROOFS of 06_lomod_commands.md. The flow commands (R372, R374; 14 R727 to R731, R763, R772, R775, R776). -/

namespace Sys2Proof.Machine

section

variable {s : State} {q : Fin 16} {i k : Nat} {c : Cmd}

/-! ### FLOW_ADD (14 R728, R731) -/

theorem addFlow_barred (h : s.flowBar (c.a0 % 1024) (flowAsk c) = true) : s.addFlow c = (s, c.ends 0x0107 0x28 0) := by
  unfold State.addFlow
  exact if_pos h

theorem addFlow_lacking {r : Nat} (h : s.flowBar (c.a0 % 1024) (flowAsk c) = false) (hlacks : s.flowLacks (flowAsk c) = some r) :
    s.addFlow c = (s, c.ends 0x0106 3 r) := by
  unfold State.addFlow
  dsimp only
  rw [h, hlacks]
  rfl

theorem addFlow_installs (h : s.flowBar (c.a0 % 1024) (flowAsk c) = false) (hlacks : s.flowLacks (flowAsk c) = none) :
    s.addFlow c = ((s.installFlow (c.a0 % 1024) (flowAsk c)).1,
      c.ends 0 0 (if (flowAsk c).netIn then (freeEntry s.entries).getD 0 else 0xFFF)) := by
  unfold State.addFlow
  dsimp only
  rw [h, hlacks]
  rfl

theorem flowAdd_posts (hk : k = c.a0 % 1024) (x : FlowAsk) (hx : x = flowAsk c)
    (hs : s.Serves q 0x0403 i c { bodyLen := 128, m0 := 0xF13FF, bad := x.bad
                                  addrs := if x.kind = 5 then [(0xA0, blkField x.block 0x60 8, 64, 64)] else []
                                  named := x.buffer }) :
    (s.flowBar k x = true → Posts (.flowAdd q) s s.begin i (c.ends 0x0107 0x28 0)) ∧
    (∀ r, s.flowBar k x = false → s.flowLacks x = some r → Posts (.flowAdd q) s s.begin i (c.ends 0x0106 3 r)) ∧
    (s.flowBar k x = false → s.flowLacks x = none →
      Posts (.flowAdd q) s (s.begin.installFlow k x).1 i
        (c.ends 0 0 (if x.netIn then (freeEntry s.entries).getD 0 else 0xFFF))) := by
  subst hk hx
  have hbar := begin_flowBar s (c.a0 % 1024) (flowAsk c)
  have hlack := begin_flowLacks s (flowAsk c)
  refine ⟨fun h => hs.posts (exec_flowAdd q s) rfl ?_, fun r h hr => hs.posts (exec_flowAdd q s) rfl ?_,
    fun h hr => hs.posts (exec_flowAdd q s) rfl ?_⟩
  · exact addFlow_barred (c := { c with wait := none }) (hbar.trans h)
  · exact addFlow_lacking (c := { c with wait := none }) (hbar.trans h) (hlack.trans hr)
  · exact addFlow_installs (c := { c with wait := none }) (hbar.trans h) (hlack.trans hr)

/-! ### FLOW_REMOVE (14 R763, R772, R775) -/

theorem flowRemove_posts (hk : k = c.a0 % 1024) (hs : s.Serves q 0x0404 i c { m0 := 0x103FF }) :
    ((s.flow k).live = false ∨ (s.flow k).mode = .removing → PostsOn (.flowRemove q) s s.begin i (c.ends 0x0107 0x28 0)) ∧
    ((s.flow k).live = true → (s.flow k).mode ≠ .removing → bitAt c.a0 16 = true ∨ (s.flow k).egress = false →
      PostsOn (.flowRemove q) s ((s.begin.setFlow k (s.flow k).discard).dropFlow k) i (c.ends 0 0 0)) ∧
    ((s.flow k).live = true → (s.flow k).mode ≠ .removing → bitAt c.a0 16 = false → (s.flow k).egress = true →
      PostsOn (.flowRemove q) s (s.begin.setFlow k { s.flow k with mode := .removing, removedAt := s.now }) i
        { c with phase := .running, wait := none }) := by
  subst hk
  refine ⟨fun hgone => hs.postsOn (exec_flowRemove q s) rfl ?_,
    fun hlive hmode hdrop => hs.postsOn (exec_flowRemove q s) rfl ?_,
    fun hlive hmode hkeep hegress => hs.postsOn (exec_flowRemove q s) rfl ?_⟩
  · unfold State.removeFlow
    dsimp only
    rw [begin_flow, if_pos (by simpa using hgone)]
    rfl
  · unfold State.removeFlow
    dsimp only
    rw [begin_flow, if_neg (by simp [hlive, hmode]), if_pos (by simpa using hdrop)]
    rfl
  · unfold State.removeFlow
    dsimp only
    rw [begin_flow, if_neg (by simp [hlive, hmode]), if_neg (by simp [hkeep, hegress])]
    rfl

/-! ### FLOW_BIND (14 R776) -/

theorem flowBind_posts (hk : k = c.a0 % 1024) (v : Nat) (hv : v = bitsOf c.a0 16 8)
    (hs : s.Serves q 0x0405 i c { m0 := 0xFF03FF, bad := [(decide (v > 63) && v != 0xFF, 0x2A)] }) :
    ((s.flow k).live = false → Posts (.flowBind q) s s.begin i (c.ends 0x0107 0x28 0)) ∧
    ((s.flow k).live = true → v = 0xFF →
      Posts (.flowBind q) s (s.begin.setFlow k { s.flow k with session := none, waiting := [] }) i (c.ends 0 0 0)) ∧
    ((s.flow k).live = true → v ≠ 0xFF → (s.session v).mode ≠ .opened → Posts (.flowBind q) s s.begin i (c.ends 0x0107 0x2A 0)) ∧
    ((s.flow k).live = true → v ≠ 0xFF → (s.session v).mode = .opened →
      ((s.flow k).egress = true → (s.session v).dir ≠ 1) → ((s.flow k).egress = false → (s.session v).dir ≠ 0) →
      Posts (.flowBind q) s (s.begin.setFlow k { s.flow k with session := some v, waiting := [] }) i (c.ends 0 0 0)) := by
  subst hk hv
  refine ⟨fun hgone => hs.posts (exec_flowBind q s) rfl ?_, fun hlive hv => hs.posts (exec_flowBind q s) rfl ?_,
    fun hlive hv hmode => hs.posts (exec_flowBind q s) rfl ?_, fun hlive hv hmode hout hin => hs.posts (exec_flowBind q s) rfl ?_⟩
  · unfold State.bindFlow
    dsimp only
    rw [begin_flow, if_pos (by simpa using hgone)]
    rfl
  · unfold State.bindFlow
    dsimp only
    rw [begin_flow, if_neg (by simp [hlive]), if_pos hv]
    rfl
  · unfold State.bindFlow
    dsimp only
    rw [begin_flow, if_neg (by simp [hlive]), if_neg hv, begin_session, if_pos (by simp [hmode])]
    rfl
  · have hdir : ¬ ((((s.session (bitsOf c.a0 16 8)).mode != .opened ||
        ((s.flow (c.a0 % 1024)).egress && (s.session (bitsOf c.a0 16 8)).dir == 1)) ||
        (!(s.flow (c.a0 % 1024)).egress && (s.session (bitsOf c.a0 16 8)).dir == 0)) = true) := by
      cases hegress : (s.flow (c.a0 % 1024)).egress with
      | false => simp [hmode, hin hegress]
      | true => simp [hmode, hout hegress]
    unfold State.bindFlow
    dsimp only
    rw [begin_flow, if_neg (by simp [hlive]), if_neg hv, begin_session, if_neg hdir]
    rfl

end

/-- Settles O32: FLOW_ADD by what bars it and what it lacks, FLOW_REMOVE and FLOW_BIND by the cases of their work. -/
theorem flowCommandsComplete : Obligations.FlowCommandsComplete := by
  unfold Obligations.FlowCommandsComplete
  exact fun s q i c k hk => ⟨fun x hx hs => flowAdd_posts hk x hx hs, fun hs => flowRemove_posts hk hs,
    fun v hv hs => flowBind_posts hk v hv hs⟩

end Sys2Proof.Machine
end

section
/-! PROOFS of 06_lomod_commands.md. The memory commands (R375; 12 R618, R631, R646, R670). -/

namespace Sys2Proof.Machine

section

variable {s : State} {q : Fin 16} {i n : Nat} {c d : Cmd}

/-! ### MEM_COPY, MEM_FILL, USER_READ: a channel of firmware moves the data (12 R646) -/

/-- A choice of firmware uses up free values, and nothing more. -/
theorem choose_state (s : State) (l : List Nat) : ∃ m, (s.choose l).2 = { s with free := s.free + m } := by
  by_cases h : l = []
  · subst h
    exact ⟨0, rfl⟩
  · obtain ⟨k, -, m, -, hchoose⟩ := choose_mem s h
    exact ⟨m, congrArg Prod.snd hchoose⟩

theorem choose_chan (s : State) (l : List Nat) (n : Nat) : (s.choose l).2.chan n = s.chan n := by
  obtain ⟨m, hstate⟩ := choose_state s l
  rw [hstate]
  rfl

/-- The first transfer of a command moves all its bytes. -/
theorem startMove_whole (hdst : d.dst = 0) (hwait : d.wait = none) (hlen : d.moveLen ≠ 0) (hpiece : d.piece = d.moveLen) :
    s.startMove d = ((s.setChan d.chan (d.transfer (s.chan d.chan))).dmaStart d.chan, { d with phase := .running }) := by
  have hfirst : ¬ (d.piece = 0 ∧ d.dst < d.moveLen) := fun h => hlen (hpiece ▸ h.1)
  have hmore : ¬ d.dst = d.moveLen := by rw [hdst]; exact hlen.symm
  simp only [State.startMove, hfirst, hmore, if_false]
  rw [← hwait]

/-- What a command that moves data with channel `n` becomes. -/
def Cmd.onChan (c : Cmd) (n : Nat) : Cmd := { c with wait := none, chan := n, dst := 0 }

/-- A command that moves data starts on the channel chosen for it; MEM_FILL writes its pattern first (log 70). -/
theorem moveData_starts {u : State} (hn : (s.choose s.freeChans).1 = some n)
    (hu : u = if c.opcode = 0x502 then (s.choose s.freeChans).2.writeMem 6 (c.onChan n).moveSrc (leBytes 8 c.a1)
      else (s.choose s.freeChans).2)
    (hlen : c.moveLen ≠ 0) (hpiece : (c.onChan n).piece = c.moveLen) :
    s.moveData { c with wait := none } =
      ((u.setChan n ((c.onChan n).transfer (u.chan n))).dmaStart n, { c.onChan n with phase := .running }) := by
  unfold State.moveData
  dsimp only
  rw [hn, hu]
  exact startMove_whole (d := c.onChan n) rfl rfl hlen hpiece

variable {x : Instr} {op : Nat} {h : Shape} {shape : State → Cmd → Shape} {l : List Nat}

/-- MEM_COPY and USER_READ: the work of a command that moves data without a pattern. -/
theorem State.Serves.moves (hs : s.Serves q op i c h) (hop : op ≠ 0x502)
    (hx : exec x s = run (fun s => (s.serve q op shape fun s c => s.needing c l fun _ => s.moveData c).progress) s)
    (hshape : shape s.begin c = h) (hlacks : s.lacking l = none) (hn : (s.begin.choose s.freeChans).1 = some n)
    (hlen : c.moveLen ≠ 0) (hpiece : (c.onChan n).piece = c.moveLen) :
    n ∈ s.freeChans ∧ PostsOn x s (((s.begin.choose s.freeChans).2.setChan n ((c.onChan n).transfer (s.chan n))).dmaStart n) i
      { c.onChan n with phase := .running } := by
  refine ⟨mem_of_choose hn, hs.postsOn hx hshape ?_⟩
  have hop' : ¬ c.opcode = 0x502 := by rwa [hs.opcode_eq]
  have hchan : s.chan n = (s.begin.choose s.freeChans).2.chan n := (choose_chan s.begin s.freeChans n).symm
  rw [needing_met ((begin_lacking s l).trans hlacks), hchan]
  have hchoice := begin_freeChans s
  exact moveData_starts (s := s.begin) (hchoice.symm ▸ hn) (by rw [if_neg hop', hchoice]) hlen hpiece

theorem memCopy_posts {v : State} (hd : d = c.onChan n) (hv : v = (s.begin.choose s.freeChans).2) (hs : s.Serves q 0x0501 i c
      { m0 := 2 ^ 64 - 1, m1 := 2 ^ 64 - 1, m2 := 2 ^ 32 - 1, bad := [(c.a2 % 2 ^ 32 == 0, 0x38)]
        addrs := [(0x28, c.a0, c.a2 % 2 ^ 32, 1), (0x30, c.a1, c.a2 % 2 ^ 32, 1)] }) :
    (s.lacking [13] ≠ none → PostsOn (.memCopy q) s s.begin i (c.ends 0x0201 13 0)) ∧
    (s.lacking [13] = none → (s.begin.choose s.freeChans).1 = some n → d.piece = d.moveLen → n ∈ s.freeChans ∧
      PostsOn (.memCopy q) s ((v.setChan n (d.transfer (s.chan n))).dmaStart n) i { d with phase := .running }) := by
  subst hd hv
  refine ⟨fun hlacks => hs.postsOn (exec_memCopy q s) rfl ?_, fun hlacks hn hpiece => ?_⟩
  · rw [needing_unmet ((begin_lacking s [13]).trans (lacking_one hlacks))]
    rfl
  · have hlen : c.moveLen ≠ 0 := by
      have hfield := hs.good _ (List.mem_singleton.2 rfl)
      rw [Cmd.moveLen, hs.opcode_eq, if_neg (by decide)]
      exact beq_eq_false_iff_ne.1 hfield
    exact hs.moves (by decide) (exec_memCopy q s) rfl hlacks hn hlen hpiece

theorem memFill_posts {v : State} (hd : d = c.onChan n) (hv : v = (s.begin.choose s.freeChans).2) (hs : s.Serves q 0x0502 i c
      { m0 := 2 ^ 64 - 1, m1 := 2 ^ 64 - 1, m2 := 2 ^ 32 - 1, bad := [(c.a2 % 2 ^ 32 % 8 != 0, 0x38)]
        addrs := [(0x28, c.a0, c.a2 % 2 ^ 32, 1)] }) :
    (c.a2 % 2 ^ 32 = 0 → PostsOn (.memFill q) s s.begin i (c.ends 0 0 0)) ∧
    (∀ u, u = v.writeMem 6 (0x803FFFFC0 + 8 * (n - 8)) (leBytes 8 c.a1) → c.a2 % 2 ^ 32 ≠ 0 →
      s.lacking [5, 13] = none → (s.begin.choose s.freeChans).1 = some n → d.piece = d.moveLen → n ∈ s.freeChans ∧
      PostsOn (.memFill q) s ((u.setChan n (d.transfer (u.chan n))).dmaStart n) i { d with phase := .running }) := by
  subst hd hv
  refine ⟨fun hnone => hs.postsOn (exec_memFill q s) rfl (if_pos hnone), fun u hu hsome hlacks hn hpiece =>
    ⟨mem_of_choose hn, hs.postsOn (exec_memFill q s) rfl ?_⟩⟩
  have hop := hs.opcode_eq
  have hchoice := begin_freeChans s
  have hlen : c.moveLen ≠ 0 := by rwa [Cmd.moveLen, hop, if_neg (by decide)]
  have hsrc : (c.onChan n).moveSrc = 0x803FFFFC0 + 8 * (n - 8) := if_pos hop
  dsimp only
  rw [if_neg hsome, needing_met ((begin_lacking s [5, 13]).trans hlacks)]
  refine moveData_starts (s := s.begin) (hchoice.symm ▸ hn) ?_ hlen hpiece
  rw [if_pos hop, hchoice, hu, ← hsrc]

theorem userRead_posts {v : State} (hd : d = c.onChan n) (hv : v = (s.begin.choose s.freeChans).2)
    (hs : s.Serves q 0x0504 i c (userShape c)) (hlacks : s.lacking [8, 13] = none)
    (hn : (s.begin.choose s.freeChans).1 = some n) (hpiece : d.piece = d.moveLen) :
    n ∈ s.freeChans ∧
      PostsOn (.userRead q) s ((v.setChan n (d.transfer (s.chan n))).dmaStart n) i { d with phase := .running } := by
  subst hd hv
  have hlen : c.moveLen ≠ 0 := by
    have hfield := hs.good _ (List.mem_singleton.2 rfl)
    simp only [Bool.or_eq_false_iff, beq_eq_false_iff_ne] at hfield
    rw [Cmd.moveLen, hs.opcode_eq, if_pos rfl]
    exact hfield.1.1
  exact hs.moves (by decide) (exec_userRead q s) rfl hlacks hn hlen hpiece

/-! ### USER_WRITE (12 R622, R631) -/

theorem userWrite_posts {m : MemRead} (hm : m = s.begin.readMem 6 c.a1 (c.a2 % 2 ^ 21)) (hlacks : s.lacking [8, 13] = none)
    (hs : s.Serves q 0x0505 i c (userShape c)) :
    (∀ p, m.poison = some p → PostsOn (.userWrite q) s m.state i (c.ends 0x0303 0 p)) ∧
    (∀ x, x = m.state.readEdges (regionBase 8 + c.a0 % 2 ^ 20) (c.a2 % 2 ^ 21) → m.poison = none →
      (∀ p, x.2 = some p → PostsOn (.userWrite q) s x.1 i (c.ends 0x0303 0 p)) ∧
      (x.2 = none → MayAsk x.1 ⟨.mramBurst, 0⟩ →
        PostsOn (.userWrite q) s (x.1.setPac (x.1.pac.asked ⟨.mramBurst, 0⟩ 1 x.1.now)) i
          ({ c with rest := m.data, dst := c.a0 % 2 ^ 20 }.awaits ⟨.mramBurst, 0⟩))) := by
  subst hm
  have hneeds := needing_met (s := s.begin) (c := { c with wait := none })
    (f := fun _ => s.begin.userWrite { c with wait := none }) ((begin_lacking s [8, 13]).trans hlacks)
  refine ⟨fun p hp => hs.postsOn (exec_userWrite q s) rfl (hneeds.trans ?_), fun x hx hclean =>
    ⟨fun p hp => hs.postsOn (exec_userWrite q s) rfl (hneeds.trans ?_),
      fun hedges hask => hs.postsOn (exec_userWrite q s) rfl (hneeds.trans ?_)⟩⟩
  · unfold State.userWrite
    dsimp only
    rw [hp]
    rfl
  · unfold State.userWrite
    dsimp only
    rw [hclean]
    dsimp only
    rw [← hx, hp]
    rfl
  · unfold State.userWrite
    dsimp only
    rw [hclean]
    dsimp only
    rw [← hx, hedges]
    dsimp only
    rw [hask.askBurst]
    rfl

/-! ### MEM_PIN (12 R618, R670) -/

/-- The stack with firmware's pin set or cleared. -/
def State.fwPinned (s : State) (k : Nat) (b : Bool) : State := s.setStack k { s.stack k with pinFw := b }

theorem fwPinned_stack (s : State) (k : Nat) (b : Bool) : (s.fwPinned k b).stack k = { s.stack k with pinFw := b } :=
  setStack_same s k _

theorem fwPinned_awake (s : State) (k : Nat) (b : Bool) : (s.fwPinned k b).awake k = s.awake k := by
  unfold State.awake
  rw [fwPinned_stack]
  rfl

theorem fwPinned_asleep (s : State) (k : Nat) (b : Bool) : (s.fwPinned k b).asleep k = s.asleep k := by
  unfold State.asleep
  rw [fwPinned_stack]
  rfl

theorem pinFw_of_awake {k : Nat} (h : s.awake k = true) (b : Bool) : s.pinFw k b = s.fwPinned k b := by
  have hasleep : (s.fwPinned k b).asleep k = false := (fwPinned_asleep s k b).trans (asleep_of_awake h)
  exact if_neg (by rw [Bool.and_eq_true]; exact fun hand => absurd hand.2 (Bool.eq_false_iff.1 hasleep))

theorem wakeStack_selfRefresh {k : Nat} (h : (s.stack k).mode = .selfRefresh) (cls : Nat) :
    s.wakeStack k cls = (s.setStack k { s.stack k with retrying := false }).request ⟨.dramWake, k⟩ cls := by
  unfold State.wakeStack
  dsimp only
  split
  · rfl
  · rfl
  · rfl
  · next hne _ => exact absurd h hne

/-- A stack in self-refresh that may ask is woken by a request that queues. -/
theorem wakeStack_asks {k : Nat} (h : (s.stack k).mode = .selfRefresh) (hask : MayAsk s ⟨.dramWake, k⟩) (cls : Nat) :
    s.wakeStack k cls = (s.setStack k { s.stack k with retrying := false }).setPac (s.pac.asked ⟨.dramWake, k⟩ cls s.now) :=
  (wakeStack_selfRefresh h cls).trans
    (MayAsk.request (s := s.setStack k { s.stack k with retrying := false }) ⟨hask.held, hask.queue, hask.fits⟩ cls)

/-- MEM_PIN wakes a stack in self-refresh, and waits for it. -/
theorem memPin_waits {k : Nat} {u : State} (hk : k = c.a0 % 2) (hset : bitAt c.a0 8 = true) (hready : s.ready (6 + k) = true)
    (hmode : (s.stack k).mode = .selfRefresh) (hask : MayAsk s ⟨.dramWake, k⟩) (hu : u = (s.fwPinned k true).wakeStack k 1) :
    (∃ r ∈ u.pac.queue, r.who = ⟨.dramWake, k⟩) ∧ (u.stack k).pinFw = true ∧
      s.memPin c = (u, c.awaits ⟨.dramWake, k⟩) := by
  have hpin := fwPinned_stack s k true
  have hwoken := wakeStack_asks (s := s.fwPinned k true) (by rw [hpin]; exact hmode) ⟨hask.held, hask.queue, hask.fits⟩ 1
  rw [← hu] at hwoken
  have hqueued : ∃ r ∈ u.pac.queue, r.who = ⟨.dramWake, k⟩ := by
    obtain ⟨r, hr, hwho, -⟩ := mem_queue_asked s.pac ⟨.dramWake, k⟩ 1 s.now
    rw [hwoken]
    exact ⟨r, hr, hwho⟩
  have hstack : u.stack k = { s.stack k with pinFw := true, retrying := false } := by
    rw [hwoken]
    exact (setStack_same (s.fwPinned k true) k _).trans (by rw [hpin])
  have hasleep : (s.fwPinned k true).asleep k = true := by
    rw [fwPinned_asleep, State.asleep, hready, hmode]
    rfl
  have hawake : u.awake k = false := by
    rw [State.awake, hstack]
    simp [hmode]
  have hpins : s.pinFw k true = u := by
    rw [hu]
    exact if_pos (by rw [Bool.true_and]; exact hasleep)
  have hany : u.pac.queue.any (·.who == ⟨.dramWake, k⟩) = true := by simpa using hqueued
  refine ⟨hqueued, by rw [hstack], ?_⟩
  unfold State.memPin
  dsimp only
  rw [← hk, hset, hpins, hawake]
  exact if_pos hany

theorem memPin_posts (k : Nat) (hk : k = c.a0 % 2) (hs : s.Serves q 0x0503 i c { m0 := 0x101 }) :
    (s.lacking [6 + k] ≠ none → Posts (.memPin q) s s.begin i (c.ends 0x0201 (6 + k) 0)) ∧
    (s.lacking [6 + k] = none → bitAt c.a0 8 = false → Posts (.memPin q) s (s.begin.fwPinned k false) i (c.ends 0 0 0)) ∧
    (s.lacking [6 + k] = none → bitAt c.a0 8 = true → s.awake k = true →
      Posts (.memPin q) s (s.begin.fwPinned k true) i (c.ends 0 0 0)) ∧
    (s.lacking [6 + k] = none → bitAt c.a0 8 = true → s.ready (6 + k) = true → (s.stack k).mode = .selfRefresh →
      MayAsk s ⟨.dramWake, k⟩ → ∀ u, u = (s.begin.fwPinned k true).wakeStack k 1 →
        (∃ r ∈ u.pac.queue, r.who = ⟨.dramWake, k⟩) ∧ (u.stack k).pinFw = true ∧
        Posts (.memPin q) s u i (c.awaits ⟨.dramWake, k⟩)) := by
  have hneeds : ∀ f : Unit → State × Cmd, s.lacking [6 + k] = none → s.begin.needing { c with wait := none } [6 + k] f = f () :=
    fun f hlacks => needing_met ((begin_lacking s [6 + k]).trans hlacks)
  refine ⟨fun hlacks => hs.posts (exec_memPin q s) rfl ?_, fun hlacks hclear => hs.posts (exec_memPin q s) rfl ?_,
    fun hlacks hset hawake => hs.posts (exec_memPin q s) rfl ?_, fun hlacks hset hready hmode hask u hu => ?_⟩
  · dsimp only
    rw [← hk, needing_unmet ((begin_lacking s [6 + k]).trans (lacking_one hlacks))]
    rfl
  · dsimp only
    rw [← hk, hneeds _ hlacks, State.memPin]
    dsimp only
    rw [← hk, hclear]
    rfl
  · have hawake' : s.begin.awake k = true := (begin_awake s k).trans hawake
    have hpinned : (s.begin.fwPinned k true).awake k = true := (fwPinned_awake s.begin k true).trans hawake'
    dsimp only
    rw [← hk, hneeds _ hlacks, State.memPin]
    dsimp only
    rw [← hk, hset, pinFw_of_awake hawake', hpinned]
    rfl
  · obtain ⟨hqueued, hpin, hwaits⟩ := memPin_waits (s := s.begin) (c := { c with wait := none }) hk hset
      ((begin_ready s _).trans hready) (by rw [begin_stack]; exact hmode) hask.begin hu
    refine ⟨hqueued, hpin, hs.posts (exec_memPin q s) rfl ?_⟩
    dsimp only
    rw [← hk, hneeds _ hlacks]
    exact hwaits

end

/-- Settles O33: MEM_COPY, MEM_FILL and USER_READ by the start of their channel, USER_WRITE by what its reads find, MEM_PIN by
its stack, SCRUB_CONFIG by its service. -/
theorem memoryCommandsComplete : Obligations.MemoryCommandsComplete := by
  unfold Obligations.MemoryCommandsComplete
  refine fun s q i c n d hd v hv => ⟨memCopy_posts hd hv, memFill_posts hd hv, userRead_posts hd hv, fun hs m hm hlacks => ?_,
    fun hs k hk => ?_, fun hs => hs.posts (exec_scrubConfig q s) rfl rfl⟩
  · obtain ⟨hpoison, hclean⟩ := userWrite_posts hm hlacks hs
    refine ⟨hpoison, fun x hx hnone => ?_⟩
    obtain ⟨hedge, hasks⟩ := hclean x hx hnone
    exact ⟨hedge, fun hedges hheld hqueue hfits => hasks hedges ⟨hheld, hqueue, hfits⟩⟩
  · obtain ⟨hlacking, hclears, hsets, hwakes⟩ := memPin_posts k hk hs
    exact ⟨hlacking, hclears, hsets, fun hlacks hset hready hmode hheld hqueue hfits u hu =>
      hwakes hlacks hset hready hmode ⟨hheld, hqueue, hfits⟩ u hu⟩

end Sys2Proof.Machine
end

section
/-! PROOFS of 06_lomod_commands.md. The counter and fault commands (R376 to R378; 15 R787, R792, R804 to R810; 18 R917). -/

namespace Sys2Proof.Machine

/-! ### Clearing a counter changes neither readiness nor memory (R377) -/

/-- The counter that stands here is cleared where it stands: readiness and memory stay. -/
def ClearsInPlace (r : Option Counter) (s : State) : Prop := ∀ c, r = some c → c.zero.rdy = s.rdy ∧ c.zero.mem = s.mem

theorem ClearsInPlace.ite {p : Prop} [Decidable p] {f g : Option Counter} {s : State} (hf : ClearsInPlace f s)
    (hg : ClearsInPlace g s) : ClearsInPlace (if p then f else g) s := by
  split
  · exact hf
  · exact hg

theorem pcieCounter_clears (s : State) (o : Nat) : ClearsInPlace (s.pcieCounter o) s := fun c h => by
  unfold State.pcieCounter at h
  split at h <;> cases h <;> exact ⟨rfl, rfl⟩

theorem pipeCounter_clears (s : State) (n o : Nat) : ClearsInPlace (s.pipeCounter n o) s := fun c h => by
  unfold State.pipeCounter at h
  split at h <;> cases h <;> exact ⟨rfl, rfl⟩

theorem fabCounter_clears (s : State) (n o : Nat) : ClearsInPlace (s.fabCounter n o) s := fun c h => by
  unfold State.fabCounter at h
  split at h <;> cases h <;> exact ⟨rfl, rfl⟩

theorem dramCounter_clears (s : State) (n o : Nat) : ClearsInPlace (s.dramCounter n o) s := fun c h => by
  unfold State.dramCounter at h
  split at h <;> cases h <;> exact ⟨rfl, rfl⟩

theorem lfsCounter_clears (s : State) (o : Nat) : ClearsInPlace (s.lfsCounter o) s := fun c h => by
  unfold State.lfsCounter at h
  split at h
  case h_10 =>
    split at h
    · cases h; exact ⟨rfl, rfl⟩
    · cases h
  all_goals
    cases h
    exact ⟨rfl, rfl⟩

theorem dmaCounter_clears (s : State) (n o : Nat) : ClearsInPlace (s.dmaCounter n o) s := fun c h => by
  unfold State.dmaCounter at h
  split at h <;> cases h <;> exact ⟨rfl, rfl⟩

theorem laneCounter_clears (s : State) (n o : Nat) : ClearsInPlace (s.laneCounter n o) s := fun c h => by
  unfold State.laneCounter at h
  split at h <;> cases h <;> exact ⟨rfl, rfl⟩

theorem portCounter_clears (s : State) (n o : Nat) : ClearsInPlace (s.portCounter n o) s := fun c h => by
  unfold State.portCounter at h
  split at h <;> cases h <;> exact ⟨rfl, rfl⟩

theorem flowCounter_clears (s : State) (n o : Nat) : ClearsInPlace (s.flowCounter n o) s := fun c h => by
  unfold State.flowCounter at h
  split at h <;> cases h <;> exact ⟨rfl, rfl⟩

theorem fltCounter_clears (s : State) (o : Nat) : ClearsInPlace (s.fltCounter o) s := fun c h => by
  unfold State.fltCounter at h
  split at h
  · cases h; exact ⟨rfl, rfl⟩
  · split at h
    · cases h; exact ⟨rfl, rfl⟩
    · split at h
      · cases h; exact ⟨rfl, rfl⟩
      · cases h

theorem counterAt_clears (s : State) (a : Nat) : ClearsInPlace (s.counterAt a) s := by
  have hentry : ∀ e, ClearsInPlace (some { val := (s.entry e).packets, zero := s.setEntry e { s.entry e with packets := 0 } }) s :=
    fun e c h => by cases h; exact ⟨rfl, rfl⟩
  unfold State.counterAt
  refine .ite (pcieCounter_clears s _) <| .ite (pipeCounter_clears s _ _) <| .ite (fabCounter_clears s _ _) <|
    .ite (dramCounter_clears s _ _) <| .ite (lfsCounter_clears s _) <| .ite (dmaCounter_clears s _ _) <|
    .ite (laneCounter_clears s _ _) <| .ite (portCounter_clears s _ _) <| .ite (flowCounter_clears s _ _) <|
    .ite (fltCounter_clears s _) <| .ite (hentry _) ?_
  exact fun c h => absurd h nofun

theorem counterRead_keeps {s : State} {a : Nat} {c : Counter} (h : s.counterAt a = some c) (p : Path) :
    (s.counterRead p a c).2.rdy = s.rdy ∧ (s.counterRead p a c).2.mem = s.mem := by
  have hzero : (if c.rc then c.zero else s).rdy = s.rdy ∧ (if c.rc then c.zero else s).mem = s.mem := by
    split
    · exact counterAt_clears s a c h
    · exact ⟨rfl, rfl⟩
  unfold State.counterRead
  dsimp only
  split
  · exact hzero
  · exact hzero

theorem clearCounters_keeps (s : State) (a n : Nat) :
    (s.clearCounters a n).rdy = s.rdy ∧ (s.clearCounters a n).mem = s.mem := by
  induction n generalizing s a with
  | zero => exact ⟨rfl, rfl⟩
  | succ n ih =>
    unfold State.clearCounters
    dsimp only
    split
    next c h =>
      obtain ⟨hrdy, hmem⟩ := counterRead_keeps h .hazelA
      obtain ⟨ihrdy, ihmem⟩ := ih (s.counterRead .hazelA a c).2 (a + 4)
      exact ⟨ihrdy.trans hrdy, ihmem.trans hmem⟩
    next => exact ih s (a + 4)

/-! ### COUNTER_READ copies a word for each that is asked for (R376) -/

theorem readCounters_length (s : State) (a n : Nat) : (s.readCounters a n).1.length = n := by
  fun_induction State.readCounters s a n with
  | case1 => rfl
  | case2 => rfl
  | case3 s a n c hc hwide x y ih => exact congrArg (· + 2) ih
  | case4 s a n c hc hnarrow x y ih => exact congrArg (· + 1) ih
  | case5 s a n hnone x y ih => exact congrArg (· + 1) ih

section

variable {s : State} {q : Fin 16} {i : Nat} {c : Cmd}

/-! ### FAULT_LOG_READ, FAULT_INJECT, FAULT_CLEAR (R376, R378; 15 R787, R792) -/

theorem faultLogRead_posts (l : List (List Byte)) (hl : l = s.logImages (bitAt c.a0 0) (c.a2 % 65536))
    (hs : s.Serves q 0x0604 i c
      { m0 := 1, m1 := 2 ^ 64 - 1, m2 := 0xFFFF
        addrs := [(0x30, c.a1, (if bitAt c.a0 0 then 32 else 16) * (c.a2 % 65536), 64)] }) :
    (l = [] → Posts (.faultLogRead q) s s.begin i
      (c.ends 0 0 (2 ^ 16 * b2n s.flt.logInvalid + 2 ^ 17 * b2n (!s.flt.lr.isEmpty)))) ∧
    (l ≠ [] → Posts (.faultLogRead q) s (s.begin.writeMem 6 c.a1 l.flatten) i
      (c.ends 0 0 (l.length % 65536 + 2 ^ 16 * b2n s.flt.logInvalid + 2 ^ 17 * b2n (!s.flt.lr.isEmpty)))) := by
  have himages : s.begin.logImages (bitAt c.a0 0) (c.a2 % 65536) = l := (begin_logImages s _ _).trans hl.symm
  refine ⟨fun hnone => hs.posts (exec_faultLogRead q s) rfl ?_, fun hsome => hs.posts (exec_faultLogRead q s) rfl ?_⟩
  · dsimp only
    rw [himages, hnone, List.length_nil, Nat.zero_mod, Nat.zero_add]
    rfl
  · dsimp only
    rw [himages, if_neg (by simpa using hsome)]
    rfl

theorem faultInject_posts (k : Nat) (hk : k = c.a0 % 128)
    (hs : s.Serves q 0x0605 i c { m0 := 0x7F, m1 := 2 ^ 32 - 1, bad := sourceBad c }) :
    (s.injectResets k = true → PostsOn (.faultInject q) s (s.begin.defer c (.inject k (c.a1 % 2 ^ 32))) i (c.ends 0 0 0)) ∧
    (s.injectResets k = false → s.canRecord k false = true →
      PostsOn (.faultInject q) s (s.begin.record k (c.a1 % 2 ^ 32) false) i (c.ends 0 0 0)) ∧
    (s.injectResets k = false → s.canRecord k false = false → PostsOn (.faultInject q) s s.begin i (c.ends 0 0 0)) := by
  subst hk
  have hresets := begin_injectResets s (c.a0 % 128)
  have hcan := begin_canRecord s (c.a0 % 128) false
  refine ⟨fun h => hs.postsOn (exec_faultInject q s) rfl ?_, fun h hyes => hs.postsOn (exec_faultInject q s) rfl ?_,
    fun h hno => hs.postsOn (exec_faultInject q s) rfl ?_⟩
  · dsimp only
    rw [hresets, h]
    rfl
  · dsimp only
    rw [hresets, h, State.inject, hcan, hyes, Nat.mod_mod]
    rfl
  · dsimp only
    rw [hresets, h, State.inject, hcan, hno]
    rfl

theorem faultClear_posts (k : Nat) (hk : k = c.a0 % 128) (hs : s.Serves q 0x0606 i c { m0 := 0x7F, bad := sourceBad c }) :
    (((s.fltSrc k).open_ = false ∨ (s.fltSrc k).standing = true) → Posts (.faultClear q) s s.begin i (c.ends 0 0 0)) ∧
    ((s.fltSrc k).open_ = true → (s.fltSrc k).standing = false →
      Posts (.faultClear q) s ((s.begin.logEvent 3 k).setFltSrc k { s.fltSrc k with open_ := false, causeFlag := false }) i
        (c.ends 0 0 0)) := by
  subst hk
  refine ⟨fun hkept => hs.posts (exec_faultClear q s) rfl ?_, fun hopen hgone => hs.posts (exec_faultClear q s) rfl ?_⟩
  · dsimp only
    rw [State.closeClear, begin_fltSrc, if_neg]
    · rfl
    · obtain h | h := hkept <;> simp [h]
  · dsimp only
    rw [State.closeClear, begin_fltSrc, if_pos (by simp [hopen, hgone])]
    rfl

end

/-- Settles O34: the counters by their frames, FAULT_CONFIG by its service, and the other fault commands by the cases of their
work. -/
theorem counterAndFaultCommandsComplete : Obligations.CounterAndFaultCommandsComplete := by
  unfold Obligations.CounterAndFaultCommandsComplete
  refine fun s q i c => ⟨fun hs x hx => ?_, fun hs u hu => ?_, fun k hk hs => ?_, fun hs l hl => faultLogRead_posts l hl hs,
    fun hs k hk => faultInject_posts k hk hs, fun hs k hk => faultClear_posts k hk hs⟩
  · subst hx
    exact ⟨readCounters_length _ _ _, hs.posts (exec_counterRead q s) rfl rfl⟩
  · subst hu
    obtain ⟨hrdy, hmem⟩ := clearCounters_keeps s.begin (0x100000 + c.a0) (c.a2 % 65536)
    exact ⟨hrdy, hmem, hs.posts (exec_counterClear q s) rfl rfl⟩
  · subst hk
    exact hs.posts (exec_faultConfig q s) rfl rfl

end Sys2Proof.Machine
end

section
/-! PROOFS of 06_lomod_commands.md. The maintenance and firmware commands (R379 to R383; 07 R423, R443; 12 R629) and the
command timeout (R343, R344). -/

namespace Sys2Proof.Machine

section

variable {s : State} {q : Fin 16} {i : Nat} {c : Cmd}

/-! ### SELFTEST (R379) -/

theorem testPipe_starts {n : Nat} (hfree : (s.pipe n).bistCmd = none) (hidle : (s.pipe n).bist ≠ .running) :
    s.testPipe c n = (s.setPipe n { s.pipe n with bist := .requested, bistCmd := some (c.queue, c.seq) },
      { c with phase := .running, wait := none }) := by
  unfold State.testPipe
  dsimp only
  rw [if_neg (by simp [hfree, hidle])]

theorem testMemory_used {n : Nat} (hn : 0 < n) (hused : s.stackUsed (n - 1) = true) :
    s.testMemory c n = (s, c.ends 0x0107 0x29 0) :=
  if_pos ⟨Nat.pos_iff_ne_zero.1 hn, hused⟩

theorem testMemory_free {n : Nat} (hfree : n = 0 ∨ s.stackUsed (n - 1) = false) :
    s.testMemory c n = s.needing c [5 + n] fun _ =>
      if n ≠ 0 ∧ s.asleep (n - 1) then (s.wakeStack (n - 1) 0, { c with wait := some ⟨.dramWake, n - 1⟩ })
      else s.ask c ⟨.memSelftest, n⟩ 0 := by
  refine if_neg fun h => ?_
  obtain hzero | hunused := hfree
  · exact h.1 hzero
  · exact absurd h.2 (Bool.eq_false_iff.1 hunused)

/-- A memory that nothing uses and that is awake is tested once the PAC grants it. -/
theorem testMemory_asks {n : Nat} (hfree : n = 0 ∨ (s.stackUsed (n - 1) = false ∧ s.asleep (n - 1) = false))
    (hlacks : s.lacking [5 + n] = none) (hask : MayAsk s ⟨.memSelftest, n⟩) :
    s.testMemory c n = (s.setPac (s.pac.asked ⟨.memSelftest, n⟩ 0 s.now), c.awaits ⟨.memSelftest, n⟩) := by
  have hawake : ¬ (n ≠ 0 ∧ s.asleep (n - 1) = true) := by
    rintro ⟨hn, hasleep⟩
    obtain hzero | ⟨-, hawake⟩ := hfree
    · exact hn hzero
    · exact absurd hasleep (Bool.eq_false_iff.1 hawake)
  rw [testMemory_free (hfree.imp_right And.left), needing_met hlacks, if_neg hawake, hask.ask]

theorem selftest_posts (k : Nat) (hk : k = c.a0 % 256) (n : Nat) (hn : n = bitsOf c.a0 8 8)
    (hs : s.Serves q 0x0701 i c
      { m0 := 0xFFFF, bad := [(k != 0x11 && k != 0x21, 0x28), (decide (n ≥ (if k = 0x11 then 4 else 3)), 0x29)] }) :
    (k = 0x11 → (s.pipe n).bistCmd = none → (s.pipe n).bist ≠ .running →
      PostsOn (.selftest q) s
        (s.begin.setPipe n { s.pipe n with bist := .requested, bistCmd := some (c.queue, c.seq) }) i
        { c with phase := .running, wait := none }) ∧
    (k = 0x21 → 0 < n → s.stackUsed (n - 1) = true → PostsOn (.selftest q) s s.begin i (c.ends 0x0107 0x29 0)) ∧
    (k = 0x21 → 0 < n → s.stackUsed (n - 1) = false → s.lacking [5 + n] ≠ none →
      PostsOn (.selftest q) s s.begin i (c.ends 0x0201 (5 + n) 0)) ∧
    (k = 0x21 → (n = 0 ∨ (s.stackUsed (n - 1) = false ∧ s.asleep (n - 1) = false)) → s.lacking [5 + n] = none →
      MayAsk s ⟨.memSelftest, n⟩ →
      PostsOn (.selftest q) s (s.begin.setPac (s.pac.asked ⟨.memSelftest, n⟩ 0 s.now)) i (c.awaits ⟨.memSelftest, n⟩)) := by
  subst hk hn
  have hused := begin_stackUsed s (bitsOf c.a0 8 8 - 1)
  have hlack := begin_lacking s [5 + bitsOf c.a0 8 8]
  have hmemory : c.a0 % 256 = 0x21 → ¬ c.a0 % 256 = 0x11 := fun h => by rw [h]; decide
  refine ⟨fun hk hfree hidle => hs.postsOn (exec_selftest q s) rfl ?_, fun hk hn h => hs.postsOn (exec_selftest q s) rfl ?_,
    fun hk hn h hlacks => hs.postsOn (exec_selftest q s) rfl ?_, fun hk hfree hlacks hask => hs.postsOn (exec_selftest q s) rfl ?_⟩
  · exact (if_pos hk).trans (testPipe_starts (s := s.begin) (c := { c with wait := none }) hfree hidle)
  · exact (if_neg (hmemory hk)).trans (testMemory_used (c := { c with wait := none }) hn (hused.trans h))
  · refine (if_neg (hmemory hk)).trans ((testMemory_free (.inr (hused.trans h))).trans ?_)
    exact needing_unmet (c := { c with wait := none }) (hlack.trans (lacking_one hlacks))
  · refine (if_neg (hmemory hk)).trans (testMemory_asks (s := s.begin) (c := { c with wait := none }) ?_
      (hlack.trans hlacks) hask.begin)
    rwa [hused, begin_asleep]

/-! ### FW_STAGE (R380) -/

theorem stageChunk_waits (h : s.staging = true) : s.stageChunk c = (s, c) := by
  unfold State.stageChunk
  exact if_pos (by rw [h, Bool.true_or])

section

variable {m : MemRead} (hm : m = s.readMem 6 c.a1 (c.a2 % 2 ^ 32)) (hstaging : s.staging = false)
include hm hstaging

theorem stageChunk_poison {p : Nat} (hserves : bitAt c.a0 0 = true → s.pipServes = true) (hp : m.poison = some p) :
    s.stageChunk c = (m.state, c.ends 0x0303 0 p) := by
  subst hm
  unfold State.stageChunk
  rw [if_neg (by simpa [hstaging] using hserves)]
  dsimp only
  rw [hp]

theorem stageChunk_pip (hpip : bitAt c.a0 0 = true) (hserves : s.pipServes = true) (hclean : m.poison = none) :
    s.stageChunk c = ((m.state.stageBegin c).stagePip m.data, c.ends 0 0 0) := by
  subst hm
  unfold State.stageChunk
  rw [if_neg (by simp [hstaging, hserves])]
  dsimp only
  rw [hclean]
  exact if_pos hpip

theorem stageChunk_hazel (hpip : bitAt c.a0 0 = false) (hclean : m.poison = none)
    (hask : MayAsk (m.state.stageBegin c) ⟨.mramBurst, 0⟩) :
    s.stageChunk c = ((m.state.stageBegin c).setPac ((m.state.stageBegin c).pac.asked ⟨.mramBurst, 0⟩ 0 (m.state.stageBegin c).now),
      { c with rest := m.data, params := m.data, dst := c.a2 / 2 ^ 32 }.awaits ⟨.mramBurst, 0⟩) := by
  subst hm
  unfold State.stageChunk
  rw [if_neg (by simp [hstaging, hpip])]
  dsimp only
  rw [hclean]
  exact (if_neg (by rw [hpip]; exact Bool.false_ne_true)).trans (hask.askBurst _ 0)

end

theorem fwStage_posts (hs : s.Serves q 0x0702 i c
      { m0 := 0x101, m1 := 2 ^ 64 - 1, m2 := 2 ^ 64 - 1, bad := if s.staging then [] else s.stageBad c
        addrs := [(0x30, c.a1, c.a2 % 2 ^ 32, 64)] }) :
    (s.staging = true → bitAt c.a0 0 = true → PostsOn (.fwStage q) s s.begin i { c with wait := none }) ∧
    (∀ m, m = s.begin.readMem 6 c.a1 (c.a2 % 2 ^ 32) → s.staging = false →
      (∀ p, bitAt c.a0 0 = true → s.pipServes = true → m.poison = some p →
        PostsOn (.fwStage q) s m.state i (c.ends 0x0303 0 p)) ∧
      (bitAt c.a0 0 = true → s.pipServes = true → m.poison = none →
        PostsOn (.fwStage q) s ((m.state.stageBegin c).stagePip m.data) i (c.ends 0 0 0)) ∧
      (∀ u, u = m.state.stageBegin c → bitAt c.a0 0 = false → s.lacking [8] = none → m.poison = none →
        MayAsk u ⟨.mramBurst, 0⟩ →
        PostsOn (.fwStage q) s (u.setPac (u.pac.asked ⟨.mramBurst, 0⟩ 0 u.now)) i
          ({ c with rest := m.data, params := m.data, dst := c.a2 / 2 ^ 32 }.awaits ⟨.mramBurst, 0⟩))) := by
  have hshape : (if s.begin.staging then [] else s.begin.stageBad c) = if s.staging then [] else s.stageBad c := by
    rw [begin_staging, begin_stageBad]
  have hposts : ∀ (l : List Nat) (u : State) (e : Cmd), (if bitAt c.a0 0 then [] else [8]) = l → s.lacking l = none →
      s.begin.stageChunk { c with wait := none } = (u, e) → PostsOn (.fwStage q) s u i e := fun l u e hl hlacks hchunk => by
    refine hs.postsOn (exec_fwStage q s) ?_ ?_
    · rw [hshape]
    · dsimp only
      rw [hl, needing_met ((begin_lacking s l).trans hlacks), hchunk]
  have hfree := begin_staging s
  have hserves := begin_pipServes s
  refine ⟨fun hstaging hpip => hposts [] _ _ (if_pos hpip) rfl (stageChunk_waits (hfree.trans hstaging)),
    fun m hm hstaging => ⟨fun p hpip hup hp => ?_, fun hpip hup hclean => ?_, fun u hu hpip hlacks hclean hask => ?_⟩⟩
  · exact hposts [] _ _ (if_pos hpip) rfl (stageChunk_poison (c := { c with wait := none }) hm (hfree.trans hstaging)
      (fun _ => hserves.trans hup) hp)
  · exact hposts [] _ _ (if_pos hpip) rfl (stageChunk_pip (c := { c with wait := none }) hm (hfree.trans hstaging) hpip
      (hserves.trans hup) hclean)
  · subst hu
    exact hposts [8] _ _ (if_neg (by rw [hpip]; exact Bool.false_ne_true)) hlacks
      (stageChunk_hazel (c := { c with wait := none }) hm (hfree.trans hstaging) hpip hclean hask)

/-! ### FW_COMMIT (R381, R383) -/

/-- The image that FW_COMMIT activates runs in COMPAT. -/
def State.commitsCompat (s : State) (pip : Bool) : Bool :=
  !pip && imageMode (Config.imageOf (s.stageOf pip).bytes) (s.husk.pipMode == .rom) s.husk.pipIf s.husk.pipVersion == .compat

/-- The staged slot in force, with the restart of its reader put off where the command asks for it. -/
def State.commits (s : State) (c : Cmd) (pip : Bool) : State :=
  if bitAt c.a0 8 then (s.activate pip).defer c (if pip then .pip else .hazel) else s.activate pip

section

variable {pip : Bool} (hpip : pip = bitAt c.a0 0) (hstaging : s.staging = false) (hserves : s.pipServes = true)
include hpip hstaging hserves

theorem commitImage_faulty {f : Nat} (hf : (s.stageOf pip).fault = some f) : s.commitImage c = (s, c.ends 0x0404 f 0) := by
  subst hpip
  unfold State.commitImage
  dsimp only
  rw [if_neg (by simp [hstaging, hserves]), hf]

theorem commitImage_untested (hf : (s.stageOf pip).fault = none) (hp : pip = true) (hmode : s.hazel.mode = .compat)
    (htested : (Config.imageOf (s.stageOf pip).bytes).version ∉ s.hazel.image.tested) :
    s.commitImage c = (s, c.ends 0x0401 0 0) := by
  subst hpip
  unfold State.commitImage
  dsimp only
  rw [if_neg (by simp [hstaging, hserves]), hf]
  exact if_pos (by simpa [hp, hmode] using hp ▸ htested)

theorem commitImage_commits (hf : (s.stageOf pip).fault = none)
    (hok : pip = false ∨ s.hazel.mode ≠ .compat ∨ (Config.imageOf (s.stageOf pip).bytes).version ∈ s.hazel.image.tested) :
    s.commitImage c = (s.commits c pip, c.ends 0 (b2n (s.commitsCompat pip)) 0) := by
  subst hpip
  unfold State.commitImage
  dsimp only
  rw [if_neg (by simp [hstaging, hserves]), hf]
  dsimp only
  rw [if_neg]
  · rfl
  · obtain h | h | h := hok <;> simp [h]

end

theorem fwCommit_posts (pip : Bool) (hpip : pip = bitAt c.a0 0) (h : ImageHeader) (hh : h = Config.imageOf (s.stageOf pip).bytes)
    (hs : s.Serves q 0x0703 i c { m0 := 0x101 }) (hlacks : pip = true ∨ s.lacking [8] = none) (hstaging : s.staging = false)
    (hserves : s.pipServes = true) :
    (∀ f, (s.stageOf pip).fault = some f → Posts (.fwCommit q) s s.begin i (c.ends 0x0404 f 0)) ∧
    ((s.stageOf pip).fault = none → pip = true → s.hazel.mode = .compat → h.version ∉ s.hazel.image.tested →
      Posts (.fwCommit q) s s.begin i (c.ends 0x0401 0 0)) ∧
    ((s.stageOf pip).fault = none → pip = true → s.hazel.mode ≠ .compat ∨ h.version ∈ s.hazel.image.tested →
      Posts (.fwCommit q) s (if bitAt c.a0 8 then (s.begin.activate true).defer c .pip else s.begin.activate true) i
        (c.ends 0 0 0)) ∧
    ((s.stageOf pip).fault = none → pip = false →
      Posts (.fwCommit q) s (if bitAt c.a0 8 then (s.begin.activate false).defer c .hazel else s.begin.activate false) i
        (c.ends 0 (b2n (imageMode h (s.husk.pipMode == .rom) s.husk.pipIf s.husk.pipVersion == .compat)) 0)) := by
  subst hh
  have hstage := begin_stageOf s pip
  have hneeds : s.begin.lacking (if bitAt c.a0 0 then [] else [8]) = none := by
    rw [begin_lacking, ← hpip]
    cases pip with
    | true => rfl
    | false => exact hlacks.resolve_left Bool.false_ne_true
  have hposts : ∀ (u : State) (e : Cmd), s.begin.commitImage { c with wait := none } = (u, e) → Posts (.fwCommit q) s u i e :=
    fun u e hcommit => hs.posts (exec_fwCommit q s) rfl ((needing_met hneeds).trans hcommit)
  have hfree := (begin_staging s).trans hstaging
  have hup := (begin_pipServes s).trans hserves
  refine ⟨fun f hf => hposts _ _ ?_, fun hf hp hmode htested => hposts _ _ ?_, fun hf hp hok => hposts _ _ ?_,
    fun hf hp => hposts _ _ ?_⟩
  · exact commitImage_faulty (c := { c with wait := none }) hpip hfree hup (hstage ▸ hf)
  · exact commitImage_untested (c := { c with wait := none }) hpip hfree hup (hstage ▸ hf) hp hmode (hstage ▸ htested)
  · rw [commitImage_commits (c := { c with wait := none }) hpip hfree hup (hstage ▸ hf) (.inr (hstage ▸ hok)), hp]
    rfl
  · rw [commitImage_commits (c := { c with wait := none }) hpip hfree hup (hstage ▸ hf) (.inl hp), State.commitsCompat, hstage, hp]
    rfl

/-! ### The command timeout (R343, R344) -/

/-- A command that waits for nothing, has nothing under way and tests nothing has nothing to cancel. -/
theorem cancelWork_idle (hwait : c.wait = none) (hphase : c.phase = .accepted) (hop : c.opcode ≠ 0x701) : s.cancelWork c = s := by
  unfold State.cancelWork
  simp only [hwait, hphase, beq_eq_false_iff_ne.2 hop, Bool.false_and, Bool.false_eq_true, if_false,
    show (Phase.accepted == Phase.running) = false from rfl, Bool.and_false]

/-- The only command of the table times out. -/
theorem timeOut_ends {n seq : Nat} (hjobs : s.hazel.jobs = [c]) (hq : c.queue = n) (hseq : c.seq = seq) (hlive : c.live = true)
    (hjob : isJob c.opcode = false) (hwait : c.wait = none) (hphase : c.phase = .accepted) (hop : c.opcode ≠ 0x701) :
    s.timeOut n seq = ((s.until (c.taken + 1000000 * c.limit)).setJob 0 (c.ends 0x0302 c.limit 0)).progress := by
  have hfound : s.hazel.jobs.findIdx? (fun x => x.queue == n && x.seq == seq && x.live) = some 0 := by
    rw [hjobs, List.findIdx?_cons, if_pos (by simp [hq, hseq, hlive])]
  have hget : s.hazel.jobs.getD 0 {} = c := by rw [hjobs]; rfl
  unfold State.timeOut
  rw [hfound]
  dsimp only
  rw [hget, cancelWork_idle hwait hphase hop, hjob]
  rfl

theorem timeOut_none {n seq : Nat} (h : ∀ x ∈ s.hazel.jobs, x.queue ≠ n ∨ x.seq ≠ seq ∨ x.live = false) :
    s.timeOut n seq = s := by
  have hnone : s.hazel.jobs.findIdx? (fun x => x.queue == n && x.seq == seq && x.live) = none := by
    refine List.findIdx?_eq_none_iff.2 fun x hx => ?_
    obtain hno | hno | hno := h x hx <;> simp [hno]
  unfold State.timeOut
  rw [hnone]

theorem commandTimeout_leads (n : Word32) (hup : s.fwUp = true) (hjobs : s.hazel.jobs = [c]) (hq : c.queue = q)
    (hseq : c.seq = n.toNat) (hlive : c.live = true) (hjob : isJob c.opcode = false) (hwait : c.wait = none)
    (hphase : c.phase = .accepted) (hop : c.opcode ≠ 0x701) : Leads (.commandTimeout q n) s fun u =>
      u.hazel.jobs = [c.ends 0x0302 c.limit 0] ∧ c.taken + 1000000 * c.limit ≤ u.now ∧ Only [.hazel, .time, .ptp] s u := by
  have hends := timeOut_ends (s := s.begin) hjobs hq hseq hlive hjob hwait hphase hop
  have hwaited := within_until s.begin (c.taken + 1000000 * c.limit)
  have hnow := le_until_now s.begin (c.taken + 1000000 * c.limit)
  have hhazel := hwaited.only.2 .hazel (by decide)
  refine leads_run (exec_commandTimeout q n s) ((if_pos ((begin_fwUp s).trans hup)).trans hends) ⟨?_, hnow, ?_⟩
  · have htable : (s.begin.until (c.taken + 1000000 * c.limit)).hazel.jobs = [c] := (congrArg (·.jobs) hhazel).trans hjobs
    exact congrArg (·.set 0 (c.ends 0x0302 c.limit 0)) htable
  · exact ((hwaited.seq (within_setHazel _ _)).widen (by decide)).begun

theorem commandTimeout_nothing (n : Word32) (h : ∀ x ∈ s.hazel.jobs, x.queue ≠ q ∨ x.seq ≠ n.toNat ∨ x.live = false) :
    Does (.commandTimeout q n) s fun t => Only [] s t := by
  refine (does_run (exec_commandTimeout q n s)).2 ?_
  have hnone : (if s.begin.fwUp then s.begin.timeOut q n.toNat else s.begin) = s.begin := by
    rw [timeOut_none (s := s.begin) h, ite_self]
  rw [hnone]
  exact (Within.refl s.begin).settled

end

/-- Settles O35: SELFTEST, FW_STAGE and FW_COMMIT by the cases of their work, the timeout by the command that it finds. -/
theorem maintenanceCommandsComplete : Obligations.MaintenanceCommandsComplete := by
  unfold Obligations.MaintenanceCommandsComplete
  refine fun s q i c => ⟨fun k hk n hn hs => ?_, fun hs => ?_, fun hs pip hpip h hh => fwCommit_posts pip hpip h hh hs,
    commandTimeout_leads, fun n _ hnone => commandTimeout_nothing n hnone⟩
  · obtain ⟨hpipe, hused, hlacking, hasks⟩ := selftest_posts k hk n hn hs
    exact ⟨hpipe, hused, hlacking, fun hmem hfree hlacks hheld hqueue hfits =>
      hasks hmem hfree hlacks ⟨hheld, hqueue, hfits⟩⟩
  · obtain ⟨hwaits, hserves⟩ := fwStage_posts hs
    refine ⟨hwaits, fun m hm hstaging => ?_⟩
    obtain ⟨hpoison, hpip, hhazel⟩ := hserves m hm hstaging
    exact ⟨hpoison, hpip, fun u hu hno hlacks hclean hheld hqueue hfits =>
      hhazel u hu hno hlacks hclean ⟨hheld, hqueue, hfits⟩⟩

end Sys2Proof.Machine
end

section
/-! PROOFS of 06_lomod_commands.md. Work that is put off (R354, R378, R381), and the service pass of firmware: what it begins
(02 R112; 07 R413), and how it takes a notice (R330, R335, R338, R341). -/

namespace Sys2Proof.Machine

/-! ### Work that waits for the host to take a notice, or for 10 ms (06 R354) -/

section

variable {s : State} {i due : Nat}

/-- The work at place `i` of those put off is off the list. -/
def State.undeferred (s : State) (i : Nat) : State := s.setHazel { s.hazel with deferred := s.hazel.deferred.eraseIdx i }

theorem within_undeferred (s : State) (i : Nat) : Within [.hazel] s (s.undeferred i) := within_setHazel s _

/-- The moment of the work that is due has come, and the work is off the list. -/
def State.dueNow (s : State) (i due : Nat) : State := (s.begin.until due).undeferred i

theorem within_dueNow (s : State) (i due : Nat) : Within [.time, .ptp, .hazel] s.begin (s.dueNow i due) :=
  (within_until s.begin due).seq (within_undeferred _ i)

theorem dueNow_now (s : State) (i due : Nat) : due ≤ (s.dueNow i due).now := le_until_now s.begin due

theorem dueNow_deferred (s : State) (i due : Nat) : (s.dueNow i due).hazel.deferred = s.hazel.deferred.eraseIdx i :=
  congrArg (fun h : Hazel => h.deferred.eraseIdx i) ((within_until s.begin due).only.2 .hazel (by decide))

theorem does_deferred {d : Deferred} {P : State → Prop} (hup : s.fwUp = true) (hdue : s.dueWork = some (i, due, d)) :
    Does .deferredReset s P ↔ P ((s.dueNow i due).perform d).settle := by
  have hbegin : s.begin.dueWork = some (i, due, d) := hdue
  rw [does_run (exec_deferredReset s), if_pos ((begin_fwUp s).trans hup), hbegin]
  rfl

/-- A chip reset is due. -/
def State.chipDue (s : State) : State :=
  s.setHusk { s.husk with resetDue := some (s.husk.resetDue.getD (.command, none)) }

theorem within_chipDue (s : State) : Within [.husk] s s.chipDue := within_setHusk s _

theorem deferred_chip (hup : s.fwUp = true) (hdue : s.dueWork = some (i, due, .chip)) : Does .deferredReset s fun t =>
    t.husk.resetDue = some (s.husk.resetDue.getD (.command, none)) ∧ t.hazel.deferred = s.hazel.deferred.eraseIdx i ∧
      due ≤ t.now ∧ Only [.husk, .hazel, .time, .ptp] s t := by
  have hperform : (s.dueNow i due).perform .chip = (s.dueNow i due).chipDue := rfl
  have hwait := within_dueNow s i due
  have hnow := dueNow_now s i due
  have hgone := dueNow_deferred s i due
  have hhusk : (s.dueNow i due).husk = s.husk := rfl
  refine (does_deferred hup hdue).2 ?_
  rw [hperform, ← hhusk]
  generalize s.dueNow i due = u at hwait hnow hgone ⊢
  refine ⟨settle_husk_resetDue _, ?_, ?_, ((hwait.seq (within_chipDue u)).widen (by decide)).settled⟩
  · exact (congrArg (·.deferred) (settled_settle u.chipDue).hazel).trans hgone
  · exact hnow.trans (settled_settle u.chipDue).now.ge

/-- A Hazel reset leaves nothing put off. -/
theorem hazelReset_stops (s : State) : s.hazelReset.hazel.mode = .stopped ∧ s.hazelReset.hazel.deferred = [] := by
  rw [hazelReset_eq]
  exact ⟨rfl, rfl⟩

theorem deferred_hazel (hup : s.fwUp = true) (hdue : s.dueWork = some (i, due, .hazel)) : Does .deferredReset s fun t =>
    t.hazel.mode = .stopped ∧ t.hazel.deferred = [] ∧ due ≤ t.now ∧ t.ready 9 = false ∧
      Only [.dma, .mbx, .icu, .flt, .hazel, .ready, .time, .ptp] s t := by
  refine (does_deferred hup hdue).2 ?_
  have hreset := within_hazelReset (s.dueNow i due)
  have hnow : (s.dueNow i due).hazelReset.now = (s.dueNow i due).now := hreset.only.2 .time (by decide)
  obtain ⟨hmode, hnone⟩ := hazelReset_stops (s.dueNow i due)
  have hhazel := (settled_settle (s.dueNow i due).hazelReset).hazel
  refine ⟨(congrArg (·.mode) hhazel).trans hmode, (congrArg (·.deferred) hhazel).trans hnone, ?_, ?_,
    (((within_dueNow s i due).seq hreset).widen (by decide)).settled⟩
  · exact ((dueNow_now s i due).trans hnow.ge).trans (settled_settle _).now.ge
  · exact (settle_ready _ 9).trans (hazelReset_ready _ (by decide))

theorem deferred_pip (hup : s.fwUp = true) (hdue : s.dueWork = some (i, due, .pip)) : Does .deferredReset s fun t =>
    t.husk.pipMode = .boot ∧ t.hazel.deferred = s.hazel.deferred.eraseIdx i ∧ due ≤ t.now ∧
      Only [.husk, .icu, .ready, .hazel, .time, .ptp] s t := by
  refine (does_deferred hup hdue).2 ?_
  have hreset := within_pipReset (s.dueNow i due)
  have hnow : (s.dueNow i due).pipReset.now = (s.dueNow i due).now := hreset.only.2 .time (by decide)
  have hhazel : (s.dueNow i due).pipReset.hazel = (s.dueNow i due).hazel := hreset.only.2 .hazel (by decide)
  refine ⟨settle_husk_pipMode _, ?_, ?_, (((within_dueNow s i due).seq hreset).widen (by decide)).settled⟩
  · exact (congrArg (·.deferred) ((settled_settle _).hazel.trans hhazel)).trans (dueNow_deferred s i due)
  · exact ((dueNow_now s i due).trans hnow.ge).trans (settled_settle _).now.ge

theorem deferred_nothing (hdue : s.dueWork = none) : Does .deferredReset s fun t => Only [] s t := by
  have hbegin : s.begin.dueWork = none := hdue
  rw [does_run (exec_deferredReset s), hbegin]
  dsimp only
  rw [ite_self]
  exact (Within.refl s.begin).settled

end

/-! ### What a service pass begins (02 R112; 07 R413) -/

section

variable {s : State}

/-- The service has begun what starts by itself: the command service, the scrubber, and the service of pipe faults. -/
def State.begun (s : State) : State := s.serviceStart.scrubStart.serveFaults

/-- Firmware asks for the self-tests of the pipes that have never been ready. -/
def State.askBists (s : State) (n : Nat) : State :=
  foldRange (fun n u => if u.ever.getLsbD (16 + n) || (u.pipe n).bist != .none then u else u.askBist n) n s

theorem within_askBists (s : State) (n : Nat) : Within [.pipes] s (s.askBists n) :=
  within_foldRange (fun n v => (Within.refl v).ite (within_setPipe v n _)) n s

theorem askBists_ready (s : State) (n i : Nat) : (s.askBists n).ready i = s.ready i := (within_askBists s n).ready_eq i (by decide)

theorem within_serviceStart (s : State) : Within [.ready, .pipes] s s.serviceStart := by
  have hready := within_setReady s 11
  exact ((hready.ite (hready.seq (within_askBists _ 4))).ite (Within.refl s)).widen (by decide)

theorem within_scrubStart (s : State) : Within [.ready] s s.scrubStart := (within_setReady s 23).ite (Within.refl s)

theorem within_serveFaults (s : State) : Within [.pipes] s s.serveFaults :=
  within_foldRange (fun n u => within_setPipe u n _) 4 s

theorem within_begun (s : State) : Within [.ready, .pipes] s s.begun :=
  (((within_serviceStart s).seq (within_scrubStart _)).seq (within_serveFaults _)).widen (by decide)

theorem setReady_keeps {i : Nat} (j : Nat) (h : s.ready i = true) : (s.setReady j).ready i = true := by
  rw [setReady_ready, h, Bool.true_or]

theorem serviceStart_keeps {i : Nat} (h : s.ready i = true) : s.serviceStart.ready i = true := by
  unfold State.serviceStart
  dsimp only
  split
  · split
    · exact setReady_keeps 11 h
    · exact (askBists_ready _ 4 i).trans (setReady_keeps 11 h)
  · exact h

theorem serviceStart_starts (h9 : s.ready 9 = true) (h10 : s.ready 10 = true) (hmem : s.ready 6 = true ∨ s.ready 7 = true) :
    s.serviceStart.ready 11 = true := by
  cases h11 : s.ready 11 with
  | true => exact serviceStart_keeps h11
  | false =>
    have hset : (s.setReady 11).ready 11 = true := by rw [setReady_ready]; simp
    unfold State.serviceStart
    dsimp only
    rw [if_pos (by simpa [h11, h9, h10] using hmem)]
    split
    · exact hset
    · exact (askBists_ready _ 4 11).trans hset

theorem scrubStart_keeps {i : Nat} (h : s.ready i = true) : s.scrubStart.ready i = true := by
  unfold State.scrubStart
  split
  · exact setReady_keeps 23 h
  · exact h

/-- What was ready stays ready as the pass begins. -/
theorem begun_keeps {i : Nat} (h : s.serviceStart.ready i = true) : s.begun.ready i = true :=
  ((within_serveFaults _).ready_eq i (by decide)).trans (scrubStart_keeps h)

theorem begun_faults (s : State) {n : Nat} (hn : n < 4) : (s.begun.pipe n).faultUnserved = false := by
  have hserved : ∀ (m : Nat) (u : State), n < m →
      ((foldRange (fun n u => u.setPipe n { u.pipe n with faultUnserved := false }) m u).pipe n).faultUnserved = false := by
    intro m u hm
    induction m with
    | zero => exact absurd hm (Nat.not_lt_zero n)
    | succ m ih =>
      simp only [foldRange]
      by_cases hnm : n = m
      · rw [hnm, setPipe_same]
      · have hother : ∀ (v : State) (x : Pipe), (v.setPipe m x).pipe n = v.pipe n := fun v x =>
          Table.get_set_other _ _ _ _ _ hnm
        rw [hother]
        exact ih (by omega)
  exact hserved 4 _ hn

end

/-! ### A fold over queues in which one queue acts -/

/-- A fold over a range of which one step acts, and the others leave alone what they find before and after it. -/
theorem foldRange_single {σ : Type} {f : Nat → σ → σ} {s : σ} {k n : Nat} (hk : k < n) (hbefore : ∀ i < n, i ≠ k → f i s = s)
    (hafter : ∀ i < n, i ≠ k → f i (f k s) = f k s) : foldRange f n s = f k s := by
  have hupto : ∀ m ≤ n, foldRange f m s = if k < m then f k s else s := by
    intro m hm
    induction m with
    | zero => rfl
    | succ m ih =>
      rw [foldRange, ih (by omega)]
      by_cases hmk : m = k
      · rw [hmk, if_neg (Nat.lt_irrefl k), if_pos (Nat.lt_succ_self k)]
      · by_cases hkm : k < m
        · rw [if_pos hkm, if_pos (Nat.lt_succ_of_lt hkm), hafter m hm hmk]
        · rw [if_neg hkm, if_neg (by omega), hbefore m hm hmk]
  exact (hupto n le_rfl).trans (if_pos hk)

/-! ### Taking a notice (06 R330, R335, R338, R341) -/

section

variable {s : State} {k a : Nat}

theorem pollQueue_empty (h : (s.box k).full = false) : s.pollQueue k = s :=
  if_neg (by rw [h]; exact Bool.false_ne_true)

/-- The mailbox of queue `k` is empty again. -/
def State.emptied (s : State) (k : Nat) : State := s.setBox k { s.box k with full := false }

/-- A notice is taken while the queue has room and Hazel need not wake the stack that it names. -/
theorem pollQueue_takes (hk : k < 16) (hfull : (s.box k).full = true) (hroom : s.inFlight k < (s.queue k).depth)
    (hmode : s.hazel.mode ≠ .recovery) (ha : (s.box k).value = a) (hawake : a % 64 = 0 → s.asleep (bar2Stack a) = false) :
    s.pollQueue k = (s.emptied k).noticeAt k a := by
  have hdepth : (if s.hazel.mode == .recovery then 1 else (s.queue k).depth) = (s.queue k).depth :=
    if_neg (by simpa using hmode)
  have hwake : ¬ (a % 64 = 0 ∧ hostRange a 64 = true ∧ s.asleep (bar2Stack a) = true) := fun ⟨halign, _, hasleep⟩ =>
    absurd hasleep (Bool.eq_false_iff.1 (hawake halign))
  have htaken : s.takeHi k = s.emptied k := takeHi_full hfull (by omega)
  unfold State.pollQueue
  dsimp only
  rw [hdepth, if_pos (by simpa [hfull] using hroom), ha, if_neg hwake, State.takeNotice, htaken, ha]

/-- A notice that is not aligned is bad. -/
theorem noticeAt_bad (ha : a % 64 ≠ 0) : s.noticeAt k a = s.badNotice k := if_pos (.inl ha)

/-- A descriptor in memory that can be read is read. -/
theorem noticeAt_reads (ha : a % 64 = 0) (hrange : hostRange a 64 = true) (hready : s.dramReady a 64 = true)
    (hplain : s.Plain a 64) : ∃ f d, s.noticeAt k a =
      State.headerRead ⟨(List.range 64).map fun i => Table.get 0 s.mem (a + i), none, s.counted f d⟩ k a s.now := by
  obtain ⟨f, d, hread⟩ := readMem_plain hplain (by decide) 6
  refine ⟨f, d, ?_⟩
  rw [State.noticeAt, if_neg (by simp [ha, hrange, hready]), hread]

/-- A sequence number that is the one expected leaves no gap (06 R341). -/
theorem seqTest_expected (n : Nat) : seqTest (some n) n = (true, false) := by
  have hahead : (n + 2 ^ 32 - n) % 2 ^ 32 = 0 := by omega
  unfold seqTest
  dsimp only
  rw [hahead]
  rfl

/-- The command has been taken: its queue expects the next sequence number, and Hazel holds it. -/
def State.taken (s : State) (k : Nat) (c : Cmd) : State :=
  State.pushJob (s.setQueue k { s.queue k with seq := some ((c.seq + 1) % 2 ^ 32) }, c)

/-- A command in sequence, of this epoch, with a known opcode passes the checks 2 to 7. -/
theorem takeIn_next {c : Cmd} (hepoch : c.epoch = s.hazel.epoch) (hknown : knownOpcode c.opcode = true)
    (hmode : s.hazel.mode ≠ .recovery) (hseq : (s.queue k).seq = some c.seq) (hgap : c.seqGap = false) :
    s.takeIn k c 0x24 k = (s.setQueue k { s.queue k with seq := some ((c.seq + 1) % 2 ^ 32) }, c) := by
  have hepochs : (!(c.opcode == 1 || c.epoch == s.hazel.epoch || (c.opcode == 2 && c.epoch == 0))) = false := by simp [hepoch]
  have hrecovery : (s.hazel.mode == .recovery && !recoveryOpcode c.opcode) = false := by simp [hmode]
  unfold State.takeIn
  dsimp only
  rw [if_neg (by decide), if_neg (not_not.2 rfl), hepochs, hseq, seqTest_expected, hknown, hrecovery]
  have hcmd : { c with seqGap := false } = c := by rw [← hgap]
  exact congrArg (fun d => (s.setQueue k { s.queue k with seq := some ((c.seq + 1) % 2 ^ 32) }, d)) hcmd

theorem withBody_none {x : State × Cmd} (h : x.2.bodyLen = 0) (a : Nat) : State.withBody x a = x := by
  unfold State.withBody
  split
  · exact if_pos (.inl h)
  · rfl

/-- A descriptor without a body that passes checks 1 to 7 joins the commands that Hazel holds. -/
theorem headerRead_takes {b : List Byte} {now : Nat} {c : Cmd} (hc : c = parseHeader k now b) (hlen : c.bodyLen = 0)
    (hreach : c.reachable a = true) (habi : blkByte b 3 = 0x24) (hqueue : blkByte b 6 = k) (hepoch : c.epoch = s.hazel.epoch)
    (hknown : knownOpcode c.opcode = true) (hmode : s.hazel.mode ≠ .recovery) (hseq : (s.queue k).seq = some c.seq) :
    State.headerRead ⟨b, none, s⟩ k a now = s.taken k c := by
  have hgap : c.seqGap = false := by rw [hc]; rfl
  unfold State.headerRead
  dsimp only
  rw [← hc, if_pos hreach, habi, hqueue, takeIn_next hepoch hknown hmode hseq hgap, withBody_none hlen]
  rfl

end

/-! ### A pass that finds one notice -/

section

variable {s : State} {k : Fin 16} {a : Nat}

/-- The service's polls of a pass: it takes what notices it finds, unless the queues are closed. -/
def State.polled (s : State) : State :=
  if s.ready 11 && !s.hazel.closed then foldRange (fun k u => u.pollQueue k) 16 s else s

theorem leads_service {u : State} {P : State → Prop} (hup : s.fwUp = true) (hu : s.begin.begun.polled = u) (hP : P u) :
    Leads .fwServicePass s P := by
  refine leads_run (exec_fwServicePass s) ?_ hP
  rw [if_pos ((begin_fwUp s).trans hup), ← hu]
  rfl

/-- Without a notice nothing is polled. -/
theorem polled_empty (h : ∀ k, k < 16 → (s.box k).full = false) : s.polled = s := by
  have hnone : ∀ n ≤ 16, foldRange (fun k u => u.pollQueue k) n s = s := by
    intro n hn
    induction n with
    | zero => rfl
    | succ n ih => rw [foldRange, ih (by omega), pollQueue_empty (h n (by omega))]
  unfold State.polled
  rw [hnone 16 le_rfl, ite_self]

theorem box_emptied (s : State) (j i : Nat) :
    (s.emptied j).box i = if i = j then { s.box j with full := false } else s.box i := box_setBox s j i _

/-- Of the notices one is there: it alone is polled. -/
theorem polled_single (h11 : s.ready 11 = true) (hopen : s.hazel.closed = false)
    (hothers : ∀ j, j < 16 → j ≠ k.val → (s.box j).full = false) (hkept : (s.pollQueue k).mbx = (s.emptied k).mbx) :
    s.polled = s.pollQueue k := by
  unfold State.polled
  rw [if_pos (by rw [h11, hopen]; rfl)]
  refine foldRange_single (f := fun k u => State.pollQueue u k) k.isLt (fun j hj hjk => pollQueue_empty (hothers j hj hjk))
    fun j hj hjk => pollQueue_empty ?_
  rw [box_congr hkept, box_emptied, if_neg hjk]
  exact hothers j hj hjk

/-- What a pass needs of a notice, it finds as it polls: the mailboxes, firmware's tables and memory are as they were. -/
theorem begun_hazel (s : State) : s.begin.begun.hazel = s.hazel := (within_begun s.begin).only.2 .hazel (by decide)

theorem begun_box (s : State) (j : Nat) : s.begin.begun.box j = s.box j :=
  box_congr ((within_begun s.begin).only.2 .mbx (by decide)).1 j

theorem begun_inFlight (s : State) (j : Nat) : s.begin.begun.inFlight j = s.inFlight j := by
  unfold State.inFlight
  rw [begun_hazel]

theorem begun_queue (s : State) (j : Nat) : s.begin.begun.queue j = s.queue j := by
  unfold State.queue
  rw [begun_hazel]

theorem begun_stack (s : State) (n : Nat) : s.begin.begun.stack n = s.stack n :=
  congrArg (fun d => Table.get ({} : Stack) d n) ((within_begun s.begin).only.2 .dram (by decide))

theorem begun_ready {i : Nat} (h : s.ready i = true) : s.begin.begun.ready i = true :=
  begun_keeps (serviceStart_keeps ((begin_ready s i).trans h))

theorem begun_dramReady {a n : Nat} (h : s.dramReady a n = true) : s.begin.begun.dramReady a n = true := by
  simp only [State.dramReady, Bool.and_eq_true, Bool.or_eq_true] at h ⊢
  obtain ⟨hrange, hready⟩ := h
  exact ⟨hrange, hready.imp_right fun ⟨hfirst, hlast⟩ => ⟨begun_ready hfirst, begun_ready hlast⟩⟩

theorem begun_asleep {n : Nat} (h : s.awake n = true) : s.begin.begun.asleep n = false := by
  refine asleep_of_awake ?_
  simp only [State.awake, Bool.and_eq_true] at h ⊢
  rw [begun_stack]
  exact ⟨begun_ready h.1, h.2⟩

/-- The service takes notices, and queue `k`, which has room, holds the one that is there: the address `a`. -/
structure OneNotice (s : State) (k : Fin 16) (a : Nat) : Prop where
  service : s.ready 11 = true
  opened : s.hazel.closed = false
  full : (s.box k).full = true
  value : (s.box k).value = a
  others : ∀ j, j < 16 → j ≠ k.val → (s.box j).full = false
  room : s.inFlight k < (s.queue k).depth
  mode : s.hazel.mode ≠ .recovery

/-- The state in which the pass reads the descriptor that a notice names. -/
def State.noticed (s : State) (k : Nat) : State := s.begin.begun.emptied k

theorem within_noticed (s : State) (k : Nat) : Within [.ready, .pipes, .mbx] s.begin (s.noticed k) :=
  (within_begun s.begin).seq (within_setBox _ k _)

theorem noticed_hazel (s : State) (k : Nat) : (s.noticed k).hazel = s.hazel := begun_hazel s

theorem noticed_queue (s : State) (k j : Nat) : (s.noticed k).queue j = s.queue j := begun_queue s j

theorem emptied_dramReady (s : State) (k a n : Nat) : (s.emptied k).dramReady a n = s.dramReady a n := rfl

theorem noticed_dramReady {n : Nat} (h : s.dramReady a n = true) : (s.noticed k).dramReady a n = true :=
  (emptied_dramReady s.begin.begun k a n).trans (begun_dramReady h)

theorem noticed_words (s : State) (k : Nat) : SameWords s (s.noticed k) where
  mark w := congrArg (fun m => Table.get Mark.clean m w) ((within_noticed s k).only.2 .memory (by decide)).2
  init n := congrArg Stack.initDone (begun_stack s n)

theorem OneNotice.polled (h : OneNotice s k a) (hawake : a % 64 = 0 → s.awake (bar2Stack a) = true)
    (hkept : ((s.noticed k).noticeAt k a).mbx = (s.noticed k).mbx) : s.begin.begun.polled = (s.noticed k).noticeAt k a := by
  have hpoll : s.begin.begun.pollQueue k = (s.noticed k).noticeAt k a := by
    refine pollQueue_takes k.isLt ?_ ?_ ?_ ?_ fun halign => begun_asleep (hawake halign)
    · rw [begun_box]; exact h.full
    · rw [begun_inFlight, begun_queue]; exact h.room
    · rw [begun_hazel]; exact h.mode
    · rw [begun_box]; exact h.value
  rw [← hpoll]
  refine polled_single (begun_ready h.service) ?_ (fun j hj hjk => ?_) ((congrArg State.mbx hpoll).trans hkept)
  · rw [begun_hazel]; exact h.opened
  · rw [begun_box]; exact h.others j hj hjk

end

/-! ### The service pass (R330) -/

section

variable {s : State} {k : Fin 16} {a : Nat}

theorem service_empty (hup : s.fwUp = true) (hnone : ∀ k, k < 16 → (s.box k).full = false) :
    Leads .fwServicePass s fun u => (∀ n, n < 4 → (u.pipe n).faultUnserved = false) ∧
      (s.ready 9 = true → s.ready 10 = true → s.ready 6 = true ∨ s.ready 7 = true → u.ready 11 = true) ∧
        Only [.ready, .pipes] s u := by
  have hpolled : s.begin.begun.polled = s.begin.begun := polled_empty fun j hj => by rw [begun_box]; exact hnone j hj
  refine leads_service hup hpolled ⟨fun n hn => begun_faults s.begin hn, fun h9 h10 hmem => ?_, (within_begun s.begin).begun⟩
  have hbegin := begin_ready s
  exact begun_keeps (serviceStart_starts ((hbegin 9).trans h9) ((hbegin 10).trans h10) (by rwa [hbegin, hbegin]))

theorem service_bad (hup : s.fwUp = true) (h : OneNotice s k a) (ha : a % 64 ≠ 0) :
    Leads .fwServicePass s fun u => (u.box k).full = false ∧ u.hazel.jobs = s.hazel.jobs ∧
      (u.queue k).badNotices = satAdd 16 (s.queue k).badNotices 1 ∧ Only [.mbx, .hazel, .ready, .pipes] s u := by
  have hbad : (s.noticed k).noticeAt k a = (s.noticed k).badNotice k := noticeAt_bad ha
  have hbox : ((s.noticed k).badNotice k).box k = { s.begin.begun.box k with full := false } := setBox_same s.begin.begun k _
  have hqueue : ((s.noticed k).badNotice k).queue k = _ := setQueue_same (s.noticed k) k _
  refine leads_service hup ((h.polled (fun halign => absurd halign ha) (by rw [hbad]; rfl)).trans hbad)
    ⟨by rw [hbox], congrArg (·.jobs) (noticed_hazel s k), ?_,
      (((within_noticed s k).seq (within_setHazel _ _)).widen (by decide)).begun⟩
  rw [hqueue, noticed_queue]

theorem taken_queue (s : State) (k : Nat) (c : Cmd) :
    (s.taken k c).queue k = { s.queue k with seq := some ((c.seq + 1) % 2 ^ 32) } := setQueue_same s k _

theorem taken_jobs (s : State) (k : Nat) (c : Cmd) : (s.taken k c).hazel.jobs = s.hazel.jobs ++ [c] := rfl

theorem within_taken (s : State) (k : Nat) (c : Cmd) : Within [.hazel] s (s.taken k c) := within_setHazel s _

theorem noticed_box (s : State) (k : Nat) : ((s.noticed k).box k).full = false :=
  congrArg Mbx.full (setBox_same s.begin.begun k _)

theorem service_takes {b : List Byte} {c : Cmd} (hup : s.fwUp = true) (h : OneNotice s k a) (ha : a % 64 = 0)
    (hrange : hostRange a 64 = true) (hready : s.dramReady a 64 = true) (hawake : s.awake (bar2Stack a) = true)
    (hplain : s.Plain a 64) (hb : b = (List.range 64).map fun i => Table.get 0 s.mem (a + i)) (hc : c = parseHeader k s.now b)
    (hlen : c.bodyLen = 0) (hreach : c.reachable a = true) (habi : blkByte b 3 = 0x24) (hqueue : blkByte b 6 = k)
    (hepoch : c.epoch = s.hazel.epoch) (hknown : knownOpcode c.opcode = true) (hseq : (s.queue k).seq = some c.seq) :
    Leads .fwServicePass s fun u => (u.box k).full = false ∧ u.hazel.jobs = s.hazel.jobs ++ [c] ∧ c.phase = .accepted ∧
      (u.queue k).seq = some ((c.seq + 1) % 2 ^ 32) ∧ (u.queue k).badNotices = (s.queue k).badNotices ∧
        Only [.mbx, .hazel, .ready, .pipes, .fab, .dram] s u := by
  have hwithin := within_noticed s k
  have hmem : (s.noticed k).mem = s.mem := (hwithin.only.2 .memory (by decide)).1
  have hnow : (s.noticed k).now = s.now := hwithin.only.2 .time (by decide)
  have hwords : (s.noticed k).Plain a 64 := (noticed_words s k).plain hplain
  obtain ⟨f, d, hread⟩ := noticeAt_reads (s := s.noticed k) (k := k) ha hrange (noticed_dramReady hready) hwords
  have hhazel : ((s.noticed k).counted f d).hazel = s.hazel := noticed_hazel s k
  have hcounted := within_counted (s.noticed k) f d
  have hqueues : ((s.noticed k).counted f d).queue k = s.queue k := noticed_queue s k k
  generalize (s.noticed k).counted f d = u at hread hhazel hcounted hqueues
  have htakes : (s.noticed k).noticeAt k a = u.taken k c := by
    rw [hread, hmem, hnow, ← hb]
    exact headerRead_takes hc hlen hreach habi hqueue (by rw [hhazel]; exact hepoch) hknown (by rw [hhazel]; exact h.mode)
      (by rw [hqueues]; exact hseq)
  have hframe := hcounted.seq (within_taken u k c)
  have hmbx : (u.taken k c).mbx = (s.noticed k).mbx := (hframe.only.2 .mbx (by decide)).1
  refine leads_service hup ((h.polled (fun _ => hawake) (by rw [htakes]; exact hmbx)).trans htakes) ⟨?_, ?_, ?_, ?_, ?_, ?_⟩
  · rw [box_congr hmbx]; exact noticed_box s k
  · rw [taken_jobs, hhazel]
  · rw [hc]; rfl
  · rw [taken_queue]
  · rw [taken_queue, hqueues]
  · exact ((hwithin.seq hframe).widen (by decide)).begun

end

/-- Settles O25: a pass without a notice by what it begins, a pass with one by the tests of its descriptor, and work put off by
what it performs. -/
theorem noticesAndDeferredWork : Obligations.NoticesAndDeferredWork := by
  unfold Obligations.NoticesAndDeferredWork
  refine ⟨fun s hup => ⟨service_empty hup, fun k a h11 hopen hfull hvalue hothers hroom hmode => ?_⟩, fun s hup i due =>
    ⟨deferred_chip hup, deferred_hazel hup, deferred_pip hup, deferred_nothing⟩⟩
  have hone : OneNotice s k a := ⟨h11, hopen, hfull, hvalue, hothers, hroom, hmode⟩
  exact ⟨service_bad hup hone, fun b c ha hrange hready hawake hplain hb hc hlen hreach habi hqueue hepoch hknown hseq =>
    service_takes hup hone ha hrange hready hawake hplain hb hc hlen hreach habi hqueue hepoch hknown hseq⟩

end Sys2Proof.Machine
end

section
/-! PROOFS of 06_lomod_commands.md. The record of an ended command and its notice (R336, R337, R346, R350), and the body's poison
and bad fields that end a command before any effect (R335). -/

namespace Sys2Proof.Machine

/-! ### The record of an ended command (06 R336) -/

section

variable {s : State} {c : Cmd} {k : Nat}

theorem leBytes_length (n x : Nat) : (leBytes n x).length = n := by
  induction n generalizing x with
  | zero => rfl
  | succ n ih => exact congrArg (· + 1) (ih _)

theorem recordBytes_length (s : State) (c : Cmd) : (s.recordBytes c).length = 32 := by
  simp only [State.recordBytes, List.length_append, leBytes_length]

/-- QUEUE_CONFIG changes its queue alone. -/
theorem within_applyQueue (s : State) (c : Cmd) : Within [.hazel] s (s.applyQueue c) :=
  ((within_setHazel s _).ite (Within.refl s)).widen (by decide)

theorem applyQueue_jobs (s : State) (c : Cmd) : (s.applyQueue c).hazel.jobs = s.hazel.jobs := by
  unfold State.applyQueue
  split <;> rfl

theorem applyQueue_queue (hop : c.opcode = 4) (hstatus : c.status = 0) (hloud : c.silent = false) :
    (s.applyQueue c).queue c.queue =
      { s.queue c.queue with depth := c.a0 % 512, doorbell := bitsOf c.a0 16 4, seq := none } := by
  unfold State.applyQueue
  rw [if_pos ⟨hop, hstatus, by rw [hloud]; rfl⟩, setQueue_same]

theorem stored_mem (s : State) (m : List Host.Cell) (k : List (Nat × Mark)) : (s.stored m k).mem = m := rfl

/-- The record of the only command of the table has been written, and a QUEUE_CONFIG has taken effect. -/
structure Recorded (s : State) (c : Cmd) (t : State) : Prop where
  jobs : t.hazel.jobs = [{ c with phase := .written }]
  stored : t.mem = pokes s.mem c.complAddr (s.recordBytes c)
  mbx : t.mbx = s.mbx
  closed : t.mbxClosed = s.mbxClosed
  config : c.opcode = 4 → c.status = 0 → c.silent = false →
    t.queue c.queue = { s.queue c.queue with depth := c.a0 % 512, doorbell := bitsOf c.a0 16 4, seq := none }

theorem writeRecord_records (hjobs : s.hazel.jobs = [c]) (hready : s.dramReady c.complAddr 32 = true)
    (hplain : s.Plain c.complAddr 32) : Recorded s c (s.writeRecord 0 c) := by
  obtain ⟨f, d, m, hwrite⟩ := writeSome_plain (bs := s.recordBytes c) (by rwa [recordBytes_length]) 6
  have hwritten : s.writeRecord 0 c =
      ((((s.counted f d).stored (pokes s.mem c.complAddr (s.recordBytes c)) m).applyQueue c).setJob 0
        { c with phase := .written }) := by
    rw [State.writeRecord, if_pos hready, State.writeMem, hwrite]
  have hstored := ((within_counted s f d).seq (within_stored _ (pokes s.mem c.complAddr (s.recordBytes c)) m))
  have hmem := stored_mem (s.counted f d) (pokes s.mem c.complAddr (s.recordBytes c)) m
  rw [hwritten]
  generalize (s.counted f d).stored (pokes s.mem c.complAddr (s.recordBytes c)) m = u at hstored hmem
  have hhazel : u.hazel = s.hazel := hstored.only.2 .hazel (by decide)
  have hset := (within_applyQueue u c).seq (within_setHazel (u.applyQueue c)
    { (u.applyQueue c).hazel with jobs := (u.applyQueue c).hazel.jobs.set 0 { c with phase := .written } })
  obtain ⟨hmbx, -, hclosed⟩ := (hstored.seq hset).only.2 .mbx (by decide)
  obtain ⟨hkept, -⟩ := hset.only.2 .memory (by decide)
  refine ⟨?_, hkept.trans hmem, hmbx, hclosed, fun hop hstatus hloud => ?_⟩
  · have htable : (u.applyQueue c).hazel.jobs = [c] := by rw [applyQueue_jobs, hhazel, hjobs]
    exact congrArg (·.set 0 { c with phase := .written }) htable
  · have hqueue : u.queue c.queue = s.queue c.queue := congrArg (fun h : Hazel => Table.get ({} : Queue) h.queues c.queue) hhazel
    exact (applyQueue_queue hop hstatus hloud).trans (by rw [hqueue])

/-! ### Its notice (06 R337) -/

/-- The notice of the only command of the table has been sent. -/
def State.sent (s : State) (c : Cmd) : State :=
  (s.setBox (16 + c.queue) { s.box (16 + c.queue) with
    hi := c.complAddr / 2 ^ 32 % 2 ^ 32, lo := c.complAddr % 2 ^ 32, full := true, half := false }).setJob 0
      { c with phase := .noticed }

/-- The notice is sent, and rings the doorbell of its queue where that has one. -/
theorem notice_sends (hclosed : s.mbxClosed = false) (hempty : (s.box (16 + c.queue)).full = false) :
    Within [.icu] (s.sent c) (s.notice 0 { c with phase := .written }) := by
  have hopen : ∀ (t : State) (m : Nat), t.mbxClosed = false → t.boxClosed m = false := fun t m h => by
    rw [State.boxClosed, h]; rfl
  have hsend := sendHi_stores (hopen s (16 + c.queue) hclosed) hempty (c.complAddr / 2 ^ 32) c.complAddr
  have hnotice : s.notice 0 { c with phase := .written } =
      if (s.queue c.queue).doorbell = 0 then s.sent c else (s.sent c).edge (96 + (s.queue c.queue).doorbell) := by
    unfold State.notice
    dsimp only
    rw [hsend, if_neg (Bool.eq_false_iff.1 (hopen _ _ hclosed))]
    rfl
  rw [hnotice]
  exact ((Within.refl _).ite (within_edge _ _)).widen (by decide)

/-- The value of a notice is the address of the record. -/
theorem sent_box (s : State) (c : Cmd) :
    ((s.sent c).box (16 + c.queue)).full = true ∧ ((s.sent c).box (16 + c.queue)).value = c.complAddr % 2 ^ 64 := by
  have hbox : (s.sent c).box (16 + c.queue) = _ := setBox_same s (16 + c.queue) _
  have hvalue : c.complAddr / 2 ^ 32 % 2 ^ 32 * 2 ^ 32 + c.complAddr % 2 ^ 32 = c.complAddr % 2 ^ 64 := by omega
  rw [hbox]
  exact ⟨rfl, hvalue⟩

theorem sent_mem (s : State) (c : Cmd) : (s.sent c).mem = s.mem := rfl

theorem sent_queue (s : State) (c : Cmd) (k : Nat) : (s.sent c).queue k = s.queue k := rfl

theorem sent_jobs (h : s.hazel.jobs = [{ c with phase := .written }]) : (s.sent c).hazel.jobs = [{ c with phase := .noticed }] :=
  congrArg (·.set 0 { c with phase := .noticed }) h

/-! ### Posting the queues (06 R346) -/

/-- A queue whose commands have all been noticed has nothing to post. -/
theorem postQueue_none (h : ∀ x ∈ s.hazel.jobs, x.queue ≠ k ∨ x.phase = .noticed) (fuel : Nat) : s.postQueue k fuel = s := by
  have hnone : s.unposted k = none := by
    refine List.findIdx?_eq_none_iff.2 fun x hx => ?_
    obtain hqueue | hphase := h x hx
    · rw [beq_eq_false_iff_ne.2 hqueue, Bool.false_and]
    · rw [hphase, bne_self_eq_false, Bool.and_false]
  cases fuel with
  | zero => rfl
  | succ fuel =>
    unfold State.postQueue
    rw [hnone]

theorem unposted_single (hjobs : s.hazel.jobs = [c]) (hphase : c.phase ≠ .noticed) : s.unposted c.queue = some 0 := by
  unfold State.unposted
  rw [hjobs, List.findIdx?_cons, if_pos (by simp [hphase])]

theorem postQueue_ended (hjobs : s.hazel.jobs = [c]) (hphase : c.phase = .ended)
    (hawake : s.asleep (bar2Stack c.complAddr) = false) (fuel : Nat) :
    s.postQueue c.queue (fuel + 1) = (s.writeRecord 0 c).postQueue c.queue fuel := by
  have hget : s.hazel.jobs.getD 0 {} = c := by rw [hjobs]; rfl
  rw [State.postQueue, unposted_single hjobs (by rw [hphase]; decide)]
  dsimp only
  rw [hget, hphase]
  exact if_neg (Bool.eq_false_iff.1 hawake)

/-- A record whose notice finds the mailbox full waits. -/
theorem postQueue_waits (hjobs : s.hazel.jobs = [c]) (hphase : c.phase = .written) (hloud : c.silent = false)
    (hfull : (s.box (16 + c.queue)).full = true) (fuel : Nat) : s.postQueue c.queue (fuel + 1) = s := by
  have hget : s.hazel.jobs.getD 0 {} = c := by rw [hjobs]; rfl
  rw [State.postQueue, unposted_single hjobs (by rw [hphase]; decide)]
  dsimp only
  rw [hget, hphase]
  dsimp only
  rw [hloud, hfull]
  rfl

theorem postQueue_notices (hjobs : s.hazel.jobs = [c]) (hphase : c.phase = .written) (hloud : c.silent = false)
    (hempty : (s.box (16 + c.queue)).full = false) (fuel : Nat) :
    s.postQueue c.queue (fuel + 1) = (s.notice 0 c).postQueue c.queue fuel := by
  have hget : s.hazel.jobs.getD 0 {} = c := by rw [hjobs]; rfl
  rw [State.postQueue, unposted_single hjobs (by rw [hphase]; decide)]
  dsimp only
  rw [hget, hphase]
  dsimp only
  rw [hloud, hempty]
  rfl

/-- Of the queues the one of the only command posts. -/
theorem post_single {t : State} {p : Phase} (hup : s.fwUp = true) (hjobs : s.hazel.jobs = [c]) (hqueue : c.queue < 16)
    (ht : s.postQueue c.queue 3 = t) (htable : t.hazel.jobs = [{ c with phase := p }]) : s.post = t := by
  have hlen : s.postQueue c.queue (2 * s.hazel.jobs.length + 1) = t := by rw [hjobs]; exact ht
  have hother : ∀ {u : State} {x : Cmd} {i : Nat}, u.hazel.jobs = [x] → x.queue = c.queue → i ≠ c.queue → ∀ fuel,
      u.postQueue i fuel = u := fun hu hx hi => postQueue_none fun y hy => by
    rw [hu, List.mem_singleton] at hy
    exact .inl fun heq => hi (by rw [← heq, hy, hx])
  unfold State.post
  rw [if_pos hup]
  refine (foldRange_single (f := fun k u => State.postQueue u k (2 * u.hazel.jobs.length + 1)) hqueue
    (fun i _ hi => hother hjobs rfl hi _) fun i _ hi => ?_).trans hlen
  rw [hlen]
  exact hother htable rfl hi _

end

section

variable {s : State} {c : Cmd}

/-- What firmware can post: the only command of the table has ended, and its record can be written. -/
structure Postable (s : State) (c : Cmd) : Prop where
  up : s.fwUp = true
  jobs : s.hazel.jobs = [c]
  phase : c.phase = .ended
  queue : c.queue < 16
  loud : c.silent = false
  ready : s.dramReady c.complAddr 32 = true
  awake : s.asleep (bar2Stack c.complAddr) = false
  plain : s.Plain c.complAddr 32

theorem Postable.recorded (h : Postable s c) : Recorded s c (s.writeRecord 0 c) := writeRecord_records h.jobs h.ready h.plain

/-- With the mailbox full the record is written, and its notice waits. -/
theorem Postable.post_full (h : Postable s c) (hfull : (s.box (16 + c.queue)).full = true) : s.post = s.writeRecord 0 c := by
  have hrec := h.recorded
  refine post_single h.up h.jobs h.queue ((postQueue_ended h.jobs h.phase h.awake 2).trans ?_) hrec.jobs
  exact postQueue_waits (c := { c with phase := .written }) hrec.jobs rfl h.loud ((box_congr hrec.mbx _).symm ▸ hfull) 1

/-- With the mailbox empty the record is written and its notice sent. -/
theorem Postable.post_empty (h : Postable s c) (hopen : s.mbxClosed = false) (hempty : (s.box (16 + c.queue)).full = false) :
    Within [.icu] ((s.writeRecord 0 c).sent c) s.post := by
  have hrec := h.recorded
  have hbox : ((s.writeRecord 0 c).box (16 + c.queue)).full = false := (box_congr hrec.mbx _).symm ▸ hempty
  have hsends := notice_sends (hrec.closed.trans hopen) hbox
  have htable : ((s.writeRecord 0 c).notice 0 { c with phase := .written }).hazel.jobs = [{ c with phase := .noticed }] :=
    (congrArg (·.jobs) (hsends.only.2 .hazel (by decide))).trans (sent_jobs hrec.jobs)
  have hpost : s.post = (s.writeRecord 0 c).notice 0 { c with phase := .written } := by
    refine post_single h.up h.jobs h.queue ((postQueue_ended h.jobs h.phase h.awake 2).trans ?_) htable
    refine (postQueue_notices (c := { c with phase := .written }) hrec.jobs rfl h.loud hbox 1).trans (postQueue_none ?_ 1)
    intro x hx
    rw [htable, List.mem_singleton] at hx
    exact .inr (by rw [hx])
  rw [hpost]
  exact hsends

/-- The record is at its address however the mailbox stands, and a QUEUE_CONFIG has taken effect. -/
theorem Postable.posts_config (h : Postable s c) (hopen : s.mbxClosed = false) :
    s.post.mem = (s.writeRecord 0 c).mem ∧ s.post.queue c.queue = (s.writeRecord 0 c).queue c.queue := by
  cases hfull : (s.box (16 + c.queue)).full with
  | true => rw [h.post_full hfull]; exact ⟨rfl, rfl⟩
  | false =>
    have hsends := h.post_empty hopen hfull
    have hhazel : s.post.hazel = ((s.writeRecord 0 c).sent c).hazel := hsends.only.2 .hazel (by decide)
    have hqueue := congrArg (fun x : Hazel => Table.get ({} : Queue) x.queues c.queue) hhazel
    exact ⟨(hsends.only.2 .memory (by decide)).1.trans (sent_mem _ c), hqueue.trans (sent_queue _ c _)⟩

end

/-! ### Commands that end before any effect (06 R335) -/

section

variable {s : State} {q : Fin 16} {op i : Nat} {c : Cmd} {shape : State → Cmd → Shape} {f : State → Cmd → State × Cmd}

/-- A poisoned body ends a command. -/
theorem serve_poisoned (hup : s.fwUp = true) (hstarts : s.starts q op = some i) (hc : s.hazel.jobs.getD i {} = c)
    (hpoison : c.bodyPoison ≠ 0) :
    s.serve q op shape f = (s.setJob i (c.ends 0x0303 0 (c.bodyPoison - 1))).post := by
  unfold State.serve
  rw [if_pos hup, hstarts]
  dsimp only
  rw [hc, if_pos hpoison]

/-- A bad field ends a command. -/
theorem serve_badField {o : Nat} (hup : s.fwUp = true) (hstarts : s.starts q op = some i) (hc : s.hazel.jobs.getD i {} = c)
    (hpoison : c.bodyPoison = 0) (hfield : c.badField (shape s c) = some o) :
    s.serve q op shape f = (s.setJob i (c.ends 0x0102 o 0)).post := by
  unfold State.serve
  rw [if_pos hup, hstarts]
  dsimp only
  rw [hc, if_neg (not_not.2 hpoison), hfield]

/-- Reserved bits of FLAGS are found before any other bad field. -/
theorem badField_flags (h : c.flags > 3) : c.badField {} = some 2 := by
  refine firstBad_eq (List.mem_cons.2 (.inl (by rw [decide_eq_true h]))) fun e he _ => ?_
  simp only [List.append_nil, List.mem_cons, List.not_mem_nil, or_false] at he
  obtain rfl | rfl | rfl | rfl | rfl | rfl | rfl | rfl := he
  all_goals
    simp only [resBits]
    omega

theorem nop_ends (hup : s.fwUp = true) (hstarts : s.starts q 3 = some i) (hc : s.hazel.jobs.getD i {} = c) :
    (c.bodyPoison ≠ 0 → Posts (.nop q) s s.begin i (c.ends 0x0303 0 (c.bodyPoison - 1))) ∧
    (∀ o, c.bodyPoison = 0 → c.badField {} = some o → Posts (.nop q) s s.begin i (c.ends 0x0102 o 0)) ∧
    (c.bodyPoison = 0 → c.flags > 3 → Posts (.nop q) s s.begin i (c.ends 0x0102 2 0)) ∧
    (c.bodyPoison = 0 → c.badField {} = none → Posts (.nop q) s s.begin i (c.ends 0 0 0)) := by
  have hup' := (begin_fwUp s).trans hup
  have hstarts' := (begin_starts s q 3).trans hstarts
  have hnop : exec (.nop q) s = .next (s.begin.serve q 3 (fun _ _ => {}) fun s c => (s, c.done)).settle :=
    (exec_nop q s).trans (run_eq _ _)
  have hbad : ∀ o, c.bodyPoison = 0 → c.badField {} = some o → Posts (.nop q) s s.begin i (c.ends 0x0102 o 0) :=
    fun o hpoison hfield => by
      unfold Posts
      rw [hnop, serve_badField (shape := fun _ _ => {}) hup' hstarts' hc hpoison hfield]
  refine ⟨fun hpoison => ?_, hbad, fun hpoison hflags => hbad 2 hpoison (badField_flags hflags), fun hpoison hfield => ?_⟩
  · unfold Posts
    rw [hnop, serve_poisoned hup' hstarts' hc hpoison]
  · have hs : s.Serves q 3 i c {} := ⟨hup, hstarts, hc, hpoison, hfield, rfl, rfl, rfl⟩
    exact hs.posts (exec_nop q s) rfl rfl

end

/-- Settles O26: the record by what its write stores, the notice by the state of its mailbox, and NOP by the check that ends it. -/
theorem recordsNoticesAndBadFields : Obligations.RecordsNoticesAndBadFields := by
  unfold Obligations.RecordsNoticesAndBadFields
  refine ⟨fun s c hup hjobs hphase hqueue hloud hready hawake hplain hopen => ?_, fun s q i c => nop_ends⟩
  have h : Postable s c := ⟨hup, hjobs, hphase, hqueue, hloud, hready, hawake, hplain⟩
  have hrec := h.recorded
  obtain ⟨hmem, hconfig⟩ := h.posts_config hopen
  have hstored : StoredAt c.complAddr (s.recordBytes c) s s.post := storedAt_pokes (hmem.trans hrec.stored)
  refine ⟨fun hempty => ?_, fun hfull => ?_, fun hop hstatus => ?_⟩
  · have hsends := h.post_empty hopen hempty
    have hbox := box_congr (hsends.only.2 .mbx (by decide)).1 (16 + c.queue)
    obtain ⟨hfull, hvalue⟩ := sent_box (s.writeRecord 0 c) c
    refine ⟨hstored, by rw [hbox]; exact hfull, by rw [hbox]; exact hvalue, ?_⟩
    exact (congrArg (·.jobs) (hsends.only.2 .hazel (by decide))).trans (sent_jobs hrec.jobs)
  · have hpost := h.post_full hfull
    exact ⟨hstored, by rw [hpost]; exact hrec.mbx, by rw [hpost]; exact hrec.jobs⟩
  · rw [hconfig, hrec.config hop hstatus hloud]
    exact ⟨rfl, rfl, rfl⟩

end Sys2Proof.Machine
end

section
/-! PROOFS of 07_pipes_pod_sequencer.md. A job that a block reset ends before the command at hand stops it (R404, R413; 01 R57):
the model's command then leaves the ended job to a later posting, where the statements have firmware post it at once. -/

namespace Sys2Proof.Machine

/-- The commands that Hazel holds once a command has been carried out. -/
def jobsHeld (o : Host.Outcome State Fault Refusal) : List Cmd :=
  match o with
  | .next t => t.hazel.jobs
  | _ => []

/-- Where the command leaves a job in the table that firmware would post and drop, firmware has not been carried on. -/
theorem not_carries_of_jobsHeld {c : Instr} {s u : State} (hheld : (jobsHeld (exec c s)).length = 1)
    (hposted : u.progress.hazel.jobs.length = 0) : ¬ Carries c s u := by
  intro hcarries
  rw [show exec c s = .next u.progress.settle from hcarries] at hheld
  have hsettled : (jobsHeld (.next u.progress.settle)).length = u.progress.hazel.jobs.length := by simp [jobsHeld]
  omega

/-! ### A sandbox violation whose reaction is the reset of its pipe (07 R413; 15 R782, R789) -/

/-- A job runs on pipe 0, and its only thread stands before a BRX that is taken, in a Pod of no steps. The reaction to
POD_SANDBOX_VIOLATION is a block reset, and the job's completion address lies outside memory. -/
def sandboxReset : State :=
  { husk := { power := .mainOn }, rdy := rdyBit 15, plls := [(1, .locked), (2, .locked)]
    flt := { react := [(33, Trip.of 4)] }
    hazel := { mode := .compat
               jobs := [{ opcode := 0x301, phase := .running, onPipe := true, pipes := 1, complAddr := 2 ^ 34 }]
               sessions := [(0, { run := some {} })], pods := [(0, { image := List.replicate 15 0 ++ [0x22] })] }
    pipes := [(0, { threads := [(0, { active := true })], pages := [(0, 0, 0, 0)] })] }

theorem sandboxReset_steps :
    sandboxReset.Steps ⟨0, 0⟩ (sandboxReset.thread 0 0) (sandboxReset.stepOf (sandboxReset.thread 0 0)) := by
  unfold State.Steps
  decide

/-- Refutes O55: the report of a sandbox violation can reset the pipe, which ends the job RESET_ABORTED. The command then finds
no job to stop, and firmware does not go on to post it, as the clause on BRX (08 R468) has it. -/
theorem not_sandboxRulesStopJobs : ¬ Obligations.SandboxRulesStopJobs := by
  unfold Obligations.SandboxRulesStopJobs
  intro h
  obtain ⟨-, -, -, -, -, -, -, -, -, -, hbrx, -⟩ :=
    h sandboxReset ⟨0, 0⟩ _ rfl _ rfl sandboxReset_steps 0 rfl _ rfl _ rfl _ rfl _ rfl
  exact not_carries_of_jobsHeld (by decide +kernel) (by decide +kernel) (hbrx (by decide) (by decide) (by decide))

/-! ### A picture whose stack is reset as it is measured (07 R404; 12 R621, R629) -/

/-- A JOB_MEASURE runs on pipe 0, and its pictures are one sample each, in the first word of stack 0, which is uncorrectable. The
reaction to DRAM_UE is a block reset. The entry of the job names the self-test of the stack as what it waits for, which no command
of the model brings about; its completion address lies outside memory. -/
def measureReset : State :=
  { husk := { power := .mainOn }, rdy := rdyBit 15, plls := [(1, .locked)]
    flt := { react := [(22, Trip.of 4)] }
    hazel := { mode := .compat
               jobs := [{ opcode := 0x304, phase := .running, onPipe := true, wait := some ⟨.memSelftest, 1⟩
                          body := List.replicate 0x18 0 ++ [1, 0, 1, 0], complAddr := 2 ^ 34 }]
               sessions := [(0, { run := some {} })] }
    marks := [(0, .uncorrectable)] }

/-- Refutes O47: the clause on JOB_MEASURE ranges over every state, and the reading of a picture can reset a stack, which ends the
commands that wait for its self-test. If the job is one of them, the command finds no job to stop, and firmware does not go on to
post it. -/
theorem not_jobsRunOnTheirPipes : ¬ Obligations.JobsRunOnTheirPipes := by
  unfold Obligations.JobsRunOnTheirPipes
  intro h
  obtain ⟨-, -, hend, -⟩ := h measureReset 0
  obtain ⟨-, hends⟩ := hend 0 _ rfl
  obtain ⟨-, hmeasure, -, -⟩ := hends 0 {} (by decide) (by decide) rfl (by decide) (by decide) _ rfl (by decide)
  exact not_carries_of_jobsHeld (by decide +kernel) (by decide +kernel) (hmeasure _ rfl (by decide) (by decide +kernel))

end Sys2Proof.Machine
end

section
/-! PROOFS of 07_pipes_pod_sequencer.md. Self-tests of the pipes and the memories (R422 to R430, R441 to R444; 12 R629). -/

namespace Sys2Proof.Machine

/-! ### Commands that find nothing to do, and commands that firmware carries on -/

theorem does_nothing {c : Instr} {f : State → State} {s : State} (h : exec c s = run f s) (hf : f s.begin = s.begin) :
    Does c s fun t => Only [] s t :=
  (does_run h).2 (by rw [hf]; exact (Within.refl s.begin).settled)

theorem carries_run {c : Instr} {f : State → State} {s u : State} (h : exec c s = run f s) (hf : f s.begin = u.progress) :
    Carries c s u := by
  rw [Carries, h, run_eq, hf]

/-! ### Reports of a source that can reset a block (15 R782, R789 to R791) -/

/-- A report reaches the collector and the Husk, and can then reset the block of its source. -/
theorem report_block (s : State) {src detail : Nat} {b : Block} (hhazel : fltHazelReset src = false)
    (hblock : fltBlock src (detail % 2 ^ 32) = some b) :
    ∃ f r, s.report src detail = s.noted f r ∨ s.report src detail = (s.noted f r).blockReset b := by
  have hreact : ∀ (t : State) (m : Nat), (∃ g, t = s.setFlt g) → ∃ f r,
      t.react src m (detail % 2 ^ 32) = s.noted f r ∨ t.react src m (detail % 2 ^ 32) = (s.noted f r).blockReset b := by
    rintro t m ⟨g, rfl⟩
    obtain ⟨f, hnmi⟩ : ∃ f, (if bitAt m 1 then (s.setFlt g).reactNmi src else s.setFlt g) = s.setFlt f := by
      split
      · exact reactNmi_shape (s.setFlt g) src
      · exact ⟨g, rfl⟩
    unfold State.react
    rw [hnmi]
    dsimp only
    split
    · exact ⟨f, _, .inl rfl⟩
    · split
      · unfold State.reactBlock
        rw [hhazel, hblock]
        dsimp only
        rw [if_neg Bool.false_ne_true]
        split
        · exact ⟨f, s.husk.resetDue, .inr rfl⟩
        · obtain ⟨f', hdrop⟩ := logEvent_shape ((s.setFlt f).setFlt { f with dropped := satAdd 32 f.dropped 1 }) 4 src
          exact ⟨f', s.husk.resetDue, .inl hdrop⟩
      · exact ⟨f, s.husk.resetDue, .inl rfl⟩
  unfold State.report
  split
  · unfold State.record
    dsimp only
    split
    · exact ⟨_, s.husk.resetDue, .inl rfl⟩
    · refine hreact _ _ ?_
      have hlogged : ∀ x, ∃ g, (s.setFltSrc src x).logEvent 1 src = s.setFlt g := fun x => logEvent_shape (s.setFltSrc src x) 1 src
      obtain ⟨g, hg⟩ := hlogged _
      rw [hg]
      split
      · exact ⟨_, rfl⟩
      · exact ⟨g, rfl⟩
  · exact ⟨s.flt, s.husk.resetDue, .inl rfl⟩

/-- A source that resets no block has its record open once it has been reported. -/
theorem report_opens {s : State} {src : Nat} (h : s.mildly src) (hcan : s.canRecord src false = true) (detail : Nat) :
    ((s.report src detail).fltSrc src).open_ = true := by
  obtain ⟨f, r, hrecord, hopen, -⟩ := record_mild h (detail % 2 ^ 32) (fltCondition src)
  rw [State.report, if_pos hcan, hrecord]
  exact hopen

theorem canRecord_of_ready {s : State} {src : Nat} (hsrc : fltReserved src = false) (hmain : fltHusk src = false)
    (h15 : s.ready 15 = true) : s.canRecord src false = true := by
  simp [State.canRecord, hsrc, hmain, h15]

theorem givesBack_reclaim (s : State) (p : Requester → Bool) : GivesBack s (s.reclaim p) :=
  ⟨fun _ h => (List.mem_filter.1 h).1, fun _ h => (List.mem_filter.1 h).1, rfl⟩

theorem givesBack_resetPipe (s : State) (n : Nat) : GivesBack s (s.resetPipe n) := by
  have hended : GivesBack s (((s.haltRuns (fun x => bitAt x.mask n) 64).endJobs
      (fun c => c.phase == .running && bitAt c.pipes n) 0x0301 1).endJobs
      (fun c => (s.pipe n).bistCmd == some (c.queue, c.seq)) 0x0301 1) :=
    .of_within (((within_haltRuns s _ 64).seq (within_endJobs _ _ _ _)).seq (within_endJobs _ _ _ _)) (by decide)
  have hcleared : GivesBack s (s.pipeCleared n) :=
    (hended.trans (givesBack_reclaim _ (Block.pipeReq n))).trans (.of_within (within_setPipe _ n _) (by decide))
  have hdown : GivesBack s (s.pipeDown n) :=
    (hcleared.trans (.of_within (within_dropReady _ _) (by decide))).trans (givesBack_releaseIdlePipes _ 4)
  rw [resetPipe_eq]
  split
  · exact hdown.trans (.of_within (within_setReady _ _) (by decide))
  · exact hdown

/-- The report of a pipe's failed self-test takes no time, and gives grants back at most. -/
theorem report_failedTest (s : State) (n : Nat) : GivesBack s (s.report 34 n) ∧ (s.report 34 n).now = s.now := by
  obtain ⟨f, r, hnoted | hreset⟩ := report_block s (src := 34) (detail := n) rfl rfl
  · rw [hnoted]
    exact ⟨.of_within (within_noted s f r) (by decide), rfl⟩
  · rw [hreset]
    exact ⟨(GivesBack.of_within (within_noted s f r) (by decide)).trans (givesBack_resetPipe _ _),
      (within_resetPipe _ _).only.2 .time (by decide)⟩

/-! ### A self-test that ends (07 R422, R423, R427 to R429) -/

/-- The moment at which a pipe's test ends (R423). -/
def Pipe.testEnd (p : Pipe) : Nat := p.bistAt + 3500000

/-- A pipe that has restored its state after a test at `now`, which passed or not. -/
def Pipe.tested (p : Pipe) (now : Nat) (passed : Bool) : Pipe :=
  { p with pages := [], lastTest := now, waived := false, failed := !passed
           bistFailed := if passed then p.bistFailed else satAdd 16 p.bistFailed 1 }

/-- A pipe whose aborted test has left it as at reset. -/
def Pipe.untested (p : Pipe) : Pipe := { p with pages := [], waived := true, bistAborted := satAdd 16 p.bistAborted 1 }

/-- A pipe without a test. -/
def Pipe.testless (p : Pipe) : Pipe := { p with bist := .none, bistCmd := none, bistAborting := false }

section

variable {s t : State} {n : Nat} {c : Cmd}

/-- The grant of a test that is over, and its interrupt. -/
theorem within_bistOver (s : State) (n : Nat) : Within [.pac, .icu] s (s.bistOver n) :=
  (within_setPac s (s.pac.released ⟨.pipeSelftest, n⟩)).seq (within_edge _ _)

theorem not_mem_held_bistOver (s : State) (n : Nat) : ⟨.pipeSelftest, n⟩ ∉ (s.bistOver n).pac.held := by
  have hpac : (s.bistOver n).pac = s.pac.released ⟨.pipeSelftest, n⟩ := edge_pac _ _
  rw [hpac, mem_held_released]
  exact fun h => h.2 rfl

theorem bistOver_pends (h14 : s.ready 14 = true) (hn : n < 4) : (s.bistOver n).icu.hazelA.pend.getLsbD (41 + n) = true := by
  have hsource : (icuAssigned &&& ~~~icuLevels).getLsbD (41 + n) = true := by
    obtain rfl | rfl | rfl | rfl : n = 0 ∨ n = 1 ∨ n = 2 ∨ n = 3 := by omega
    all_goals decide
  have hedge := tgt_edges (s := s.release ⟨.pipeSelftest, n⟩) h14 (icuBit (41 + n)) .hazelA
  rw [State.bistOver, edge_eq _ hsource]
  refine (congrArg (fun x : IcuTgt => x.pend.getLsbD (41 + n)) hedge).trans ?_
  simp [IcuTgt.edge, icuBit_getLsbD, show 41 + n < 256 by omega]

theorem within_bistDone (s : State) (n result : Nat) : Within [.hazel, .pipes] s (s.bistDone n result) :=
  (within_setHazel s _).seq (within_setPipe _ n _)

theorem bistDone_pipe (s : State) (n result : Nat) : (s.bistDone n result).pipe n = (s.pipe n).testless := setPipe_same _ n _

theorem bistDone_other (s : State) (result : Nat) {j : Nat} (h : j ≠ n) : (s.bistDone n result).pipe j = s.pipe j :=
  Table.get_set_other _ _ _ _ _ h

/-- The SELFTEST command that asked for the test, alone in the table, ends. -/
theorem bistDone_jobs (hjobs : s.hazel.jobs = [c]) (hcmd : (s.pipe n).bistCmd = some (c.queue, c.seq)) (hphase : c.phase = .running)
    (result : Nat) : (s.bistDone n result).hazel.jobs = [c.ends 0 0 result] := by
  have hlive : c.live = true := by rw [Cmd.live, hphase]; rfl
  simp [State.bistDone, State.setPipe, hjobs, hcmd, hlive]

/-- Without a job in the table no job waits for the pipe. -/
theorem failWaiting_jobs (hjobs : s.hazel.jobs = [c]) (hjob : isJob c.opcode = false) : (s.failWaiting n).hazel.jobs = [c] := by
  simp [State.failWaiting, State.endJobs, hjobs, hjob]

theorem until_now (s : State) (due : Nat) : (s.until due).now = max s.now due := by
  simp only [State.until, State.advance]
  omega

theorem until_pipe (s : State) (due j : Nat) : (s.until due).pipe j = s.pipe j := rfl

/-- The state in which the test of pipe `n` is over: the pipe is restored and the grant given back. -/
def State.testOver (s : State) (n : Nat) (passed : Bool) : State :=
  let u := s.until (s.pipe n).testEnd
  (u.setPipe n ((s.pipe n).tested u.now passed)).bistOver n

theorem within_testOver (s : State) (n : Nat) (passed : Bool) :
    Within [.time, .ptp, .pipes, .pac, .icu] s (s.testOver n passed) :=
  ((within_until s _).seq (within_setPipe _ n _)).seq (within_bistOver _ n)

theorem testOver_now (s : State) (n : Nat) (passed : Bool) :
    (s.testOver n passed).now = max s.now (s.pipe n).testEnd :=
  ((within_bistOver _ n).only.2 .time (by decide)).trans (until_now s _)

theorem not_mem_held_testOver (s : State) (n : Nat) (passed : Bool) : ⟨.pipeSelftest, n⟩ ∉ (s.testOver n passed).pac.held :=
  not_mem_held_bistOver _ n

theorem testOver_pends (h14 : s.ready 14 = true) (hn : n < 4) (passed : Bool) :
    (s.testOver n passed).icu.hazelA.pend.getLsbD (41 + n) = true := by
  refine bistOver_pends (Eq.trans ?_ h14) hn
  exact ((within_until s _).seq (within_setPipe _ n _)).ready_eq 14 (by decide)

theorem testOver_pipe (s : State) (n : Nat) (passed : Bool) :
    (s.testOver n passed).pipe n = (s.pipe n).tested (s.testOver n passed).now passed := by
  have hover := within_bistOver ((s.until (s.pipe n).testEnd).setPipe n
    ((s.pipe n).tested (s.until (s.pipe n).testEnd).now passed)) n
  have hpipe := congrArg (fun l => Table.get ({} : Pipe) l n) (hover.only.2 .pipes (by decide))
  have hnow := hover.only.2 .time (by decide)
  refine hpipe.trans ((setPipe_same _ n _).trans ?_)
  exact congrArg ((s.pipe n).tested · passed) hnow.symm

/-- What a state says of a report's mask stands outside a frame that leaves the collector out. -/
theorem Within.mildly {l : List Part} (h : Within l s t) (hl : .flt ∉ l) {src : Nat} (hs : s.mildly src) : t.mildly src := by
  have hmask : t.reactMask src = s.reactMask src := reactMask_congr (h.only.2 .flt hl) src
  rwa [State.mildly, hmask]

theorem Within.pipe_eq {l : List Part} (h : Within l s t) (hl : .pipes ∉ l) (j : Nat) : t.pipe j = s.pipe j :=
  congrArg (fun x => Table.get ({} : Pipe) x j) (h.only.2 .pipes hl)

theorem Within.hazelA_pend {l : List Part} (h : Within l s t) (hl : .icu ∉ l) : t.icu.hazelA.pend = s.icu.hazelA.pend :=
  keptIcu (fun u : Icu => u.hazelA.pend) (h.only.2 .icu hl) fun _ => rfl

theorem bistEnds_passed (s : State) (n : Nat) :
    s.bistEnds n 0 = (((s.testOver n true).setReady (16 + n)).bistDone n 0).progress := by
  unfold State.bistEnds State.testOver
  dsimp only
  rw [until_pipe]
  rfl

theorem bistEnds_failed {code : Nat} (h : code ≠ 0) :
    s.bistEnds n code = ((((s.testOver n false).failWaiting n).report 34 n).bistDone n (code * 2 ^ 16 + 1)).progress := by
  unfold State.bistEnds State.testOver
  dsimp only
  rw [until_pipe, if_neg h, if_neg h, bne_iff_ne.2 h]
  rfl

end

section

variable {s : State} {n : Fin 4}

theorem leads_pipeSelftestEnd {code : BitVec 16} {u : State} {P : State → Prop} (hrun : (s.pipe n).bist = .running)
    (hgoing : (s.pipe n).bistAborting = false) (hends : s.begin.bistEnds n code.toNat = u.progress) (hP : P u) :
    Leads (.pipeSelftestEnd n code) s P := by
  refine leads_run (exec_pipeSelftestEnd n code s) ((if_pos ?_).trans hends) hP
  rw [begin_pipe, hrun, hgoing]
  rfl

theorem pipeSelftestEnd_idle (h : (s.pipe n).bist ≠ .running ∨ (s.pipe n).bistAborting = true) (code : BitVec 16) :
    Does (.pipeSelftestEnd n code) s fun t => Only [] s t := by
  refine does_nothing (exec_pipeSelftestEnd n code s) (if_neg ?_)
  rw [begin_pipe]
  obtain h | h := h <;> simp [h]

theorem pipeSelftestEnd_passes (hrun : (s.pipe n).bist = .running) (hgoing : (s.pipe n).bistAborting = false) :
    Leads (.pipeSelftestEnd n 0) s fun t =>
      t.now = max s.now (s.pipe n).testEnd ∧ ⟨.pipeSelftest, n.val⟩ ∉ t.pac.held ∧
      t.pipe n = ((s.pipe n).tested t.now true).testless ∧
      (s.ready 14 = true → t.icu.hazelA.pend.getLsbD (41 + n) = true) ∧
      (∀ c, s.hazel.jobs = [c] → (s.pipe n).bistCmd = some (c.queue, c.seq) → c.phase = .running →
        t.hazel.jobs = [c.ends 0 0 0]) ∧
      t.ready (16 + n) = true ∧ Only [.pipes, .pac, .ready, .hazel, .icu, .time, .ptp] s t := by
  have hover := within_testOver s.begin n true
  have hset := within_setReady (s.begin.testOver n true) (16 + n)
  have hdone := within_bistDone ((s.begin.testOver n true).setReady (16 + n)) n 0
  have hpipe := testOver_pipe s.begin n true
  refine leads_pipeSelftestEnd hrun hgoing (bistEnds_passed _ _)
    ⟨(hdone.only.2 .time (by decide)).trans (testOver_now s.begin n true), ?_, ?_, fun h14 => ?_, fun c hjobs hcmd hphase => ?_,
      ?_, ((hover.seq (hset.seq hdone)).widen (by decide)).begun⟩
  · rw [show _ = (s.begin.testOver n true).pac from (hset.seq hdone).only.2 .pac (by decide)]
    exact not_mem_held_testOver _ n _
  · rw [bistDone_pipe, hset.pipe_eq (by decide), hpipe]
    rfl
  · rw [(hset.seq hdone).hazelA_pend (by decide)]
    exact testOver_pends (s := s.begin) ((begin_ready s 14).trans h14) n.isLt _
  · refine bistDone_jobs ?_ ?_ hphase 0
    · exact (congrArg (·.jobs) ((hover.seq hset).only.2 .hazel (by decide))).trans hjobs
    · exact (congrArg Pipe.bistCmd hpipe).trans hcmd
  · rw [hdone.ready_eq _ (by decide), setReady_ready]
    have hn := n.isLt
    simp [show 16 + n.val < 40 by omega]

theorem pipeSelftestEnd_fails {code : BitVec 16} (hcode : code ≠ 0) (hrun : (s.pipe n).bist = .running)
    (hgoing : (s.pipe n).bistAborting = false) : Leads (.pipeSelftestEnd n code) s fun t =>
      t.now = max s.now (s.pipe n).testEnd ∧ ⟨.pipeSelftest, n.val⟩ ∉ t.pac.held ∧
      (s.mildly 34 → t.pipe n = ((s.pipe n).tested t.now false).testless ∧
        (s.ready 14 = true → t.icu.hazelA.pend.getLsbD (41 + n) = true) ∧
        (∀ c, s.hazel.jobs = [c] → (s.pipe n).bistCmd = some (c.queue, c.seq) → c.phase = .running → isJob c.opcode = false →
          t.hazel.jobs = [c.ends 0 0 (code.toNat * 2 ^ 16 + 1)]) ∧
        (s.ready 15 = true → (t.fltSrc 34).open_ = true ∧ t.rdy = s.rdy)) := by
  have hnat : code.toNat ≠ 0 := fun h => hcode (BitVec.eq_of_toNat_eq h)
  have hover := within_testOver s.begin n false
  have hfail : Within [.hazel] (s.begin.testOver n false) ((s.begin.testOver n false).failWaiting n) := within_endJobs _ _ _ _
  obtain ⟨hgives, hnow⟩ := report_failedTest ((s.begin.testOver n false).failWaiting n) n
  have hdone := within_bistDone (((s.begin.testOver n false).failWaiting n).report 34 n) n (code.toNat * 2 ^ 16 + 1)
  have htime := (hdone.only.2 .time (by decide)).trans hnow
  have hpipe := testOver_pipe s.begin n false
  refine leads_pipeSelftestEnd hrun hgoing (bistEnds_failed hnat) ⟨htime.trans (testOver_now s.begin n false), fun hheld => ?_, fun hmild => ?_⟩
  · rw [show _ = (((s.begin.testOver n false).failWaiting n).report 34 n).pac from hdone.only.2 .pac (by decide)] at hheld
    exact not_mem_held_testOver _ n _ (hgives.held _ hheld)
  have hmild' : ((s.begin.testOver n false).failWaiting n).mildly 34 := (hover.seq hfail).mildly (by decide) hmild
  have hreport := within_report_mild hmild' n
  refine ⟨?_, fun h14 => ?_, fun c hjobs hcmd hphase hjob => ?_, fun h15 => ⟨?_, ?_⟩⟩
  · rw [bistDone_pipe, (hfail.seq hreport).pipe_eq (by decide), hpipe, htime]
    rfl
  · rw [((hfail.seq hreport).seq hdone).hazelA_pend (by decide)]
    exact testOver_pends (s := s.begin) ((begin_ready s 14).trans h14) n.isLt _
  · refine bistDone_jobs ?_ ?_ hphase _
    · refine (congrArg (·.jobs) (hreport.only.2 .hazel (by decide))).trans (failWaiting_jobs ?_ hjob)
      exact (congrArg (·.jobs) (hover.only.2 .hazel (by decide))).trans hjobs
    · rw [(hfail.seq hreport).pipe_eq (by decide), hpipe]
      exact hcmd
  · rw [fltSrc_congr (congrArg (·.src) (hdone.only.2 .flt (by decide)))]
    exact report_opens hmild' (canRecord_of_ready rfl rfl (((hover.seq hfail).ready_eq 15 (by decide)).trans h15)) _
  · exact (((hover.seq hfail).seq (hreport.seq hdone)).only.2 .ready (by decide)).1

/-! ### A self-test that is aborted (R427) -/

/-- The state in which the aborted test of pipe `n` is over. -/
def State.abortOver (s : State) (n : Nat) : State := ((s.advance 110000).setPipe n (s.pipe n).untested).bistOver n

theorem within_abortOver (s : State) (n : Nat) : Within [.time, .ptp, .pipes, .pac, .icu] s (s.abortOver n) :=
  ((within_advance s _).seq (within_setPipe _ n _)).seq (within_bistOver _ n)

theorem abortOver_now (s : State) (n : Nat) : (s.abortOver n).now = s.now + 110000 :=
  (within_bistOver _ n).only.2 .time (by decide)

theorem abortOver_pipe (s : State) (n : Nat) : (s.abortOver n).pipe n = (s.pipe n).untested :=
  ((within_bistOver _ n).pipe_eq (by decide) n).trans (setPipe_same _ n _)

theorem abortOver_other (s : State) {n j : Nat} (h : j ≠ n) : (s.abortOver n).pipe j = s.pipe j :=
  ((within_bistOver _ n).pipe_eq (by decide) j).trans (Table.get_set_other _ _ _ _ _ h)

theorem bistAborts_eq (s : State) (n : Nat) :
    s.bistAborts n = (((s.abortOver n).setReady (16 + n)).bistDone n 2).progress := rfl

theorem pipeSelftestAbort_idle (h : (s.pipe n).bist ≠ .running ∨ (s.pipe n).bistAborting = false) :
    Does (.pipeSelftestAbort n) s fun t => Only [] s t := by
  refine does_nothing (exec_pipeSelftestAbort n s) (if_neg ?_)
  rw [begin_pipe]
  obtain h | h := h <;> simp [h]

theorem pipeSelftestAbort_restores (hrun : (s.pipe n).bist = .running) (habort : (s.pipe n).bistAborting = true) :
    Leads (.pipeSelftestAbort n) s fun t =>
      t.now = s.now + 110000 ∧ t.ready (16 + n) = true ∧ ⟨.pipeSelftest, n.val⟩ ∉ t.pac.held ∧
      t.pipe n = (s.pipe n).untested.testless ∧
      (∀ c, s.hazel.jobs = [c] → (s.pipe n).bistCmd = some (c.queue, c.seq) → c.phase = .running →
        t.hazel.jobs = [c.ends 0 0 2]) ∧
      (∀ j, j ≠ n.val → t.pipe j = s.pipe j) ∧ Only [.pipes, .pac, .ready, .hazel, .icu, .time, .ptp] s t := by
  have hover := within_abortOver s.begin n
  have hset := within_setReady (s.begin.abortOver n) (16 + n)
  have hdone := within_bistDone ((s.begin.abortOver n).setReady (16 + n)) n 2
  have hpipe := abortOver_pipe s.begin n
  have hcond : ((s.begin.pipe n).bist == .running && (s.begin.pipe n).bistAborting) = true := by rw [begin_pipe, hrun, habort]; rfl
  refine leads_run (exec_pipeSelftestAbort n s) ((if_pos hcond).trans (bistAborts_eq s.begin n))
    ⟨(hdone.only.2 .time (by decide)).trans (abortOver_now s.begin n), ?_, ?_, ?_, fun c hjobs hcmd hphase => ?_, fun j hj => ?_,
      ((hover.seq (hset.seq hdone)).widen (by decide)).begun⟩
  · rw [hdone.ready_eq _ (by decide), setReady_ready]
    have hn := n.isLt
    simp [show 16 + n.val < 40 by omega]
  · rw [show _ = (s.begin.abortOver n).pac from (hset.seq hdone).only.2 .pac (by decide)]
    exact not_mem_held_bistOver _ n
  · rw [bistDone_pipe, hset.pipe_eq (by decide), hpipe]
    rfl
  · refine bistDone_jobs ?_ ?_ hphase 2
    · exact (congrArg (·.jobs) ((hover.seq hset).only.2 .hazel (by decide))).trans hjobs
    · exact (congrArg Pipe.bistCmd hpipe).trans hcmd
  · exact (bistDone_other _ 2 hj).trans (abortOver_other s.begin hj)

/-! ### Self-tests that are due, and jobs that have waited for one (R424, R426, R442) -/

theorem periodicSelftest_idle
    (h : s.fwUp = false ∨ s.ready 11 = false ∨ s.hazel.mode = .recovery ∨ s.bistDue n = false) :
    Does (.periodicSelftest n) s fun t => Only [] s t := by
  refine does_nothing (exec_periodicSelftest n s) (if_neg ?_)
  rw [begin_fwUp, begin_ready, begin_bistDue]
  obtain h | h | h | h := h <;> simp [h]

theorem periodicSelftest_asks (hup : s.fwUp = true) (h11 : s.ready 11 = true) (hmode : s.hazel.mode ≠ .recovery)
    (hdue : s.bistDue n = true) :
    Carries (.periodicSelftest n) s (s.begin.setPipe n { s.pipe n with bist := .requested }) :=
  carries_run (exec_periodicSelftest n s) (if_pos (by simp [hup, h11, hmode, hdue]))

theorem selftestWaitExpired_idle (h : s.fwUp = false ∨ (s.pipe n).bist ≠ .running ∨ s.hazel.jobs = []) :
    Does (.selftestWaitExpired n) s fun t => Only [] s t := by
  have hwait : (s.pipe n).bist ≠ .running ∨ s.hazel.jobs = [] → s.begin.waitOver n = s.begin := by
    rintro (hbist | hjobs)
    · have htest : s.begin.inTest n = false := by simp [State.inTest, hbist]
      unfold State.waitOver
      split
      · rfl
      · rw [htest]
        rfl
    · unfold State.waitOver
      rw [show s.begin.hazel.jobs = [] from hjobs]
      rfl
  refine does_nothing (exec_selftestWaitExpired n s) ?_
  obtain hdown | hnone := h
  · exact if_neg (by simp [hdown])
  · rw [hwait hnone, ite_self]

theorem selftestWaitExpired_ends {c : Cmd} (hup : s.fwUp = true) (hrun : (s.pipe n).bist = .running) (hjobs : s.hazel.jobs = [c])
    (hjob : isJob c.opcode = true) (hphase : c.phase = .running) (hfrom : c.waitFrom ≠ 0) (hwait : c.wait = none)
    (hpipe : c.onPipe = false) (hbit : bitAt c.pipes n = true) : Carries (.selftestWaitExpired n) s
      (((s.begin.until (c.waitFrom - 1 + 8000000)).setPipe n
        { s.pipe n with waitExpired := satAdd 16 (s.pipe n).waitExpired 1 }).setJob 0 (c.ends 0x0202 n 0)) := by
  have hfound : s.begin.hazel.jobs.findIdx? (fun c => isJob c.opcode && c.phase == .running && c.waitFrom != 0 && c.wait.isNone &&
      !c.onPipe && bitAt c.pipes n) = some 0 := by
    rw [show s.begin.hazel.jobs = [c] from hjobs, List.findIdx?_cons, if_pos (by simp [hjob, hphase, hfrom, hwait, hpipe, hbit])]
  have hget : s.begin.hazel.jobs.getD 0 {} = c := by rw [show s.begin.hazel.jobs = [c] from hjobs]; rfl
  refine carries_run (exec_selftestWaitExpired n s) ((if_pos ((begin_fwUp s).trans hup)).trans ?_)
  unfold State.waitOver
  rw [hfound]
  dsimp only
  rw [if_pos (by simp [State.inTest, hrun]), hget, until_pipe]
  rfl

end

/-! ### Memory self-tests (12 R629; 06 R379) -/

section

variable {s : State} {i : Nat} {c : Cmd}

/-- The state in which the test of memory `i` is over, but for its report. -/
def State.memOver (s : State) (i code : Nat) : State :=
  if i = 0 then s.release ⟨.memSelftest, i⟩ else (s.release ⟨.memSelftest, i⟩).stackTested (i - 1) code

/-- A test that fails is reported. -/
def State.memFound (s : State) (i code : Nat) : State :=
  if code = 0 then s.memOver i code else (s.memOver i code).report 35 i

theorem within_release (s : State) (r : Requester) : Within [.pac] s (s.release r) := within_setPac s (s.pac.released r)

theorem within_stackTested (s : State) (n code : Nat) : Within [.memory, .dram, .ready] s (s.stackTested n code) := by
  have htested := (within_wipe s (inStack n)).seq (within_setStack _ n
    { s.stack n with mode := if code = 0 then .awake else .selfTest, initDone := false })
  exact ((htested.seq (within_setReady _ (6 + n))).ite htested).widen (by decide)

theorem stackTested_stack (s : State) (n code : Nat) : (s.stackTested n code).stack n =
    { s.stack n with mode := if code = 0 then .awake else .selfTest, initDone := false } := by
  unfold State.stackTested
  dsimp only
  split <;> exact setStack_same _ n _

theorem stackTested_mem (s : State) (n code : Nat) {a : Nat} (h : a / 2 ^ 33 ≠ n) :
    Table.get 0 (s.stackTested n code).mem a = Table.get 0 s.mem a := by
  have hmem : (s.stackTested n code).mem = (s.wipe (inStack n)).mem := by
    unfold State.stackTested
    dsimp only
    split <;> rfl
  rw [hmem]
  exact wipe_mem_other s (beq_eq_false_iff_ne.2 h)

theorem stackTested_passed (s : State) {n : Nat} (h : 6 + n < 40) : (s.stackTested n 0).ready (6 + n) = true :=
  (setReady_ready _ _ _).trans (by simp [h])

theorem stackTested_failed (s : State) (n : Nat) {code : Nat} (h : code ≠ 0) : (s.stackTested n code).rdy = s.rdy := by
  unfold State.stackTested
  rw [if_neg h]
  rfl

theorem within_memOver (s : State) (i code : Nat) : Within [.pac, .memory, .dram, .ready] s (s.memOver i code) :=
  ((within_release s _).ite ((within_release s _).seq (within_stackTested _ (i - 1) code))).widen (by decide)

/-- MEM_BIST_FAIL has no reset target. -/
theorem within_memFound (s : State) (i code : Nat) : Within [.flt, .husk] (s.memOver i code) (s.memFound i code) :=
  ((Within.refl _).ite (within_report _ rfl rfl)).widen (by decide)

theorem within_memTestDone (s : State) (i result : Nat) : Within [.hazel] s (s.memTestDone i result) := within_setHazel s _

theorem memTestDone_jobs (hjobs : s.hazel.jobs = [c]) (hop : c.opcode = 0x0701) (hphase : c.phase = .running)
    (ha : c.a0 % 65536 = 0x21 + 256 * i) (hi : i < 3) (result : Nat) : (s.memTestDone i result).hazel.jobs = [c.ends 0 0 result] := by
  have hkind : bitsOf c.a0 0 8 = 0x21 := by unfold bitsOf; omega
  have hinst : bitsOf c.a0 8 8 = i := by unfold bitsOf; omega
  simp [State.memTestDone, hjobs, hop, hphase, hkind, hinst]

theorem not_mem_held_memOver (s : State) (i code : Nat) : ⟨.memSelftest, i⟩ ∉ (s.memOver i code).pac.held := by
  have hpac : (s.memOver i code).pac = s.pac.released ⟨.memSelftest, i⟩ := by
    unfold State.memOver
    split
    · rfl
    · exact (within_stackTested _ (i - 1) code).only.2 .pac (by decide)
  rw [hpac, mem_held_released]
  exact fun h => h.2 rfl

theorem memOver_stack (s : State) (k code : Nat) :
    s.memOver (k + 1) code = (s.release ⟨.memSelftest, k + 1⟩).stackTested k code := if_neg (Nat.succ_ne_zero k)

/-- A memory whose test fails is not made ready. -/
theorem memOver_rdy_failed (s : State) (i : Nat) {code : Nat} (h : code ≠ 0) : (s.memOver i code).rdy = s.rdy := by
  unfold State.memOver
  split
  · rfl
  · exact stackTested_failed _ _ h

theorem memFound_passed (s : State) (i : Nat) : s.memFound i 0 = s.memOver i 0 := rfl

theorem memFound_failed (s : State) (i : Nat) {code : Nat} (h : code ≠ 0) : s.memFound i code = (s.memOver i code).report 35 i :=
  if_neg h

end

section

variable {s : State} {i : Fin 3} {code : BitVec 16}

theorem memorySelftestEnd_ungranted (h : ⟨.memSelftest, i.val⟩ ∉ s.pac.held) :
    Does (.memorySelftestEnd i code) s fun t => Only [] s t := by
  refine does_nothing (exec_memorySelftestEnd i code s) (if_neg fun hheld => h ?_)
  exact List.contains_iff_mem.1 hheld

theorem toNat_eq_zero_iff : code.toNat = 0 ↔ code = 0 :=
  ⟨fun h => BitVec.eq_of_toNat_eq h, fun h => by rw [h]; rfl⟩

/-- The RESULT of a SELFTEST: the failure code, and whether the test has failed (06 R379). -/
theorem testResult (code : BitVec 16) :
    code.toNat * 2 ^ 16 + b2n (code.toNat != 0) = code.toNat * 2 ^ 16 + if code = 0 then 0 else 1 := by
  by_cases h : code = 0
  · rw [if_pos h, toNat_eq_zero_iff.2 h]
    rfl
  · rw [if_neg h, bne_iff_ne.2 fun h0 => h (toNat_eq_zero_iff.1 h0)]
    rfl

theorem memorySelftestEnd_leads (hheld : ⟨.memSelftest, i.val⟩ ∈ s.pac.held) : Leads (.memorySelftestEnd i code) s fun t =>
    (⟨.memSelftest, i.val⟩ ∉ t.pac.held) ∧
    (i = 0 → s.mildly 35 → t.mem = s.mem ∧ t.rdy = s.rdy ∧ t.dram = s.dram) ∧
    (∀ k, k + 1 = i.val → s.mildly 35 →
      t.stack k = { s.stack k with mode := if code = 0 then .awake else .selfTest, initDone := false } ∧
      (code = 0 → t.ready (6 + k) = true) ∧ (code ≠ 0 → t.rdy = s.rdy) ∧
      (∀ a, a / 2 ^ 33 ≠ k → Table.get 0 t.mem a = Table.get 0 s.mem a)) ∧
    (code ≠ 0 → s.ready 15 = true → s.mildly 35 → (t.fltSrc 35).open_ = true) ∧
    (∀ c, s.hazel.jobs = [c] → c.opcode = 0x0701 → c.phase = .running → c.a0 % 65536 = 0x21 + 256 * i.val → s.mildly 35 →
      t.hazel.jobs = [c.ends 0 0 (code.toNat * 2 ^ 16 + if code = 0 then 0 else 1)]) ∧
    (code = 0 → Only [.pac, .hazel, .memory, .dram, .ready] s t) := by
  have hover := within_memOver s.begin i code.toNat
  have hfound := within_memFound s.begin i code.toNat
  have hdone := within_memTestDone (s.begin.memFound i code.toNat) i (code.toNat * 2 ^ 16 + b2n (code.toNat != 0))
  have hafter := hfound.seq hdone
  refine leads_run (exec_memorySelftestEnd i code s) (if_pos (List.contains_iff_mem.2 hheld))
    (u := (s.begin.memFound i code.toNat).memTestDone i (code.toNat * 2 ^ 16 + b2n (code.toNat != 0)))
    ⟨?_, fun hi _ => ?_, fun k hk _ => ?_, fun hcode h15 hmild => ?_, fun c hjobs hop hphase ha _ => ?_, fun hcode => ?_⟩
  · rw [show _ = (s.begin.memOver i code.toNat).pac from hafter.only.2 .pac (by decide)]
    exact not_mem_held_memOver _ _ _
  · subst hi
    exact ⟨(hafter.only.2 .memory (by decide)).1, (hafter.only.2 .ready (by decide)).1, hafter.only.2 .dram (by decide)⟩
  · have hstack : s.begin.memOver i code.toNat = (s.begin.release ⟨.memSelftest, k + 1⟩).stackTested k code.toNat := by
      rw [← hk, memOver_stack]
    rw [hstack] at hafter
    have hi := i.isLt
    have hrdy := (hafter.only.2 .ready (by decide)).1
    refine ⟨?_, fun hcode => ?_, fun hcode => ?_, fun a ha => ?_⟩
    · refine (congrArg (fun d => Table.get ({} : Stack) d k) (hafter.only.2 .dram (by decide))).trans ?_
      refine (stackTested_stack _ k _).trans ?_
      simp only [toNat_eq_zero_iff]
      rfl
    · refine (hafter.ready_eq (6 + k) (by decide)).trans ?_
      rw [toNat_eq_zero_iff.2 hcode]
      exact stackTested_passed _ (by omega)
    · exact hrdy.trans (stackTested_failed _ k fun h => hcode (toNat_eq_zero_iff.1 h))
    · rw [(hafter.only.2 .memory (by decide)).1]
      exact stackTested_mem _ k _ ha
  · have hnat : code.toNat ≠ 0 := fun h => hcode (toNat_eq_zero_iff.1 h)
    have hreport := memFound_failed s.begin i hnat
    rw [fltSrc_congr (congrArg (·.src) (hdone.only.2 .flt (by decide))), hreport]
    refine report_opens (hover.mildly (by decide) hmild) (canRecord_of_ready rfl rfl ?_) _
    exact (congrArg (BitVec.getLsbD · 15) (memOver_rdy_failed s.begin i hnat)).trans h15
  · rw [← testResult]
    refine memTestDone_jobs ?_ hop hphase ha i.isLt _
    exact (congrArg (·.jobs) ((hover.seq hfound).only.2 .hazel (by decide))).trans hjobs
  · subst hcode
    exact ((hover.seq hdone).widen (by decide)).begun

end

/-! ### Every clause -/

theorem pipeSelftestEnd_ends {s : State} {n : Fin 4} (code : BitVec 16) (hrun : (s.pipe n).bist = .running)
    (hgoing : (s.pipe n).bistAborting = false) : Leads (.pipeSelftestEnd n code) s fun t =>
      t.now = max s.now (s.pipe n).testEnd ∧ ⟨.pipeSelftest, n.val⟩ ∉ t.pac.held ∧ s.now ≤ t.now ∧
      (s.mildly 34 → t.pipe n = ((s.pipe n).tested t.now (decide (code = 0))).testless) ∧
      (s.ready 14 = true → s.mildly 34 → t.icu.hazelA.pend.getLsbD (41 + n) = true) ∧
      (∀ c, s.hazel.jobs = [c] → (s.pipe n).bistCmd = some (c.queue, c.seq) → c.phase = .running → isJob c.opcode = false →
        s.mildly 34 → t.hazel.jobs = [c.ends 0 0 (code.toNat * 2 ^ 16 + if code = 0 then 0 else 1)]) ∧
      (code = 0 → t.ready (16 + n) = true ∧ Only [.pipes, .pac, .ready, .hazel, .icu, .time, .ptp] s t) ∧
      (code ≠ 0 → s.ready 15 = true → s.mildly 34 → (t.fltSrc 34).open_ = true ∧ t.rdy = s.rdy) := by
  by_cases hcode : code = 0
  · subst hcode
    obtain ⟨t, hexec, hnow, hheld, hpipe, hpend, hjobs, hready, honly⟩ := pipeSelftestEnd_passes hrun hgoing
    exact ⟨t, hexec, hnow, hheld, hnow ▸ le_max_left _ _, fun _ => hpipe, fun h14 _ => hpend h14,
      fun c hc hcmd hphase _ _ => hjobs c hc hcmd hphase, fun _ => ⟨hready, honly⟩, fun h => absurd rfl h⟩
  · obtain ⟨t, hexec, hnow, hheld, hmild⟩ := pipeSelftestEnd_fails hcode hrun hgoing
    refine ⟨t, hexec, hnow, hheld, hnow ▸ le_max_left _ _, fun h => ?_, fun h14 h => ?_, fun c hc hcmd hphase hjob h => ?_,
      fun h => absurd h hcode, fun _ h15 h => ?_⟩ <;> obtain ⟨hpipe, hpend, hjobs, hopen⟩ := hmild h
    · rwa [decide_eq_false hcode]
    · exact hpend h14
    · rw [if_neg hcode]
      exact hjobs c hc hcmd hphase hjob
    · exact hopen h15

/-- Settles O49: each command is its commuting lemma above. The one case split is on the failure code of a test that ends. -/
theorem selfTestsEnd : Obligations.SelfTestsEnd := by
  unfold Obligations.SelfTestsEnd
  intro s n p hp
  subst hp
  refine ⟨periodicSelftest_idle, periodicSelftest_asks, fun code h => pipeSelftestEnd_idle h code, fun code hrun hgoing => ?_,
    pipeSelftestAbort_idle, pipeSelftestAbort_restores, selftestWaitExpired_idle,
    fun c hup hrun hjobs hjob hphase hfrom hwait hpipe hbit u hu =>
      hu ▸ selftestWaitExpired_ends hup hrun hjobs hjob hphase hfrom hwait hpipe hbit,
    fun i code => ⟨memorySelftestEnd_ungranted, memorySelftestEnd_leads⟩⟩
  obtain ⟨t, hexec, hnow, hheld, hle, hpipe, hrest⟩ := pipeSelftestEnd_ends code hrun hgoing
  refine ⟨t, hexec, hnow, hheld, hle, fun h => (hpipe h).trans ?_, hrest⟩
  by_cases hcode : code = 0 <;> simp [Pipe.tested, Pipe.testless, hcode]

end Sys2Proof.Machine
end

section
/-! PROOFS of 07_pipes_pod_sequencer.md. Page fetches (R411, R436, R437), and what the analysis record unit writes and reads by
itself (11 R594 to R598, R600). -/

namespace Sys2Proof.Machine

/-! ### Plain words through a read and a write of the fabric (12 R615, R619, R622) -/

section

variable {s : State} {a n : Nat}

theorem sameWords_begin (s : State) : SameWords s s.begin := ⟨begin_mark s, fun _ => rfl⟩

/-- A count of a stack's bytes leaves its mode. -/
theorem account_mode (s : State) (port a n k : Nat) : ((s.account port a n).stack k).mode = (s.stack k).mode := by
  unfold State.account
  dsimp only
  split
  · next j _ =>
    refine (congrArg Stack.mode (stack_setStack _ j k _)).trans ?_
    split
    · next h => rw [h]; rfl
    · rfl
  · rfl

theorem account_words (s : State) (port a n : Nat) : SameWords s (s.account port a n) := by
  obtain ⟨f, d, haccount, hsame⟩ := account_counted s port a n
  rwa [haccount]

theorem within_account (s : State) (port a n : Nat) : Within [.fab, .dram] s (s.account port a n) := by
  obtain ⟨f, d, haccount, -⟩ := account_counted s port a n
  rw [haccount]
  exact within_counted s f d

/-- A read of clean, specified words, of no byte too, meets no poison and is counted alone. -/
theorem readMem_account (h : s.Plain a n) (port : Nat) : (s.readMem port a n).poison = none ∧
    (s.readMem port a n).state = s.account port a n ∧ leNat (s.readMem port a n).data = s.raw a n := by
  have hplain := (account_words s port a n).plain h
  have hmem : (s.account port a n).mem = s.mem := ((within_account s port a n).only.2 .memory (by decide)).1
  have hfree : (if s.unspecified a then (s.account port a n).free + n else (s.account port a n).free) = (s.account port a n).free := by
    obtain rfl | hn := Nat.eq_zero_or_pos n
    · exact ite_self _
    · rw [(plain_first h hn).2]
      rfl
  unfold State.readMem
  rw [touchWords_clean fun _ => plain_words hplain]
  dsimp only
  rw [firstPoison_clean fun _ => plain_words hplain, bytesAt_plain hplain, hfree, State.raw]
  exact ⟨rfl, rfl, by rw [hmem]⟩

theorem writeWords_words {bs : List Byte} (h : s.Plain a bs.length) (fuel : Nat) :
    SameWords s (s.writeWords a (bs.map some) fuel) := by
  induction fuel generalizing s a bs with
  | zero => exact ⟨fun _ => rfl, fun _ => rfl⟩
  | succ fuel ih =>
    by_cases hne : bs = []
    · subst hne
      exact ⟨fun _ => rfl, fun _ => rfl⟩
    have hpos := List.length_pos_iff.2 hne
    have hlen : (bs.take (8 - a % 8)).length + (bs.drop (8 - a % 8)).length = bs.length := by
      simp only [List.length_take, List.length_drop]
      omega
    have hhead : bs.take (8 - a % 8) ≠ [] := List.length_pos_iff.1 (by rw [List.length_take]; omega)
    have hfirst := sameWords_stored (pokes s.mem a (bs.take (8 - a % 8))) (plain_first h hpos).1
    have hrest := ih (hfirst.plain (plain_part h hlen.le))
    rw [State.writeWords, if_neg (by simpa using hne)]
    dsimp only
    rw [← List.map_take, ← List.map_drop,
      writeWord_plain (plain_start h (by omega)) hhead, List.length_map]
    exact ⟨fun w => (hrest.mark w).trans (hfirst.mark w), fun k => (hrest.init k).trans (hfirst.init k)⟩

/-- A write of clean, specified words puts its bytes in memory and is counted, and what was plain stays so. -/
theorem writeMem_plain {bs : List Byte} (h : s.Plain a bs.length) (port : Nat) :
    (s.writeMem port a bs).mem = pokes s.mem a bs ∧ SameWords s (s.writeMem port a bs) ∧
      Within [.memory, .fab, .dram] s (s.writeMem port a bs) := by
  have haccount := account_words s port a (bs.map some).length
  have hwords := writeWords_words (haccount.plain h) ((bs.map some).length + 1)
  obtain ⟨f, d, k, hwrite⟩ := writeSome_plain h port
  have hsame : SameWords s (s.writeMem port a bs) :=
    ⟨fun w => (hwords.mark w).trans (haccount.mark w), fun i => (hwords.init i).trans (haccount.init i)⟩
  refine ⟨congrArg State.mem hwrite, hsame, ?_⟩
  rw [State.writeMem, hwrite]
  exact ((within_counted s f d).seq (within_stored _ _ _)).widen (by decide)

end

/-! ### A page fetch completes (07 R411, R436, R437) -/

/-- A pipe whose oldest fetch is over, before the next waiting fetch takes its place. -/
def Pipe.fetched (p : Pipe) : Pipe := { p with fetches := p.fetches.tail }

/-- A pipe in which the page takes a slot, as the page issued from last, and its threads go on. -/
def Pipe.placed (p : Pipe) (i h g : Nat) : Pipe := { p with pages := Table.set (0, 0, 0) p.pages i (h, g, p.turn) }.pageIn h g

theorem nextFetch_fetches (p : Pipe) : p.nextFetch.fetches = p.fetches ++ p.fetchQueue.take 1 := by
  unfold Pipe.nextFetch
  split <;> simp [*]

theorem nextFetch_queue (p : Pipe) : p.nextFetch.fetchQueue = p.fetchQueue.drop 1 := by
  unfold Pipe.nextFetch
  split <;> simp [*]

theorem nextFetch_rest (p : Pipe) :
    p.nextFetch.pages = p.pages ∧ p.nextFetch.turn = p.turn ∧ p.nextFetch.threads = p.threads := by
  unfold Pipe.nextFetch
  split <;> exact ⟨rfl, rfl, rfl⟩

theorem setPipe_other (s : State) (x : Pipe) {n j : Nat} (h : j ≠ n) : (s.setPipe n x).pipe j = s.pipe j :=
  Table.get_set_other _ _ _ _ _ h

theorem pageSlot_congr {s t : State} {n : Nat} (hpages : (t.pipe n).pages = (s.pipe n).pages) (hhazel : t.hazel = s.hazel) :
    t.pageSlot n = s.pageSlot n := by
  have hpinned : t.pinned = s.pinned := by
    unfold State.pinned State.pod State.allotsOn
    rw [hhazel]
  unfold State.pageSlot
  dsimp only
  rw [hpages, hpinned]

section

variable {s : State} {n : Nat} {h g i : Nat} {l : List (Nat × Nat)}

/-- The page arrives in its slot, on a state that differs from the one before in counters and in the pipe alone. -/
theorem pageArrives_placed (hfetch : (s.pipe n).fetches = (h, g) :: l) (hawake : s.asleep 1 = false)
    (hplain : s.Plain (s.pageRange h g).1 (s.pageRange h g).2) (hslot : s.pageSlot n = some i) :
    ∃ u : State, Within [.pipes, .fab, .dram] s u ∧ (∀ j, j ≠ n → u.pipe j = s.pipe j) ∧
      s.pageArrives n = u.setPipe n ((s.pipe n).fetched.nextFetch.placed i h g) := by
  obtain ⟨v, hpoison, hstate, hcount⟩ : ∃ v : State, (s.readMem n (s.pageRange h g).1 (s.pageRange h g).2).poison = none ∧
      (s.readMem n (s.pageRange h g).1 (s.pageRange h g).2).state = v ∧ Within [.fab, .dram] s v := by
    obtain ⟨hpoison, hstate, -⟩ := readMem_account hplain n
    exact ⟨_, hpoison, hstate, within_account s n _ _⟩
  have hpipe := hcount.pipe_eq (by decide)
  have hfetched : { s.pipe n with fetches := l } = (s.pipe n).fetched := by rw [Pipe.fetched, hfetch]; rfl
  have hpages : (s.pipe n).fetched.nextFetch.pages = (s.pipe n).pages := (nextFetch_rest _).1
  refine ⟨(v.setPipe n (s.pipe n).fetched).setPipe n (s.pipe n).fetched.nextFetch,
    ((hcount.seq (within_setPipe _ n _)).seq (within_setPipe _ n _)).widen (by decide), fun j hj => ?_, ?_⟩
  · rw [setPipe_other _ _ hj, setPipe_other _ _ hj, hpipe]
  · unfold State.pageArrives
    dsimp only
    rw [hfetch]
    dsimp only
    rw [hawake, if_neg Bool.false_ne_true, hpoison, hstate, hpipe, hfetched]
    dsimp only
    simp only [setPipe_same]
    rw [(pageSlot_congr ((congrArg Pipe.pages (setPipe_same _ n _)).trans hpages) ?_).trans hslot]
    · rfl
    · exact hcount.only.2 .hazel (by decide)

theorem pageIn_thread {x : Thread} {k : Nat} (p : Pipe) (hthreads : p.threads = [(k, x)]) (hblock : x.block = .page)
    (hhandle : x.handle = h) (hpc : x.pc / 256 = g) : Table.get {} (p.pageIn h g).threads k = { x with block := .free } := by
  simp only [Pipe.pageIn, hthreads, Table.mapVals, hblock, hhandle, hpc, and_self, if_true]
  split
  · next hfree => exact hfree.symm
  · simp [Table.get]

theorem placed_thread {x : Thread} {k : Nat} (p : Pipe) (hthreads : p.threads = [(k, x)]) (hblock : x.block = .page)
    (hhandle : x.handle = h) (hpc : x.pc / 256 = g) :
    Table.get {} (p.placed i h g).threads k = { x with block := .free } := pageIn_thread _ hthreads hblock hhandle hpc

end

section

variable {s : State} {n : Fin 4}

theorem pageFetchComplete_idle (h : s.mainOn = false ∨ s.ready 7 = false ∨ (s.pipe n).fetches = []) :
    Does (.pageFetchComplete n) s fun t => Only [] s t := by
  refine does_nothing (exec_pageFetchComplete n s) ?_
  obtain h | h | h := h
  · exact if_neg (by simp [h])
  · exact if_neg (by simp [h])
  · have hnone : s.begin.pageArrives n = s.begin := by
      unfold State.pageArrives
      dsimp only
      rw [begin_pipe, h]
    rw [hnone, ite_self]

theorem pageFetchComplete_places {h g i : Nat} {l : List (Nat × Nat)} (hmain : s.mainOn = true) (h7 : s.ready 7 = true)
    (hfetch : (s.pipe n).fetches = (h, g) :: l) (hawake : s.asleep 1 = false)
    (hplain : s.Plain (s.pageRange h g).1 (s.pageRange h g).2) (hslot : s.pageSlot n = some i) :
    Does (.pageFetchComplete n) s fun t =>
      t.pipe n = (s.pipe n).fetched.nextFetch.placed i h g ∧ (∀ j, j ≠ n.val → t.pipe j = s.pipe j) ∧
      Only [.pipes, .fab, .dram] s t := by
  obtain ⟨u, hwithin, hother, harrives⟩ := pageArrives_placed (s := s.begin) ((congrArg Pipe.fetches (begin_pipe s n)).trans hfetch)
    ((begin_asleep s 1).trans hawake) (by rw [begin_pageRange]; exact (sameWords_begin s).plain hplain) ((begin_pageSlot s n).trans hslot)
  refine (does_run (exec_pageFetchComplete n s)).2 ?_
  rw [if_pos (by simp [hmain, h7]), harrives]
  refine ⟨?_, fun j hj => ?_, ((hwithin.seq (within_setPipe u n _)).widen (by decide)).settled⟩
  · rw [settle_pipe, setPipe_same, begin_pipe]
  · rw [settle_pipe]
    exact (setPipe_other u _ hj).trans (hother j hj)

end

/-! ### The analysis record unit writes what it has gathered (11 R594 to R598) -/

/-- The address of the ring's slot that its next record takes. -/
def Ring.slot (g : Ring) : Nat := g.addr + 64 + 64 * (g.w % ringSlots g.size)

/-- The ring with one more record. -/
def Ring.grown (g : Ring) : Ring := { g with w := g.w + 1 }

theorem within_aruLevel (s : State) (n : Nat) : Within [.pipes] s (s.aruLevel n) := within_setPipe s n _

theorem aruLevel_staged (s : State) (n : Nat) : ((s.aruLevel n).pipe n).aruStaged = (s.pipe n).aruStaged :=
  (congrArg Pipe.aruStaged (setPipe_same s n _)).trans rfl

section

variable {s : State} {n k q : Nat} {b : List Byte} {g : Ring}

/-- A ring with room and without lost records takes one record, in one slot. -/
theorem ringRecord_room (hgap : g.gap = 0) (hroom : g.room = true) :
    s.ringRecord n k q g b = (s.writeMem n g.slot b, g.grown, true) := by
  have hput : s.ringGap n k g = (s, g) := if_pos hgap
  unfold State.ringRecord
  rw [if_pos hroom]
  dsimp only
  rw [if_pos hroom, hput]
  dsimp only
  rw [if_pos hroom]
  rfl

theorem putRing_ring {x : Session} (h : x.oldRing = none) (g : Ring) : x.putRing g = { x with ring := g } := by
  unfold Session.putRing
  split
  · next hsome => exact absurd (h.symm.trans hsome) nofun
  · rfl

/-- A record that is no Pod's counts nowhere. -/
theorem counted_machine (x : Session) (ok : Bool) : x.counted false ok = x := by
  unfold Session.counted
  split <;> rfl

theorem ringNow_ring {x : Session} (h : x.oldRing = none) : x.ringNow = x.ring := by
  rw [Session.ringNow, h]
  rfl

theorem aruOne_room (hring : (s.session k).ring = g) (hold : (s.session k).oldRing = none) (hgap : g.gap = 0)
    (hroom : g.room = true) : s.aruOne n (k, q, false, b) =
      (s.writeMem n g.slot b).setSession k { s.session k with ring := g.grown } := by
  unfold State.aruOne
  dsimp only
  rw [ringNow_ring hold, hring, ringRecord_room hgap hroom, putRing_ring hold]
  dsimp only
  rw [counted_machine]

theorem aruIndex_ring (hring : (s.session k).ring = g) (hold : (s.session k).oldRing = none) (hsize : g.size ≠ 0) :
    s.aruIndex n k = (s.writeMem n g.addr (leBytes 8 g.w)).writeMem n (g.addr + 0x10) (leBytes 8 g.lost) := by
  unfold State.aruIndex
  dsimp only
  rw [ringNow_ring hold, hring, if_neg hsize]

/-- The slot of the next record lies behind the ring's header, inside the ring. -/
theorem slot_bounds (hroom : g.room = true) : g.addr + 64 ≤ g.slot ∧ g.slot + 64 ≤ g.addr + g.size := by
  have hslots : g.w - g.r + 1 < ringSlots g.size := of_decide_eq_true hroom
  have hlt : g.w % ringSlots g.size < ringSlots g.size := Nat.mod_lt _ (by omega)
  unfold Ring.slot
  generalize g.w % ringSlots g.size = m at *
  unfold ringSlots at *
  omega

/-- Memory once the record stands in its slot and WRITE_IDX and LOST are written. -/
def Ring.written (g : Ring) (b : List Byte) (m : List Host.Cell) : List Host.Cell :=
  pokes (pokes (pokes m g.slot b) g.addr (leBytes 8 (g.w + 1))) (g.addr + 0x10) (leBytes 8 g.lost)

theorem written_outside (m : List Host.Cell) (hroom : g.room = true) (hlen : b.length = 64) {a : Nat}
    (h : a < g.addr ∨ g.addr + g.size ≤ a) : Table.get 0 (g.written b m) a = Table.get 0 m a := by
  obtain ⟨hlow, hhigh⟩ := slot_bounds hroom
  unfold Ring.written
  rw [get_pokes_outside _ _ _ (by rw [leBytes_length]; omega), get_pokes_outside _ _ _ (by rw [leBytes_length]; omega),
    get_pokes_outside _ _ _ (by omega)]

theorem written_slot (m : List Host.Cell) (hroom : g.room = true) (hlen : b.length = 64) {j : Nat} (h : j < 64) :
    Table.get 0 (g.written b m) (g.slot + j) = b.getD j 0 := by
  obtain ⟨hlow, -⟩ := slot_bounds hroom
  unfold Ring.written
  rw [get_pokes_outside _ _ _ (by rw [leBytes_length]; omega), get_pokes_outside _ _ _ (by rw [leBytes_length]; omega),
    get_pokes_inside _ _ _ (by omega)]

theorem written_index (m : List Host.Cell) (b : List Byte) {j : Nat} (h : j < 8) :
    Table.get 0 (g.written b m) (g.addr + j) = (leBytes 8 (g.w + 1)).getD j 0 := by
  unfold Ring.written
  rw [get_pokes_outside _ _ _ (by omega), get_pokes_inside _ _ _ (by rw [leBytes_length]; omega)]

/-- One gathered record, of a ring whose stack serves: the record, then the indices of its ring, then the request. -/
theorem aruFlush_one (hstaged : (s.pipe n).aruStaged = [(k, q, false, b)]) (hawake : s.ringAwake k = true) : s.aruFlush n =
    (((s.setPipe n { s.pipe n with aruStaged := [] }).aruOne n (k, q, false, b)).aruIndex n k).aruLevel n := by
  unfold State.aruFlush
  dsimp only
  rw [hstaged, List.find?_cons, hawake]
  rfl

/-- A record that a plain ring takes, and then its indices. -/
theorem aruOne_aruIndex (hring : (s.session k).ring = g) (hold : (s.session k).oldRing = none) (hsize : g.size ≠ 0)
    (hgap : g.gap = 0) (hroom : g.room = true) (hplain : s.Plain g.addr g.size) (hlen : b.length = 64) : ∃ t,
      (s.aruOne n (k, q, false, b)).aruIndex n k = t ∧ t.mem = g.written b s.mem ∧ (t.session k).ring = g.grown ∧
      Within [.hazel, .memory, .fab, .dram] s t := by
  obtain ⟨hlow, hhigh⟩ := slot_bounds hroom
  have hslot : s.Plain g.slot b.length := by
    have hpart := plain_part hplain (k := g.slot - g.addr) (m := b.length) (by omega)
    rwa [Nat.add_sub_cancel' (by omega)] at hpart
  obtain ⟨hmem1, hwords1, hframe1⟩ := writeMem_plain hslot n
  rw [aruOne_room hring hold hgap hroom]
  generalize s.writeMem n g.slot b = s1 at hmem1 hwords1 hframe1
  have hset := within_setSession s1 k { s.session k with ring := g.grown }
  have hsession := setSession_same s1 k { s.session k with ring := g.grown }
  have hplain1 : (s1.setSession k { s.session k with ring := g.grown }).Plain g.addr g.size := hwords1.plain hplain
  have hmem2 : (s1.setSession k { s.session k with ring := g.grown }).mem = pokes s.mem g.slot b := hmem1
  generalize s1.setSession k { s.session k with ring := g.grown } = s2 at hset hsession hplain1 hmem2
  rw [aruIndex_ring (g := g.grown) (by rw [hsession]) (by rw [hsession]; exact hold) hsize]
  obtain ⟨hmem3, hwords3, hframe3⟩ := writeMem_plain (bs := leBytes 8 (g.w + 1)) (plain_start hplain1
    (by rw [leBytes_length]; omega)) n
  obtain ⟨hmem4, -, hframe4⟩ := writeMem_plain (bs := leBytes 8 g.lost) (plain_part (hwords3.plain hplain1) (k := 0x10)
    (by rw [leBytes_length]; omega)) n
  have hframe34 := hframe3.seq hframe4
  refine ⟨_, rfl, ?_, ?_, ((hframe1.seq hset).seq hframe34).widen (by decide)⟩
  · exact hmem4.trans (by rw [hmem3, hmem2]; rfl)
  · have hhazel := hframe34.only.2 .hazel (by decide)
    exact (congrArg (fun h : Hazel => (Table.get ({} : Session) h.sessions k).ring) hhazel).trans (congrArg Session.ring hsession)

theorem aruFlush_writes (hstaged : (s.pipe n).aruStaged = [(k, q, false, b)]) (hring : (s.session k).ring = g)
    (hold : (s.session k).oldRing = none) (hsize : g.size ≠ 0) (hgap : g.gap = 0) (hroom : g.room = true)
    (hawake : s.ringAwake k = true) (hplain : s.Plain g.addr g.size) (hlen : b.length = 64) : ∃ t, s.aruFlush n = t ∧
      (t.pipe n).aruStaged = [] ∧ (t.session k).ring = g.grown ∧ t.mem = g.written b s.mem ∧
      Within [.pipes, .hazel, .memory, .fab, .dram] s t := by
  have htaken := setPipe_same s n { s.pipe n with aruStaged := [] }
  have hset := within_setPipe s n { s.pipe n with aruStaged := [] }
  obtain ⟨t, hwrite, hmem, hgrown, hframe⟩ := aruOne_aruIndex (s := s.setPipe n { s.pipe n with aruStaged := [] }) (n := n)
    (q := q) hring hold hsize hgap hroom hplain hlen
  have hlevel := within_aruLevel t n
  rw [aruFlush_one hstaged hawake, hwrite]
  refine ⟨_, rfl, ?_, hgrown, hmem, ((hset.seq hframe).seq hlevel).widen (by decide)⟩
  rw [aruLevel_staged, hframe.pipe_eq (by decide), htaken]

end

section

variable {s : State} {n : Fin 4}

theorem aruPartialWrite_idle (h : (s.pipe n).aruStaged = []) : Does (.aruPartialWrite n) s fun t => Only [] s t :=
  does_nothing (exec_aruPartialWrite n s) (if_pos (by simp [h]))

theorem aruPartialWrite_writes {k q : Nat} {b : List Byte} {g : Ring} (hstaged : (s.pipe n).aruStaged = [(k, q, false, b)])
    (hring : (s.session k).ring = g) (hold : (s.session k).oldRing = none) (hsize : g.size ≠ 0) (hgap : g.gap = 0)
    (hroom : g.room = true) (hawake : s.ringAwake k = true) (hplain : s.Plain g.addr g.size) (hlen : b.length = 64) :
    Does (.aruPartialWrite n) s fun t => (t.pipe n).aruStaged = [] ∧ (t.session k).ring = g.grown ∧
      t.mem = g.written b s.mem ∧ t.now = s.now + 1000 ∧ Only [.pipes, .hazel, .memory, .fab, .dram, .time, .ptp] s t := by
  have hpass := within_advance s.begin 1000
  obtain ⟨u, hflush, hempty, hgrown, hmem, hframe⟩ := aruFlush_writes (s := s.begin.advance 1000) (n := n) hstaged hring hold
    hsize hgap hroom ((begin_ringAwake s k).trans hawake) ((sameWords_begin s).plain hplain) hlen
  refine (does_run (exec_aruPartialWrite n s)).2 ?_
  rw [if_neg (by simp [hstaged]), hflush]
  refine ⟨?_, ?_, ?_, ?_,
    ((hpass.seq hframe).widen (by decide)).settled⟩
  · rwa [settle_pipe]
  · rwa [settle_session]
  · simp only [settle_frame]
    exact hmem
  · simp only [settle_frame]
    exact hframe.only.2 .time (by decide)

end

/-! ### The analysis record unit reads READ_IDX again (11 R600) -/

/-- The ring of session `i` is one that the record unit of pipe `n` reads READ_IDX of again. -/
def State.rereads (s : State) (n i : Nat) : Bool :=
  let x := s.session i
  !(x.mode == .closed || x.firstPipe != n || x.ring.size == 0 || !(s.dramReady x.ring.addr 64) || s.asleep (x.ring.addr / 2 ^ 33))

/-- The session with READ_IDX of its ring as memory holds it; one above WRITE_IDX counts as equal to it. -/
def State.rereadOf (s : State) (x : Session) : Session :=
  { x with ring := { x.ring with r := min (s.raw (x.ring.addr + 8) 8) x.ring.w } }

section

variable {s : State} {n i : Nat}

theorem rereadSession_other (h : s.rereads n i = false) : s.rereadSession n i = s := by
  rw [State.rereads, Bool.not_eq_false'] at h
  exact if_pos h

theorem rereadSession_reads (h : s.rereads n i = true) (hplain : s.Plain ((s.session i).ring.addr + 8) 8) :
    s.rereadSession n i = (s.account n ((s.session i).ring.addr + 8) 8).setSession i (s.rereadOf (s.session i)) := by
  obtain ⟨-, hstate, hdata⟩ := readMem_account hplain n
  have hsession : (s.account n ((s.session i).ring.addr + 8) 8).session i = s.session i :=
    congrArg (fun h : Hazel => Table.get ({} : Session) h.sessions i) ((within_account s n _ 8).only.2 .hazel (by decide))
  rw [State.rereads, Bool.not_eq_true'] at h
  unfold State.rereadSession State.ringReread
  dsimp only
  rw [if_neg (ne_true_of_eq_false h), hstate, hdata, hsession]
  rfl

end

/-- What holds once READ_IDX of the rings of the sessions below `m` has been read again. -/
structure Reread (n m : Nat) (s u : State) : Prop where
  frame : Within [.hazel, .fab, .dram] s u
  words : SameWords s u
  mode : ∀ j, (u.stack j).mode = (s.stack j).mode
  session : ∀ j, u.session j = if j < m ∧ s.rereads n j = true then s.rereadOf (s.session j) else s.session j

theorem reread_none (n : Nat) (s : State) : Reread n 0 s s where
  frame := (Within.refl s).widen (by decide)
  words := ⟨fun _ => rfl, fun _ => rfl⟩
  mode _ := rfl
  session j := (if_neg fun h => Nat.not_lt_zero j h.1).symm

theorem Reread.rereads_eq {n m i : Nat} {s u : State} (h : Reread n m s u) (hi : u.session i = s.session i) :
    u.rereads n i = s.rereads n i := by
  have hready : ∀ j, u.ready j = s.ready j := fun j => h.frame.ready_eq j (by decide)
  simp only [State.rereads, State.dramReady, State.asleep, hi, hready, h.mode]

theorem Reread.step {n m : Nat} {s u : State} (h : Reread n m s u) (hplain : s.Plain ((s.session m).ring.addr + 8) 8) :
    Reread n (m + 1) s (u.rereadSession n m) := by
  have hm : u.session m = s.session m := (h.session m).trans (if_neg fun hlt => Nat.lt_irrefl m hlt.1)
  have hsame := h.rereads_eq hm
  cases hreads : s.rereads n m with
  | false =>
    rw [rereadSession_other (hsame.trans hreads)]
    refine ⟨h.frame, h.words, h.mode, fun j => (h.session j).trans ?_⟩
    by_cases hj : j = m
    · subst hj
      simp [hreads]
    · simp only [show j < m + 1 ↔ j < m by omega]
  | true =>
    have hmem : u.mem = s.mem := (h.frame.only.2 .memory (by decide)).1
    have hof : u.rereadOf (s.session m) = s.rereadOf (s.session m) := by
      simp only [State.rereadOf, State.raw, hmem]
    have hstep := rereadSession_reads (hsame.trans hreads) (by rw [hm]; exact h.words.plain hplain)
    rw [hm, hof] at hstep
    rw [hstep]
    have hcount := within_account u n ((s.session m).ring.addr + 8) 8
    have hwords := account_words u n ((s.session m).ring.addr + 8) 8
    have hmode := account_mode u n ((s.session m).ring.addr + 8) 8
    generalize u.account n ((s.session m).ring.addr + 8) 8 = v at hcount hwords hmode
    have hkept : ∀ j, v.session j = u.session j := fun j =>
      congrArg (fun h : Hazel => Table.get ({} : Session) h.sessions j) (hcount.only.2 .hazel (by decide))
    refine ⟨((h.frame.seq hcount).seq (within_setSession v m _)).widen (by decide), ?_, fun j => (hmode j).trans (h.mode j), fun j => ?_⟩
    · exact ⟨fun w => (hwords.mark w).trans (h.words.mark w), fun j => (hwords.init j).trans (h.words.init j)⟩
    · by_cases hj : j = m
      · subst hj
        rw [setSession_same, if_pos ⟨Nat.lt_succ_self j, hreads⟩]
      · have hother : (v.setSession m (s.rereadOf (s.session m))).session j = v.session j := Table.get_set_other _ _ _ _ _ hj
        rw [hother, hkept, h.session]
        simp only [show j < m + 1 ↔ j < m by omega]

theorem reread_all (n m : Nat) {s : State} (hplain : ∀ k, s.Plain ((s.session k).ring.addr + 8) 8) :
    Reread n m s (foldRange (fun i t => t.rereadSession n i) m s) := by
  induction m with
  | zero => exact reread_none n s
  | succ m ih => exact ih.step (hplain m)

section

variable {s : State} {n : Fin 4}

theorem aruReadIdxReread_idle (h : (s.pipe n).aruHigh = false) : Does (.aruReadIdxReread n) s fun t => Only [] s t :=
  does_nothing (exec_aruReadIdxReread n s) (if_neg (by simp [h]))

theorem aruReadIdxReread_reads (hhigh : (s.pipe n).aruHigh = true) (hplain : ∀ k, s.Plain ((s.session k).ring.addr + 8) 8) :
    Does (.aruReadIdxReread n) s fun t => t.now = s.now + 10000 ∧
      (∀ j, t.session j = if j < 64 ∧ s.rereads n j = true then s.rereadOf (s.session j) else s.session j) ∧
      Only [.pipes, .hazel, .fab, .dram, .time, .ptp] s t := by
  have hpass := within_advance s.begin 10000
  have hreread := reread_all n 64 (s := s.begin.advance 10000) fun k => (sameWords_begin s).plain (hplain k)
  refine (does_run (exec_aruReadIdxReread n s)).2 ?_
  rw [if_pos ((congrArg Pipe.aruHigh (begin_pipe s n)).trans hhigh)]
  generalize foldRange (fun i t => State.rereadSession t n i) 64 (s.begin.advance 10000) = u at hreread
  have hlevel := within_aruLevel u n
  refine ⟨?_, fun j => ?_, ((hpass.seq (hreread.frame.seq hlevel)).widen (by decide)).settled⟩
  · simp only [settle_frame]
    exact (hreread.frame.seq hlevel).only.2 .time (by decide)
  · rw [settle_session]
    exact hreread.session j

end

/-! ### Every clause -/

/-- Settles O48: each command by its lemma above, whose frames and table entries the clauses name. -/
theorem pagesAndRecordsMove : Obligations.PagesAndRecordsMove := by
  unfold Obligations.PagesAndRecordsMove
  intro s n p hp
  subst hp
  refine ⟨pageFetchComplete_idle, fun h g l hmain h7 hfetch hawake hplain i hslot => ?_, aruPartialWrite_idle,
    fun k q b hstaged x hx hold g hg hsize hgap hroom hawake hplain hmul halign hlen => ?_, aruReadIdxReread_idle,
    fun hhigh hplain => ?_⟩
  case refine_1 =>
    obtain ⟨t, hexec, hpipe, hother, honly⟩ := pageFetchComplete_places hmain h7 hfetch hawake hplain hslot
    obtain ⟨hpages, hturn, hthreads⟩ := nextFetch_rest (s.pipe n).fetched
    have htail : (s.pipe n).fetched.fetches = l := congrArg List.tail hfetch
    refine ⟨t, hexec, ?_, ?_, ?_, fun k x hk hblock hhandle hpc => ?_, hother, honly⟩
    · rw [hpipe]
      exact (Table.get_set_same _ _ _ _).trans (by rw [hturn]; rfl)
    · rw [hpipe, ← htail]
      exact nextFetch_fetches _
    · rw [hpipe]
      exact nextFetch_queue _
    · rw [State.thread, hpipe]
      exact placed_thread _ (hthreads.trans hk) hblock hhandle hpc
  case refine_2 =>
    subst hx hg
    have hslot : (s.session k).ring.room = true := decide_eq_true hroom
    obtain ⟨t, hexec, hempty, hring, hmem, hnow, honly⟩ :=
      aruPartialWrite_writes hstaged rfl hold hsize hgap hslot hawake hplain hlen
    refine ⟨t, hexec, hempty, hring, fun j hj => ?_, fun j hj => ?_, fun a ha => ?_, hnow, honly⟩ <;> rw [hmem]
    · exact written_slot s.mem hslot hlen hj
    · exact written_index s.mem b hj
    · exact written_outside s.mem hslot hlen ha
  case refine_3 =>
    obtain ⟨t, hexec, hnow, hsession, honly⟩ := aruReadIdxReread_reads hhigh hplain
    refine ⟨t, hexec, hnow, fun k hk x hx hopen hfirst hsize hready hawake => ?_, fun k hk hfirst => ?_, honly⟩
    · subst hx
      rw [hsession, if_pos ⟨hk, by simpa [State.rereads, hopen, hfirst, hsize, hready] using hawake⟩]
      rfl
    · rw [hsession, if_neg (by simp [State.rereads, hfirst])]

end Sys2Proof.Machine
end

section
/-! PROOFS of 08_pod_steps.md. What a step does to its thread, its pipe and the rest of the device: the rules that the proofs about
single steps use (R456 to R461, R472, R473; 07 R405, R413). -/

namespace Sys2Proof.Machine

/-! ### Threads put and read -/

section

variable (s : State) (n t : Nat)

theorem setThread_thread_same (x : Thread) : (s.setThread n t x).thread n t = x := by
  simp [State.setThread, State.thread, Pipe.thread]

theorem setThread_thread_other (x : Thread) {k : Nat} (h : k ≠ t) : (s.setThread n t x).thread n k = s.thread n k := by
  simp [State.setThread, State.thread, Pipe.thread, Table.get_set_other _ _ _ _ _ h]

theorem setThread_pipe_same (x : Thread) :
    (s.setThread n t x).pipe n = { s.pipe n with threads := Table.set {} (s.pipe n).threads t x } := setPipe_same _ _ _

theorem setThread_pipe_other (x : Thread) {k : Nat} (h : k ≠ n) : (s.setThread n t x).pipe k = s.pipe k := setPipe_other _ _ h

theorem within_setThread (x : Thread) : Within [.pipes] s (s.setThread n t x) := within_setPipe s n _

end

/-! ### What is written to DST (R457) -/

section

variable (s : State) (n t d v : Nat)

theorem writeDst_thread_same :
    (s.writeDst n t d v).thread n t = { s.thread n t with s := (s.thread n t).scalarsOf d (v % 2 ^ 64) } := by
  by_cases hthread : d < 0x20
  · rw [State.writeDst, if_pos hthread, Thread.scalarsOf, if_pos hthread]
    exact setThread_thread_same s n t _
  · rw [State.writeDst, if_neg hthread, Thread.scalarsOf, if_neg hthread]
    split
    · exact congrArg (Table.get {} · t) (congrArg Pipe.threads (setPipe_same s n _))
    · rfl

theorem writeDst_thread_other {k : Nat} (h : k ≠ t) : (s.writeDst n t d v).thread n k = s.thread n k := by
  unfold State.writeDst
  dsimp only
  split
  · exact setThread_thread_other s n t _ h
  · split
    · exact congrArg (Table.get {} · k) (congrArg Pipe.threads (setPipe_same s n _))
    · rfl

/-- Of a pipe but for its threads, the write changes the pipe scalars alone. -/
theorem writeDst_pipe_same :
    { (s.writeDst n t d v).pipe n with threads := [] } =
      { s.pipe n with threads := [], scalars := s.scalarsOf n (s.thread n t) d (v % 2 ^ 64) } := by
  unfold State.writeDst State.scalarsOf
  dsimp only
  by_cases hthread : d < 0x20
  · rw [if_pos hthread, if_neg (by omega), setThread_pipe_same]
  · rw [if_neg hthread]
    split
    · rw [setPipe_same]
      rfl
    · rfl

theorem writeDst_pipe_other {k : Nat} (h : k ≠ n) : (s.writeDst n t d v).pipe k = s.pipe k := by
  unfold State.writeDst
  dsimp only
  split
  · exact setThread_pipe_other s n t _ h
  · split
    · exact setPipe_other s _ h
    · rfl

theorem within_writeDst : Within [.pipes] s (s.writeDst n t d v) := by
  unfold State.writeDst
  exact ((within_setThread s n t _).ite ((within_setPipe s n _).ite (Within.refl s))).widen (by decide)

theorem writeDst_hazel : (s.writeDst n t d v).hazel = s.hazel := (within_writeDst s n t d v).only.2 .hazel (by decide)

end

/-! ### The step that follows (R473) -/

section

variable {s : State} {n t pc : Nat}

theorem goTo_inside (h : pc < podSteps (s.image (s.thread n t))) :
    s.goTo n t pc = s.setThread n t { s.thread n t with pc := pc } := if_neg (Nat.not_le.2 h)

theorem goTo_outside (h : podSteps (s.image (s.thread n t)) ≤ pc) : s.goTo n t pc = s.threadFault n (s.thread n t) 5 pc := if_pos h

end

/-! ### A frame that a further change stays in -/

theorem within_begin (s : State) : Within [] s s.begin := ⟨only_begin [] s, by decide⟩

theorem Within.then {l m : List Part} {s t u : State} (h : Within l s t) (k : Within m t u) (hm : m ⊆ l) : Within l s u :=
  (h.seq k).widen ⟨by simp [hm], h.board⟩

/-! ### A step has been issued, and its thread goes on -/

/-- A step of thread `r` has been issued from `s`, its thread is now `y` and the pipe scalars are `sc`; of the rest, only parts of
`l` have changed, and the Pods are as they were. -/
structure Goes (l : List Part) (s u : State) (r : PipeRef) (y : Thread) (sc : List (Nat × Nat)) : Prop where
  stepped : Stepped s u r y sc
  frame : Within l s u
  pods : u.hazel.pods = s.hazel.pods

section

variable {l m : List Part} {s u v : State} {r : PipeRef} {y : Thread} {sc : List (Nat × Nat)}

theorem Stepped.thread (h : Stepped s u r y sc) : u.thread r.pipe r.thread = y := h.1

theorem Stepped.scalars (h : Stepped s u r y sc) : (u.pipe r.pipe).scalars = sc := by
  obtain ⟨-, -, hpipe, -⟩ := h
  exact congrArg Pipe.scalars hpipe

theorem Stepped.congr (h : Stepped s u r y sc) (hpipes : v.pipes = u.pipes) : Stepped s v r y sc := by
  have hpipe : v.pipe = u.pipe := funext fun k => congrArg (Table.get ({} : Pipe) · k) hpipes
  unfold Stepped State.thread at h ⊢
  rwa [hpipe]

theorem Stepped.setThread (h : Stepped s u r y sc) (z : Thread) : Stepped s (u.setThread r.pipe r.thread z) r z sc := by
  obtain ⟨-, hothers, hpipe, hpipes⟩ := h
  refine ⟨setThread_thread_same u _ _ z, fun k hk => (setThread_thread_other u _ _ z hk).trans (hothers k hk), ?_,
    fun k hk => (setThread_pipe_other u _ _ z hk).trans (hpipes k hk)⟩
  rw [setThread_pipe_same]
  exact hpipe

theorem Stepped.writeDst (h : Stepped s u r y (s.pipe r.pipe).scalars) (d w : Nat) :
    Stepped s (u.writeDst r.pipe r.thread d w) r { y with s := y.scalarsOf d (w % 2 ^ 64) } (s.scalarsOf r.pipe y d (w % 2 ^ 64)) := by
  have hthread := h.thread
  have hscalars : u.scalarsOf r.pipe y d (w % 2 ^ 64) = s.scalarsOf r.pipe y d (w % 2 ^ 64) := by
    unfold State.scalarsOf
    rw [h.scalars]
  obtain ⟨-, hothers, hpipe, hpipes⟩ := h
  refine ⟨?_, fun k hk => (writeDst_thread_other u _ _ d w hk).trans (hothers k hk), ?_,
    fun k hk => (writeDst_pipe_other u _ _ d w hk).trans (hpipes k hk)⟩
  · rw [writeDst_thread_same, hthread]
  · rw [writeDst_pipe_same, hthread, hscalars]
    exact congrArg (fun p : Pipe => { p with scalars := s.scalarsOf r.pipe y d (w % 2 ^ 64) }) hpipe

theorem image_congr (h : u.hazel.pods = s.hazel.pods) (x : Thread) : u.image x = s.image x := by
  unfold State.image State.pod
  rw [h]

theorem Goes.thread (h : Goes l s u r y sc) : u.thread r.pipe r.thread = y := h.stepped.thread

/-- A change outside the pipes and the Pods leaves the thread where it stands. -/
theorem Goes.congr (h : Goes l s u r y sc) (k : Within m u v) (hm : m ⊆ l) (hpipes : v.pipes = u.pipes)
    (hpods : v.hazel.pods = u.hazel.pods) : Goes l s v r y sc :=
  ⟨h.stepped.congr hpipes, h.frame.then k hm, hpods.trans h.pods⟩

theorem Goes.setThread (h : Goes l s u r y sc) (z : Thread) (hl : [.pipes] ⊆ l := by decide) :
    Goes l s (u.setThread r.pipe r.thread z) r z sc :=
  ⟨h.stepped.setThread z, h.frame.then (within_setThread u _ _ z) hl, h.pods⟩

theorem Goes.writeDst (h : Goes l s u r y (s.pipe r.pipe).scalars) (d w : Nat) (hl : [.pipes] ⊆ l := by decide) :
    Goes l s (u.writeDst r.pipe r.thread d w) r { y with s := y.scalarsOf d (w % 2 ^ 64) } (s.scalarsOf r.pipe y d (w % 2 ^ 64)) :=
  ⟨h.stepped.writeDst d w, h.frame.then (within_writeDst u _ _ d w) hl, (congrArg Hazel.pods (writeDst_hazel u _ _ d w)).trans h.pods⟩

theorem Goes.tookFree (h : Goes l s u r y sc) (hl : [.free] ⊆ l := by decide) : Goes l s u.tookFree r y sc :=
  h.congr (within_tookFree u) hl rfl rfl

theorem Goes.goTo_eq (h : Goes l s u r y sc) {pc : Nat} (hpc : pc < podSteps (s.image y)) :
    u.goTo r.pipe r.thread pc = u.setThread r.pipe r.thread { y with pc := pc } := by
  rw [goTo_inside (by rwa [h.thread, image_congr h.pods]), h.thread]

theorem Goes.nextStep_eq (h : Goes l s u r y sc) (hpc : y.pc + 1 < podSteps (s.image y)) :
    u.nextStep r.pipe r.thread = u.setThread r.pipe r.thread { y with pc := y.pc + 1 } := by
  rw [State.nextStep, h.thread, h.goTo_eq hpc]

theorem Goes.goTo (h : Goes l s u r y sc) {pc : Nat} (hpc : pc < podSteps (s.image y)) (hl : [.pipes] ⊆ l := by decide) :
    Goes l s (u.goTo r.pipe r.thread pc) r { y with pc := pc } sc := by
  rw [h.goTo_eq hpc]
  exact h.setThread _ hl

theorem Goes.nextStep (h : Goes l s u r y sc) (hpc : y.pc + 1 < podSteps (s.image y)) (hl : [.pipes] ⊆ l := by decide) :
    Goes l s (u.nextStep r.pipe r.thread) r { y with pc := y.pc + 1 } sc := by
  rw [h.nextStep_eq hpc]
  exact h.setThread _ hl

/-- The command settles the effect in which the thread has gone on. -/
theorem Goes.does (h : Goes l s u r y sc) {c : Instr} (hexec : exec c s = .next u.settle) :
    Does c s fun t => Stepped s t r y sc ∧ Only l s t :=
  ⟨_, hexec, h.stepped.congr (settled_settle u).pipes, Within.settled ⟨h.frame.only, h.frame.board⟩⟩

end

/-! ### A step that can be issued (07 R405, R406; 08 R468) -/

section

variable {s : State} {r : PipeRef} {x : Thread} {w : Nat}

theorem issued_pipe (s : State) (n t : Nat) (x : Thread) : (s.issued n t x).pipe n =
    { (s.pipe n).touchPage x.handle (x.pc / 256) with steps := satAdd 64 (s.pipe n).steps 1, lastIssued := t } := setPipe_same _ _ _

/-- The state in which a step of thread `x` has been issued. -/
theorem goes_issued (hx : x = s.thread r.pipe r.thread) (l : List Part) (hl : [.pipes] ⊆ l ∧ .board ∉ l := by decide) :
    Goes l s (s.begin.issued r.pipe r.thread x) r x (s.pipe r.pipe).scalars := by
  subst hx
  have hthreads : ((s.begin.issued r.pipe r.thread (s.thread r.pipe r.thread)).pipe r.pipe).threads = (s.pipe r.pipe).threads := by
    rw [issued_pipe]
    rfl
  have hthread (k : Nat) : (s.begin.issued r.pipe r.thread (s.thread r.pipe r.thread)).thread r.pipe k = s.thread r.pipe k :=
    congrArg (Table.get ({} : Thread) · k) hthreads
  refine ⟨⟨hthread _, fun k _ => hthread k, ?_, fun k hk => setPipe_other _ _ hk⟩,
    ((within_begin s).seq (within_setPipe s.begin r.pipe _)).widen hl, rfl⟩
  rw [issued_pipe]
  rfl

/-- The step is issued, and does what its opcode says. -/
theorem step1_issues (h : s.Steps r x w) (hx : x = s.thread r.pipe r.thread) (hw : w = s.stepOf x) {ok : Nat → Bool} (hok : ok w = true)
    (f : State → Thread → Nat → State) : s.begin.step1 r.pipe r.thread ok f = f (s.begin.issued r.pipe r.thread x) x w := by
  obtain ⟨hactive, hfree, hrun, hpll, hwaits, hresident, howner⟩ := h
  subst hx hw
  have hissue : (!(s.thread r.pipe r.thread).active || (s.thread r.pipe r.thread).block != .free ||
      (s.session (s.thread r.pipe r.thread).session).run.isNone || s.pll 2 != .locked) = false := by
    simp [hactive, hfree, hpll, Option.ne_none_iff_isSome.1 hrun, Option.isNone_eq_false_iff]
  have hpasses : (!ok (s.stepOf (s.thread r.pipe r.thread)) || (s.thread r.pipe r.thread).waits (s.stepOf (s.thread r.pipe r.thread))) =
      false := by simp [hok, hwaits]
  refine (if_neg (ne_true_of_eq_false hissue)).trans ((if_neg (ne_true_of_eq_false hpasses)).trans
    ((if_neg ?_).trans (if_neg (ne_true_of_eq_false howner))))
  exact ne_true_of_eq_false (by rw [Bool.not_eq_false']; exact hresident)

/-- A fault of a thread other than a deadlock ends its job (07 R413). -/
theorem faults_of_threadFault {c : Instr} {i code step : Nat} (hcode : code ≠ 4) (hrun : s.runningJob x.session = some i)
    (hexec : exec c s = .next ((s.begin.issued r.pipe r.thread x).threadFault r.pipe x code step).settle) : Faults c s r x i code step := by
  have hrunning : ∀ p, ((s.begin.issued r.pipe r.thread x).setPipe r.pipe p).runningJob x.session = some i := fun _ => hrun
  unfold Faults Carries
  rw [hexec, State.threadFault]
  dsimp only
  rw [if_neg hcode, if_neg hcode, State.stopRun, hrunning, faultDetail, Nat.mod_eq_of_lt r.pipe.isLt]

end

end Sys2Proof.Machine
end

section
/-! PROOFS of 08_pod_steps.md. The scalar steps: the arithmetic that their flags and results rest on (R458, R459, R462, R463). -/

namespace Sys2Proof.Machine

/-! ### Overflow, equality and signs -/

section

variable (a b : W)

theorem add_overflows : (a.msb == b.msb && (a + b).msb != a.msb) = decide ((a + b).toInt ≠ a.toInt + b.toInt) := by
  simp only [BitVec.toInt_eq_toNat_cond, BitVec.msb_eq_decide, BitVec.toNat_add]
  rw [Bool.eq_iff_iff]
  simp
  omega

theorem sub_overflows : (a.msb != b.msb && (a - b).msb != a.msb) = decide ((a - b).toInt ≠ a.toInt - b.toInt) := by
  simp only [BitVec.toInt_eq_toNat_cond, BitVec.msb_eq_decide, BitVec.toNat_sub]
  rw [Bool.eq_iff_iff]
  simp
  omega

theorem sub_beq_zero : (a - b == 0) = (a == b) := by
  rw [Bool.eq_iff_iff, beq_iff_eq, beq_iff_eq, sub_eq_zero]

theorem xor_beq_zero : (a ^^^ b == 0) = (a == b) := by
  rw [Bool.eq_iff_iff, beq_iff_eq, beq_iff_eq]
  exact BitVec.xor_eq_zero_iff

theorem div_beq_zero (hb : b ≠ 0) : (a / b == 0) = decide (a.toNat < b.toNat) := by
  have hpos : b.toNat ≠ 0 := fun h => hb (BitVec.eq_of_toNat_eq h)
  rw [Bool.eq_iff_iff, beq_iff_eq, decide_eq_true_iff, BitVec.toNat_eq, BitVec.toNat_udiv]
  exact Nat.div_eq_zero_iff.trans (or_iff_right hpos)

theorem mod_beq_zero : (a % b == 0) = decide (b.toNat ∣ a.toNat) := by
  rw [Bool.eq_iff_iff, beq_iff_eq, decide_eq_true_iff, BitVec.toNat_eq, BitVec.toNat_umod, Nat.dvd_iff_mod_eq_zero]
  rfl

theorem divSigned_eq : divSigned a b = BitVec.ofInt 64 (Int.tdiv a.toInt b.toInt) :=
  BitVec.eq_of_toInt_eq ((BitVec.toInt_sdiv a b).trans (BitVec.toInt_ofInt _).symm)

theorem minSigned_eq : minSigned a b = BitVec.ofInt 64 (min a.toInt b.toInt) := by
  rw [minSigned, min_def]
  split <;> exact BitVec.ofInt_toInt.symm

theorem maxSigned_eq : maxSigned a b = BitVec.ofInt 64 (max a.toInt b.toInt) := by
  rw [maxSigned, max_def]
  split <;> exact BitVec.ofInt_toInt.symm

theorem msb_shl {k : Nat} (h : k < 64) : (a <<< k).msb = a.getLsbD (63 - k) := by
  rw [BitVec.msb_shiftLeft, BitVec.getMsbD, decide_eq_true h, Bool.true_and]

theorem msb_shru (k : Nat) : (a >>> k).msb = (decide (k = 0) && a.msb) := by
  have hzero : (!decide (0 < k)) = decide (k = 0) := by
    rw [Bool.eq_iff_iff]
    simp
  rw [BitVec.msb_ushiftRight, hzero]

end

/-! ### Bit fields (log 62) -/

theorem stLen_le (w : Nat) : stLen w ≤ 64 := by
  unfold stLen bitsOf
  split <;> omega

theorem extBits_eq (a : W) (pos : Nat) {len : Nat} (h : len ≤ 64) :
    toW (extBits a.toNat pos len) = (a >>> pos) &&& toW (2 ^ len - 1) := by
  have hmask : 2 ^ len - 1 < 2 ^ 64 := by
    have := Nat.pow_le_pow_right (n := 2) (by decide) h
    omega
  have hfield : a.toNat / 2 ^ pos % 2 ^ len < 2 ^ 64 := ((Nat.mod_le _ _).trans (Nat.div_le_self _ _)).trans_lt a.isLt
  refine BitVec.eq_of_toNat_eq ?_
  rw [BitVec.toNat_and, BitVec.toNat_ushiftRight, toW, toW, BitVec.toNat_ofNat, BitVec.toNat_ofNat, Nat.mod_eq_of_lt hmask,
    Nat.and_two_pow_sub_one_eq_mod, extBits, bitsOf, Nat.shiftRight_eq_div_pow, Nat.mod_eq_of_lt hfield]

/-- A field put in a number replaces its bits and no others. -/
theorem testBit_field (d a pos len i : Nat) : (d - bitsOf d pos len * 2 ^ pos + a % 2 ^ len * 2 ^ pos).testBit i =
    if pos ≤ i ∧ i < pos + len then a.testBit (i - pos) else d.testBit i := by
  have hsplit : d - bitsOf d pos len * 2 ^ pos + a % 2 ^ len * 2 ^ pos =
      2 ^ pos * (2 ^ len * (d / 2 ^ pos / 2 ^ len) + a % 2 ^ len) + d % 2 ^ pos := by
    have hlow := Nat.div_add_mod d (2 ^ pos)
    have hmid := Nat.div_add_mod (d / 2 ^ pos) (2 ^ len)
    unfold bitsOf
    generalize d / 2 ^ pos = e at hlow hmid ⊢
    generalize d % 2 ^ pos = lo at hlow ⊢
    generalize e / 2 ^ len = hi at hmid ⊢
    generalize e % 2 ^ len = mid at hmid ⊢
    subst hlow hmid
    rw [Nat.mul_add, Nat.mul_comm mid, Nat.mul_add, Nat.mul_comm (a % 2 ^ len)]
    omega
  rw [hsplit, Nat.testBit_two_pow_mul_add _ (Nat.mod_lt _ (Nat.two_pow_pos pos)),
    Nat.testBit_two_pow_mul_add _ (Nat.mod_lt _ (Nat.two_pow_pos len))]
  by_cases hbelow : i < pos
  · rw [if_pos hbelow, if_neg (by omega), Nat.testBit_mod_two_pow, decide_eq_true hbelow, Bool.true_and]
  · rw [if_neg hbelow]
    by_cases hin : i - pos < len
    · rw [if_pos hin, if_pos ⟨by omega, by omega⟩, Nat.testBit_mod_two_pow, decide_eq_true hin, Bool.true_and]
    · rw [if_neg hin, if_neg (by omega), Nat.testBit_div_two_pow, Nat.testBit_div_two_pow]
      congr 1
      omega

theorem insBits_eq (d : Nat) (a : W) (pos : Nat) {len : Nat} (h : len ≤ 64) : toW (insBits d a.toNat pos len) =
    (toW d &&& ~~~(toW (2 ^ len - 1) <<< pos)) ||| ((a &&& toW (2 ^ len - 1)) <<< pos) := by
  refine BitVec.eq_of_getLsbD_eq fun i hi => ?_
  simp only [toW, insBits, word64, BitVec.getLsbD_ofNat, Nat.testBit_mod_two_pow, testBit_field, BitVec.getLsbD_or, BitVec.getLsbD_and,
    BitVec.getLsbD_not, BitVec.getLsbD_shiftLeft, Nat.testBit_two_pow_sub_one, hi, BitVec.testBit_toNat, decide_true, Bool.true_and]
  by_cases hbelow : i < pos
  · simp [hbelow]
  · by_cases hin : i - pos < len
    · have hfield : i - pos < 64 := by omega
      rw [if_pos ⟨by omega, by omega⟩]
      simp [hbelow, hin, hfield]
    · rw [if_neg (by omega)]
      simp [hbelow, hin]

/-! ### Leading zeros -/

theorem leadingZeros_eq {v n : Nat} (h : v < 2 ^ n) : leadingZeros v n = if v = 0 then n else n - 1 - v.log2 := by
  induction n with
  | zero => simp [leadingZeros]
  | succ n ih =>
    rw [leadingZeros, bitAt_eq_testBit]
    by_cases hlow : v < 2 ^ n
    · rw [Nat.testBit_lt_two_pow hlow, if_neg Bool.false_ne_true, ih hlow]
      by_cases hv : v = 0
      · rw [if_pos hv, if_pos hv, Nat.add_comm]
      · have hlog := (Nat.log2_lt hv).2 hlow
        rw [if_neg hv, if_neg hv]
        omega
    · have hv : v ≠ 0 := fun h0 => hlow (h0 ▸ Nat.two_pow_pos n)
      have hlog : v.log2 = n := (Nat.log2_eq_iff hv).2 ⟨Nat.le_of_not_lt hlow, h⟩
      have hbit : v.testBit n = true := hlog ▸ Nat.testBit_log2 hv
      rw [hbit, if_pos rfl, if_neg hv, hlog]
      omega

theorem clz_eq (a : W) : toW (leadingZeros a.toNat 64) = toW (if a = 0 then 64 else 63 - a.toNat.log2) := by
  have hzero : a.toNat = 0 ↔ a = 0 := (BitVec.toNat_eq (y := 0)).symm
  rw [leadingZeros_eq a.isLt]
  simp only [hzero]

theorem clz_beq_zero (a : W) : (toW (if a = 0 then 64 else 63 - a.toNat.log2) == 0) = a.msb := by
  by_cases ha : a = 0
  · rw [if_pos ha, ha]
    decide
  · have hpos : a.toNat ≠ 0 := fun h => ha (BitVec.eq_of_toNat_eq h)
    have hlog := (Nat.log2_lt hpos).2 a.isLt
    have htop : 63 ≤ a.toNat.log2 ↔ 2 ^ 63 ≤ a.toNat := Nat.le_log2 hpos
    rw [if_neg ha, Bool.eq_iff_iff, beq_iff_eq, BitVec.msb_eq_decide, decide_eq_true_iff, BitVec.toNat_eq, toW, BitVec.toNat_ofNat]
    refine Iff.trans ?_ htop
    change (63 - a.toNat.log2) % 2 ^ 64 = 0 ↔ _
    omega

/-! ### Flags (R458, R462) -/

section

variable (x : Thread) (a b : W)

theorem addFlags_eq : x.addFlags a b = { x with
    z := a + b == 0, n := (a + b).msb, c := decide (2 ^ 64 ≤ a.toNat + b.toNat), v := decide ((a + b).toInt ≠ a.toInt + b.toInt) } := by
  rw [Thread.addFlags, add_overflows]
  rfl

theorem subFlags_eq : x.subFlags a b = { x with
    z := a == b, n := (a - b).msb, c := decide (b.toNat ≤ a.toNat), v := decide ((a - b).toInt ≠ a.toInt - b.toInt) } := by
  rw [Thread.subFlags, Thread.zn, sub_overflows, sub_beq_zero]

theorem divuFlags_eq (hb : b ≠ 0) : x.zn (a / b) = { x with z := decide (a.toNat < b.toNat), n := (a / b).msb } := by
  rw [Thread.zn, div_beq_zero a b hb]

theorem remuFlags_eq : x.zn (a % b) = { x with z := decide (b.toNat ∣ a.toNat), n := (a % b).msb } := by
  rw [Thread.zn, mod_beq_zero]

theorem andFlags_eq : x.bitFlags (a &&& b) = { x with z := a &&& b == 0, n := a.msb && b.msb, c := false, v := false } := by
  rw [Thread.bitFlags, Thread.zn, BitVec.msb_and]

theorem orFlags_eq : x.bitFlags (a ||| b) = { x with z := a ||| b == 0, n := a.msb || b.msb, c := false, v := false } := by
  rw [Thread.bitFlags, Thread.zn, BitVec.msb_or]

theorem xorFlags_eq : x.bitFlags (a ^^^ b) = { x with z := a == b, n := a.msb != b.msb, c := false, v := false } := by
  rw [Thread.bitFlags, Thread.zn, BitVec.msb_xor, xor_beq_zero]

theorem shlFlags_eq {k : Nat} (hk : k < 64) (out free : Bool) : x.shiftFlags (a <<< k) k out free =
    { x with z := a <<< k == 0, n := a.getLsbD (63 - k), c := if k = 0 then free else out } := by
  rw [Thread.shiftFlags, Thread.zn, msb_shl a hk]

theorem shruFlags_eq (k : Nat) (out free : Bool) : x.shiftFlags (a >>> k) k out free =
    { x with z := a >>> k == 0, n := decide (k = 0) && a.msb, c := if k = 0 then free else out } := by
  rw [Thread.shiftFlags, Thread.zn, msb_shru]

theorem shrsFlags_eq (k : Nat) (out free : Bool) : x.shiftFlags (a.sshiftRight k) k out free =
    { x with z := a.sshiftRight k == 0, n := a.msb, c := if k = 0 then free else out } := by
  rw [Thread.shiftFlags, Thread.zn, BitVec.msb_sshiftRight]

theorem clzFlags_eq : x.z1 (toW (if a = 0 then 64 else 63 - a.toNat.log2)) = { x with z := a.msb } := by
  rw [Thread.z1, clz_beq_zero]

end

/-! ### A scalar step -/

section

variable {s : State} {r : PipeRef} {x : Thread} {w i : Nat} {c : Instr} {op : Nat} {bad : W → W → Bool} {res : W → W → Nat → W}
  {flags : Thread → W → W → W → Bool → Thread} {a b v : W} {y : Thread}

theorem scalar_issues (h : s.Steps r x w) (hx : x = s.thread r.pipe r.thread) (hw : w = s.stepOf x) (hop : stOp w = op)
    (ha : a = toW (s.operand r.pipe x (stA w))) (hb : b = toW (s.second r.pipe x w)) :
    s.begin.scalar r op bad res flags =
      if bad a b then (s.begin.issued r.pipe r.thread x).threadFault r.pipe x 2 x.pc
      else
        let u := (s.begin.issued r.pipe r.thread x).writeDst r.pipe r.thread (stDst w) (res a b w).toNat
        ((u.setFlags r.pipe r.thread (flags x a b (res a b w) ((Config.freeWord s.free).getLsbD 0))).tookFree).nextStep r.pipe r.thread := by
  subst ha hb
  have hok : (fun v => stOp v == op) w = true := beq_iff_eq.2 hop
  unfold State.scalar
  dsimp only
  rw [step1_issues h hx hw hok]
  simp only [begin_operand, begin_second]
  rfl

/-- A step whose operands are good writes its result and its flags, and the thread goes on. -/
theorem scalar_yields (h : s.Steps r x w) (hx : x = s.thread r.pipe r.thread) (hw : w = s.stepOf x) (hmore : s.More x)
    (ha : a = toW (s.operand r.pipe x (stA w))) (hb : b = toW (s.second r.pipe x w))
    (hexec : exec c s = .next (s.begin.scalar r op bad res flags).settle) (hop : stOp w = op) (hgood : bad a b = false)
    (hres : res a b w = v) (hflags : flags x a b v ((Config.freeWord s.free).getLsbD 0) = y)
    (hy : { x with z := y.z, n := y.n, c := y.c, v := y.v } = y) : Yields c s r x w v y := by
  have hvalue : v.toNat % 2 ^ 64 = v.toNat := Nat.mod_eq_of_lt v.isLt
  have hwrite := (goes_issued hx [.pipes, .free]).writeDst (stDst w) v.toNat
  rw [hvalue] at hwrite
  have hnext := (hwrite.setThread { x with s := x.scalarsOf (stDst w) v.toNat, z := y.z, n := y.n, c := y.c, v := y.v }).tookFree.nextStep hmore
  rw [scalar_issues h hx hw hop ha hb, hgood, if_neg Bool.false_ne_true, hres, hflags] at hexec
  dsimp only at hexec
  rw [State.setFlags, hwrite.thread] at hexec
  rw [← hy]
  exact hnext.does hexec

/-- A step whose operands are bad raises ARITH. -/
theorem scalar_faults (h : s.Steps r x w) (hx : x = s.thread r.pipe r.thread) (hw : w = s.stepOf x)
    (hrun : s.runningJob x.session = some i) (hb : b = toW (s.second r.pipe x w))
    (hexec : exec c s = .next (s.begin.scalar r op bad res flags).settle) (hop : stOp w = op) (hbad : ∀ a, bad a b = true) :
    Faults c s r x i 2 x.pc := by
  rw [scalar_issues h hx hw hop rfl hb, hbad, if_pos rfl] at hexec
  exact faults_of_threadFault (by decide) hrun hexec

end

/-! ### Every clause -/

section

variable {s : State} {r : PipeRef} {x : Thread} {w : Nat} {c : Instr} {v v' : W} {y : Thread}

/-- A step whose DST is ZERO writes no scalar, whatever its result. -/
theorem yields_zero (hzero : stDst w = 0x20) (h : Yields c s r x w v y) : Yields c s r x w v' y := by
  have hthread : ∀ k, x.scalarsOf (stDst w) k = x.s := fun _ => if_neg (by omega)
  have hpipe : ∀ k, s.scalarsOf r.pipe x (stDst w) k = (s.pipe r.pipe).scalars := fun _ => if_neg (by omega)
  unfold Yields at h ⊢
  rwa [hthread, hpipe] at h ⊢

end

/-- Settles O50: each command by the two lemmas on scalar steps, with the arithmetic of its entry. -/
theorem scalarStepsYieldOrRaiseArith : Obligations.ScalarStepsYieldOrRaiseArith := by
  unfold Obligations.ScalarStepsYieldOrRaiseArith
  refine ⟨fun s r x hx w hw h hmore a ha b hb o ho => ?_, fun s r x hx w hw h i hrun b hb => ?_⟩
  · subst ho
    have hyields {c op bad res flags v y} := @scalar_yields s r x w c op bad res flags a b v y h hx hw hmore ha hb
    refine ⟨fun ho => ?add, fun ho => ?sub, fun ho => ?mul, fun ho hne => ?divu, fun ho hne d hd => ?divs, fun ho hne => ?remu,
      fun ho => ?and, fun ho => ?or, fun ho => ?xor,
      fun k hk hlt free hfree => ⟨fun ho => ?shl, fun ho => ?shru, fun ho => ?shrs⟩, fun ho m hm => ?min, fun ho m hm => ?max,
      fun ho => ?mov, fun ho hzero => ?cmp, fun ho hzero => ?tstb, fun ho m hm => ?ext, fun ho m hm => ?ins, fun ho => ?ldc,
      fun ho => ?clz, fun ho m hm => ?wlen, fun ho => ?sel⟩
    case add => exact hyields (exec_add r s) ho rfl rfl (addFlags_eq x a b) rfl
    case sub => exact hyields (exec_sub r s) ho rfl rfl (subFlags_eq x a b) rfl
    case mul => exact hyields (exec_mul r s) ho rfl rfl rfl rfl
    case divu => exact hyields (exec_divu r s) ho (beq_false_of_ne hne) rfl (divuFlags_eq x a b hne) rfl
    case divs => exact hyields (exec_divs r s) ho (beq_false_of_ne hne) (hd ▸ divSigned_eq a b) rfl rfl
    case remu => exact hyields (exec_remu r s) ho (beq_false_of_ne hne) rfl (remuFlags_eq x a b) rfl
    case and => exact hyields (exec_and r s) ho rfl rfl (andFlags_eq x a b) rfl
    case or => exact hyields (exec_or r s) ho rfl rfl (orFlags_eq x a b) rfl
    case xor => exact hyields (exec_xor r s) ho rfl rfl (xorFlags_eq x a b) rfl
    case shl =>
      subst hk hfree
      exact hyields (exec_shl r s) ho (decide_eq_false (Nat.not_le.2 hlt)) rfl (shlFlags_eq x a hlt _ _) rfl
    case shru =>
      subst hk hfree
      exact hyields (exec_shru r s) ho (decide_eq_false (Nat.not_le.2 hlt)) rfl (shruFlags_eq x a _ _ _) rfl
    case shrs =>
      subst hk hfree
      exact hyields (exec_shrs r s) ho (decide_eq_false (Nat.not_le.2 hlt)) rfl (shrsFlags_eq x a _ _ _) rfl
    case min => exact hyields (exec_min r s) ho rfl (hm ▸ minSigned_eq a b) rfl rfl
    case max => exact hyields (exec_max r s) ho rfl (hm ▸ maxSigned_eq a b) rfl rfl
    case mov => exact hyields (exec_mov r s) ho rfl rfl rfl rfl
    case cmp => exact yields_zero hzero (hyields (exec_cmp r s) ho rfl rfl (subFlags_eq x a b) rfl)
    case tstb => exact yields_zero hzero (hyields (exec_tstb r s) ho rfl rfl rfl rfl)
    case ext => exact hyields (exec_ext r s) ho rfl (hm ▸ extBits_eq a (stPos w) (stLen_le w)) rfl rfl
    case ins =>
      subst hx hm
      exact hyields (exec_ins r s) ho rfl (insBits_eq _ a (stPos w) (stLen_le w)) rfl rfl
    case ldc =>
      subst hx
      exact hyields (exec_ldc r s) ho rfl (apply_ite toW _ _ _) rfl rfl
    case clz => exact hyields (exec_clz r s) ho rfl (clz_eq a) (clzFlags_eq x a) rfl
    case wlen =>
      subst hx
      exact hyields (exec_wlen r s) ho rfl hm.symm rfl rfl
    case sel =>
      subst hx
      exact hyields (exec_sel r s) ho rfl rfl rfl rfl
  · have hfaults {c op bad res flags} := @scalar_faults s r x w i c op bad res flags b h hx hw hrun hb
    exact ⟨fun ho hzero => hfaults (exec_divu r s) ho fun _ => beq_iff_eq.2 hzero,
      fun ho hzero => hfaults (exec_divs r s) ho fun _ => beq_iff_eq.2 hzero,
      fun ho hzero => hfaults (exec_remu r s) ho fun _ => beq_iff_eq.2 hzero,
      fun ho hwide => hfaults (exec_shl r s) ho fun _ => decide_eq_true hwide,
      fun ho hwide => hfaults (exec_shru r s) ho fun _ => decide_eq_true hwide,
      fun ho hwide => hfaults (exec_shrs r s) ho fun _ => decide_eq_true hwide⟩

end Sys2Proof.Machine
end

section
/-! PROOFS of 08_pod_steps.md. Branches, calls, returns and the end of a thread, waits and SIGNAL (R459, R472 to R475; 07 R407, R408). -/

namespace Sys2Proof.Machine

/-! ### A step of a class other than the scalar one -/

section

variable {s : State} {r : PipeRef} {x : Thread} {w op i : Nat} {c : Instr} {f : State → Thread → Nat → State} {y : Thread}
  {sc : List (Nat × Nat)} {u : State}

theorem branch_issues (h : s.Steps r x w) (hx : x = s.thread r.pipe r.thread) (hw : w = s.stepOf x) (hop : stOp w = op) :
    s.begin.branch r op f = f (s.begin.issued r.pipe r.thread x) x w := by
  have hok : (fun v => stOp v == op) w = true := beq_iff_eq.2 hop
  exact step1_issues h hx hw hok f

/-- The step leaves the state `u`, in which its thread goes on. -/
theorem branch_goes (h : s.Steps r x w) (hx : x = s.thread r.pipe r.thread) (hw : w = s.stepOf x)
    (hexec : exec c s = .next (s.begin.branch r op f).settle) (hop : stOp w = op) (hf : f (s.begin.issued r.pipe r.thread x) x w = u)
    {l : List Part} (hgoes : Goes l s u r y sc) : Does c s fun t => Stepped s t r y sc ∧ Only l s t := by
  rw [branch_issues h hx hw hop, hf] at hexec
  exact hgoes.does hexec

theorem branch_faults (h : s.Steps r x w) (hx : x = s.thread r.pipe r.thread) (hw : w = s.stepOf x)
    (hexec : exec c s = .next (s.begin.branch r op f).settle) (hop : stOp w = op) {code step : Nat} (hcode : code ≠ 4)
    (hf : f (s.begin.issued r.pipe r.thread x) x w = (s.begin.issued r.pipe r.thread x).threadFault r.pipe x code step)
    (hrun : s.runningJob x.session = some i) : Faults c s r x i code step := by
  rw [branch_issues h hx hw hop, hf] at hexec
  exact faults_of_threadFault hcode hrun hexec

end

/-! ### The end of a thread, and waits that are over (R472, R475; 07 R407) -/

/-- A thread that ends, or that waits at its end for what it has asked of the units. -/
def Thread.ended (x : Thread) : Thread :=
  if x.reqs = [] then { x with active := false, block := .free } else { x with block := .ending }

/-- A thread whose wait on a counter is over. -/
def Thread.released (x : Thread) (k : Nat) : Thread :=
  { x with block := .free, passed := if k ∈ x.passed then x.passed else k :: x.passed }

theorem endThread_eq (s : State) (n t : Nat) : s.endThread n t = s.setThread n t (s.thread n t).ended := by
  unfold State.endThread Thread.ended
  dsimp only
  rw [← apply_ite (s.setThread n t)]
  simp only [List.isEmpty_iff]

theorem passCounter_eq (s : State) (n t : Nat) (g : Bool) (k : Nat) :
    s.passCounter n t g k = (s.setThread n t ((s.thread n t).released (counterName g k))).nextStep n t := by
  unfold State.passCounter Thread.released
  simp only [List.contains_iff_mem]

section

variable {l : List Part} {s u : State} {r : PipeRef} {y : Thread} {sc : List (Nat × Nat)}

theorem Goes.endThread (h : Goes l s u r y sc) (hl : [.pipes] ⊆ l := by decide) :
    Goes l s (u.endThread r.pipe r.thread) r y.ended sc := by
  rw [endThread_eq, h.thread]
  exact h.setThread _ hl

theorem Goes.passCounter (h : Goes l s u r y sc) (hpc : y.pc + 1 < podSteps (s.image y)) (g : Bool) (k : Nat)
    (hl : [.pipes] ⊆ l := by decide) :
    Goes l s (u.passCounter r.pipe r.thread g k) r { y.released (counterName g k) with pc := y.pc + 1 } sc := by
  rw [passCounter_eq, h.thread]
  exact (h.setThread _ hl).nextStep hpc hl

end

/-! ### Publications and counters (07 R407, R408) -/

/-- A pipe but for what SIGNAL changes of it. -/
def Pipe.sansSync (p : Pipe) : Pipe := { p with published := [], counters := [], gangCounters := [] }

/-- From `s` to `u` only publications and counters of pipes have changed. -/
structure Syncs (s u : State) : Prop where
  frame : Within [.pipes] s u
  rest : ∀ k, (u.pipe k).sansSync = (s.pipe k).sansSync

section

variable {s t u : State}

theorem Syncs.refl (s : State) : Syncs s s := ⟨(Within.refl s).widen (by decide), fun _ => rfl⟩

theorem Syncs.trans (h : Syncs s t) (k : Syncs t u) : Syncs s u :=
  ⟨h.frame.then k.frame (by decide), fun j => (k.rest j).trans (h.rest j)⟩

theorem syncs_setPipe {n : Nat} {p : Pipe} (h : p.sansSync = (s.pipe n).sansSync) : Syncs s (s.setPipe n p) := by
  refine ⟨within_setPipe s n p, fun k => ?_⟩
  by_cases hk : k = n
  · rw [hk, setPipe_same, h]
  · rw [setPipe_other s p hk]

theorem Syncs.foldl {α : Type} {f : State → α → State} (hf : ∀ v x, Syncs v (f v x)) (l : List α) (s : State) : Syncs s (l.foldl f s) :=
  foldl_keeps (Syncs s) f (fun v x h => h.trans (hf v x)) l s (.refl s)

theorem Syncs.threads (h : Syncs s u) (k : Nat) : (u.pipe k).threads = (s.pipe k).threads := by
  have hthreads := congrArg Pipe.threads (h.rest k)
  exact hthreads

theorem Syncs.thread (h : Syncs s u) (n t : Nat) : u.thread n t = s.thread n t :=
  congrArg (Table.get ({} : Thread) · t) (h.threads n)

theorem Syncs.scalars (h : Syncs s u) (k : Nat) : (u.pipe k).scalars = (s.pipe k).scalars := by
  have hscalars := congrArg Pipe.scalars (h.rest k)
  exact hscalars

theorem Syncs.hazel (h : Syncs s u) : u.hazel = s.hazel := h.frame.only.2 .hazel (by decide)

theorem syncs_publish (s : State) (n : Nat) (l : List Pub) : Syncs s (s.setPipe n ((s.pipe n).publish l)) := syncs_setPipe rfl

theorem syncs_addCounter (s : State) (n : Nat) (x : Thread) (g : Bool) (k v : Nat) : Syncs s (s.addCounter n x g k v) := by
  cases g <;> exact syncs_setPipe rfl

section

variable (s : State) (n : Nat) (x : Thread) (k v : Nat)

theorem addCounter_local : (s.addCounter n x false k v).pipe n = { s.pipe n with
    counters := Table.set 0 (s.pipe n).counters (counterKey x.session x.dec k)
      (satAdd 16 (Table.get 0 (s.pipe n).counters (counterKey x.session x.dec k)) v) } := setPipe_same _ _ _

theorem addCounter_local_other {j : Nat} (h : j ≠ n) : (s.addCounter n x false k v).pipe j = s.pipe j := setPipe_other _ _ h

theorem addCounter_gang {p : Nat} (hp : p = (s.session x.session).firstPipe) : (s.addCounter n x true k v).pipe p = { s.pipe p with
    gangCounters := Table.set 0 (s.pipe p).gangCounters (gangKey x.session x.dec k)
      (satAdd 16 (Table.get 0 (s.pipe p).gangCounters (gangKey x.session x.dec k)) v) } := by
  subst hp
  exact setPipe_same _ _ _

end

theorem Syncs.nextStep {n t : Nat} (h : Syncs s u) {x : Thread} (hx : s.thread n t = x) (hpc : x.pc + 1 < podSteps (s.image x)) :
    u.nextStep n t = u.setThread n t { x with pc := x.pc + 1 } := by
  subst hx
  rw [State.nextStep, h.thread, goTo_inside, h.thread]
  rwa [h.thread, image_congr (congrArg Hazel.pods h.hazel)]

end

/-- What a thread publishes of its scalars carries the counter and the scalar's value. -/
theorem mem_pubs {s : State} {n : Nat} {x : Thread} {k : Nat} {shared : Bool} {e : Pub} (h : e ∈ s.pubs n x k shared) :
    e.counter = k ∧ e.value = Table.get 0 (s.pipe n).scalars e.key := by
  obtain ⟨i, -, rfl⟩ := List.mem_map.1 h
  exact ⟨rfl, rfl⟩

/-- Every scalar that the thread owns is published. -/
theorem pubs_covers {s : State} {n : Nat} {x : Thread} {j : Nat} (k : Nat) (hj : j < podScalars (s.image x)) (howns : s.owns n x j = true) :
    ∃ e ∈ s.pubs n x k false ++ s.pubs n x k true, e.key = scalarKey x.session x.dec j := by
  refine ⟨⟨scalarKey x.session x.dec j, k, Table.get 0 (s.pipe n).scalars (scalarKey x.session x.dec j)⟩, List.mem_append.2 ?_, rfl⟩
  cases hshared : podShared (s.image x) j
  · exact .inl (List.mem_map.2 ⟨j, List.mem_filter.2 ⟨List.mem_range.2 hj, by simp [howns, hshared]⟩, rfl⟩)
  · exact .inr (List.mem_map.2 ⟨j, List.mem_filter.2 ⟨List.mem_range.2 hj, by simp [howns, hshared]⟩, rfl⟩)

/-- A reader that has passed the counter reads what has just been published. -/
theorem published1_publish {p : Pipe} {l : List Pub} {key k v : Nat} (hcover : ∃ e ∈ l, e.key = key)
    (hall : ∀ e ∈ l, e.counter = k ∧ (e.key = key → e.value = v)) : (p.publish l).published1 key [k] = v := by
  obtain ⟨e, he, hkey⟩ := hcover
  have hfound : (l.find? fun e => e.key == key && [k].contains e.counter).isSome := by
    rw [List.find?_isSome]
    exact ⟨e, he, by simp [hkey, (hall e he).1]⟩
  obtain ⟨d, hd⟩ := Option.isSome_iff_exists.1 hfound
  have hmatch := List.find?_some hd
  simp only [Bool.and_eq_true, beq_iff_eq] at hmatch
  have hvalue := (hall d (List.mem_of_find?_eq_some hd)).2 hmatch.1
  unfold Pipe.published1 Pipe.publish
  dsimp only
  rw [List.find?_append, hd]
  exact hvalue

/-! ### SIGNAL (R474; 07 R407, R408) -/

section

variable {s : State} {r : PipeRef} {x : Thread} {w : Nat}

theorem signal_waits (h : s.Steps r x w) (hx : x = s.thread r.pipe r.thread) (hw : w = s.stepOf x) (hop : stOp w = 0x40)
    (hreqs : x.reqs ≠ []) : Does (.signal r) s fun t => Only [] s t :=
  does_nothing (exec_signal r s) ((branch_issues h hx hw hop).trans (if_pos (by simpa using hreqs)))

/-- The publications that a SIGNAL of step `w` makes on the thread's own pipe. -/
def State.ownPubs (s : State) (r : PipeRef) (x : Thread) (w : Nat) : List Pub :=
  let k := counterName (stG w) (stCounter w)
  s.pubs r.pipe x k false ++ s.pubs r.pipe x k true

/-- The state in which the step has been issued and the thread has published its scalars on its own pipe. -/
def State.publishesOwn (s : State) (r : PipeRef) (x : Thread) (w : Nat) : State :=
  let u := s.begin.issued r.pipe r.thread x
  u.setPipe r.pipe ((u.pipe r.pipe).publish (s.ownPubs r x w))

/-- The state in which a thread that signals a gang counter has published its gang-shared scalars on the pipes of its session too. -/
def State.publishes (s : State) (r : PipeRef) (x : Thread) (w : Nat) : State :=
  if stG w then
    (pipesOf (s.session x.session).mask).foldl (fun t n =>
      if n = r.pipe.val then t
      else t.setPipe n ((t.pipe n).publish (s.pubs r.pipe x (counterName (stG w) (stCounter w)) true))) (s.publishesOwn r x w)
  else s.publishesOwn r x w

theorem syncs_publishes (s : State) (r : PipeRef) (x : Thread) (w : Nat) :
    Syncs (s.begin.issued r.pipe r.thread x) (s.publishes r x w) := by
  have hown : Syncs (s.begin.issued r.pipe r.thread x) (s.publishesOwn r x w) := syncs_publish _ _ _
  unfold State.publishes
  split
  · refine hown.trans (Syncs.foldl (fun v n => ?_) _ _)
    split
    · exact .refl v
    · exact syncs_publish v n _
  · exact hown

theorem publishes_gangCounters (s : State) (r : PipeRef) (x : Thread) (w k : Nat) :
    ((s.publishes r x w).pipe k).gangCounters = ((s.begin.issued r.pipe r.thread x).pipe k).gangCounters := by
  have hput (v : State) (n : Nat) (l : List Pub) : ((v.setPipe n ((v.pipe n).publish l)).pipe k).gangCounters = (v.pipe k).gangCounters := by
    by_cases hk : k = n
    · rw [hk, setPipe_same]
      rfl
    · rw [setPipe_other v _ hk]
  unfold State.publishes
  split
  · refine foldl_keeps (fun v : State => (v.pipe k).gangCounters = _) _ (fun v n hv => ?_) _ _ (hput _ _ _)
    split
    · exact hv
    · exact (hput v n _).trans hv
  · exact hput _ _ _

/-- The state in which the thread has published and counted. -/
def State.signals (s : State) (r : PipeRef) (x : Thread) (w : Nat) : State :=
  (s.publishes r x w).addCounter r.pipe x (stG w) (stCounter w) (stImm w % 65536)

theorem syncs_signals (s : State) (r : PipeRef) (x : Thread) (w : Nat) : Syncs (s.begin.issued r.pipe r.thread x) (s.signals r x w) :=
  (syncs_publishes s r x w).trans (syncs_addCounter _ _ _ _ _ _)

theorem does_signal {P : State → Prop} (h : s.Steps r x w) (hx : x = s.thread r.pipe r.thread) (hw : w = s.stepOf x)
    (hmore : s.More x) (hop : stOp w = 0x40) (hreqs : x.reqs = []) :
    Does (.signal r) s P ↔ P ((s.signals r x w).setThread r.pipe r.thread { x with pc := x.pc + 1 }).settle := by
  have hissued := goes_issued hx [.pipes]
  have hnext := (syncs_signals s r x w).nextStep hissued.thread (by rwa [image_congr hissued.pods])
  rw [does_run (exec_signal r s), branch_issues h hx hw hop, if_neg (by simp [hreqs]), ← hnext]
  rfl

/-- What a SIGNAL leaves of its thread, the pipe scalars and the device. -/
theorem signals_frame (hx : x = s.thread r.pipe r.thread) (y : Thread) :
    ((s.signals r x w).setThread r.pipe r.thread y).settle.thread r.pipe r.thread = y ∧
      (((s.signals r x w).setThread r.pipe r.thread y).settle.pipe r.pipe).scalars = (s.pipe r.pipe).scalars ∧
      Only [.pipes] s ((s.signals r x w).setThread r.pipe r.thread y).settle := by
  have hissued := goes_issued hx [.pipes]
  have hsync := syncs_signals s r x w
  refine ⟨?_, ?_, Within.settled (s := s) ?_⟩
  · rw [settle_thread, setThread_thread_same]
  · rw [settle_pipe, setThread_pipe_same]
    exact (hsync.scalars _).trans hissued.stepped.scalars
  · have hframe := (hissued.frame.then hsync.frame (by decide)).then (within_setThread (s.signals r x w) r.pipe r.thread y) (by decide)
    exact ⟨hframe.only, hframe.board⟩

theorem signal_local (h : s.Steps r x w) (hx : x = s.thread r.pipe r.thread) (hw : w = s.stepOf x)
    (hmore : s.More x) (hop : stOp w = 0x40) (hreqs : x.reqs = []) (hlocal : stG w = false) :
    Does (.signal r) s fun t =>
      t.thread r.pipe r.thread = { x with pc := x.pc + 1 } ∧
      Table.get 0 (t.pipe r.pipe).counters (counterKey x.session x.dec (stCounter w)) =
        satAdd 16 (Table.get 0 (s.pipe r.pipe).counters (counterKey x.session x.dec (stCounter w))) (stImm w % 65536) ∧
      (∀ j, j < podScalars (s.image x) → s.owns r.pipe x j = true →
        (t.pipe r.pipe).published1 (scalarKey x.session x.dec j) [stCounter w] =
          Table.get 0 (s.pipe r.pipe).scalars (scalarKey x.session x.dec j)) ∧
      (t.pipe r.pipe).scalars = (s.pipe r.pipe).scalars ∧ (∀ j, j ≠ r.pipe.val → t.pipe j = s.pipe j) ∧ Only [.pipes] s t := by
  obtain ⟨hthread, hscalars, honly⟩ := signals_frame (w := w) hx { x with pc := x.pc + 1 }
  obtain ⟨-, -, -, hothers⟩ := (goes_issued hx [.pipes]).stepped
  have hsignals : s.signals r x w = (s.publishesOwn r x w).addCounter r.pipe x false (stCounter w) (stImm w % 65536) := by
    rw [State.signals, State.publishes, hlocal, if_neg Bool.false_ne_true]
  have hpubs : s.ownPubs r x w = s.pubs r.pipe x (stCounter w) false ++ s.pubs r.pipe x (stCounter w) true := by
    rw [State.ownPubs, hlocal]
    rfl
  have hissued : ((s.begin.issued r.pipe r.thread x).pipe r.pipe).counters = (s.pipe r.pipe).counters := by
    rw [issued_pipe]
    rfl
  have hown : (s.publishesOwn r x w).pipe r.pipe = ((s.begin.issued r.pipe r.thread x).pipe r.pipe).publish (s.ownPubs r x w) :=
    setPipe_same _ _ _
  refine (does_signal h hx hw hmore hop hreqs).2 ⟨hthread, ?_, fun j hj howns => ?_, hscalars, fun j hj => ?_, honly⟩
  · rw [settle_pipe, setThread_pipe_same, hsignals, addCounter_local, hown]
    dsimp only [Pipe.publish]
    rw [Table.get_set_same, hissued]
  · rw [settle_pipe, setThread_pipe_same, hsignals, addCounter_local, hown]
    refine published1_publish (hpubs ▸ pubs_covers (stCounter w) hj howns) fun e he => ?_
    have hpub : e.counter = stCounter w ∧ e.value = Table.get 0 (s.pipe r.pipe).scalars e.key := by
      rw [hpubs] at he
      exact (List.mem_append.1 he).elim mem_pubs mem_pubs
    exact ⟨hpub.1, fun hkey => hkey ▸ hpub.2⟩
  · rw [settle_pipe, setThread_pipe_other _ _ _ _ hj, hsignals, addCounter_local_other _ _ _ _ _ hj, State.publishesOwn,
      setPipe_other _ _ hj, hothers j hj]

theorem signal_gang (h : s.Steps r x w) (hx : x = s.thread r.pipe r.thread) (hw : w = s.stepOf x)
    (hmore : s.More x) (hop : stOp w = 0x40) (hreqs : x.reqs = []) (hgang : stG w = true) {p : Nat}
    (hp : p = (s.session x.session).firstPipe) :
    Does (.signal r) s fun t =>
      t.thread r.pipe r.thread = { x with pc := x.pc + 1 } ∧
      Table.get 0 (t.pipe p).gangCounters (gangKey x.session x.dec (stCounter w)) =
        satAdd 16 (Table.get 0 (s.pipe p).gangCounters (gangKey x.session x.dec (stCounter w))) (stImm w % 65536) ∧
      (t.pipe r.pipe).scalars = (s.pipe r.pipe).scalars ∧ Only [.pipes] s t := by
  obtain ⟨hthread, hscalars, honly⟩ := signals_frame (w := w) hx { x with pc := x.pc + 1 }
  have hput (v : State) (y : Thread) : ((v.setThread r.pipe r.thread y).pipe p).gangCounters = (v.pipe p).gangCounters := by
    by_cases hp : p = r.pipe.val
    · rw [hp, setThread_pipe_same]
    · rw [setThread_pipe_other _ _ _ _ hp]
  have hissued : ((s.begin.issued r.pipe r.thread x).pipe p).gangCounters = (s.pipe p).gangCounters := by
    by_cases hp : p = r.pipe.val
    · rw [hp, issued_pipe]
      rfl
    · exact congrArg Pipe.gangCounters (setPipe_other _ _ hp)
  have hfirst : p = ((s.publishes r x w).session x.session).firstPipe := by
    rw [hp, State.session, State.session, (syncs_publishes s r x w).hazel]
    rfl
  refine (does_signal h hx hw hmore hop hreqs).2 ⟨hthread, ?_, hscalars, honly⟩
  rw [settle_pipe, hput, State.signals, hgang, addCounter_gang _ _ _ _ _ hfirst]
  dsimp only
  rw [Table.get_set_same, publishes_gangCounters, hissued]

end

/-! ### Waits (R475; 07 R407) -/

theorem Thread.unitWaits_iff {x : Thread} {m : Nat} : x.unitWaits m = true ↔ ∃ q ∈ x.reqs, bitAt m q.unit = true := List.any_eq_true

theorem Thread.not_unitWaits {x : Thread} {m : Nat} (h : ∀ q ∈ x.reqs, bitAt m q.unit = false) : ¬ x.unitWaits m = true := fun hwaits => by
  obtain ⟨q, hq, hbit⟩ := Thread.unitWaits_iff.1 hwaits
  exact Bool.false_ne_true ((h q hq).symm.trans hbit)

/-- A thread that was not blocked ends as the sequencer ends one. -/
theorem ended_eq {x : Thread} (h : x.block = .free) :
    x.ended = if x.reqs = [] then { x with active := false } else { x with block := .ending } := by
  rw [Thread.ended, ← h]

theorem released_eq {x : Thread} (h : x.block = .free) (k : Nat) :
    x.released k = { x with passed := if k ∈ x.passed then x.passed else k :: x.passed } := by
  rw [Thread.released, ← h]

/-! ### Every clause -/

/-- Settles O51: each command by what its step makes of the thread, SIGNAL by its lemmas above. -/
theorem controlStepsMoveThreads : Obligations.ControlStepsMoveThreads := by
  unfold Obligations.ControlStepsMoveThreads
  intro s r x hx w hw h l hl o ho g hg
  subst ho hg hl
  obtain ⟨-, hfree, -⟩ := id h
  have hissued := goes_issued hx [.pipes]
  have hgoes {c op f u y sc} := @branch_goes s r x w op c f y sc u h hx hw
  refine ⟨fun hmore => ⟨fun ho => ?nop, fun ho hcond => ?br, fun ho hcond => ?brx,
    fun ho v hv k hk => ⟨fun hle => ?passes, fun hlt => ?waits⟩,
    fun ho => ⟨fun hunits => ?units, fun hunits => ?unitsOver⟩, fun ho hreqs => signal_waits h hx hw ho hreqs,
    fun ho hreqs hlocal => ?signal, fun ho hreqs hgang p hp => ?signalGang⟩, fun ho hcond hin => ?brTaken,
    fun ho hcond k hk hin => ?brxTaken,
    fun ho hdepth hin => ?call, fun k m ho hstack hin => ?ret, fun y hy => ⟨fun ho hstack => ?retEnds, fun ho => ?ends⟩,
    fun i hrun => ⟨fun ho hpast => ?nopFaults, fun ho hdeep => ?callFaults⟩⟩
  case nop => exact hgoes (exec_nopStep r s) ho rfl (hissued.nextStep hmore)
  case br => exact hgoes (exec_br r s) ho (if_neg (ne_true_of_eq_false hcond)) (hissued.nextStep hmore)
  case brx => exact hgoes (exec_brx r s) ho (if_neg (ne_true_of_eq_false hcond)) (hissued.nextStep hmore)
  case passes =>
    subst hv hk
    have hpass := hissued.passCounter hmore (stG w) (stCounter w)
    rw [released_eq hfree] at hpass
    exact hgoes (exec_waitCnt r s) ho (if_pos hle) hpass
  case waits =>
    subst hv
    exact hgoes (exec_waitCnt r s) ho (if_neg (Nat.not_le.2 hlt)) (by rw [hissued.thread]; exact hissued.setThread _)
  case units =>
    exact hgoes (exec_waitUnit r s) ho (if_pos (Thread.unitWaits_iff.2 hunits)) (by rw [hissued.thread]; exact hissued.setThread _)
  case unitsOver => exact hgoes (exec_waitUnit r s) ho (if_neg (Thread.not_unitWaits hunits)) (hissued.nextStep hmore)
  case signal =>
    obtain ⟨t, hexec, hthread, hcounter, hrest⟩ := signal_local h hx hw hmore ho hreqs hlocal
    refine ⟨t, hexec, fun k hk => ?_⟩
    subst hk
    exact ⟨hthread, hcounter.trans (Nat.min_comm _ _), hrest⟩
  case signalGang =>
    obtain ⟨t, hexec, hthread, hcounter, hrest⟩ := signal_gang h hx hw hmore ho hreqs hgang hp
    refine ⟨t, hexec, fun k hk => ?_⟩
    subst hk
    exact ⟨hthread, hcounter.trans (Nat.min_comm _ _), hrest⟩
  case brTaken => exact hgoes (exec_br r s) ho (if_pos hcond) (hissued.goTo hin)
  case brxTaken =>
    subst hk
    exact hgoes (exec_brx r s) ho ((if_pos hcond).trans (if_neg (Nat.not_le.2 hin))) (hissued.goTo hin)
  case call =>
    have hcall := (hissued.setThread { x with stack := (x.pc + 1) :: x.stack }).goTo hin
    exact hgoes (exec_call r s) ho (if_neg (Nat.not_le.2 hdepth)) (by rw [hissued.thread]; exact hcall)
  case ret =>
    have hret := (hissued.setThread { x with stack := m }).goTo hin
    exact hgoes (exec_ret r s) ho (by rw [hstack]; dsimp only; rw [hissued.thread]) hret
  case retEnds =>
    rw [hy, ← ended_eq hfree]
    exact hgoes (exec_ret r s) ho (by rw [hstack]) hissued.endThread
  case ends =>
    rw [hy, ← ended_eq hfree]
    exact hgoes (exec_endStep r s) ho rfl hissued.endThread
  case nopFaults =>
    refine branch_faults h hx hw (exec_nopStep r s) ho (by decide) ?_ hrun
    rw [State.nextStep, hissued.thread, goTo_outside, hissued.thread]
    rw [hissued.thread, image_congr hissued.pods]
    exact hpast
  case callFaults => exact branch_faults h hx hw (exec_call r s) ho (by decide) (if_pos hdeep) hrun

end Sys2Proof.Machine
end

section
/-! PROOFS of 08_pod_steps.md. What lets a thread go on: waits that are over, results of units, and EMIT (R472, R474, R475, R477, R479;
07 R401, R405, R407; 11 R592). -/

namespace Sys2Proof.Machine

/-! ### A thread moves without a step -/

/-- From `s` to `u` thread `r` has become `y`, and no part but the pipes has changed. -/
structure Moves (s u : State) (r : PipeRef) (y : Thread) : Prop where
  thread : u.thread r.pipe r.thread = y
  others : ∀ k, k ≠ r.thread.val → u.thread r.pipe k = s.thread r.pipe k
  frame : Within [.pipes] s u

section

variable {s u : State} {r : PipeRef} {y : Thread}

theorem moves_begin (s : State) (r : PipeRef) : Moves s s.begin r (s.thread r.pipe r.thread) :=
  ⟨rfl, fun _ _ => rfl, (within_begin s).widen (by decide)⟩

theorem Moves.setThread (h : Moves s u r y) (z : Thread) : Moves s (u.setThread r.pipe r.thread z) r z :=
  ⟨setThread_thread_same u _ _ z, fun k hk => (setThread_thread_other u _ _ z hk).trans (h.others k hk),
    h.frame.then (within_setThread u _ _ z) (by decide)⟩

theorem Moves.writeDst (h : Moves s u r y) (d v : Nat) :
    Moves s (u.writeDst r.pipe r.thread d v) r { y with s := y.scalarsOf d (v % 2 ^ 64) } :=
  ⟨by rw [writeDst_thread_same, h.thread], fun k hk => (writeDst_thread_other u _ _ d v hk).trans (h.others k hk),
    h.frame.then (within_writeDst u _ _ d v) (by decide)⟩

theorem Moves.nextStep (h : Moves s u r y) (hpc : y.pc + 1 < podSteps (s.image y)) :
    Moves s (u.nextStep r.pipe r.thread) r { y with pc := y.pc + 1 } := by
  have hpods : u.hazel.pods = s.hazel.pods := congrArg Hazel.pods (h.frame.only.2 .hazel (by decide))
  rw [State.nextStep, h.thread, goTo_inside (by rwa [h.thread, image_congr hpods]), h.thread]
  exact h.setThread _

theorem Moves.settled (h : Moves s u r y) : u.settle.thread r.pipe r.thread = y ∧
    (∀ k, k ≠ r.thread.val → u.settle.thread r.pipe k = s.thread r.pipe k) ∧ Only [.pipes] s u.settle :=
  ⟨(settle_thread u _ _).trans h.thread, fun k hk => (settle_thread u _ _).trans (h.others k hk),
    Within.settled (s := s) ⟨h.frame.only, h.frame.board⟩⟩

end

/-! ### Waits that are over (R475; 07 R407) -/

section

variable {s : State} {r : PipeRef} {x : Thread}

theorem does_waitRelease {P : State → Prop} (hx : x = s.thread r.pipe r.thread) (hactive : x.active = true)
    (hrun : (s.session x.session).run ≠ none) :
    Does (.threadWaitRelease r) s P ↔ P (s.begin.unblock r.pipe r.thread).settle := by
  subst hx
  rw [does_run (exec_threadWaitRelease r s)]
  dsimp only
  rw [begin_thread, begin_session, hactive, Option.ne_none_iff_isSome.1 hrun]
  rfl

/-- A thread that is not active, or whose session runs no job, is left alone. -/
theorem waitRelease_idle (hx : x = s.thread r.pipe r.thread) (h : x.active = false ∨ (s.session x.session).run = none) :
    Does (.threadWaitRelease r) s fun t => Only [] s t := by
  subst hx
  exact does_nothing (exec_threadWaitRelease r s) (if_neg (by obtain h | h := h <;> simp [h]))

theorem waitRelease_nothing (hx : x = s.thread r.pipe r.thread) (hactive : x.active = true) (hrun : (s.session x.session).run ≠ none)
    (h : s.begin.unblock r.pipe r.thread = s.begin) : Does (.threadWaitRelease r) s fun t => Only [] s t := by
  rw [does_waitRelease hx hactive hrun, h]
  exact (Within.refl s.begin).settled

theorem waitRelease_moves {u : State} {y : Thread} (hx : x = s.thread r.pipe r.thread) (hactive : x.active = true)
    (hrun : (s.session x.session).run ≠ none) (h : s.begin.unblock r.pipe r.thread = u) (hmoves : Moves s u r y) :
    Does (.threadWaitRelease r) s fun t =>
      t.thread r.pipe r.thread = y ∧ (∀ k, k ≠ r.thread.val → t.thread r.pipe k = s.thread r.pipe k) ∧ Only [.pipes] s t := by
  rw [does_waitRelease hx hactive hrun, h]
  exact hmoves.settled

/-! What `unblock` does, by what the thread is blocked on. -/

theorem unblock_other (hx : x = s.thread r.pipe r.thread) (h : x.block = .free ∨ x.block = .page) :
    s.begin.unblock r.pipe r.thread = s.begin := by
  subst hx
  unfold State.unblock
  rw [begin_thread]
  dsimp only
  obtain h | h := h <;> rw [h]

theorem unblock_counter (hx : x = s.thread r.pipe r.thread) {g : Bool} {k v : Nat} (h : x.block = .counter g k v) :
    s.begin.unblock r.pipe r.thread = if v ≤ s.counterOf r.pipe x g k then s.begin.passCounter r.pipe r.thread g k else s.begin := by
  subst hx
  unfold State.unblock
  rw [begin_thread]
  dsimp only
  rw [h]
  rfl

theorem unblock_units (hx : x = s.thread r.pipe r.thread) {m : Nat} (h : x.block = .units m) :
    s.begin.unblock r.pipe r.thread =
      if x.unitWaits m then s.begin else (s.begin.setThread r.pipe r.thread { x with block := .free }).nextStep r.pipe r.thread := by
  subst hx
  unfold State.unblock
  rw [begin_thread]
  dsimp only
  rw [h]

theorem unblock_ending (hx : x = s.thread r.pipe r.thread) (h : x.block = .ending) :
    s.begin.unblock r.pipe r.thread = if x.reqs = [] then s.begin.endThread r.pipe r.thread else s.begin := by
  subst hx
  unfold State.unblock
  rw [begin_thread]
  dsimp only
  rw [h]
  simp only [List.isEmpty_iff]

/-! ### Results of units (R477; 07 R401, R405) -/

theorem unitResultReturn_nothing (hx : x = s.thread r.pipe r.thread)
    (h : x.active = false ∨ (s.session x.session).run = none ∨ x.reqs = []) : Does (.unitResultReturn r) s fun t => Only [] s t := by
  subst hx
  refine does_nothing (exec_unitResultReturn r s) ?_
  dsimp only
  split
  · next hgo =>
    simp only [begin_thread, begin_session, Bool.and_eq_true] at hgo
    obtain ⟨⟨hactive, hrun⟩, -⟩ := hgo
    obtain h | h | h := h
    · exact absurd (h.symm.trans hactive) Bool.false_ne_true
    · rw [h] at hrun
      exact absurd hrun Bool.false_ne_true
    · unfold State.unitReturns
      rw [begin_thread]
      dsimp only
      rw [h]
  · rfl

theorem unitResultReturn_writes {q : UnitReq} {m : List UnitReq} (hx : x = s.thread r.pipe r.thread) (hactive : x.active = true)
    (hrun : (s.session x.session).run ≠ none) (hreqs : x.reqs = q :: m) (hpll : s.pll 2 = .locked) :
    Does (.unitResultReturn r) s fun t =>
      t.thread r.pipe r.thread = { x with reqs := m, s := x.scalarsOf q.dst (q.result % 2 ^ 64) } ∧
      (t.pipe r.pipe).scalars = s.scalarsOf r.pipe x q.dst (q.result % 2 ^ 64) ∧
      (∀ k, k ≠ r.thread.val → t.thread r.pipe k = s.thread r.pipe k) ∧ Only [.pipes] s t := by
  subst hx
  have hreturns : s.begin.unitReturns r.pipe r.thread =
      (s.begin.setThread r.pipe r.thread { s.thread r.pipe r.thread with reqs := m }).writeDst r.pipe r.thread q.dst q.result := by
    unfold State.unitReturns
    rw [begin_thread]
    dsimp only
    rw [hreqs]
  have hmoves := ((moves_begin s r).setThread { s.thread r.pipe r.thread with reqs := m }).writeDst q.dst q.result
  obtain ⟨hthread, hothers, honly⟩ := hmoves.settled
  have hgo : (s.begin.thread r.pipe r.thread).active && (s.begin.session (s.begin.thread r.pipe r.thread).session).run.isSome &&
      s.begin.pll 2 == .locked := by
    simp [hactive, Option.ne_none_iff_isSome.1 hrun, hpll]
  refine (does_run (exec_unitResultReturn r s)).2 ?_
  dsimp only
  rw [if_pos hgo, hreturns]
  refine ⟨hthread, ?_, hothers, honly⟩
  have hscalars := congrArg Pipe.scalars (writeDst_pipe_same
    (s.begin.setThread r.pipe r.thread { s.thread r.pipe r.thread with reqs := m }) r.pipe r.thread q.dst q.result)
  rw [settle_pipe]
  refine hscalars.trans ?_
  dsimp only
  rw [setThread_thread_same, State.scalarsOf, setThread_pipe_same]
  rfl

end

/-! ### EMIT (R479; 11 R592) -/

section

variable {s : State} {r : PipeRef} {x : Thread} {w : Nat} {e : Rec} {u : Run}

/-- The record that EMIT makes of its operands. -/
def State.emitted (s : State) (n : Nat) (x : Thread) (w : Nat) : Rec :=
  { order := s.operand n x (stB w) % 2 ^ 32, thread := x.tid, typ := stType w, tag := stImm w
    words := (List.range (stNops w)).map fun k => Table.get 0 x.s (stA w + k) }

theorem emitted_words (x : Thread) (w : Nat) :
    (List.range (stNops w)).map (stepOp x w) = (List.range (stNops w)).map fun k => Table.get 0 x.s (stA w + k) :=
  List.map_congr_left fun _ hk => if_pos (List.mem_range.1 hk)

/-- A run that has staged one more record, or lost it. -/
def Run.staged (u : Run) (e : Rec) : Run :=
  if u.recs.length < 65536 then { u with recs := u.recs ++ [e] } else { u with gapLost := u.gapLost + 1 }

/-- The session of `x` runs `u`. -/
def State.setRun (s : State) (x : Thread) (u : Run) : State := s.setSession x.session { s.session x.session with run := some u }

theorem stageRec_skips (hrun : (s.session x.session).run = some u)
    (h : (s.session x.session).ringNow.size = 0 ∨ (s.session x.session).ringNow.selects e.typ = false) : s.stageRec x e = s := by
  unfold State.stageRec
  dsimp only
  rw [hrun]
  exact if_pos (by simpa using h)

theorem stageRec_stages (hrun : (s.session x.session).run = some u) (hsize : (s.session x.session).ringNow.size ≠ 0)
    (hselects : (s.session x.session).ringNow.selects e.typ = true) :
    s.stageRec x e = s.setRun x (u.staged e) := by
  unfold State.stageRec State.setRun Run.staged
  dsimp only
  rw [hrun]
  dsimp only
  rw [if_neg (by simp [hsize, hselects])]
  split <;> rfl

theorem emit_exec (h : s.Steps r x w) (hx : x = s.thread r.pipe r.thread) (hw : w = s.stepOf x) (hop : stOp w = 0x60) :
    exec (.emit r) s =
      .next (((s.begin.issued r.pipe r.thread x).stageRec x (s.emitted r.pipe x w)).nextStep r.pipe r.thread).settle := by
  rw [exec_emit, execEmit, run_eq, branch_issues h hx hw hop]
  dsimp only
  rw [emitted_words, begin_operand]
  rfl

theorem emit_skips (h : s.Steps r x w) (hx : x = s.thread r.pipe r.thread) (hw : w = s.stepOf x) (hmore : s.More x)
    (hop : stOp w = 0x60) (hrun : (s.session x.session).run = some u)
    (hskip : (s.session x.session).ringNow.size = 0 ∨ (s.session x.session).ringNow.selects (stType w) = false) :
    Does (.emit r) s fun t => Stepped s t r { x with pc := x.pc + 1 } (s.pipe r.pipe).scalars ∧ Only [.pipes] s t := by
  have hexec := emit_exec h hx hw hop
  rw [stageRec_skips (s := s.begin.issued r.pipe r.thread x) (e := s.emitted r.pipe x w) hrun hskip] at hexec
  exact ((goes_issued hx [.pipes]).nextStep hmore).does hexec

theorem emit_stages (h : s.Steps r x w) (hx : x = s.thread r.pipe r.thread) (hw : w = s.stepOf x) (hmore : s.More x)
    (hop : stOp w = 0x60) (hrun : (s.session x.session).run = some u) (hsize : (s.session x.session).ringNow.size ≠ 0)
    (hselects : (s.session x.session).ringNow.selects (stType w) = true) :
    Does (.emit r) s fun t => Stepped s t r { x with pc := x.pc + 1 } (s.pipe r.pipe).scalars ∧
      (t.session x.session).run = some (u.staged (s.emitted r.pipe x w)) ∧
      (∀ j, j ≠ x.session → t.session j = s.session j) ∧ Only [.pipes, .hazel] s t := by
  have hstages : Goes [.pipes, .hazel] s ((s.begin.issued r.pipe r.thread x).setRun x (u.staged (s.emitted r.pipe x w))) r x
      (s.pipe r.pipe).scalars := (goes_issued hx _).congr (within_setSession _ _ _) (by decide) rfl rfl
  have hexec := emit_exec h hx hw hop
  rw [stageRec_stages (s := s.begin.issued r.pipe r.thread x) (e := s.emitted r.pipe x w) hrun hsize hselects] at hexec
  obtain ⟨t, ht, hstepped, honly⟩ := (hstages.nextStep hmore).does hexec
  refine ⟨t, ht, hstepped, ?_⟩
  rw [hexec, hstages.nextStep_eq hmore] at ht
  cases ht
  refine ⟨?_, fun j hj => ?_, honly⟩
  · rw [settle_session]
    exact congrArg Session.run (setSession_same _ _ _)
  · rw [settle_session]
    exact Table.get_set_other _ _ _ _ _ hj

end

/-! ### Every clause -/

/-- Settles O52: each wait by what `unblock` makes of it, results and records by their lemmas above. -/
theorem threadsGoOn : Obligations.ThreadsGoOn := by
  unfold Obligations.ThreadsGoOn
  intro s r x hx
  refine ⟨fun h => ⟨?idle, unitResultReturn_nothing hx (h.imp id .inl)⟩, fun hactive hrun => ⟨fun hblock => ?unblocked,
    fun g k v hblock c hc => ⟨fun hlt => ?counterWaits, fun hle hmore => ?counterOver⟩,
    fun m hblock => ⟨fun hunits => ?unitsWait, fun hunits hmore => ?unitsOver⟩, fun hblock hreqs => ?endWaits, fun hblock hreqs => ?ends,
    fun hreqs => unitResultReturn_nothing hx (.inr (.inr hreqs)),
    fun q m hreqs hpll => unitResultReturn_writes hx hactive hrun hreqs hpll⟩,
    fun w hw h hmore hop y hy u hu e he => ⟨fun hskip => ?skips, fun hsize hselects => ?stages⟩⟩
  case idle => exact waitRelease_idle hx h
  case unblocked => exact waitRelease_nothing hx hactive hrun (unblock_other hx hblock)
  case counterWaits =>
    exact waitRelease_nothing hx hactive hrun ((unblock_counter hx hblock).trans (if_neg (Nat.not_le.2 hlt)))
  case counterOver =>
    subst hc
    refine waitRelease_moves hx hactive hrun ((unblock_counter hx hblock).trans (if_pos hle)) ?_
    rw [passCounter_eq, begin_thread, ← hx]
    exact ((moves_begin s r).setThread (x.released (counterName g k))).nextStep hmore
  case unitsWait =>
    exact waitRelease_nothing hx hactive hrun ((unblock_units hx hblock).trans (if_pos (Thread.unitWaits_iff.2 hunits)))
  case unitsOver =>
    exact waitRelease_moves hx hactive hrun ((unblock_units hx hblock).trans (if_neg (Thread.not_unitWaits hunits)))
      (((moves_begin s r).setThread { x with block := .free }).nextStep hmore)
  case endWaits => exact waitRelease_nothing hx hactive hrun ((unblock_ending hx hblock).trans (if_neg hreqs))
  case ends =>
    refine waitRelease_moves hx hactive hrun ((unblock_ending hx hblock).trans (if_pos hreqs)) ?_
    rw [endThread_eq, begin_thread, ← hx, Thread.ended, if_pos hreqs]
    exact (moves_begin s r).setThread _
  case skips =>
    subst hy he
    exact emit_skips h hx hw hmore hop hu hskip
  case stages =>
    subst hy he
    exact emit_stages h hx hw hmore hop hu hsize hselects

end Sys2Proof.Machine
end

section
/-! PROOFS of 08_pod_steps.md. A request to a unit is taken: memory is read and written, and its result is outstanding (R466, R468,
R476 to R478; 07 R401). -/

namespace Sys2Proof.Machine

/-! ### What a pipe reads and writes -/

/-- From `s` to `u` a pipe has used memory: it has written nothing outside the ranges `l`, and every word says of itself what it
said. -/
structure Served (l : List (Nat × Nat)) (s u : State) : Prop where
  words : SameWords s u
  outside : ∀ a, (∀ e ∈ l, a < e.1 ∨ e.1 + e.2 ≤ a) → Table.get 0 u.mem a = Table.get 0 s.mem a
  frame : Within [.free, .memory, .fab, .dram] s u

section

variable {l m : List (Nat × Nat)} {s t u : State} {n : Nat} {e : Nat × Nat}

theorem served_refl (s : State) : Served [] s s :=
  ⟨⟨fun _ => rfl, fun _ => rfl⟩, fun _ _ => rfl, (Within.refl s).widen (by decide)⟩

theorem Served.trans (h : Served l s t) (k : Served m t u) : Served (l ++ m) s u where
  words := ⟨fun w => (k.words.mark w).trans (h.words.mark w), fun i => (k.words.init i).trans (h.words.init i)⟩
  outside a ha := (k.outside a fun e he => ha e (List.mem_append_right l he)).trans
    (h.outside a fun e he => ha e (List.mem_append_left m he))
  frame := h.frame.then k.frame (List.Subset.refl _)

theorem Served.pipes (h : Served l s u) : u.pipes = s.pipes := h.frame.only.2 .pipes (by decide)

theorem Served.hazel (h : Served l s u) : u.hazel = s.hazel := h.frame.only.2 .hazel (by decide)

theorem served_account (s : State) (port a k : Nat) : Served [] s (s.account port a k) where
  words := account_words s port a k
  outside _ _ := by rw [((within_account s port a k).only.2 .memory (by decide)).1]
  frame := (within_account s port a k).widen (by decide)

/-- A read of clean, specified words meets no poison. -/
theorem pipeRead_plain (h : s.Plain e.1 e.2) : (s.pipeRead n e).2 = none ∧ Served [] s (s.pipeRead n e).1 := by
  have hclean : ∀ i, i < wordsOf e.1 e.2 → s.mark (e.1 / 8 + i) = .clean := fun i hi => plain_words h hi
  unfold State.pipeRead
  dsimp only
  split
  · rw [touchWords_clean hclean, firstPoison_clean hclean]
    exact ⟨rfl, served_refl s⟩
  · obtain ⟨hpoison, hstate, -⟩ := readMem_account h n
    rw [hpoison, hstate]
    exact ⟨rfl, served_account s n e.1 e.2⟩

theorem pipeReads_plain (h : ∀ e ∈ l, s.Plain e.1 e.2) : (s.pipeReads n l).2 = none ∧ Served [] s (s.pipeReads n l).1 := by
  induction l generalizing s with
  | nil => exact ⟨rfl, served_refl s⟩
  | cons e l ih =>
    obtain ⟨hnone, hserved⟩ := pipeRead_plain (n := n) (h e List.mem_cons_self)
    obtain ⟨hnones, hserveds⟩ := ih (s := (s.pipeRead n e).1) fun f hf => hserved.words.plain (h f (List.mem_cons_of_mem e hf))
    unfold State.pipeReads
    dsimp only
    rw [hnone]
    exact ⟨hnones, hserved.trans hserveds⟩

theorem freeBytes_length (s : State) (k : Nat) : (s.freeBytes k).length = k := by simp [State.freeBytes]

theorem within_free (s : State) (k : Nat) : Within [.free] s { s with free := k } := by
  refine ⟨⟨rfl, fun p hp => ?_⟩, by decide⟩
  cases p
  case free => exact absurd (by decide) hp
  case ready | mbx => exact ⟨rfl, rfl, rfl⟩
  case memory => exact ⟨rfl, rfl⟩
  case board | mram => exact fun _ => rfl
  all_goals rfl

/-- Bytes poked into clean, specified words are the write's own range. -/
theorem Served.poked {bs : List Byte} {u v : State} (h : Served [] s u) (hmem : v.mem = pokes u.mem e.1 bs) (hlen : bs.length = e.2)
    (hwords : SameWords u v) (hframe : Within [.memory, .fab, .dram] u v) : Served [e] s v where
  words := ⟨fun w => (hwords.mark w).trans (h.words.mark w), fun i => (hwords.init i).trans (h.words.init i)⟩
  outside a ha := by
    have hout := ha e List.mem_cons_self
    rw [hmem, get_pokes_outside _ _ _ (by omega), h.outside a (by simp)]
  frame := h.frame.then hframe (by decide)

theorem pipeWrite_plain (h : s.Plain e.1 e.2) : Served [e] s (s.pipeWrite n e) := by
  have hlen := freeBytes_length s e.2
  have hfree : Served [] s { s with free := s.free + e.2 } :=
    ⟨⟨fun _ => rfl, fun _ => rfl⟩, fun _ _ => rfl, (within_free s _).widen (by decide)⟩
  have hplain : State.Plain { s with free := s.free + e.2 } e.1 (s.freeBytes e.2).length := by
    rw [hlen]
    exact hfree.words.plain h
  unfold State.pipeWrite
  dsimp only
  split
  · obtain ⟨k, hk⟩ := writeWords_plain hplain (fuel := e.2 + 1) (by omega)
    have hwords := writeWords_words hplain (e.2 + 1)
    rw [hk] at hwords ⊢
    exact hfree.poked rfl hlen hwords ((within_stored _ _ k).widen (by decide))
  · obtain ⟨hmem, hwords, hframe⟩ := writeMem_plain hplain n
    exact hfree.poked hmem hlen hwords hframe

theorem pipeWrites_plain (h : ∀ e ∈ l, s.Plain e.1 e.2) : Served l s (l.foldl (fun v e => v.pipeWrite n e) s) := by
  induction l generalizing s with
  | nil => exact served_refl s
  | cons e l ih =>
    have hfirst := pipeWrite_plain (n := n) (h e List.mem_cons_self)
    exact hfirst.trans (ih fun f hf => hfirst.words.plain (h f (List.mem_cons_of_mem e hf)))

end

/-! ### The result word (R466) -/

/-- The result word of a request that meets no poison; `f` is what the standards give. -/
def UnitAsk.word (q : UnitAsk) (f : Word64) : Nat := resultWord (q.result.getD f.toNat) (q.range && f.getLsbD 63) false

theorem resultWord_clean (v : Nat) (g : Bool) : resultWord v g false = v % 2 ^ 62 + b2n g * 2 ^ 63 := by
  rw [resultWord, show b2n false = 0 from rfl, Nat.zero_mul, Nat.add_zero]

theorem b2n_le (g : Bool) : b2n g ≤ 1 := by cases g <;> decide

theorem resultWord_poison (v : Nat) (g : Bool) : bitAt (resultWord v g false) 62 = false := by
  have hbit : (v % 2 ^ 62 + b2n g * 2 ^ 63) / 2 ^ 62 % 2 = 0 := by omega
  rw [resultWord_clean, bitAt, hbit]
  rfl

theorem resultWord_range (v : Nat) (g : Bool) : bitAt (resultWord v g false) 63 = g := by
  have hbit : (v % 2 ^ 62 + b2n g * 2 ^ 63) / 2 ^ 63 % 2 = b2n g := by
    have hle := b2n_le g
    omega
  rw [resultWord_clean, bitAt, hbit]
  cases g <;> rfl

theorem resultWord_low (v : Nat) (g : Bool) : resultWord v g false % 2 ^ 62 = v % 2 ^ 62 := by
  rw [resultWord_clean]
  omega

theorem newestResult_append (x : Thread) (l : List UnitReq) (e : UnitReq) (pc : Nat) :
    newestResult { x with reqs := l ++ [e], pc := pc } = e.result := by
  simp [newestResult]

/-! ### A request meets the checks, and is taken (R468, R476) -/

section

variable {s : State} {r : PipeRef} {x : Thread} {w unit fn : Nat} {q : UnitAsk}

theorem rangeDead_usable {l : List (Nat × Nat)} (h : s.Usable l) : s.rangeDead l = none := by
  refine Option.map_eq_none_iff.2 (List.find?_eq_none.2 fun e he => ?_)
  obtain ⟨-, hstack⟩ := h e he
  rw [Bool.and_eq_true, decide_eq_true_iff]
  rintro ⟨hdram, hdead⟩
  rw [(hstack hdram).1] at hdead
  exact Bool.false_ne_true hdead

theorem rangeAsleep_usable {l : List (Nat × Nat)} (h : s.Usable l) : s.rangeAsleep l = none := by
  refine Option.map_eq_none_iff.2 (List.find?_eq_none.2 fun e he => ?_)
  obtain ⟨-, hstack⟩ := h e he
  rw [Bool.and_eq_true, decide_eq_true_iff]
  rintro ⟨hdram, hasleep⟩
  rw [(hstack hdram).2] at hasleep
  exact Bool.false_ne_true hasleep

/-- The checks of a request pass. -/
theorem request1_accepts (h : s.Asks r x w unit fn q) (u : State) :
    s.begin.request1 u r.pipe r.thread x w q = u.accept r.pipe r.thread x w q := by
  obtain ⟨-, -, -, hunit, -, hbad, hacc, husable⟩ := h
  have hnone : q.acc.findSome? (s.begin.accessBad x (stUnit w)) = none := List.findSome?_eq_none_iff.2 (hunit ▸ hacc)
  have hdead : s.begin.rangeDead (s.begin.askReads r.pipe x q ++ s.begin.askWrites r.pipe x w q) = none :=
    rangeDead_usable (s := s.begin) husable
  have hasleep : s.begin.rangeAsleep (s.begin.askReads r.pipe x q ++ s.begin.askWrites r.pipe x w q) = none :=
    rangeAsleep_usable (s := s.begin) husable
  unfold State.request1
  rw [hnone, hbad]
  dsimp only
  rw [hdead, hasleep]
  rfl

/-- The state in which memory has been read and written for the request. -/
def State.unitWork (s : State) (r : PipeRef) (x : Thread) (w : Nat) (q : UnitAsk) : State :=
  (s.askWrites r.pipe x w q).foldl (fun v e => v.pipeWrite r.pipe e) (s.pipeReads r.pipe (s.askReads r.pipe x q)).1

/-- Thread `x` with one request more outstanding, whose result is `v`. -/
def Thread.asked (x : Thread) (w v : Nat) : Thread := { x with reqs := x.reqs ++ [⟨stUnit w, stFn w, stDst w, v⟩] }

theorem accept_eq (h : ∀ e ∈ s.askReads r.pipe x q, s.Plain e.1 e.2) : s.accept r.pipe r.thread x w q =
    ((s.unitWork r x w q).setThread r.pipe r.thread (((s.unitWork r x w q).thread r.pipe r.thread).asked w
      (q.word (Config.unitResult (s.unitWork r x w q).free)))).tookFree.nextStep r.pipe r.thread := by
  unfold State.accept
  dsimp only
  rw [(pipeReads_plain h).1]
  rfl

theorem served_unitWork (hreads : ∀ e ∈ s.askReads r.pipe x q, s.Plain e.1 e.2)
    (hwrites : ∀ e ∈ s.askWrites r.pipe x w q, s.Plain e.1 e.2) : Served (s.askWrites r.pipe x w q) s (s.unitWork r x w q) := by
  obtain ⟨-, hread⟩ := pipeReads_plain (n := r.pipe) hreads
  exact hread.trans (pipeWrites_plain fun e he => hread.words.plain (hwrites e he))

/-- A request that can be asked is taken. -/
theorem issues_of_asks {c : Instr} {ask : State → Thread → Nat → UnitAsk} (h : s.Asks r x w unit fn q) (hx : x = s.thread r.pipe r.thread)
    (hw : w = s.stepOf x) (hask : ask s.begin x w = q) (hexec : exec c s = run (fun s => s.issue r unit fn ask) s) : Issues c s r x w q := by
  have haccepts := request1_accepts h (s.begin.issued r.pipe r.thread x)
  obtain ⟨hsteps, hmore, hop, hunit, hfn, -, -, husable⟩ := h
  have hselects : (fun v => stOp v == 0x50 && stUnit v == unit && stFn v == fn) w = true := by simp [hop, hunit, hfn]
  have hissued := goes_issued hx [.pipes, .free, .memory, .fab, .dram]
  have hplain : ∀ e ∈ (s.begin.issued r.pipe r.thread x).askReads r.pipe x q, (s.begin.issued r.pipe r.thread x).Plain e.1 e.2 :=
    fun e he => (husable e (List.mem_append_left _ he)).1
  have hserved : Served (s.askWrites r.pipe x w q) (s.begin.issued r.pipe r.thread x)
      ((s.begin.issued r.pipe r.thread x).unitWork r x w q) :=
    served_unitWork hplain (fun e he => (husable e (List.mem_append_right _ he)).1)
  have hwork := hissued.congr hserved.frame (by decide) hserved.pipes (congrArg Hazel.pods hserved.hazel)
  rw [run_eq, State.issue, step1_issues hsteps hx hw hselects, hask, haccepts, accept_eq hplain] at hexec
  generalize (s.begin.issued r.pipe r.thread x).unitWork r x w q = u at *
  rw [hwork.thread] at hexec
  have htaken := (hwork.setThread (x.asked w (q.word (Config.unitResult u.free)))).tookFree
  obtain ⟨t, ht, hstepped, honly⟩ := (htaken.nextStep hmore).does hexec
  refine ⟨t, ht, fun v hv => ?_⟩
  obtain rfl : v = q.word (Config.unitResult u.free) := by
    rw [hv, hstepped.thread]
    exact newestResult_append _ _ _ _
  refine ⟨hstepped, resultWord_poison _ _, fun hrange => ?_, fun k hk => ?_, fun a ha => ?_, honly⟩
  · rw [UnitAsk.word, hrange]
    exact resultWord_range _ _
  · rw [UnitAsk.word, hk]
    exact resultWord_low _ _
  · rw [hexec, htaken.nextStep_eq hmore] at ht
    cases ht
    rw [(settled_settle _).mem]
    exact hserved.outside a ha

end

end Sys2Proof.Machine
end

section
/-! PROOFS of 08_pod_steps.md. Requests to each unit (R476 to R478, R471): the model asks for what each clause names, and what can be
asked is taken. -/

namespace Sys2Proof.Machine

section

variable {s : State} {r : PipeRef} {x : Thread} {w : Nat}

/-! ### What the codes of an ENCODE operand give (R478) -/

theorem encodeBits_ue {d : Nat} (v : Nat) (h : d % 16 = 4) : encodeBits d v = some (2 * (v + 1).log2 + 1) := by
  rw [encodeBits, h]
  rfl

theorem encodeBits_bins {d : Nat} (v : Nat) (h : d % 16 = 6) : encodeBits d v = some (d / 256 % 64) := by
  rw [encodeBits, h]
  rfl

/-! ### What the functions ask, as the clauses write it -/

/-- A request of the QMU reads the block of both windows. -/
def State.qmuReads (s : State) (x : Thread) (w : Nat) : List Access :=
  let d := stepOp x w 0
  [readBlock s x (stWinA w) d (span w 0 d), readBlock s x (stWinB w) d (span w 1 d)]

theorem qmuAsk_some (s : State) (x : Thread) (w : Nat) (f : List ((Nat × Nat × Nat) × (Nat × Nat × Nat)) → Nat) :
    qmuAsk s x w (fun l => some (f l)) =
      { bad := blockBad (stepOp x w 0), acc := s.qmuReads x w, result := (s.blockPairs x w).map f } := by
  rw [qmuAsk, Option.map_eq_bind]
  rfl

theorem qmuAsk_none (s : State) (x : Thread) (w : Nat) :
    (qmuAsk s x w fun _ => none) = { bad := blockBad (stepOp x w 0), acc := s.qmuReads x w } := by
  rw [qmuAsk, Option.bind_fun_none]
  rfl

end

/-- Settles O53: each command asks for what its clause names, and what can be asked is taken. -/
theorem searchAndTransformRequestsAreIssued : Obligations.SearchAndTransformRequestsAreIssued := by
  unfold Obligations.SearchAndTransformRequestsAreIssued
  intro s r x hx w hw d hd a ha b hb i hi n hn m hm
  subst hd ha hb hi hn hm
  refine ⟨fun q hq h => ?fetch, fun q hq => ⟨fun h => ?list, fun h => ?grid⟩, fun q hq h => ?predict, fun q hq h => ?interp,
    fun q hq => ⟨fun h => ?sad, fun h => ?sse, fun h => ?satd⟩, fun h => ?rate,
    fun z hz => ⟨fun q hq h => ?fwdQ, fun q hq h => ?deqInv⟩⟩
  case fetch => exact issues_of_asks h hx hw hq.symm (exec_fetch r s)
  case list => exact issues_of_asks h hx hw hq.symm (exec_list r s)
  case grid => exact issues_of_asks h hx hw hq.symm (exec_grid r s)
  case predict => exact issues_of_asks h hx hw hq.symm (exec_predict r s)
  case interp => exact issues_of_asks h hx hw hq.symm (exec_interp r s)
  case sad => exact issues_of_asks h hx hw hq.symm (exec_sad r s)
  case sse => exact issues_of_asks h hx hw hq.symm (exec_sse r s)
  case satd => exact issues_of_asks h hx hw hq.symm (exec_satd r s)
  case rate => exact issues_of_asks h hx hw rfl (exec_rate r s)
  case fwdQ =>
    subst hz
    exact issues_of_asks h hx hw hq.symm (exec_fwdQ r s)
  case deqInv =>
    subst hz
    exact issues_of_asks h hx hw hq.symm (exec_deqInv r s)

/-- Settles O54: each command asks for what its clause names, and what can be asked is taken. -/
theorem filterAndStreamRequestsAreIssued : Obligations.FilterAndStreamRequestsAreIssued := by
  unfold Obligations.FilterAndStreamRequestsAreIssued
  intro s r x hx w hw d hd a ha b hb n hn m hm e he
  subst hd ha hb hn hm he
  refine ⟨fun q hq => ⟨fun h => ?deblock, fun h => ?sao, fun h => ?alf, fun h => ?cdef⟩, fun q hq h => ?stats,
    fun v hv q hq h => ⟨?encode, encodeBits_ue v, encodeBits_bins v⟩, fun q hq h => ?decode,
    fun q hq => ⟨fun h => ?init, fun h => ?flush⟩,
    fun c hc => ⟨fun q hq => ⟨fun h => ?startUnit, fun h => ?endUnit⟩, fun q hq h => ?raw, fun q hq h => ?inject⟩,
    fun l hl => ⟨fun q hq h => ?sseSums, fun q hq h => ?ssimSums, fun q hq h => ?compare⟩⟩
  case deblock => exact issues_of_asks h hx hw hq.symm (exec_deblock r s)
  case sao => exact issues_of_asks h hx hw hq.symm (exec_sao r s)
  case alf => exact issues_of_asks h hx hw hq.symm (exec_alf r s)
  case cdef => exact issues_of_asks h hx hw hq.symm (exec_cdef r s)
  case stats => exact issues_of_asks h hx hw hq.symm (exec_stats r s)
  case encode =>
    subst hv
    exact issues_of_asks h hx hw hq.symm (exec_encode r s)
  case decode => exact issues_of_asks h hx hw hq.symm (exec_decode r s)
  case init => exact issues_of_asks h hx hw hq.symm (exec_init r s)
  case flush => exact issues_of_asks h hx hw hq.symm (exec_flush r s)
  case startUnit =>
    subst hc
    exact issues_of_asks h hx hw hq.symm (exec_startUnit r s)
  case endUnit =>
    subst hc
    exact issues_of_asks h hx hw hq.symm (exec_endUnit r s)
  case raw =>
    subst hc
    exact issues_of_asks h hx hw hq.symm (exec_raw r s)
  case inject =>
    subst hc
    exact issues_of_asks h hx hw hq.symm (exec_inject r s)
  case sseSums =>
    subst hl
    exact issues_of_asks h hx hw ((qmuAsk_some s x w sseOf).trans hq.symm) (exec_sseSums r s)
  case ssimSums =>
    subst hl
    exact issues_of_asks h hx hw ((qmuAsk_none s x w).trans hq.symm) (exec_ssimSums r s)
  case compare =>
    subst hl
    exact issues_of_asks h hx hw ((qmuAsk_some s x w _).trans hq.symm) (exec_compare r s)

end Sys2Proof.Machine
end

section
/-! PROOFS of 08_pod_steps.md. Calls to firmware (R480, R468): a call that is denied reports a sandbox violation, whose reaction can
reset the pipe (07 R413; 15 R782, R789). -/

namespace Sys2Proof.Machine

/-- A LIVE job runs on pipe 0, and its only thread stands before RC_STEP, in a Pod of two steps that is not TIME_DEP. The reaction to
POD_SANDBOX_VIOLATION is a block reset, and the job's completion address lies outside memory. -/
def rcStepReset : State :=
  { husk := { power := .mainOn }, rdy := rdyBit 15, plls := [(1, .locked), (2, .locked)]
    flt := { react := [(33, Trip.of 4)] }
    hazel := { mode := .compat
               jobs := [{ opcode := 0x301, phase := .running, onPipe := true, pipes := 1, complAddr := 2 ^ 34 }]
               sessions := [(0, { run := some { body := List.replicate 0x20 0 ++ [6] } })]
               pods := [(0, { image := List.replicate 10 0 ++ [2, 0, 0, 0, 0, 0x70, 2] })] }
    pipes := [(0, { threads := [(0, { active := true })], pages := [(0, 0, 0, 0)] })] }

theorem rcStepReset_steps :
    rcStepReset.Steps ⟨0, 0⟩ (rcStepReset.thread 0 0) (rcStepReset.stepOf (rcStepReset.thread 0 0)) := by
  unfold State.Steps
  decide

theorem rcStepReset_more : rcStepReset.More (rcStepReset.thread 0 0) := by
  unfold State.More
  decide

/-- Refutes O56: RC_STEP of a Pod without TIME_DEP in LIVE mode (R480) reports the violation, and the reaction can reset the pipe, which
ends the job RESET_ABORTED. The command then finds no job to stop, and firmware does not go on to post it. -/
theorem not_firmwareCallsAnswer : ¬ Obligations.FirmwareCallsAnswer := by
  unfold Obligations.FirmwareCallsAnswer
  intro h
  obtain ⟨-, hcalls⟩ := h rcStepReset ⟨0, 0⟩ _ rfl _ rfl (by decide)
  obtain ⟨-, -, -, -, -, -, -, hrcStep⟩ :=
    hcalls (by decide) rcStepReset_steps rcStepReset_more _ rfl _ rfl _ rfl _ rfl _ rfl
  obtain ⟨hdenied, -⟩ := hrcStep (by decide) _ rfl _ rfl
  exact not_carries_of_jobsHeld (by decide +kernel) (by decide +kernel) (hdenied 0 (by decide) (by decide) rfl)

end Sys2Proof.Machine
end
